-- ==== Sys2Proof/Word.lean ====
section
/-! DEFINITION. The plain types of the model: a register field and the field map. -/

namespace Sys2Proof.Machine

/-- A register field: the byte address of its register (a requester's copy, R510, lies at
`copy * 2^32` above it), its lowest bit, its width and its reset value. -/
structure Fld where
  addr : Nat
  lo : Nat
  width : Nat
  reset : Nat
  deriving DecidableEq, Repr

/-- Register contents: (field key, value) pairs, keys strictly rising, no entry equal to the
field's reset value. -/
abbrev FldMap := List (Nat × Nat)

end Sys2Proof.Machine
end

