-- ==== Sys2Proof/Types.lean ====
section
/-! DEFINITION. The operand types of the commands: plain records and small enumerations. -/

namespace Sys2Proof

/-- What a received PTP message brings beside its timestamp (R45, R46): whether the Announce selects the master, the
elastic buffer's fill of a free-mode lane, and the 1/16-tk fraction of its ball time. -/
structure PtpArrival where
  selects : Bool
  elastic : Nat
  frac : Nat
  deriving DecidableEq, Repr

/-- A PTP message that falls due (R45, R46): its kind, the elastic buffer's fill of a free-mode lane, and the 1/16-tk
fraction of its ball time. -/
structure PtpDue where
  kind : Nat
  elastic : Nat
  frac : Nat
  deriving DecidableEq, Repr

/-- What a tx_take tick brings beside the bundle (R249, R243): whether the block leaves a frame open, and the
residence of a free-mode lane. The bundle is the engine's output register on an engine-sink lane. -/
structure TxTake where
  frame : Bool
  residence : Nat
  deriving DecidableEq, Repr

/-- How the burn of a fuse bit and its margin read-back end (R429): whether the bit reads at its margin, and whether
VFUSE is in tolerance (R29). -/
structure BurnEnd where
  ok : Bool
  vfuse : Bool
  deriving DecidableEq, Repr

/-- A requester of the register arbiter (R485). -/
inductive Requester where
  | keeper | regPort | mgmt
  deriving DecidableEq, Repr

/-- A request for one Loft word (R306, R307): the requester's owner ID, the interleaved byte address
of the word, whether it writes, the 64 data bits, the byte mask of a part-word write (0xFF is the
whole word; only the keeper writes parts), whether it goes to the streaming queue, and whether it
is a keeper instruction fetch. -/
structure LoftReq where
  owner : Nat
  addr : Nat
  wr : Bool
  data : Nat
  mask : Nat
  streaming : Bool
  fetch : Bool
  deriving DecidableEq, Repr

/-- Upsets of one stored word, as masks that flip its data bits, check bits and valid copies. -/
structure Upset where
  data : Nat
  check : Nat
  valid : Nat
  deriving DecidableEq, Repr

/-- What one thermal sample brings (R207, R210, R211): the 160 raw readings in 1/16 °C, none for a
reading that is out of range or not completed; the power of each of the 16 Cellar regions in µW over the
window, which no counter names (log entry 114); and the energy of the window in nJ by counter: physical bins 0 to 263, lane groups 300 to 315, Loft
bank groups 400 to 431, the Cellar hard logic 500, the user I/O 501. -/
structure ThermSample where
  readings : List (Option Int)
  power : List Nat
  energy : List (Nat × Nat)
  deriving DecidableEq, Repr

/-- A block a lane receives (R243 to R248): its 64 payload bits and sync header as they cross the ball, still scrambled
and as the wires carry them, after the FEC where the lane has one; the position of its first bit in
the tick, the first-block and CRC marks of JESD204C, the FEC's corrected and uncorrectable codewords,
in free mode the blocks that the PCS has taken from the elastic buffer since the block before and the measured
e_rx, whether the link fault signalling of the MAC receives remote fault (R240), and whether it is a low-power-idle
block (R239). -/
structure RxBlock where
  payload : Nat
  header : Nat
  frac : Nat
  embStart : Bool
  crcBad : Bool
  fecCorr : Nat
  fecBad : Nat
  taken : Nat
  residence : Nat
  remoteFault : Bool
  lpi : Bool
  deriving DecidableEq, Repr

/-- A section of an eCPRI message (R270): its ID, first PRB and PRB count, the compression its
udCompHdr names, and the bytes of its PRBs as on the wire. -/
structure EcpriSec where
  id : Nat
  start : Nat
  num : Nat
  m : Nat
  bfp : Bool
  known : Bool
  data : List Nat
  deriving DecidableEq, Repr

/-- An eCPRI message (R269, R270): the common header, the message type, the action type and measurement ID of a one-way
delay message, the flow key, the sequence ID and whether the message is fragmented, the payload header (`egress` says
that its dataDirection names the direction in which the partner sends, whose coding the rules leave to O-RAN) and the
sections. -/
structure Ecpri where
  revision : Nat
  concat : Bool
  sizeOk : Bool
  msgType : Nat
  action : Nat
  meas : Nat
  eaxc : Nat
  seq : Nat
  fragment : Bool
  version : Nat
  egress : Bool
  frame : Nat
  subframe : Nat
  slot : Nat
  symbol : Nat
  secType : Nat
  secs : List EcpriSec
  deriving DecidableEq, Repr

/-- What a frame carries (R268). -/
inductive FrameBody where
  | ecpri (m : Ecpri)
  | ptp (kind domain : Nat) (twoStep : Bool) (time : Int) (selects : Bool)
  | esmc (ql : Nat)
  | other
  deriving DecidableEq, Repr

/-- An Ethernet frame on an engine-sink lane (R267, R268): whether its FCS passes and it is whole, its
length in bytes, its priority, the tags it carries, the frame position at which the engine's input register holds its
first block, as a count, that block's measured e_rx in a free-mode lane and the part of its ball tick, in sixteenths,
at which its first bit crossed the ball (R46, R247), and its content. -/
structure EthFrame where
  fcsOk : Bool
  length : Nat
  prio : Nat
  tags : Nat
  held : Nat
  elastic : Nat
  frac : Nat
  body : FrameBody
  deriving DecidableEq, Repr

/-- The fields of an Ethernet frame lie in their ranges. -/
def EthFrame.ok (f : EthFrame) : Bool :=
  f.held < 2 ^ 30 * 10066329600 && f.prio < 8 && f.elastic < 512 && f.frac < 16

/-- A line record of a MIRROR frame (R378): mirror address, version, key ID, kind, delta mask, tag and
data: 64 bytes of a full record as 512 bits, or the blocks of a delta in block order. -/
structure TwinRec where
  addr : Nat
  version : Nat
  key : Nat
  kind : Nat
  mask : Nat
  tag : Nat
  data : Nat
  deriving DecidableEq, Repr

/-- What a CONTROL frame carries (R372, R383, R384, R393): HELLO, a key exchange whose MAC verifies or
not, the retirement of a key, a partner fault, a configuration hash. -/
inductive TwinCtl where
  | hello (hash fw uidLo uidHi strap prio mode epoch : Nat)
  | key (authOk : Bool)
  | retire (id : Nat)
  | partnerFault (group : Nat)
  | hash (h : Nat)
  deriving DecidableEq, Repr

/-- The content of a HEARTBEAT frame (R386), its epoch being the header's, with the transmit timestamp as FP [63:0] and
the offset in ns that a receiver estimates from the timestamps of both directions (R382). -/
structure TwinHb where
  active : Bool
  mode : Nat
  ready : Bool
  degraded : Bool
  tb : Nat
  lag : Nat
  stamp : Nat
  offset : Int
  deriving DecidableEq, Repr

/-- The body of a twin frame (R368). -/
inductive TwinBody where
  | heartbeat (h : TwinHb)
  | mirror (recs : List TwinRec)
  | ack (highest : List Nat)
  | lineReq (addrs : List Nat)
  | control (c : TwinCtl)
  | fault (handoff : Bool)
  deriving DecidableEq, Repr

/-- A twin frame on a lane (R368): the fields of its header, and its body, which says its channel. -/
structure TwinFrame where
  lane : Nat
  typ : Nat
  count : Nat
  seq : Nat
  ack : Nat
  epoch : Nat
  session : Nat
  body : TwinBody
  deriving DecidableEq, Repr

/-- A frame's header lies in the ranges of its fields, on one of the lanes 120 to 127. -/
def TwinFrame.ok (f : TwinFrame) : Bool :=
  120 ≤ f.lane && f.lane < 128 && f.typ < 256 && f.count < 2 ^ 16 && f.seq < 2 ^ 32 && f.ack < 2 ^ 32 && f.epoch < 2 ^ 16 && f.session < 2 ^ 16

/-- The type of a frame's body (R368). -/
def TwinBody.typ : TwinBody → Nat
  | .heartbeat _ => 1
  | .mirror _ => 2
  | .ack _ => 3
  | .lineReq _ => 4
  | .control _ => 5
  | .fault _ => 6

/-- The line records that a frame's header counts (R368). -/
def TwinBody.count : TwinBody → Nat
  | .mirror l => l.length
  | _ => 0

/-- The virtual channel of a frame's body (R368). -/
def TwinBody.vc : TwinBody → Nat
  | .heartbeat _ => 2
  | .mirror _ => 3
  | .ack _ => 1
  | .lineReq _ => 0
  | .control _ => 0
  | .fault _ => 2

/-! Configuration streams (R333 to R342, R354). -/

/-- The header frame of a stream (R334): its 4,096 bytes as 1,024 little-endian words; a shorter list goes on with
zeros. -/
structure Header where
  words : List Nat
  deriving DecidableEq, Repr

/-- A shelf record (R342, R115, R123, R124, R126): a logical bin's kind (1 static, 2 scheduled), pool
and BIN_CTX_CFG fields; its tile clocks; its lane; a route with its declared delay and the hatch word it
crosses (3 for none); the hatch-wire enables of a context, as a mask of 192 wires. -/
inductive ShelfRec where
  | bin (l kind pool start sevMax : Nat)
  | clocks (l clk0 clk1 : Nat)
  | lane (l lane : Nat)
  | route (src dst delay hatch : Nat)
  | enables (l ctx mask : Nat)
  deriving DecidableEq, Repr

/-! The elements of a bin-context image (R101 to R108, R118, R131). -/

/-- A source of a tile's crossbar (R107, R417): a constant, flip-flop FF0 or FF1 of a cell, an output of a
look-up table, a bit of an input port, bit 0 to 31 of a MAC unit's output register (I in [15:0], Q in [31:16])
or its flags, the full flag of an output port's FIFO and the valid bit of an input port's. -/
inductive TileSrc where
  | const (v : Bool)
  | ff (cell : Nat) (hi : Bool)
  | o6 (cell : Nat)
  | o5l (cell : Nat)
  | o5h (cell : Nat)
  | port (p bit : Nat)
  | mac (unit bit : Nat)
  | sat (unit : Nat)
  | ovf (unit : Nat)
  | full (p : Nat)
  | valid (p : Nat)
  deriving DecidableEq, Repr

/-- The D input of a flip-flop (R101). -/
inductive DSel where
  | o6 | o5l | o5h
  | direct (s : TileSrc)
  deriving DecidableEq, Repr

/-- The operations of R104. -/
inductive MacMode where
  | mul | mac | msub | hold
  deriving DecidableEq, Repr

/-- One setting of an image: a cell's look-up table (two 5-input functions when `five`) with its truth table,
level and inputs I1 to I6; a carry segment with its level, whether it takes the carry of the segment before it,
and the constant carry-in it takes else; a flip-flop's D input, clock enable, load and initial value; a MAC unit's
settings, operands (32 bits each, I then Q), clear and enable, and the initial values of its registers (R102, R105):
a, b, product, accumulator and output, I before Q, then the captured clear and enable and those that go with the
product; a bit of an output port; the source of a sink of the bin crossbar. -/
inductive FabElem where
  | lut (tile cell : Nat) (five : Bool) (table level : Nat) (ins : List TileSrc)
  | carry (tile seg level : Nat) (joined cin : Bool)
  | ff (tile cell : Nat) (hi : Bool) (d : DSel) (ce ld : TileSrc) (init : Bool)
  | mac (tile unit : Nat) (mode : MacMode) (conj chain : Bool) (shift : Nat) (sat : Bool) (a b : List TileSrc)
      (clear en : TileSrc) (init : List Int)
  | out (tile port bit : Nat) (src : TileSrc)
  | sink (i src : Nat)
  deriving DecidableEq, Repr

/-- The source names something of its tile. -/
def TileSrc.ok : TileSrc → Bool
  | .const _ => true
  | .ff c _ => c < 128
  | .o6 c => c < 128
  | .o5l c => c < 128
  | .o5h c => c < 128
  | .port p b => p < 2 && b < 64
  | .mac u b => u < 2 && b < 32
  | .sat u => u < 2
  | .ovf u => u < 2
  | .full p => p < 2
  | .valid p => p < 2

/-- A flip-flop or a MAC output register bit: what a bit of an output port may select (R107). -/
def TileSrc.portable : TileSrc → Bool
  | .ff _ _ => true
  | .mac _ _ => true
  | _ => false

/-- An initial value fits its MAC register (R102, R105): 16 bits for a component of an operand or of the output, 33
for one of the product, 48 for one of the accumulator, 1 for a captured clear or enable. -/
def macInitFits (n : Nat) (x : Int) : Bool :=
  let w := fun (b : Nat) => -(2 ^ (b - 1) : Int) ≤ x && x < 2 ^ (b - 1)
  if n < 4 || n = 8 || n = 9 then w 16 else if n < 6 then w 33 else if n < 8 then w 48 else 0 ≤ x && x ≤ 1

/-- Every value of a list fits the registers from number `n` on, of the 14 of a unit. -/
def macInitsFit : Nat → List Int → Bool
  | _, [] => true
  | n, x :: t => n < 14 && macInitFits n x && macInitsFit (n + 1) t

/-- The setting names what a bin has (R101, R104, R107, R109, R111). -/
def FabElem.ok : FabElem → Bool
  | .lut t c _ tbl _ ins => t < 32 && c < 128 && tbl < 2 ^ 64 && ins.length ≤ 6 && ins.all TileSrc.ok
  | .carry t k _ _ _ => t < 32 && k < 8
  | .ff t c _ d ce ld _ => t < 32 && c < 128 && ce.ok && ld.ok
      && (match d with
        | .direct s => s.ok
        | _ => true)
  | .mac t u _ _ ch s _ a b cl en i => macInitsFit 0 i && t < 32 && u < 2 && (!ch || u = 1) && s ≤ 32 && a.length ≤ 32
      && b.length ≤ 32 && a.all TileSrc.ok && b.all TileSrc.ok && cl.ok && en.ok
  | .out t p b s => t < 32 && p < 2 && b < 64 && s.ok && s.portable
  | .sink i s => (i ≤ 92 || (97 ≤ i && i ≤ 102)) && s < 128

/-- The setting uses crossbar indices 64 to 84 (R122). -/
def FabElem.outer : FabElem → Bool
  | .sink i s => (64 ≤ i && i ≤ 84) || (64 ≤ s && s ≤ 84)
  | _ => false

/-- A frame after the header (R333), in little-endian words; a shorter list goes on with zeros: bytes 0 to 31, the
payload as decryption gives it, which with the stream key fixes the bytes that are stored, and bytes 4,064 to 4,095 with
the tag and the CRC. The shelf records of kind 2 and the settings of an image frame are what its payload says in codings
that the rules do not give (log entry 34). -/
structure Frame where
  head : List Nat
  words : List Nat
  tail : List Nat
  shelf : List ShelfRec
  elems : List FabElem
  deriving DecidableEq, Repr

/-- The keeper firmware image (R431): its 512-byte header as 128 little-endian words and the bytes of its body; a
shorter list goes on with zeros. -/
structure Firmware where
  head : List Nat
  body : List Nat
  deriving DecidableEq, Repr

/-- The words of a header, a frame or an image fit their places, and a frame's settings lie in their ranges. -/
def Header.ok (h : Header) : Bool := h.words.length ≤ 1024
def Frame.ok (f : Frame) : Bool :=
  f.head.length ≤ 8 && f.words.length ≤ 1008 && f.tail.length ≤ 8 && f.elems.all FabElem.ok
def Firmware.ok (f : Firmware) : Bool := f.head.length ≤ 128 && f.body.length ≤ 1048576

/-- What the start tests find (R20, R25, R322, R445): failing hatch wires as (column, segment, group,
wire); clock TSVs as (clock column, clock, segment, both of the pair); failing checkers of banks and of
groups' spare banks; the failing pattern of keeper SRAM's checker and of the Cellar tables'; the canary
slack of the spare bins. -/
structure SelfTest where
  wires : List (Nat × Nat × Nat × Nat)
  clocks : List (Nat × Nat × Nat × Bool)
  banks : List Nat
  spares : List Nat
  sram : Option Nat
  tables : Option Nat
  canary : List (Nat × Nat)
  deriving DecidableEq, Repr

/-- The operands of a self-test lie in their ranges. -/
def SelfTest.ok (t : SelfTest) : Bool :=
  t.wires.all (fun w => w.1 < 132 && w.2.1 < 3 && w.2.2.1 < 32 && w.2.2.2 < 33)
    && t.clocks.all (fun c => c.1 < 8 && c.2.1 < 32 && c.2.2.1 < 3)
    && t.banks.all (· < 1024) && t.spares.all (· < 32)
    && t.canary.all (fun c => c.1 < 264 && c.2 < 1024)

/-- 10 ms in ticks: the longest verification of an owner command (R427). -/
def verifyTk : Nat := 9830400

/-- What a register write that starts an owner command brings (R426 to R428): the ticks that its verification takes, the
ECDH secret of the transport key with the ephemeral key of its payload, and whether VFUSE holds. -/
structure WriteFacts where
  tk : Nat
  secret : Nat
  vfuse : Bool
  deriving DecidableEq, Repr

/-- The verification takes at most 10 ms, and the secret has 384 bits. -/
def WriteFacts.ok (x : WriteFacts) : Bool := x.tk ≤ verifyTk && x.secret < 2 ^ 384

end Sys2Proof
end

