-- ==== Sys2Proof/Syntax.lean ====
section
/-! DEFINITION. The commands of the block, one constructor per row of the table of operations and
events. Register numbers, indexes and counts are plain numbers; `WellFormed` bounds them. -/

namespace Sys2Proof

/-- A command. -/
inductive Instr where
  /-- POR_RELEASE (R32): The internal POR is released once every rail of steps 1 to 5 is within tolerance, and the loader is started. -/
  | porRelease (order : Option Nat) (hot vbak : Bool)
  /-- CORE_RAIL_LOSS (R33): VCC_CEL or VCCAUX leaves its tolerance, which causes a POR. -/
  | coreRailLoss
  /-- RAIL_LOST (R33): Another rail stays outside its tolerance for more than 2 µs; outputs go safe and the device enters SAFE. -/
  | railLost (rail : Nat)
  /-- PORST_N_LOW (R406): PORST_N has been low for 336 AON cycles, and a DEVICE reset begins. -/
  | porstNLow (aborted : Nat)
  /-- PORST_N_SHORT_PULSE (R406): PORST_N rises before 336 AON cycles; the pulse is ignored and counted. -/
  | porstNShortPulse (cycles : Nat)
  /-- SELF_TEST_COMPLETE (R346): The hatch and checker tests end, and load step 1 completes. -/
  | selfTestComplete (t : SelfTest)
  /-- HEADER_READ (R334): The slot's header frame is read whole and checked for CRC, version, signature and key. -/
  | headerRead (h : Header)
  /-- BOOT_SLOW_TIMEOUT (R79): TICK is not qualified within 100 ms of the header read, so reading continues in 8S mode at AON / 2. -/
  | bootSlowTimeout
  /-- FLASH_FRAME_READ (R333): A stream frame is read, CRC-checked and buffered; each complete segment is decrypted, verified and written. -/
  | flashFrameRead (f : Frame)
  /-- FIRMWARE_READ (R431): The keeper firmware image is read, checked and measured. -/
  | firmwareRead (f : Firmware)
  /-- MONITOR_GATE_COMPLETE (R84): A coarse or fine check gate of a clock monitor ends, and the monitor state moves. -/
  | monitorGateComplete (m : Nat) (coarse : Bool) (count : Nat)
  /-- CLOCK_STOP_DETECT (R83): The stop detector sees no transition for 64 AON cycles and declares the clock stopped. -/
  | clockStopDetect (m : Nat)
  /-- TREF_COMPARE_GATE (R85): While disagree is set and the state is LOCKED, a gate compares each TREF against the time reference. -/
  | trefCompareGate (c0 c1 : Nat)
  /-- TICK_PLL_FAULT (R81): The time-base PLL faults, or LOFT or KEEP is lost, and the device enters SAFE. -/
  | tickPllFault (m reason : Nat)
  /-- RC_CFG_WRITE (R90): A write to CLK_RC_CFG starts a glitch-free change of a regional clock source or divider, or is refused. -/
  | rcCfgWrite (t k src div fb : Nat)
  /-- MUX_SWITCH_COMPLETE (R91): A glitch-free multiplexer completes its move to the new clock. -/
  | muxSwitchComplete (m : Nat)
  /-- SWITCH_WATCHDOG_EXPIRY (R91): A switch has not completed within 64 new-clock cycles; the domain is forced safe, held in reset and forced to the new clock. -/
  | switchWatchdogExpiry (m : Nat)
  /-- SWITCH_RECOVERY_RELEASE (R91): The synchronised reset release ends a forced recovery, and CLK_SWITCH_FORCED is raised. -/
  | switchRecoveryRelease (m : Nat)
  /-- GATE_EN_WRITE (R96): A write to CLK_GATE_EN sets the enables of a gate, or is refused for an admitted block. -/
  | gateEnWrite (g : Nat) (run sleep deep : Bool)
  /-- GATE_BUS_IDLE (R97): The bus-idle indication of a block rises, and its gate closes. -/
  | gateBusIdle (g : Nat)
  /-- GATE_CLOSE_TIMEOUT (R97): 256 cycles pass without bus idle; outstanding accesses are terminated and the gate closes. -/
  | gateCloseTimeout (g requester : Nat)
  /-- PTP_MESSAGE_RX (R45): A PTP message is received and timestamped; offsets update the loop or are rejected under the step limit. -/
  | ptpMessageRx (lane kind domain : Nat) (twoStep : Bool) (time : Int) (m : PtpArrival)
  /-- PTP_MESSAGE_SEND (R45): A Sync, Announce or Delay_Req message falls due and is sent on its port. -/
  | ptpMessageSend (lane : Nat) (m : PtpDue)
  /-- PTP_SYNC_TIMEOUT (R47): No Sync is accepted for 1 s, and the PTP reference is lost. -/
  | ptpSyncTimeout
  /-- ANNOUNCE_RECEIPT_TIMEOUT (R47): The Announce receipt timeout expires, and the PTP reference is lost. -/
  | announceReceiptTimeout
  /-- PPS_EDGE (R47): An edge arrives on PPS_IN, is timestamped, and qualifies, steers or is rejected. -/
  | ppsEdge (n : Nat) (offset : Int)
  /-- PPS_EDGE_MISSING (R47): Two consecutive expected PPS edges are missing, and the reference is lost. -/
  | ppsEdgeMissing (n : Nat)
  /-- TOD_MESSAGE_RX (R47): A time event message arrives on TOD_IN and is compared with its PPS edge. -/
  | todMessageRx (n : Nat) (agrees : Bool)
  /-- ESMC_RX (R47): An ESMC message updates the synchronous Ethernet quality level. -/
  | esmcRx (ql : Nat)
  /-- SYNCE_QUALIFY_TIMER (R47): The synchronous Ethernet lane has held CDR lock for 10 s within the window, and the reference qualifies. -/
  | syncEQualifyTimer (inWindow : Bool)
  /-- WAIT_TO_RESTORE_EXPIRY (R44): A higher-priority reference stays qualified for the wait-to-restore time and replaces the one in use. -/
  | waitToRestoreExpiry (which : Nat)
  /-- LOCK_TIME_EXPIRY (R50): The lock criteria have held for the lock time, and the state becomes LOCKED. -/
  | lockTimeExpiry (freqErr : Nat)
  /-- LOCK_LOSS_TIMEOUT (R50): The phase error stays above 4 times the lock threshold for 10 s, and the state returns to ACQUIRING. -/
  | lockLossTimeout
  /-- LOOP_SECOND_SAMPLE (R57): Each second of loop time with a time reference records one correction sample for the averaging window. -/
  | loopSecondSample (mean : Int)
  /-- TE_EST_EVAL (R66): Once per second in holdover the time-error bound is evaluated, and the state moves to FREE when it exceeds te_limit. -/
  | teEstEval
  /-- STEP_ACCEPT (R55): A write of TB_CTRL.step_accept accepts a pending step, or is ignored. -/
  | stepAccept
  /-- STEP_APPLY (R55): At the next frame boundary the FP jumps by Δ, the state changes, and triggers in the skipped span fire once. -/
  | stepApply
  /-- MODEL_SAMPLE (R59): Every 10 s while learning, a temperature and correction pair is accumulated. -/
  | modelSample
  /-- MODEL_REFIT (R59): Every 10 minutes the oscillator model is refitted and may become valid. -/
  | modelRefit
  /-- BTEMP_READ (R60): Every 250 ms the board sensor is read over I2C and its validity is updated. -/
  | btempRead (raw : Option Nat)
  /-- MODEL_SNAPSHOT (R62): Each hour with a valid model, a snapshot is written to the ledger or deferred. -/
  | modelSnapshot
  /-- MODEL_EXPORT (R65): TB_MODEL_CMD.export copies a model into the window. -/
  | modelExport (idx : Nat)
  /-- MODEL_IMPORT (R65): TB_MODEL_CMD.import loads the window into a model, or is refused. -/
  | modelImport (idx : Nat)
  /-- MODEL_DISCARD (R65): TB_MODEL_CMD.discard clears a model and sets model_valid to 0. -/
  | modelDiscard (idx : Nat)
  /-- FP_CAPTURE (R43): A read of TB_FP_LO captures the whole FP for that requester's later reads. -/
  | fpCapture (who : Requester)
  /-- TRG_READ (R69): TB_TRG_CMD.read loads a trigger entry into the data registers. -/
  | trgRead
  /-- TRG_COMMIT (R69): TB_TRG_CMD.commit checks the data registers and schedules the entry update, or refuses it. -/
  | trgCommit (keep : Bool)
  /-- TRG_COMMIT_EFFECT (R70): At FP_c the committed entry takes effect, with or without keep_phase. -/
  | trgCommitEffect
  /-- TRIGGER_FIRE (R71): A trigger instance is reached and its pin, release, event, commit and wake actions run. -/
  | triggerFire (index : Nat)
  /-- TRIGGER_PULSE_END (R71): After width_tk a pulse on a trigger pin ends. -/
  | triggerPulseEnd (index : Nat)
  /-- PPS_OUT_PULSE (R73): At each second boundary PPS_OUT pulses. -/
  | ppsOutPulse
  /-- TOD_OUT_SEND (R73): 1 ms after a PPS_OUT edge the time event message is sent on TOD_OUT. -/
  | todOutSend
  /-- SYSREF_ARM (R75): A write of TB_SYSREF_ARM arms a gapped SYSREF burst. -/
  | sysrefArm (mask : Nat)
  /-- SYSREF_GAPPED_START (R75): At the next frame boundary an armed output sends gap_count pulses. -/
  | sysrefGappedStart (k : Nat)
  /-- HATCH_CONTENTION (R126): Both ends drive one user hatch wire; the wire is disabled and FAB_CONTENTION is raised. -/
  | hatchContention (c w : Nat)
  /-- CONTEXT_SELECT (R133): The scheduler presents a READY slot; the bin selects the context, loads the budget and makes the slot ACTIVE. -/
  | contextSelect (p : Nat)
  /-- ITEM_DONE (R137): DONE is sampled in the control word; the item ends or enters ENDING, and its slot drains or frees. -/
  | itemDone (p tick nj : Nat)
  /-- ITEM_ENDING_COMPLETE (R150): The last outstanding hatch command of an ENDING item completes, and the end tick falls. -/
  | itemEndingComplete (p nj : Nat)
  /-- BUDGET_KILL (R152): The end tick has not come by item tick C, and the item is killed in item tick C + 1. -/
  | budgetKill (p : Nat)
  /-- TRAY_READ (R144): A control word with rd_en reads one tray line. -/
  | trayRead (p : Nat) (slot line : Nat)
  /-- TRAY_WRITE (R144): A control word with wr_en writes one masked tray line and sets its valid bit. -/
  | trayWrite (p : Nat) (slot line mask data : Nat)
  /-- SPAWN (R146): A control word with spawn puts a spawn record into the spawn buffer, or rejects it as excess. -/
  | spawn (p record : Nat)
  /-- USER_EVENT (R148): A control word with event forwards a user event record, or drops it within 64 tk of the last. -/
  | userEvent (p code sev data : Nat)
  /-- CONTEXT_SELECT_STATIC (R154): A control word with ctx_sel changes a static bin's context, with or without initial values. -/
  | contextSelectStatic (p ctx : Nat) (init : Bool)
  /-- HATCH_READ (R149): A hatch command with wr = 0 issues a Loft read of 1 to 16 beats, or is discarded. -/
  | hatchRead (p beat beatsM1 tag : Nat)
  /-- HATCH_WRITE (R149): A hatch command with wr = 1 issues a Loft write of 1 to 16 beats, or is discarded. -/
  | hatchWrite (p beat beatsM1 tag : Nat) (data : List Nat)
  /-- HATCH_READ_BEAT (R150): A read beat returns to the bin, or is discarded when it carries an old generation. -/
  | hatchReadBeat (p : Nat)
  /-- HATCH_WRITE_ACCEPT (R150): The pass-through accepts a write beat when it has credit. -/
  | hatchWriteAccept (p : Nat)
  /-- SPAWN_HAND_ON (R147): After a DONE end tick one buffered spawn record per tick is handed to the scheduler and checked. -/
  | spawnHandOn (p : Nat)
  /-- SUBMIT_GO (R182): SCH_SUBMIT_CMD.go submits a descriptor from the keeper or the register port, and a result is set. -/
  | submitGo (who : Requester) (autoSeq : Bool)
  /-- DECISION_START (R171): A pool starts a decision for a bin's FREE slot and takes the first eligible item it may bind. -/
  | decisionStart (pool : Nat)
  /-- DECISION_BIND (R172): In the fourth tick the decision reserves spawn space and binds the item to the slot, or moves on. -/
  | decisionBind (p slot : Nat)
  /-- FILL_BEAT (R173): A fill beat returns from the Loft and is written into the tray; the last makes the slot READY. -/
  | fillBeat (p slot : Nat)
  /-- DRAIN_BEAT (R175): A drain beat leaves the tray for the output reference; after the last, the slot is FREE. -/
  | drainBeat (p slot : Nat)
  /-- DRAIN_ACK_COMPLETE (R175): The Loft has acknowledged every drain beat; successors become WAITING, or are discarded on error. -/
  | drainAckComplete (p slot : Nat)
  /-- LATE_DROP_LS (R177): The FP passes the LS of a WAITING or BOUND DROP item, and the item is dropped. -/
  | lateDropLs (id : Nat)
  /-- DEADLINE_PASS (R177): The FP passes the deadline of a running DROP item, and the scheduler ends it. -/
  | deadlinePass (id : Nat)
  /-- PAUSE_TIMER_EXPIRY (R219): A bin's pause timer reaches 0, and best-effort items may be dispatched to it again. -/
  | pauseTimerExpiry (p : Nat)
  /-- CAP_WRITE (R200): A write of THM_CAP sets the stack cap, or is refused by the power test. -/
  | capWrite (cap : Nat)
  /-- THRESH_WRITE (R217): A write of THM_THRESH sets thermal thresholds, or is refused. -/
  | threshWrite (warn throttle crit : Int)
  /-- THERMAL_SAMPLE (R209): Every 100 µs the sensors and power counters are sampled and temperatures, estimates, level and headroom are updated. -/
  | thermalSample (x : ThermSample)
  /-- SHUTDOWN_COMPARATOR_TRIP (R228): A sensor comparator trips; outputs go safe, THERM_N is asserted, the record is latched and the dies are powered off. -/
  | shutdownComparatorTrip (n : Nat) (temp : Int)
  /-- PFC_REFRESH (R222): During an episode the PFC frame is resent every refresh_us. -/
  | pfcRefresh
  /-- PFC_GRACE_EXPIRY (R223): grace_us after an episode begins, be_prio ingress frames start to be dropped. -/
  | pfcGraceExpiry
  /-- SHED_STEP (R225): After each shed interval in critical, the next shed entry is shed if the condition persists. -/
  | shedStep
  /-- RESTORE_STEP (R227): After the 100 ms hold, shed entries are restored one per interval in reverse order. -/
  | restoreStep
  /-- RECAL_START (R213): After 50 ms in DOZE, queued dies start sensor recalibration. -/
  | recalStart
  /-- RECAL_COMPLETE (R213): After 10 ms of averaging, sensor offsets are stored or sensors are marked failed. -/
  | recalComplete (d : Nat)
  /-- SIGNAL_DETECT (R254): The RX amplitude stays above threshold for 100 µs, and the lane moves to EQ_SELECT. -/
  | signalDetect (l : Nat)
  /-- EQ_TRIAL_COMPLETE (R252): The equalisation candidate trial ends, and the best candidate's TX taps are applied. -/
  | eqTrialComplete (l : Nat) (eyes : List Nat)
  /-- CDR_LOCK (R254): The lane's CDR locks with the chosen candidate. -/
  | cdrLock (l : Nat)
  /-- POLARITY_DETECT (R255): The protocol pattern is found at normal or inverted polarity. -/
  | polarityDetect (l : Nat) (inverted : Bool)
  /-- BLOCK_LOCK (R254): The lane reaches block, codeword or pilot lock. -/
  | blockLock (l : Nat)
  /-- LANE_ORDER_DETECT (R256): All alignment markers of a 100G port are found, and lane positions are set. -/
  | laneOrderDetect (l : Nat) (pos : List Nat)
  /-- DESKEW (R256): The lanes of a port or link are aligned within S, or the step fails. -/
  | deskew (l skew : Nat)
  /-- BRINGUP_STEP_TIMEOUT (R254): A bring-up step reaches its time limit, and LN_BRINGUP_FAIL is raised. -/
  | bringupStepTimeout (l : Nat)
  /-- BRINGUP_RETRY (R254): 10 ms after a failed step, bring-up restarts at SIG_DETECT. -/
  | bringupRetry (l : Nat)
  /-- LANE_LINK_LOSS (R257): An UP lane loses signal, CDR, block, alignment or BER status and restarts at the stated state. -/
  | laneLinkLoss (l cause : Nat)
  /-- GROUP_PLL_LOCK (R258): A lane group PLL locks; its lanes leave IDLE and their transmitters leave electrical idle. -/
  | groupPllLock (g : Nat) (outside : Bool)
  /-- GROUP_PLL_UNLOCK (R257): A lane group PLL unlocks, and every lane of the group returns to IDLE. -/
  | groupPllUnlock (g : Nat)
  /-- LANE_ENABLE_WRITE (R257): A write of LN_CTRL.enable enables a lane or sends it to DISABLED. -/
  | laneEnableWrite (l : Nat) (en : Bool)
  /-- LANE_RESTART (R257): A write of LN_CTRL.restart restarts the lane at SIG_DETECT. -/
  | laneRestart (l : Nat)
  /-- LOOP_SELECT (R259): A write of LN_CTRL.loop starts or ends a test loop, or is refused. -/
  | loopSelect (l loop : Nat) (drive : Bool)
  /-- PRBS_GEN_SELECT (R260): A write of LN_CTRL.prbs_gen enables or disables the PRBS generator and restarts the lane. -/
  | prbsGenSelect (l gen : Nat)
  /-- PRBS_CHK_SELECT (R260): A write of LN_CTRL.prbs_chk selects the PRBS checker pattern. -/
  | prbsChkSelect (l chk : Nat)
  /-- LANE_BLOCK_RX (R243): A received block is released to its sink at its fixed or measured latency. -/
  | laneBlockRx (l : Nat) (b : RxBlock)
  /-- LANE_TX_TAKE (R249): The lane takes the TX bundle in a tx_take tick, or sends an underrun block. -/
  | laneTxTake (l bundle : Nat) (x : TxTake)
  /-- FOM_WINDOW (R253): At the end of each fom_ms window the FoM is updated and LN_FOM_LOW may be raised. -/
  | fomWindow (l eye : Nat)
  /-- ETH_FRAME_RX (R268): An Ethernet frame is classified and its eCPRI, PTP or ESMC content processed or dropped. -/
  | ethFrameRx (l : Nat) (f : EthFrame)
  /-- PAUSE_FRAME_RX (R286): A PAUSE or PFC frame is honoured within the allowance, or ignored. -/
  | pauseFrameRx (l us : Nat)
  /-- HELD_MESSAGE_RELEASE (R279): At tick O the held messages of the symbol are written in arrival order. -/
  | heldMessageRelease (f n : Nat)
  /-- SYMBOL_WINDOW_OPEN (R281): At O a symbol of a rel_empty flow opens. -/
  | symbolWindowOpen (f n : Nat)
  /-- SECTION_WRITE_ACK (R281): The Loft acknowledges a section write; when every expected section is present the symbol closes as Complete. -/
  | sectionWriteAck (f n : Nat)
  /-- SYMBOL_WINDOW_CLOSE (R281): Z passes with every accepted message written, and the symbol closes with missing sections. -/
  | symbolWindowClose (f n : Nat)
  /-- STATUS_LINE_ACK (R282): The status line of a closed symbol is acknowledged, and its release is queued. -/
  | statusLineAck (f : Nat)
  /-- FRONTHAUL_RELEASE (R282): An engine hands one queued release per tick to the scheduler as a fronthaul item. -/
  | fronthaulRelease (e : Nat)
  /-- QUARANTINE_END (R284): q_time_ms passes, and the flow leaves quarantine with seq_init cleared. -/
  | quarantineEnd (f : Nat)
  /-- PARTNER_FAULT_CLEAR (R285): Violations stay at or below the threshold for 1 s, and the partner fault clears. -/
  | partnerFaultClear (g : Nat)
  /-- EGRESS_CHECK (R292): At X − tx_base − 1,536 the arm is checked and the symbol is transmitted or missed. -/
  | egressCheck (f n : Nat)
  /-- EGRESS_ARM_EXPIRY (R292): X passes, and the buffer's arming clears. -/
  | egressArmExpiry (f n : Nat)
  /-- JESD_EGRESS_SPAN (R295): At an extended-multiblock boundary a JESD flow's buffer samples are placed into block payloads. -/
  | jesdEgressSpan (f n blocks : Nat)
  /-- FLOW_READ (R298): FH_FLOW_CMD.read loads a flow context into the data registers. -/
  | flowRead (who : Requester)
  /-- FLOW_COMMIT (R298): FH_FLOW_CMD.commit checks the flow data and schedules the write back, or refuses it. -/
  | flowCommit
  /-- FLOW_COMMIT_EFFECT (R298): 8 tk after a commit the flow entry changes. -/
  | flowCommitEffect
  /-- FLOW_CNT_READ (R298): FH_FLOW_CMD.cnt_read loads and clears a flow's counters. -/
  | flowCntRead
  /-- SECTION_READ (R298): FH_SEC_CMD.read loads a section entry into the data registers. -/
  | sectionRead (who : Requester)
  /-- LOFT_REQUEST_ENQUEUE (R308): A request reaches a bank and is judged against the owner before entering its queue, or is refused. -/
  | loftRequestEnqueue (r : LoftReq)
  /-- LOFT_BANK_SERVE (R306): In a LOFT cycle a bank serves one request and decodes the word read. -/
  | loftBankServe (b : Nat) (u : Upset)
  /-- CORRECTION_WRITE_BACK (R314): In the bank's next idle cycle a corrected word is written back unless written first. -/
  | correctionWriteBack (b : Nat)
  /-- POISON_WRITE (R314): In its next cycle the bank poisons a word found uncorrectable. -/
  | poisonWrite (b : Nat)
  /-- IDLE_SCRUB (R317): In an idle LOFT cycle the scrubber reads, votes and repairs the next word of the bank. -/
  | idleScrub (b : Nat) (u : Upset)
  /-- BG_SCRUB (R318): A background engine checks the next word of keeper SRAM or the Cellar tables at its rate. -/
  | bgScrub (e : Nat) (u : Upset)
  /-- GROUP_HANDOVER (R309): LFT_GRP_HANDOVER.go starts a handover of all banks of a group, or is refused. -/
  | groupHandover (g owner : Nat) (clear : Bool)
  /-- BANK_HANDOVER (R309): LFT_BANK_OWN.go starts a handover of one bank, or is refused. -/
  | bankHandover (b owner : Nat) (clear : Bool)
  /-- HANDOVER_QUIESCE (R309): The queued requests of the affected banks have completed, and the clear or the owner change follows. -/
  | handoverQuiesce (group : Bool) (index : Nat)
  /-- HANDOVER_CLEAR_DONE (R309): The bulk clear ends and the new owner takes effect. -/
  | handoverClearDone (group : Bool) (index : Nat)
  /-- GROUP_WAKE_COMPLETE (R312): A waking Loft group finishes its wake and checker test and becomes ON. -/
  | groupWakeComplete (g : Nat) (bad : List Nat) (spareBad : Bool)
  /-- DMA_GO (R325): LFT_DMA_CTRL.go starts a DMA transfer, or refuses it with cause 5. -/
  | dmaGo (c : Nat) (who : Requester) (srcTray dstTray evDone : Bool)
  /-- DMA_ABORT (R326): LFT_DMA_CTRL.abort stops a transfer once its outstanding commands return. -/
  | dmaAbort (c : Nat) (who : Requester)
  /-- DMA_COMMAND_COMPLETE (R326): A DMA command returns; the transfer continues, completes or halts. -/
  | dmaCommandComplete (c : Nat)
  /-- PR_STAGE (R353): CFG_PR_CMD.stage starts copying a partial stream into the stage group, or is refused. -/
  | prStage
  /-- PR_STAGE_COMPLETE (R353): Staging ends; the stream is verified and admitted, becoming VERIFIED, or is refused. -/
  | prStageComplete (h : Header) (fs : List Frame)
  /-- PR_DISCARD (R355): CFG_PR_CMD.discard empties the staged stream. -/
  | prDiscard
  /-- PR_COMMIT_WRITE_START (R356): Once the drain and the pre-check are done, the commit writes images and shelf records. -/
  | prCommitWriteStart (us : List (Nat × Upset))
  /-- PR_COMMIT_END (R356): After the last write the Cellar records take effect, held bins restart and affected kernels are dispatched again. -/
  | prCommitEnd (us : List (Nat × Upset))
  /-- CFG_SCRUB_WORD (R360): A configuration scrubber engine checks the next configuration word and corrects it or queues a repair. -/
  | cfgScrubWord (e : Nat) (u : Upset) (wire : Option Nat) (voted : Bool)
  /-- CFG_SCRUB_REPAIR (R361): An uncorrectable configuration word is repaired from the first clean source, or reported unrepairable. -/
  | cfgScrubRepair (flashOk : Bool)
  /-- CFG_SCRUB_LAP_END (R363): At a lap end the engines' signatures are compared. -/
  | cfgScrubLapEnd (e flip : Nat)
  /-- CFG_SCRUB_STALL (R363): An engine completes no lap within twice its lap time and is restarted. -/
  | cfgScrubStall (e : Nat)
  /-- TWIN_HEARTBEAT_RX (R386): A HEARTBEAT frame arrives and refreshes the link path and the twin status. -/
  | twinHeartbeatRx (f : TwinFrame)
  /-- TWIN_MIRROR_RX (R379): A MIRROR frame's line records are checked and applied in order. -/
  | twinMirrorRx (f : TwinFrame)
  /-- TWIN_ACK_RX (R369): An ACK frame acknowledges frames of each virtual channel. -/
  | twinAckRx (f : TwinFrame)
  /-- TWIN_LINE_REQ_RX (R380): A LINE_REQ marks the line dirty so that it is sent in full. -/
  | twinLineReqRx (f : TwinFrame)
  /-- TWIN_CONTROL_RX (R372): A CONTROL frame carries pairing, key, retire, partner_fault or hash exchanges. -/
  | twinControlRx (f : TwinFrame)
  /-- TWIN_FAULT_RX (R387): A FAULT frame declares the twin's fault. -/
  | twinFaultRx (f : TwinFrame)
  /-- TWIN_ACK_TIMER (R369): Every 2 µs the receiver sends an ACK. -/
  | twinAckTimer
  /-- TWIN_RESEND_TIMEOUT (R369): A frame unacknowledged for 4 µs is resent, or its lanes are restarted after three retries. -/
  | twinResendTimeout (vc seq : Nat)
  /-- TWIN_HEARTBEAT_SEND (R386): Every 20 µs a HEARTBEAT frame is sent and TW_HB_OUT toggles. -/
  | twinHeartbeatSend
  /-- SIDEBAND_EDGE (R370): An edge on TW_HB_IN is a sideband heartbeat, and 8 edges within 5 µs a declared fault. -/
  | sidebandEdge
  /-- HEARTBEAT_PATH_TIMEOUT (R386): A path delivers no heartbeat for 100 µs and is lost; with both lost a fault is detected. -/
  | heartbeatPathTimeout (link : Bool)
  /-- PAIR_WAIT_EXPIRY (R371): pair_wait_ms passes without pairing, and the device becomes ACTIVE alone. -/
  | pairWaitExpiry
  /-- PAIR_STEP_TIMEOUT (R372): A pairing step reaches its 100 ms limit and pairing fails. -/
  | pairStepTimeout
  /-- PAIR_RETRY (R372): After 1 s or 10 s pairing restarts from step 1. -/
  | pairRetry
  /-- MIRROR_LINE_SEND (R378): The mirror engine reads, encrypts and sends the oldest dirty line. -/
  | mirrorLineSend (bulk : Bool)
  /-- TWIN_REKEY (R383): TW_REQ.rekey starts a key rotation. -/
  | twinRekey
  /-- SESSION_REKEY_RETRY (R384): A failed session agreement is retried every 1 s. -/
  | sessionRekeyRetry
  /-- TWIN_HANDOFF (R392): TW_REQ handoff makes the active hand the role to a READY standby, or is refused. -/
  | twinHandoff
  /-- TWIN_DETACH (R392): TW_REQ detach ends the pair, or is refused. -/
  | twinDetach
  /-- TWIN_PAIR (R392): TW_REQ pair starts pairing, or is refused. -/
  | twinPair
  /-- GROUP_CONVERT_COMPLETE (R391): After a takeover a mirrored group finishes converting to plaintext. -/
  | groupConvertComplete (g : Nat)
  /-- RUN_REQUEST (R398): RST_MODE_REQ.req = 1 ends DOZE or DORMANT, or is refused. -/
  | runRequest (who : Requester)
  /-- DOZE_REQUEST (R398): RST_MODE_REQ.req = 2 enters DOZE, and every gate follows sleep_en. -/
  | dozeRequest (who : Requester)
  /-- DORMANT_REQUEST (R400): RST_MODE_REQ.req = 3 starts DORMANT entry, or is refused. -/
  | dormantRequest (who : Requester)
  /-- DORMANT_ENTRY_COMPLETE (R400): Every running item has ended and drained; the shelves power off and the mode becomes DORMANT. -/
  | dormantEntryComplete
  /-- WAKE_COMPLETE (R401): Static bins restart, gates follow run_en, and once every group is ON the prior run mode returns. -/
  | wakeComplete
  /-- WARM_RESET (R407): RST_CTRL.warm resets the keeper, the event unit and the management port. -/
  | warmReset
  /-- WARM_RESET_END (R407): The keeper restarts after its firmware is checked, and the event unit numbers records from 0. -/
  | warmResetEnd (us : List (Nat × Upset)) (aborted : Nat)
  /-- SHELF_RESET (R405): RST_CTRL.shelf_a or shelf_b resets a shelf's bins, killing and reissuing their items. -/
  | shelfReset (h : Nat)
  /-- SHELF_RESET_RELEASE (R405): 16 tk after a shelf reset, the bins are released IDLE. -/
  | shelfResetRelease (h : Nat)
  /-- BIN_RESET (R405): RST_CTRL.bin resets one bin; its running item is killed with reason 2. -/
  | binReset (l : Nat)
  /-- BIN_RESET_RELEASE (R405): After 8 tk or the cause's hold, the bin leaves reset. -/
  | binResetRelease (p : Nat)
  /-- LGRP_RESET (R405): RST_CTRL.lgrp resets a lane group; its lanes go to IDLE. -/
  | lgrpReset (g : Nat)
  /-- LGRP_RESET_RELEASE (R405): After 1 µs or the cause's hold, the lane group is released and bring-up starts. -/
  | lgrpResetRelease (g : Nat)
  /-- KEEPER_WATCHDOG_EXPIRY (R405): The keeper watchdog expires, causing a WARM reset, or a keeper fatal within 1 s of the first. -/
  | keeperWatchdogExpiry (aborted : Nat)
  /-- CELLAR_HEARTBEAT_LOSS (R411): An upper die sees no Cellar heartbeat for 2 µs and forces itself safe and into reset. -/
  | cellarHeartbeatLoss (d : Nat)
  /-- PROVISION (R426): Owner command PROVISION programs the owner key slots and moves MAKER to OWNED. -/
  | provision (who : Requester) (tk : Nat) (vfuse : Bool)
  /-- TO_FIELD (R423): Owner command TO_FIELD moves OWNED to FIELD. -/
  | toField (who : Requester) (tk : Nat) (vfuse : Bool)
  /-- TO_RETURN (R429): Owner command TO_RETURN erases keys and owner data and burns the RETURN state. -/
  | toReturn (who : Requester) (tk : Nat) (vfuse : Bool)
  /-- ADD_OWNER_KEY (R426): Owner command ADD_OWNER_KEY programs an empty owner key slot. -/
  | addOwnerKey (who : Requester) (tk : Nat) (vfuse : Bool)
  /-- REVOKE_OWNER_KEY (R427): Owner command REVOKE_OWNER_KEY revokes an owner key slot. -/
  | revokeOwnerKey (who : Requester) (tk : Nat) (vfuse : Bool)
  /-- SET_STREAM_KEY (R426): Owner command SET_STREAM_KEY unwraps and stores a stream key. -/
  | setStreamKey (who : Requester) (tk secret : Nat) (vfuse : Bool)
  /-- REVOKE_STREAM_KEY (R424): Owner command REVOKE_STREAM_KEY revokes a stream key slot and burns its key bits. -/
  | revokeStreamKey (who : Requester) (tk : Nat) (vfuse : Bool)
  /-- ERASE_BBRAM_KEY (R428): Owner command ERASE_BBRAM_KEY erases the battery-backed key at once. -/
  | eraseBbramKey (who : Requester) (tk : Nat)
  /-- DEBUG_UNLOCK (R425): Owner command DEBUG_UNLOCK opens the debug access in its mask. -/
  | debugUnlock (who : Requester) (tk : Nat)
  /-- FW_KEY_REVOKE (R430): Enustra-signed command FW_KEY_REVOKE burns the revoke bit of firmware key 0. -/
  | fwKeyRevoke (who : Requester) (tk : Nat) (vfuse : Bool)
  /-- FUSE_COMMAND_RESUME (R428): A pending fuse command is performed once VFUSE and the fuse window hold. -/
  | fuseCommandResume (vfuse : Bool)
  /-- RETURN_RESUME (R429): A pending return resumes at step 2 once its windows hold. -/
  | returnResume (vfuse : Bool)
  /-- DEBUG_LOCK (R425): A write of SEC_DBG_CTRL.lock closes any open debug unlock. -/
  | debugLock
  /-- JTAG_INSTRUCTION (R425): A JTAG instruction runs within the access of the life-cycle state and unlock. -/
  | jtagInstruction (n : Nat)
  /-- ATTEST_GO (R435): SEC_ATT_CMD.go starts an attestation report for the port's nonce. -/
  | attestGo (who : Requester)
  /-- ATTEST_COMPLETE (R436): The signed 512-byte report is ready and busy clears. -/
  | attestComplete (who : Requester)
  /-- LEDGER_APPEND_COMPLETE (R439): An entry append ends, and the next queued entry may be written. -/
  | ledgerAppendComplete
  /-- LEDGER_ERASE_COMPLETE (R439): A sector erase ends, and the sector takes its ring position. -/
  | ledgerEraseComplete
  /-- CANARY_MEASURE (R445): Every 100 ms a bin's delay canary is measured and compared with the wear thresholds. -/
  | canaryMeasure (p slack : Nat)
  /-- BIN_SUBSTITUTION_PREP (R452): After 20 µs the spare's routes and clocks are written and checked, and the context copy begins. -/
  | binSubstitutionPrep
  /-- BIN_SUBSTITUTION_COMPLETE (R452): The last context is copied; the map moves the logical bin to the spare and it joins the pool. -/
  | binSubstitutionComplete
  /-- HATCH_CANARY_MEASURE (R446): Every 1 s a hatch segment canary is measured, and a weak wire is marked for the next start. -/
  | hatchCanaryMeasure (c seg margin group wire : Nat)
  /-- BANK_CE_HOUR (R447): At each hour of ON time a bank's corrections are judged and the bank may be marked worn. -/
  | bankCeHour (b : Nat)
  /-- FOM_HOUR (R449): At each hour UP a lane's mean FoM is recorded and the trend is judged. -/
  | fomHour (l idle : Nat)
  /-- BANK_PERMIT_WRITE (R455): A write of SPR_BANK_PERMIT allows a pending bank substitution to start a live copy. -/
  | bankPermitWrite (mask : Nat)
  /-- BANK_COPY_COMPLETE (R455): A live bank copy ends, and the spare serves the logical bank. -/
  | bankCopyComplete
  /-- COVER_SHED_STEP (R458): For an uncovered pool, the next shed entry of the pool is shed at each shed interval. -/
  | coverShedStep (pool : Nat)
  /-- COVER_RESTORE_STEP (R458): When bins return, coverage-shed entries are restored one per interval while test 6 passes. -/
  | coverRestoreStep (pool : Nat)
  /-- THM_LIFE (R459): Once per 24 h the powered-hour bands are written to the ledger. -/
  | thmLife
  /-- EVENT_DISPATCH (R477): Each KEEP cycle the event unit takes one record and sends it to the ring, the user port and the alert. -/
  | eventDispatch
  /-- EV_ACK_WRITE (R478): A management-port write of EV_ACK acknowledges ring records, or is refused. -/
  | evAckWrite (v : Nat)
  /-- EV_KP_ACK_WRITE (R478): A keeper write of EV_KP_ACK acknowledges ring records, or is ignored. -/
  | evKpAckWrite (v : Nat)
  /-- EV_PORT_POP (R480): EV_PORT_POP.pop moves the oldest user-port record into the data registers. -/
  | evPortPop
  /-- MGMT_READ (R481): A management-port read frame returns status and data for one or more addresses. -/
  | mgmtRead (addr words : Nat)
  /-- MGMT_WRITE (R481): A management-port write frame is judged against the writable set and answered with a status. -/
  | mgmtWrite (addr data : Nat) (x : WriteFacts)
  /-- MGMT_UNKNOWN_OPCODE (R481): A frame with an unknown opcode is answered with status 0x01 until it ends. -/
  | mgmtUnknownOpcode (op : Nat)
  /-- MGMT_FRAME_ABORT (R482): MG_CS_N rises early, and the frame takes effect or not by the bits received. -/
  | mgmtFrameAbort (op addr data dataBits : Nat) (x : WriteFacts)
  /-- REGPORT_READ (R486): A register-port read request is checked against permissions and answered. -/
  | regportRead (addr tag out : Nat)
  /-- REGPORT_WRITE (R486): A register-port write request is checked against permissions and the writable set and answered. -/
  | regportWrite (addr data tag out : Nat) (x : WriteFacts)
  /-- REGISTER_WRITE (R14): A write to a register with no row of its own sets its writable fields, or is refused as a whole. -/
  | registerWrite (who : Requester) (addr data : Nat) (x : WriteFacts)
  /-- READ_CLEAR (R11): A keeper or register-port read of an RC field returns and clears it. -/
  | readClear (who : Requester) (addr : Nat)
  /-- PORST_N_RISE (R406): PORST_N rises after a DEVICE reset that it held, and the load begins. -/
  | porstNRise
  /-- SEC_CMD_UNKNOWN_OPCODE (R427): A SEC_CMD_GO carries an opcode outside 1 to 10 and is refused with reason 9, which consumes the nonce. -/
  | secCmdUnknownOpcode (who : Requester)
  /-- FUSE_BURN_COMPLETE (R429): A fuse bit burn and its margin read-back end; the bit is retried, the command takes effect, or SEC_FUSE_FAIL refuses it. -/
  | fuseBurnComplete (e : BurnEnd)
  /-- PAUSE_TIME_EXPIRY (R286): The pause time of an honoured PAUSE or PFC frame runs out, and the MAC resumes the held frames. -/
  | pauseTimeExpiry (l : Nat)
  /-- TAKEOVER_TABLES_WRITTEN (R389): About 10 µs after detection the decrypted mirror tables are written; STALE state is reinitialised, groups are handed over, and the mode becomes ACTIVE with TW_TAKE_N low. -/
  | takeoverTablesWritten
  deriving DecidableEq, Repr

end Sys2Proof
end

