-- ==== Sys2Proof/Decode.lean ====
section
/-! DEFINITION. The command that a word spells: the table of operations and events gives no row any bits, so no
word spells a command. -/

namespace Sys2Proof

/-- The command that the `nbits` bits `w` spell: none, since no row of the table has an encoding. -/
def decodeTableWord (nbits w : Nat) : Option Instr :=
  match nbits, w with
  | _, _ => none

end Sys2Proof
end

