-- ==== Sys2Proof/Config.lean ====
section
/-! DEFINITION. What one device fixes and what the specification leaves open: fuse values, the
grade, and the free values. None has a body, so nothing can be proved of the value. -/

namespace Sys2Proof

/-- The fuse values of the device (R5, R207, R443), by a number of this model's own. -/
opaque Config.fuse : Nat → Nat

/-- The grade of the device (R1): the E grade when true, the C grade when false. -/
opaque Config.gradeE : Bool

/-- The free values: applied to the counter `State.fresh`, each use takes a value nothing
constrains (log entry 5). -/
opaque Config.freeValue : Nat → Nat

/-- The phase, in ticks, at which output RC `i` of regional tree `k` has its edges when it divides TICK, which the
rules leave open (log entry 108). -/
opaque Config.rcPhase : (k i : Nat) → Nat

/-- The edges in tick `n` of output RC `i` of tree `k` when it comes from a clock other than TICK, asynchronous to it
(R412; log entry 108). -/
opaque Config.rcEdges : (k i n : Nat) → Nat

/-- The logical bin whose logic drives a UIO pin in the role of user logic; the rules do not say how a pin reaches it
(log entry 110). -/
opaque Config.uioBin : (pin : Nat) → Nat

/-- The part, in 2^−16, of the difference that the first-order lag of R211 takes in one window of 100 µs for a time
constant in µs (log entry 114). -/
opaque Config.lagGain : (tau : Nat) → Nat

/-- What the RX bundle of a lane carries, in a tick without a valid block, in the fields for which R248 states no value
(log entry 119). -/
opaque Config.rxRest : (lane tick : Nat) → Nat

/-- Whether the sync header that a JESD204C lane sends in a tick is 0b01: the rules give neither the polynomial of the
CRC-12 nor the places of its bits and of the pilot in the sync header stream (R241; log entry 119). -/
opaque Config.syncBit : (lane tick : Nat) → Bool

/-- The 66 bits of the block by which an Ethernet MAC signals remote fault, which the rules leave to IEEE 802.3 (R240;
log entry 119). -/
opaque Config.remoteFault : Nat

/-- The random draws of the security block (R426 the command nonce, R374 ephemeral keys): the
word `i` of draw `n`, a value nothing constrains. -/
opaque Config.draw : Nat → Nat → Nat

/-- The ECDH P-384 secret of a session after key agreement `n` (R372, R374), uninterpreted (log entry 20). -/
opaque Config.ecdhSecret : (n session : Nat) → Nat

/-- The inverse of AES-256 under a key (R377), uninterpreted (log entry 20). -/
opaque Config.aes256Inv : (key block : Nat) → Nat

/-- AES-256 of a 128-bit block, first byte most significant, under a key (R336), uninterpreted (log entry 20). -/
opaque Config.aes256 : (key block : Nat) → Nat

/-- Whether an ECDSA P-384 signature of 24 words verifies over a SHA-384 digest with a public key of 24 words (R337,
R431), uninterpreted (log entry 20). -/
opaque Config.ecdsaOk : (key : List Nat) → (digest : Nat) → (sig : List Nat) → Bool

/-- SHA-384 of a list of bytes (R337, R372, R431), byte i of the digest in bits [8i+7:8i], uninterpreted (log entry
20). -/
opaque Config.sha384 : List Nat → Nat

/-- Word `i` of the 2,048 words of route and clock configuration of a bin that the shelf records `rs` name: the rules do
not give their coding (R360; log entry 33). -/
opaque Config.shelfWord : (rs : List ShelfRec) → (i : Nat) → Nat

/-- The 32-bit hash of a configuration word's address and data, which the rules do not name (R363; log entry 33). -/
opaque Config.cfgHash : (addr data : Nat) → Nat

/-- Word `i` of the header of a ledger sector with a role and an erase count: the rules name what the header holds, not
its places (R437; log entry 160). -/
opaque Config.sectorHead : (sector role erases i : Nat) → Nat

/-- Word `i` of a ledger entry between its content and its CRC, which the rules leave open (R437; log entry 160). -/
opaque Config.ledFill : (entry i : Nat) → Nat

/-- The ECDSA signature of the attestation key over the words of a report (R436), uninterpreted. -/
opaque Config.attSign : List Nat → Nat

/-- The ROM hashes of Enustra's firmware keys (R424). -/
opaque Config.romHash : Nat → Nat

end Sys2Proof
end

