-- ==== Sys2Proof/Machine/Regs.lean ====
section
/-! DEFINITION. The register fields of the address map, one definition per field, transcribed
from the register tables of the chapters (R5, R39, R77, R100, R130, R157, R184, R206, R235, R264,
R265, R300, R329, R330, R366, R396, R421, R443, R462, R490). An array takes its index or indexes. -/

namespace Sys2Proof.Machine

/-! Reset values that depend on the grade, on fuses or on the index (R5, R82, R117, R215, R219,
R437); the fuse values are opaque constants of Config (log entry 4). -/

/-- ID_PART.stack_rev: a fuse value (R5). -/
def Rst.stackRev : Nat := Config.fuse 0 % 15 + 1
/-- ID_GRADE.grade: 1 for the C grade, 2 for the E grade (R5). -/
def Rst.grade : Nat := if Config.gradeE then 2 else 1
/-- ID_GRADE.tj_min_c (R5): 0x00 or 0xD8. -/
def Rst.tjMin : Nat := if Config.gradeE then 0xD8 else 0
/-- ID_GRADE.tj_max_c (R5): 110 or 100. -/
def Rst.tjMax : Nat := if Config.gradeE then 110 else 100
/-- ID_UID_LO (R5): a fuse value. -/
def Rst.uidLo : Nat := Config.fuse 1 % 2 ^ 32
/-- ID_UID_HI (R5): a fuse value. -/
def Rst.uidHi : Nat := Config.fuse 2 % 2 ^ 32
/-- R215: the warning threshold of the grade. -/
def Rst.warn : Nat := if Config.gradeE then 100 else 90
/-- R215: the throttle threshold of the grade. -/
def Rst.throttle : Nat := if Config.gradeE then 105 else 95
/-- R215: the critical threshold of the grade. -/
def Rst.crit : Nat := if Config.gradeE then 115 else 105
/-- R215: the shutdown threshold of the grade. -/
def Rst.shut : Nat := if Config.gradeE then 120 else 110
/-- R207: the factory thermal resistance of a region, a fuse value. -/
def Rst.theta (i : Nat) : Nat := Config.fuse (100 + i) % 2 ^ 16
/-- R211, R235: the weight of the die below, a fuse value; the two weights of a die add up to 1, and the Cellar
has no die below. -/
def Rst.wBelow (i : Nat) : Nat := if i = 0 then 0 else if i = 3 then 32768 else Config.fuse (200 + i) % 32769
/-- R211, R235: the weight of the die above; the Loft has none. -/
def Rst.wAbove (i : Nat) : Nat := 32768 - Rst.wBelow i
/-- R207: the factory time constant of a die. -/
def Rst.tauUs (i : Nat) : Nat := Config.fuse (220 + i) % 2 ^ 24
/-- R443: a word of the attestation public key, a fuse value. -/
def Rst.attPub (i : Nat) : Nat := Config.fuse (300 + i) % 2 ^ 32
/-- R443: a word of the transport public key, a fuse value. -/
def Rst.xportPub (i : Nat) : Nat := Config.fuse (400 + i) % 2 ^ 32
/-- R82: the default fine reference of monitor `m`; 63 stands for none, and for monitor 34 for the present PLL input (log entry 9). -/
def Rst.monFineRef (m : Nat) : Nat :=
  if m ≤ 1 then 63 else if m = 42 then 63 else if m = 34 then 63 else 34
/-- R117: the physical bin of logical bin `l` with no substitution. -/
def Rst.mapDefault (l : Nat) : Nat := if l ≤ 127 then l else l + 4
/-- R219: the default pause of headroom index `i`. -/
def Rst.thmPause (i : Nat) : Nat :=
  match i with
  | 0 => 0xFFFFFF | 1 => 98304 | 2 => 49152 | 3 => 24576 | 4 => 9830 | 5 => 4915 | 6 => 983 | _ => 0
/-- R437: the role of sector `s` on a new device: 0 general, 1 spare, 2 critical, 3 retired. -/
def Rst.ledRole (s : Nat) : Nat := if s < 48 then 0 else if s < 56 then 1 else 2

/-! Block Identity. -/

/-- `ID_PART.vendor_code` [31:20], RO, reset 0xE57, cleared by —: R5 (00_scope.md). -/
def F.ID_PART_vendor_code : Fld := ⟨0x0, 20, 12, 3671⟩
/-- `ID_PART.part_code` [19:4], RO, reset 0x4128, cleared by —: R5 (00_scope.md). -/
def F.ID_PART_part_code : Fld := ⟨0x0, 4, 16, 16680⟩
/-- `ID_PART.stack_rev` [3:0], RO, reset fuse, cleared by —: R5 (00_scope.md). -/
def F.ID_PART_stack_rev : Fld := ⟨0x0, 0, 4, Rst.stackRev⟩
/-- `ID_GRADE.grade` [1:0], RO, reset fuse, cleared by —: R5 (00_scope.md). -/
def F.ID_GRADE_grade : Fld := ⟨0x4, 0, 2, Rst.grade⟩
/-- `ID_GRADE.tj_min_c` [15:8], RO, reset fuse, cleared by —: R5 (00_scope.md). -/
def F.ID_GRADE_tj_min_c : Fld := ⟨0x4, 8, 8, Rst.tjMin⟩
/-- `ID_GRADE.tj_max_c` [23:16], RO, reset fuse, cleared by —: R5 (00_scope.md). -/
def F.ID_GRADE_tj_max_c : Fld := ⟨0x4, 16, 8, Rst.tjMax⟩
/-- `ID_UID_LO.uid_lo` [31:0], RO, reset fuse, cleared by —: R5 (00_scope.md). -/
def F.ID_UID_LO_uid_lo : Fld := ⟨0x8, 0, 32, Rst.uidLo⟩
/-- `ID_UID_HI.uid_hi` [31:0], RO, reset fuse, cleared by —: R5 (00_scope.md). -/
def F.ID_UID_HI_uid_hi : Fld := ⟨0xc, 0, 32, Rst.uidHi⟩

/-! Block Bins. -/

/-- `HATCH_STATUS.usable` [0], RO, reset 0, cleared by DEVICE: R39 (01_stack_and_package.md). -/
def F.HATCH_STATUS_usable (i : Nat) : Fld := ⟨0x480000 + 16 * i, 0, 1, 0⟩
/-- `HATCH_STATUS.seg_fail` [3:1], RO, reset 0, cleared by DEVICE: R39 (01_stack_and_package.md). -/
def F.HATCH_STATUS_seg_fail (i : Nat) : Fld := ⟨0x480000 + 16 * i, 1, 3, 0⟩
/-- `HATCH_SPARE_S0.spare_used` [31:0], RO, reset 0, cleared by DEVICE: R39 (01_stack_and_package.md). -/
def F.HATCH_SPARE_S0_spare_used (i : Nat) : Fld := ⟨0x480004 + 16 * i, 0, 32, 0⟩
/-- `HATCH_SPARE_S1.spare_used` [31:0], RO, reset 0, cleared by DEVICE: R39 (01_stack_and_package.md). -/
def F.HATCH_SPARE_S1_spare_used (i : Nat) : Fld := ⟨0x480008 + 16 * i, 0, 32, 0⟩
/-- `HATCH_SPARE_S2.spare_used` [31:0], RO, reset 0, cleared by DEVICE: R39 (01_stack_and_package.md). -/
def F.HATCH_SPARE_S2_spare_used (i : Nat) : Fld := ⟨0x48000c + 16 * i, 0, 32, 0⟩
/-- `HATCH_CLKCOL.pair_degraded` [7:0], RO, reset 0, cleared by DEVICE: R39 (01_stack_and_package.md). -/
def F.HATCH_CLKCOL_pair_degraded : Fld := ⟨0x481000, 0, 8, 0⟩

/-! Block TimeBase. -/

/-- `TB_STATUS.state` [1:0], RO, reset 0b00, cleared by DEVICE: R77 (02_frame_time.md). -/
def F.TB_STATUS_state : Fld := ⟨0x10000, 0, 2, 0⟩
/-- `TB_STATUS.fp_valid` [2], RO, reset 0, cleared by DEVICE: R77 (02_frame_time.md). -/
def F.TB_STATUS_fp_valid : Fld := ⟨0x10000, 2, 1, 0⟩
/-- `TB_STATUS.phase_ref` [4:3], RO, reset 0, cleared by DEVICE: R77 (02_frame_time.md). -/
def F.TB_STATUS_phase_ref : Fld := ⟨0x10000, 3, 2, 0⟩
/-- `TB_STATUS.freq_src` [6:5], RO, reset 0, cleared by DEVICE: R77 (02_frame_time.md). -/
def F.TB_STATUS_freq_src : Fld := ⟨0x10000, 5, 2, 0⟩
/-- `TB_STATUS.tref_active` [7], RO, reset 0, cleared by DEVICE: R77 (02_frame_time.md). -/
def F.TB_STATUS_tref_active : Fld := ⟨0x10000, 7, 1, 0⟩
/-- `TB_STATUS.model_valid` [8], RO, reset 0, cleared by DEVICE: R77 (02_frame_time.md). -/
def F.TB_STATUS_model_valid : Fld := ⟨0x10000, 8, 1, 0⟩
/-- `TB_STATUS.model_order` [10:9], RO, reset 0, cleared by DEVICE: R77 (02_frame_time.md). -/
def F.TB_STATUS_model_order : Fld := ⟨0x10000, 9, 2, 0⟩
/-- `TB_STATUS.model_restored` [11], RO, reset 0, cleared by DEVICE: R77 (02_frame_time.md). -/
def F.TB_STATUS_model_restored : Fld := ⟨0x10000, 11, 1, 0⟩
/-- `TB_STATUS.extrap` [12], RO, reset 0, cleared by DEVICE: R77 (02_frame_time.md). -/
def F.TB_STATUS_extrap : Fld := ⟨0x10000, 12, 1, 0⟩
/-- `TB_STATUS.btemp_ok` [13], RO, reset 0, cleared by DEVICE: R77 (02_frame_time.md). -/
def F.TB_STATUS_btemp_ok : Fld := ⟨0x10000, 13, 1, 0⟩
/-- `TB_STATUS.step_pending` [14], RO, reset 0, cleared by DEVICE: R77 (02_frame_time.md). -/
def F.TB_STATUS_step_pending : Fld := ⟨0x10000, 14, 1, 0⟩
/-- `TB_STATUS.snap_stopped` [15], RO, reset 0, cleared by DEVICE: R77 (02_frame_time.md). -/
def F.TB_STATUS_snap_stopped : Fld := ⟨0x10000, 15, 1, 0⟩
/-- `TB_FP_LO.fp_lo` [31:0], RO, reset 0, cleared by DEVICE: R77 (02_frame_time.md). -/
def F.TB_FP_LO_fp_lo : Fld := ⟨0x10004, 0, 32, 0⟩
/-- `TB_FP_HI.fp_hi` [31:0], RO, reset 0, cleared by DEVICE: R77 (02_frame_time.md). -/
def F.TB_FP_HI_fp_hi : Fld := ⟨0x10008, 0, 32, 0⟩
/-- `TB_FP_FRAC.frac` [3:0], RO, reset 0, cleared by DEVICE: R77 (02_frame_time.md). -/
def F.TB_FP_FRAC_frac : Fld := ⟨0x1000c, 0, 4, 0⟩
/-- `TB_EPOCH_SEC_LO.sec_lo` [31:0], RO, reset 0, cleared by DEVICE: R77 (02_frame_time.md). -/
def F.TB_EPOCH_SEC_LO_sec_lo : Fld := ⟨0x10010, 0, 32, 0⟩
/-- `TB_EPOCH_SEC_HI.sec_hi` [15:0], RO, reset 0, cleared by DEVICE: R77 (02_frame_time.md). -/
def F.TB_EPOCH_SEC_HI_sec_hi : Fld := ⟨0x10014, 0, 16, 0⟩
/-- `TB_EPOCH_TK.o` [29:0], RO, reset 0, cleared by DEVICE: R77 (02_frame_time.md). -/
def F.TB_EPOCH_TK_o : Fld := ⟨0x10018, 0, 30, 0⟩
/-- `TB_REF_PRIO.prio0` [11:0], RW, reset 0, cleared by DEVICE: R77 (02_frame_time.md). -/
def F.TB_REF_PRIO_prio0 : Fld := ⟨0x10020, 0, 3, 0⟩
/-- `TB_REF_PRIO.prio1` [11:0], RW, reset 0, cleared by DEVICE: R77 (02_frame_time.md). -/
def F.TB_REF_PRIO_prio1 : Fld := ⟨0x10020, 3, 3, 0⟩
/-- `TB_REF_PRIO.prio2` [11:0], RW, reset 0, cleared by DEVICE: R77 (02_frame_time.md). -/
def F.TB_REF_PRIO_prio2 : Fld := ⟨0x10020, 6, 3, 0⟩
/-- `TB_REF_PRIO.prio3` [11:0], RW, reset 0, cleared by DEVICE: R77 (02_frame_time.md). -/
def F.TB_REF_PRIO_prio3 : Fld := ⟨0x10020, 9, 3, 0⟩
/-- `TB_REF_PRIO.tref_sel` [12], RW, reset 0, cleared by DEVICE: R77 (02_frame_time.md). -/
def F.TB_REF_PRIO_tref_sel : Fld := ⟨0x10020, 12, 1, 0⟩
/-- `TB_REF_PRIO.tref_alt_en` [13], RW, reset 1, cleared by DEVICE: R77 (02_frame_time.md). -/
def F.TB_REF_PRIO_tref_alt_en : Fld := ⟨0x10020, 13, 1, 1⟩
/-- `TB_REF_QUAL.qual` [5:0], RO, reset 0, cleared by DEVICE: R77 (02_frame_time.md). -/
def F.TB_REF_QUAL_qual : Fld := ⟨0x10024, 0, 6, 0⟩
/-- `TB_PTP_CFG.slave_lane` [6:0], RW, reset 0, cleared by DEVICE: R77 (02_frame_time.md). -/
def F.TB_PTP_CFG_slave_lane : Fld := ⟨0x10028, 0, 7, 0⟩
/-- `TB_PTP_CFG.domain` [15:8], RW, reset 24, cleared by DEVICE: R77 (02_frame_time.md). -/
def F.TB_PTP_CFG_domain : Fld := ⟨0x10028, 8, 8, 24⟩
/-- `TB_PTP_CFG.enable` [16], RW, reset 0, cleared by DEVICE: R77 (02_frame_time.md). -/
def F.TB_PTP_CFG_enable : Fld := ⟨0x10028, 16, 1, 0⟩
/-- `TB_SYNCE_CFG.lane` [6:0], RW, reset 0, cleared by DEVICE: R77 (02_frame_time.md). -/
def F.TB_SYNCE_CFG_lane : Fld := ⟨0x1002c, 0, 7, 0⟩
/-- `TB_SYNCE_CFG.enable` [7], RW, reset 0, cleared by DEVICE: R77 (02_frame_time.md). -/
def F.TB_SYNCE_CFG_enable : Fld := ⟨0x1002c, 7, 1, 0⟩
/-- `TB_SYNCE_CFG.min_ql` [11:8], RW, reset 0, cleared by DEVICE: R77 (02_frame_time.md). -/
def F.TB_SYNCE_CFG_min_ql : Fld := ⟨0x1002c, 8, 4, 0⟩
/-- `TB_SYNCE_CFG.ql_enforce` [12], RW, reset 0, cleared by DEVICE: R77 (02_frame_time.md). -/
def F.TB_SYNCE_CFG_ql_enforce : Fld := ⟨0x1002c, 12, 1, 0⟩
/-- `TB_SYNCE_CFG.y_s` [23:16], RW, reset 10, cleared by DEVICE: R77 (02_frame_time.md). -/
def F.TB_SYNCE_CFG_y_s : Fld := ⟨0x1002c, 16, 8, 10⟩
/-- `TB_PTP_MASTER0–3.lanes` [31:0], RW, reset 0, cleared by DEVICE: R77 (02_frame_time.md). -/
def F.TB_PTP_MASTER_lanes (i : Nat) : Fld := ⟨0x10030 + 4 * i, 0, 32, 0⟩
/-- `TB_LOOP_CFG.phase_bw` [2:0], RW, reset 3, cleared by DEVICE: R77 (02_frame_time.md). -/
def F.TB_LOOP_CFG_phase_bw : Fld := ⟨0x10040, 0, 3, 3⟩
/-- `TB_LOOP_CFG.freq_bw` [5:4], RW, reset 1, cleared by DEVICE: R77 (02_frame_time.md). -/
def F.TB_LOOP_CFG_freq_bw : Fld := ⟨0x10040, 4, 2, 1⟩
/-- `TB_LOOP_CFG.slew_ppb` [25:16], RW, reset 10, cleared by DEVICE: R77 (02_frame_time.md). -/
def F.TB_LOOP_CFG_slew_ppb : Fld := ⟨0x10040, 16, 10, 10⟩
/-- `TB_LOCK_CFG.lock_thr_ns` [9:0], RW, reset 50, cleared by DEVICE: R77 (02_frame_time.md). -/
def F.TB_LOCK_CFG_lock_thr_ns : Fld := ⟨0x10044, 0, 10, 50⟩
/-- `TB_LOCK_CFG.lock_time_s` [25:16], RW, reset 60, cleared by DEVICE: R77 (02_frame_time.md). -/
def F.TB_LOCK_CFG_lock_time_s : Fld := ⟨0x10044, 16, 10, 60⟩
/-- `TB_STEP_LIMIT.limit_ns` [29:0], RW, reset 1,000, cleared by DEVICE: R77 (02_frame_time.md). -/
def F.TB_STEP_LIMIT_limit_ns : Fld := ⟨0x10048, 0, 30, 1000⟩
/-- `TB_HOLD_CFG.avg_window_s` [11:0], RW, reset 300, cleared by DEVICE: R77 (02_frame_time.md). -/
def F.TB_HOLD_CFG_avg_window_s : Fld := ⟨0x1004c, 0, 12, 300⟩
/-- `TB_HOLD_CFG.te_limit_ns` [31:12], RW, reset 1,500, cleared by DEVICE: R77 (02_frame_time.md). -/
def F.TB_HOLD_CFG_te_limit_ns : Fld := ⟨0x1004c, 12, 20, 1500⟩
/-- `TB_OSC_GRADE.r_max` [7:0], RW, reset 50, cleared by DEVICE: R77 (02_frame_time.md). -/
def F.TB_OSC_GRADE_r_max : Fld := ⟨0x10050, 0, 8, 50⟩
/-- `TB_OSC_GRADE.k_t` [15:8], RW, reset 10, cleared by DEVICE: R77 (02_frame_time.md). -/
def F.TB_OSC_GRADE_k_t : Fld := ⟨0x10050, 8, 8, 10⟩
/-- `TB_OSC_GRADE.k_u` [23:16], RW, reset 10, cleared by DEVICE: R77 (02_frame_time.md). -/
def F.TB_OSC_GRADE_k_u : Fld := ⟨0x10050, 16, 8, 10⟩
/-- `TB_OSC_GRADE.ageing` [31:24], RW, reset 50, cleared by DEVICE: R77 (02_frame_time.md). -/
def F.TB_OSC_GRADE_ageing : Fld := ⟨0x10050, 24, 8, 50⟩
/-- `TB_Y0.y0` [15:0], RO, reset 0, cleared by DEVICE: R77 (02_frame_time.md). -/
def F.TB_Y0_y0 : Fld := ⟨0x10054, 0, 16, 0⟩
/-- `TB_PHASE_ERR.phase_err` [31:0], RO, reset 0, cleared by DEVICE: R77 (02_frame_time.md). -/
def F.TB_PHASE_ERR_phase_err : Fld := ⟨0x10058, 0, 32, 0⟩
/-- `TB_FREQ_CORR.corr` [31:0], RO, reset 0, cleared by DEVICE: R77 (02_frame_time.md). -/
def F.TB_FREQ_CORR_corr : Fld := ⟨0x1005c, 0, 32, 0⟩
/-- `TB_HOLD_TIME.seconds` [31:0], RO, reset 0, cleared by DEVICE: R77 (02_frame_time.md). -/
def F.TB_HOLD_TIME_seconds : Fld := ⟨0x10060, 0, 32, 0⟩
/-- `TB_TE_EST.te_est_ns` [31:0], RO, reset 0, cleared by DEVICE: R77 (02_frame_time.md). -/
def F.TB_TE_EST_te_est_ns : Fld := ⟨0x10064, 0, 32, 0⟩
/-- `TB_STEP_PENDING.offset_ns` [31:0], RO, reset 0, cleared by DEVICE: R77 (02_frame_time.md). -/
def F.TB_STEP_PENDING_offset_ns : Fld := ⟨0x10068, 0, 32, 0⟩
/-- `TB_CTRL.step_accept` [0], WO, reset 0, cleared by —: R77 (02_frame_time.md). -/
def F.TB_CTRL_step_accept : Fld := ⟨0x1006c, 0, 1, 0⟩
/-- `TB_BTEMP_CFG.i2c_addr` [6:0], RW, reset 0x48, cleared by DEVICE: R77 (02_frame_time.md). -/
def F.TB_BTEMP_CFG_i2c_addr : Fld := ⟨0x10070, 0, 7, 72⟩
/-- `TB_BTEMP_CFG.reg_ptr` [15:8], RW, reset 0, cleared by DEVICE: R77 (02_frame_time.md). -/
def F.TB_BTEMP_CFG_reg_ptr : Fld := ⟨0x10070, 8, 8, 0⟩
/-- `TB_BTEMP_CFG.format` [17:16], RW, reset 0, cleared by DEVICE: R77 (02_frame_time.md). -/
def F.TB_BTEMP_CFG_format : Fld := ⟨0x10070, 16, 2, 0⟩
/-- `TB_BTEMP_CFG.enable` [18], RW, reset 0, cleared by DEVICE: R77 (02_frame_time.md). -/
def F.TB_BTEMP_CFG_enable : Fld := ⟨0x10070, 18, 1, 0⟩
/-- `TB_BTEMP.temp` [15:0], RO, reset 0, cleared by DEVICE: R77 (02_frame_time.md). -/
def F.TB_BTEMP_temp : Fld := ⟨0x10074, 0, 16, 0⟩
/-- `TB_BTEMP.valid` [16], RO, reset 0, cleared by DEVICE: R77 (02_frame_time.md). -/
def F.TB_BTEMP_valid : Fld := ⟨0x10074, 16, 1, 0⟩
/-- `TB_MODEL_STATUS.hours` [15:0], RO, reset 0, cleared by DEVICE: R77 (02_frame_time.md). -/
def F.TB_MODEL_STATUS_hours : Fld := ⟨0x10078, 0, 16, 0⟩
/-- `TB_MODEL_STATUS.t_min` [23:16], RO, reset 0, cleared by DEVICE: R77 (02_frame_time.md). -/
def F.TB_MODEL_STATUS_t_min : Fld := ⟨0x10078, 16, 8, 0⟩
/-- `TB_MODEL_STATUS.t_max` [31:24], RO, reset 0, cleared by DEVICE: R77 (02_frame_time.md). -/
def F.TB_MODEL_STATUS_t_max : Fld := ⟨0x10078, 24, 8, 0⟩
/-- `TB_MODEL_CMD.export` [0], WO, reset 0, cleared by —: R77 (02_frame_time.md). -/
def F.TB_MODEL_CMD_export : Fld := ⟨0x1007c, 0, 1, 0⟩
/-- `TB_MODEL_CMD.import` [1], WO, reset 0, cleared by —: R77 (02_frame_time.md). -/
def F.TB_MODEL_CMD_import : Fld := ⟨0x1007c, 1, 1, 0⟩
/-- `TB_MODEL_CMD.discard` [2], WO, reset 0, cleared by —: R77 (02_frame_time.md). -/
def F.TB_MODEL_CMD_discard : Fld := ⟨0x1007c, 2, 1, 0⟩
/-- `TB_MODEL_CMD.tref_idx` [3], WO, reset 0, cleared by —: R77 (02_frame_time.md). -/
def F.TB_MODEL_CMD_tref_idx : Fld := ⟨0x1007c, 3, 1, 0⟩
/-- `TB_MODEL_WIN0–15.word` [31:0], RW, reset 0, cleared by DEVICE: R77 (02_frame_time.md). -/
def F.TB_MODEL_WIN_word (i : Nat) : Fld := ⟨0x10080 + 4 * i, 0, 32, 0⟩
/-- `TB_PPS_CFG.pps_en` [0], RW, reset 0, cleared by DEVICE: R77 (02_frame_time.md). -/
def F.TB_PPS_CFG_pps_en : Fld := ⟨0x100c0, 0, 1, 0⟩
/-- `TB_PPS_CFG.free_en` [1], RW, reset 0, cleared by DEVICE: R77 (02_frame_time.md). -/
def F.TB_PPS_CFG_free_en : Fld := ⟨0x100c0, 1, 1, 0⟩
/-- `TB_PPS_CFG.tod_out_en` [2], RW, reset 0, cleared by DEVICE: R77 (02_frame_time.md). -/
def F.TB_PPS_CFG_tod_out_en : Fld := ⟨0x100c0, 2, 1, 0⟩
/-- `TB_PPS_CFG.width_us` [15:3], RW, reset 100, cleared by DEVICE: R77 (02_frame_time.md). -/
def F.TB_PPS_CFG_width_us : Fld := ⟨0x100c0, 3, 13, 100⟩
/-- `TB_PPS_CFG.comp_ns` [31:16], RW, reset 0, cleared by DEVICE: R77 (02_frame_time.md). -/
def F.TB_PPS_CFG_comp_ns : Fld := ⟨0x100c0, 16, 16, 0⟩
/-- `TB_RCLK_CFG0–3.src` [4:0], RW, reset 0, cleared by DEVICE: R77 (02_frame_time.md). -/
def F.TB_RCLK_CFG_src (i : Nat) : Fld := ⟨0x100c4 + 4 * i, 0, 5, 0⟩
/-- `TB_RCLK_CFG0–3.div` [15:8], RW, reset 0, cleared by DEVICE: R77 (02_frame_time.md). -/
def F.TB_RCLK_CFG_div (i : Nat) : Fld := ⟨0x100c4 + 4 * i, 8, 8, 0⟩
/-- `TB_SYSREF_CFG0–3.mode` [1:0], RW, reset 0, cleared by DEVICE: R77 (02_frame_time.md). -/
def F.TB_SYSREF_CFG_mode (i : Nat) : Fld := ⟨0x100e0 + 4 * i, 0, 2, 0⟩
/-- `TB_SYSREF_CFG0–3.period_tk` [25:2], RW, reset 0, cleared by DEVICE: R77 (02_frame_time.md). -/
def F.TB_SYSREF_CFG_period_tk (i : Nat) : Fld := ⟨0x100e0 + 4 * i, 2, 24, 0⟩
/-- `TB_SYSREF_DLY0–3.coarse_tk` [23:0], RW, reset 0, cleared by DEVICE: R77 (02_frame_time.md). -/
def F.TB_SYSREF_DLY_coarse_tk (i : Nat) : Fld := ⟨0x100f0 + 4 * i, 0, 24, 0⟩
/-- `TB_SYSREF_DLY0–3.fine` [27:24], RW, reset 0, cleared by DEVICE: R77 (02_frame_time.md). -/
def F.TB_SYSREF_DLY_fine (i : Nat) : Fld := ⟨0x100f0 + 4 * i, 24, 4, 0⟩
/-- `TB_SYSREF_DLY0–3.gap_count` [31:28], RW, reset 0, cleared by DEVICE: R77 (02_frame_time.md). -/
def F.TB_SYSREF_DLY_gap_count (i : Nat) : Fld := ⟨0x100f0 + 4 * i, 28, 4, 0⟩
/-- `TB_SYSREF_ARM.arm` [3:0], WO, reset 0, cleared by —: R77 (02_frame_time.md). -/
def F.TB_SYSREF_ARM_arm : Fld := ⟨0x10100, 0, 4, 0⟩
/-- `TB_STEP_REJ_CNT.count` [31:0], RC, reset 0, cleared by DEVICE: R77 (02_frame_time.md). -/
def F.TB_STEP_REJ_CNT_count : Fld := ⟨0x10110, 0, 32, 0⟩
/-- `TB_TRG_INDEX.index` [11:0], RW, reset 0, cleared by DEVICE: R77 (02_frame_time.md). -/
def F.TB_TRG_INDEX_index : Fld := ⟨0x10200, 0, 12, 0⟩
/-- `TB_TRG_DATA0–7.data` [31:0], RW, reset 0, cleared by DEVICE: R77 (02_frame_time.md). -/
def F.TB_TRG_DATA_data (i : Nat) : Fld := ⟨0x10204 + 4 * i, 0, 32, 0⟩
/-- `TB_TRG_CMD.read` [0], WO, reset 0, cleared by —: R77 (02_frame_time.md). -/
def F.TB_TRG_CMD_read : Fld := ⟨0x10224, 0, 1, 0⟩
/-- `TB_TRG_CMD.commit` [1], WO, reset 0, cleared by —: R77 (02_frame_time.md). -/
def F.TB_TRG_CMD_commit : Fld := ⟨0x10224, 1, 1, 0⟩
/-- `TB_TRG_CMD.keep_phase` [2], WO, reset 0, cleared by —: R77 (02_frame_time.md). -/
def F.TB_TRG_CMD_keep_phase : Fld := ⟨0x10224, 2, 1, 0⟩
/-- `TB_TRG_STATUS.busy` [0], RO, reset 0, cleared by DEVICE: R77 (02_frame_time.md). -/
def F.TB_TRG_STATUS_busy : Fld := ⟨0x10228, 0, 1, 0⟩
/-- `TB_TRG_STATUS.last_refused` [1], RO, reset 0, cleared by DEVICE: R77 (02_frame_time.md). -/
def F.TB_TRG_STATUS_last_refused : Fld := ⟨0x10228, 1, 1, 0⟩
/-- `TB_TRG_STATUS.armed` [2], RO, reset 0, cleared by DEVICE: R77 (02_frame_time.md). -/
def F.TB_TRG_STATUS_armed : Fld := ⟨0x10228, 2, 1, 0⟩

/-! Block Clocks. -/

/-- `CLK_MON_STATUS0–42.state` [1:0], RO, reset 0b00, cleared by DEVICE: R100 (03_clocks.md). -/
def F.CLK_MON_STATUS_state (i : Nat) : Fld := ⟨0x20000 + 4 * i, 0, 2, 0⟩
/-- `CLK_MON_STATUS0–42.coarse_only` [2], RO, reset 0, cleared by DEVICE: R100 (03_clocks.md). -/
def F.CLK_MON_STATUS_coarse_only (i : Nat) : Fld := ⟨0x20000 + 4 * i, 2, 1, 0⟩
/-- `CLK_MON_STATUS0–42.disagree` [3], RO, reset 0, cleared by DEVICE: R100 (03_clocks.md). -/
def F.CLK_MON_STATUS_disagree (i : Nat) : Fld := ⟨0x20000 + 4 * i, 3, 1, 0⟩
/-- `CLK_MON_STATUS0–42.stopped` [4], RO, reset 0, cleared by DEVICE: R100 (03_clocks.md). -/
def F.CLK_MON_STATUS_stopped (i : Nat) : Fld := ⟨0x20000 + 4 * i, 4, 1, 0⟩
/-- `CLK_MON_COUNT0–42.count` [31:0], RO, reset 0, cleared by DEVICE: R100 (03_clocks.md). -/
def F.CLK_MON_COUNT_count (i : Nat) : Fld := ⟨0x20100 + 4 * i, 0, 32, 0⟩
/-- `CLK_MON_CFG0–42.fine_ref` [5:0], RW, reset R82, cleared by DEVICE: R100 (03_clocks.md). -/
def F.CLK_MON_CFG_fine_ref (i : Nat) : Fld := ⟨0x20200 + 4 * i, 0, 6, (Rst.monFineRef i)⟩
/-- `CLK_MON_CFG0–42.enable` [6], RW, reset 1, cleared by DEVICE: R100 (03_clocks.md). -/
def F.CLK_MON_CFG_enable (i : Nat) : Fld := ⟨0x20200 + 4 * i, 6, 1, 1⟩
/-- `CLK_MON_CFG0–42.coarse_tol` [15:8], RW, reset 60, cleared by DEVICE: R100 (03_clocks.md). -/
def F.CLK_MON_CFG_coarse_tol (i : Nat) : Fld := ⟨0x20200 + 4 * i, 8, 8, 60⟩
/-- `CLK_MON_CFG0–42.fine_tol` [31:16], RW, reset 20, cleared by DEVICE: R100 (03_clocks.md). -/
def F.CLK_MON_CFG_fine_tol (i : Nat) : Fld := ⟨0x20200 + 4 * i, 16, 16, 20⟩
/-- `CLK_MON_FREQ_LO0–42.freq_lo` [31:0], RW, reset 0, cleared by DEVICE: R100 (03_clocks.md). -/
def F.CLK_MON_FREQ_LO_freq_lo (i : Nat) : Fld := ⟨0x20300 + 8 * i, 0, 32, 0⟩
/-- `CLK_MON_FREQ_HI0–42.freq_hi` [15:0], RW, reset 0, cleared by DEVICE: R100 (03_clocks.md). -/
def F.CLK_MON_FREQ_HI_freq_hi (i : Nat) : Fld := ⟨0x20304 + 8 * i, 0, 16, 0⟩
/-- `CLK_MON_LOSS_CNT0–42.losses` [15:0], RC, reset 0, cleared by DEVICE: R100 (03_clocks.md). -/
def F.CLK_MON_LOSS_CNT_losses (i : Nat) : Fld := ⟨0x20500 + 4 * i, 0, 16, 0⟩
/-- `CLK_TB_CFG.fb_src` [4:0], RW, reset 0, cleared by DEVICE: R100 (03_clocks.md). -/
def F.CLK_TB_CFG_fb_src : Fld := ⟨0x20600, 0, 5, 0⟩
/-- `CLK_TB_CFG.fb_en` [5], RW, reset 0, cleared by DEVICE: R100 (03_clocks.md). -/
def F.CLK_TB_CFG_fb_en : Fld := ⟨0x20600, 5, 1, 0⟩
/-- `CLK_TB_STATUS.input` [1:0], RO, reset 0b11, cleared by DEVICE: R100 (03_clocks.md). -/
def F.CLK_TB_STATUS_input : Fld := ⟨0x20604, 0, 2, 3⟩
/-- `CLK_TB_STATUS.pll_lock` [2], RO, reset 0, cleared by DEVICE: R100 (03_clocks.md). -/
def F.CLK_TB_STATUS_pll_lock : Fld := ⟨0x20604, 2, 1, 0⟩
/-- `CLK_AUX_CFG0–3.out_freq` [24:0], RW, reset 0, cleared by DEVICE: R100 (03_clocks.md). -/
def F.CLK_AUX_CFG_out_freq (i : Nat) : Fld := ⟨0x20610 + 4 * i, 0, 25, 0⟩
/-- `CLK_AUX_CFG0–3.enable` [25], RW, reset 0, cleared by DEVICE: R100 (03_clocks.md). -/
def F.CLK_AUX_CFG_enable (i : Nat) : Fld := ⟨0x20610 + 4 * i, 25, 1, 0⟩
/-- `CLK_AUX_CFG0–3.ref` [30:26], RW, reset 0, cleared by DEVICE: R100 (03_clocks.md). -/
def F.CLK_AUX_CFG_ref (i : Nat) : Fld := ⟨0x20610 + 4 * i, 26, 5, 0⟩
/-- `CLK_RC_STATUS.rc1_src` [4:0], RO, reset 0, cleared by DEVICE: R100 (03_clocks.md). -/
def F.CLK_RC_STATUS_rc1_src (i : Nat) : Fld := ⟨0x20700 + 16 * i, 0, 5, 0⟩
/-- `CLK_RC_STATUS.rc2_src` [9:5], RO, reset 0, cleared by DEVICE: R100 (03_clocks.md). -/
def F.CLK_RC_STATUS_rc2_src (i : Nat) : Fld := ⟨0x20700 + 16 * i, 5, 5, 0⟩
/-- `CLK_RC_STATUS.rc3_src` [14:10], RO, reset 0, cleared by DEVICE: R100 (03_clocks.md). -/
def F.CLK_RC_STATUS_rc3_src (i : Nat) : Fld := ⟨0x20700 + 16 * i, 10, 5, 0⟩
/-- `CLK_RC_STATUS.held` [17:15], RO, reset 0, cleared by DEVICE: R100 (03_clocks.md). -/
def F.CLK_RC_STATUS_held (i : Nat) : Fld := ⟨0x20700 + 16 * i, 15, 3, 0⟩
/-- `CLK_RC_STATUS.switch_busy` [20:18], RO, reset 0, cleared by DEVICE: R100 (03_clocks.md). -/
def F.CLK_RC_STATUS_switch_busy (i : Nat) : Fld := ⟨0x20700 + 16 * i, 18, 3, 0⟩
/-- `CLK_RC_CFG1–3.src` [4:0], RW, reset 0, cleared by DEVICE: R100 (03_clocks.md). -/
def F.CLK_RC_CFG_src (i j : Nat) : Fld := ⟨0x20704 + 16 * i + 4 * j, 0, 5, 0⟩
/-- `CLK_RC_CFG1–3.div` [7:5], RW, reset 0, cleared by DEVICE: R100 (03_clocks.md). -/
def F.CLK_RC_CFG_div (i j : Nat) : Fld := ⟨0x20704 + 16 * i + 4 * j, 5, 3, 0⟩
/-- `CLK_RC_CFG1–3.fb_src` [12:8], RW, reset 0x1F, cleared by DEVICE: R100 (03_clocks.md). -/
def F.CLK_RC_CFG_fb_src (i j : Nat) : Fld := ⟨0x20704 + 16 * i + 4 * j, 8, 5, 31⟩
/-- `CLK_LGRP_CFG0–15.ref_sel` [1:0], RW, reset 0, cleared by DEVICE: R100 (03_clocks.md). -/
def F.CLK_LGRP_CFG_ref_sel (i : Nat) : Fld := ⟨0x20900 + 4 * i, 0, 2, 0⟩
/-- `CLK_LGRP_CFG0–15.rec_grp` [7:4], RW, reset 0, cleared by DEVICE: R100 (03_clocks.md). -/
def F.CLK_LGRP_CFG_rec_grp (i : Nat) : Fld := ⟨0x20900 + 4 * i, 4, 4, 0⟩
/-- `CLK_LGRP_CFG0–15.fb_sel` [9:8], RW, reset 3, cleared by DEVICE: R100 (03_clocks.md). -/
def F.CLK_LGRP_CFG_fb_sel (i : Nat) : Fld := ⟨0x20900 + 4 * i, 8, 2, 3⟩
/-- `CLK_LGRP_CFG0–15.fb_rec_grp` [15:12], RW, reset 0, cleared by DEVICE: R100 (03_clocks.md). -/
def F.CLK_LGRP_CFG_fb_rec_grp (i : Nat) : Fld := ⟨0x20900 + 4 * i, 12, 4, 0⟩
/-- `CLK_GATE_EN0–320.run_en` [0], RW, reset 1, cleared by DEVICE: R100 (03_clocks.md). -/
def F.CLK_GATE_EN_run_en (i : Nat) : Fld := ⟨0x20a00 + 4 * i, 0, 1, 1⟩
/-- `CLK_GATE_EN0–320.sleep_en` [1], RW, reset 0, cleared by DEVICE: R100 (03_clocks.md). -/
def F.CLK_GATE_EN_sleep_en (i : Nat) : Fld := ⟨0x20a00 + 4 * i, 1, 1, 0⟩
/-- `CLK_GATE_EN0–320.deep_en` [2], RW, reset 0, cleared by DEVICE: R100 (03_clocks.md). -/
def F.CLK_GATE_EN_deep_en (i : Nat) : Fld := ⟨0x20a00 + 4 * i, 2, 1, 0⟩
/-- `CLK_GATE_EN0–320.open` [4], RO, reset 0, cleared by DEVICE: R100 (03_clocks.md). -/
def F.CLK_GATE_EN_open (i : Nat) : Fld := ⟨0x20a00 + 4 * i, 4, 1, 0⟩
/-- `CLK_GATE_TERM_INFO.gate` [8:0], RO, reset 0, cleared by DEVICE: R100 (03_clocks.md). -/
def F.CLK_GATE_TERM_INFO_gate : Fld := ⟨0x20f10, 0, 9, 0⟩
/-- `CLK_GATE_TERM_INFO.requester` [25:16], RO, reset 0, cleared by DEVICE: R100 (03_clocks.md). -/
def F.CLK_GATE_TERM_INFO_requester : Fld := ⟨0x20f10, 16, 10, 0⟩
/-- `CLK_GATE_TERM_CNT.count` [15:0], RC, reset 0, cleared by DEVICE: R100 (03_clocks.md). -/
def F.CLK_GATE_TERM_CNT_count : Fld := ⟨0x20f14, 0, 16, 0⟩
/-- `CLK_GATE_CLOSED_CNT.count` [31:0], RC, reset 0, cleared by DEVICE: R100 (03_clocks.md). -/
def F.CLK_GATE_CLOSED_CNT_count : Fld := ⟨0x20f18, 0, 32, 0⟩
/-- `CLK_SWITCH_FORCED_CNT.count` [15:0], RC, reset 0, cleared by DEVICE: R100 (03_clocks.md). -/
def F.CLK_SWITCH_FORCED_CNT_count : Fld := ⟨0x20f1c, 0, 16, 0⟩

/-! Block Bins. -/

/-- `FAB_BIN_STATUS.kind` [1:0], RO, reset 0b00, cleared by DEVICE: R130 (04_fabric.md). -/
def F.FAB_BIN_STATUS_kind (i : Nat) : Fld := ⟨0x400000 + 256 * i, 0, 2, 0⟩
/-- `FAB_BIN_STATUS.retired` [2], RO, reset 0, cleared by DEVICE: R130 (04_fabric.md). -/
def F.FAB_BIN_STATUS_retired (i : Nat) : Fld := ⟨0x400000 + 256 * i, 2, 1, 0⟩
/-- `FAB_BIN_STATUS.held` [3], RO, reset 0, cleared by BIN: R130 (04_fabric.md). -/
def F.FAB_BIN_STATUS_held (i : Nat) : Fld := ⟨0x400000 + 256 * i, 3, 1, 0⟩
/-- `FAB_BIN_STATUS.logical` [12:4], RO, reset 0x1FF, cleared by DEVICE: R130 (04_fabric.md). -/
def F.FAB_BIN_STATUS_logical (i : Nat) : Fld := ⟨0x400000 + 256 * i, 4, 9, 511⟩
/-- `FAB_BIN_STATUS.pool` [18:13], RO, reset 0x3F, cleared by DEVICE: R130 (04_fabric.md). -/
def F.FAB_BIN_STATUS_pool (i : Nat) : Fld := ⟨0x400000 + 256 * i, 13, 6, 63⟩
/-- `FAB_BIN_STATUS.ctx` [21:19], RO, reset 0, cleared by BIN: R130 (04_fabric.md). -/
def F.FAB_BIN_STATUS_ctx (i : Nat) : Fld := ⟨0x400000 + 256 * i, 19, 3, 0⟩
/-- `FAB_BIN_STATUS.lane_att` [22], RO, reset 0, cleared by DEVICE: R130 (04_fabric.md). -/
def F.FAB_BIN_STATUS_lane_att (i : Nat) : Fld := ⟨0x400000 + 256 * i, 22, 1, 0⟩
/-- `FAB_TILE_CLK0.clk` [31:0], RO, reset 0, cleared by DEVICE: R130 (04_fabric.md). -/
def F.FAB_TILE_CLK0_clk (i : Nat) : Fld := ⟨0x400004 + 256 * i, 0, 32, 0⟩
/-- `FAB_TILE_CLK1.clk` [31:0], RO, reset 0, cleared by DEVICE: R130 (04_fabric.md). -/
def F.FAB_TILE_CLK1_clk (i : Nat) : Fld := ⟨0x400008 + 256 * i, 0, 32, 0⟩
/-- `FAB_CORR_USE.out_used` [15:0], RO, reset 0, cleared by DEVICE: R130 (04_fabric.md). -/
def F.FAB_CORR_USE_out_used (i : Nat) : Fld := ⟨0x40000c + 256 * i, 0, 16, 0⟩
/-- `FAB_CORR_USE.pass_used` [31:16], RO, reset 0, cleared by DEVICE: R130 (04_fabric.md). -/
def F.FAB_CORR_USE_pass_used (i : Nat) : Fld := ⟨0x40000c + 256 * i, 16, 16, 0⟩
/-- `FAB_LANE.lane` [6:0], RO, reset 0, cleared by DEVICE: R130 (04_fabric.md). -/
def F.FAB_LANE_lane (i : Nat) : Fld := ⟨0x400010 + 256 * i, 0, 7, 0⟩
/-- `FAB_CANARY.margin` [9:0], RO, reset 0, cleared by DEVICE: R130 (04_fabric.md). -/
def F.FAB_CANARY_margin (i : Nat) : Fld := ⟨0x400014 + 256 * i, 0, 10, 0⟩
/-- `FAB_CONT_CNT.count` [15:0], RC, reset 0, cleared by DEVICE: R130 (04_fabric.md). -/
def F.FAB_CONT_CNT_count (i : Nat) : Fld := ⟨0x400018 + 256 * i, 0, 16, 0⟩
/-- `FAB_MAP0–255.physical` [8:0], RO, reset R117, cleared by DEVICE: R130 (04_fabric.md). -/
def F.FAB_MAP_physical (i : Nat) : Fld := ⟨0x490000 + 4 * i, 0, 9, (Rst.mapDefault i)⟩
/-- `FAB_MAP0–255.moved` [9], RO, reset 0, cleared by DEVICE: R130 (04_fabric.md). -/
def F.FAB_MAP_moved (i : Nat) : Fld := ⟨0x490000 + 4 * i, 9, 1, 0⟩
/-- `FAB_HATCH_CONT0–5.disabled` [31:0], RO, reset 0, cleared by DEVICE: R130 (04_fabric.md). -/
def F.FAB_HATCH_CONT_disabled (i j : Nat) : Fld := ⟨0x491000 + 32 * i + 4 * j, 0, 32, 0⟩
/-- `FAB_HATCH_CONT_INFO.last_wire` [7:0], RO, reset 0, cleared by DEVICE: R130 (04_fabric.md). -/
def F.FAB_HATCH_CONT_INFO_last_wire (i : Nat) : Fld := ⟨0x491018 + 32 * i, 0, 8, 0⟩
/-- `FAB_HATCH_CONT_INFO.held_cnt` [15:8], RO, reset 0, cleared by DEVICE: R130 (04_fabric.md). -/
def F.FAB_HATCH_CONT_INFO_held_cnt (i : Nat) : Fld := ⟨0x491018 + 32 * i, 8, 8, 0⟩
/-- `FAB_HATCH_CONT_CNT.count` [15:0], RC, reset 0, cleared by DEVICE: R130 (04_fabric.md). -/
def F.FAB_HATCH_CONT_CNT_count (i : Nat) : Fld := ⟨0x49101c + 32 * i, 0, 16, 0⟩
/-- `BIN_CTX_CFG.start_ctx` [2:0], RO, reset 0, cleared by DEVICE: R157 (05_contexts.md). -/
def F.BIN_CTX_CFG_start_ctx (i : Nat) : Fld := ⟨0x400040 + 256 * i, 0, 3, 0⟩
/-- `BIN_CTX_CFG.ev_sev_max` [5:3], RO, reset 4, cleared by DEVICE: R157 (05_contexts.md). -/
def F.BIN_CTX_CFG_ev_sev_max (i : Nat) : Fld := ⟨0x400040 + 256 * i, 3, 3, 4⟩
/-- `BIN_CTX_CFG.ctx_loaded` [15:8], RO, reset 0, cleared by DEVICE: R157 (05_contexts.md). -/
def F.BIN_CTX_CFG_ctx_loaded (i : Nat) : Fld := ⟨0x400040 + 256 * i, 8, 8, 0⟩
/-- `BIN_SEQ_STATUS.state` [2:0], RO, reset 0, cleared by BIN: R157 (05_contexts.md). -/
def F.BIN_SEQ_STATUS_state (i : Nat) : Fld := ⟨0x400044 + 256 * i, 0, 3, 0⟩
/-- `BIN_SEQ_STATUS.ctx` [5:3], RO, reset 0, cleared by BIN: R157 (05_contexts.md). -/
def F.BIN_SEQ_STATUS_ctx (i : Nat) : Fld := ⟨0x400044 + 256 * i, 3, 3, 0⟩
/-- `BIN_SEQ_STATUS.active_slot` [6], RO, reset 0, cleared by BIN: R157 (05_contexts.md). -/
def F.BIN_SEQ_STATUS_active_slot (i : Nat) : Fld := ⟨0x400044 + 256 * i, 6, 1, 0⟩
/-- `BIN_SEQ_STATUS.slot0` [9:7], RO, reset 0, cleared by DEVICE: R157 (05_contexts.md). -/
def F.BIN_SEQ_STATUS_slot0 (i : Nat) : Fld := ⟨0x400044 + 256 * i, 7, 3, 0⟩
/-- `BIN_SEQ_STATUS.slot1` [12:10], RO, reset 0, cleared by DEVICE: R157 (05_contexts.md). -/
def F.BIN_SEQ_STATUS_slot1 (i : Nat) : Fld := ⟨0x400044 + 256 * i, 10, 3, 0⟩
/-- `BIN_SEQ_STATUS.gen` [13], RO, reset 0, cleared by DEVICE: R157 (05_contexts.md). -/
def F.BIN_SEQ_STATUS_gen (i : Nat) : Fld := ⟨0x400044 + 256 * i, 13, 1, 0⟩
/-- `BIN_SEQ_STATUS.hatch_out` [17:14], RO, reset 0, cleared by DEVICE: R157 (05_contexts.md). -/
def F.BIN_SEQ_STATUS_hatch_out (i : Nat) : Fld := ⟨0x400044 + 256 * i, 14, 4, 0⟩
/-- `BIN_ITEM_CLASS.class` [5:0], RO, reset 0, cleared by BIN: R157 (05_contexts.md). -/
def F.BIN_ITEM_CLASS_class (i : Nat) : Fld := ⟨0x400048 + 256 * i, 0, 6, 0⟩
/-- `BIN_ITEM_CLASS.spawns` [8:6], RO, reset 0, cleared by BIN: R157 (05_contexts.md). -/
def F.BIN_ITEM_CLASS_spawns (i : Nat) : Fld := ⟨0x400048 + 256 * i, 6, 3, 0⟩
/-- `BIN_ITEM_SEQ.seq` [31:0], RO, reset 0, cleared by BIN: R157 (05_contexts.md). -/
def F.BIN_ITEM_SEQ_seq (i : Nat) : Fld := ⟨0x40004c + 256 * i, 0, 32, 0⟩
/-- `BIN_ITEM_START_LO.fp_lo` [31:0], RO, reset 0, cleared by BIN: R157 (05_contexts.md). -/
def F.BIN_ITEM_START_LO_fp_lo (i : Nat) : Fld := ⟨0x400050 + 256 * i, 0, 32, 0⟩
/-- `BIN_ITEM_START_HI.fp_hi` [31:0], RO, reset 0, cleared by BIN: R157 (05_contexts.md). -/
def F.BIN_ITEM_START_HI_fp_hi (i : Nat) : Fld := ⟨0x400054 + 256 * i, 0, 32, 0⟩
/-- `BIN_BUDGET_LEFT.left` [31:0], RO, reset 0, cleared by BIN: R157 (05_contexts.md). -/
def F.BIN_BUDGET_LEFT_left (i : Nat) : Fld := ⟨0x400058 + 256 * i, 0, 32, 0⟩
/-- `BIN_DONE_CNT.count` [31:0], RC, reset 0, cleared by DEVICE: R157 (05_contexts.md). -/
def F.BIN_DONE_CNT_count (i : Nat) : Fld := ⟨0x400060 + 256 * i, 0, 32, 0⟩
/-- `BIN_KILL_CNT.count` [15:0], RC, reset 0, cleared by DEVICE: R157 (05_contexts.md). -/
def F.BIN_KILL_CNT_count (i : Nat) : Fld := ⟨0x400064 + 256 * i, 0, 16, 0⟩
/-- `BIN_KILL_INFO.class` [5:0], RO, reset 0, cleared by DEVICE: R157 (05_contexts.md). -/
def F.BIN_KILL_INFO_class (i : Nat) : Fld := ⟨0x400068 + 256 * i, 0, 6, 0⟩
/-- `BIN_KILL_INFO.reason` [9:8], RO, reset 0, cleared by DEVICE: R157 (05_contexts.md). -/
def F.BIN_KILL_INFO_reason (i : Nat) : Fld := ⟨0x400068 + 256 * i, 8, 2, 0⟩
/-- `BIN_KILL_SEQ.seq` [31:0], RO, reset 0, cleared by DEVICE: R157 (05_contexts.md). -/
def F.BIN_KILL_SEQ_seq (i : Nat) : Fld := ⟨0x40006c + 256 * i, 0, 32, 0⟩
/-- `BIN_SPAWN_DROP_CNT.count` [15:0], RC, reset 0, cleared by DEVICE: R157 (05_contexts.md). -/
def F.BIN_SPAWN_DROP_CNT_count (i : Nat) : Fld := ⟨0x400070 + 256 * i, 0, 16, 0⟩
/-- `BIN_EV_DROP_CNT.count` [15:0], RC, reset 0, cleared by DEVICE: R157 (05_contexts.md). -/
def F.BIN_EV_DROP_CNT_count (i : Nat) : Fld := ⟨0x400074 + 256 * i, 0, 16, 0⟩
/-- `BIN_TRAY_COLL_CNT.count` [15:0], RC, reset 0, cleared by DEVICE: R157 (05_contexts.md). -/
def F.BIN_TRAY_COLL_CNT_count (i : Nat) : Fld := ⟨0x400078 + 256 * i, 0, 16, 0⟩
/-- `BIN_PORT_IGN_CNT.count` [15:0], RC, reset 0, cleared by DEVICE: R157 (05_contexts.md). -/
def F.BIN_PORT_IGN_CNT_count (i : Nat) : Fld := ⟨0x40007c + 256 * i, 0, 16, 0⟩
/-- `BIN_PORT_IGN_CNT.last_reason` [19:16], RC, reset 0, cleared by DEVICE: R157 (05_contexts.md). -/
def F.BIN_PORT_IGN_CNT_last_reason (i : Nat) : Fld := ⟨0x40007c + 256 * i, 16, 4, 0⟩
/-- `BIN_RUN_TK_LO.ticks_lo` [31:0], RO, reset 0, cleared by DEVICE: R157 (05_contexts.md). -/
def F.BIN_RUN_TK_LO_ticks_lo (i : Nat) : Fld := ⟨0x400080 + 256 * i, 0, 32, 0⟩
/-- `BIN_RUN_TK_HI.ticks_hi` [31:0], RO, reset 0, cleared by DEVICE: R157 (05_contexts.md). -/
def F.BIN_RUN_TK_HI_ticks_hi (i : Nat) : Fld := ⟨0x400084 + 256 * i, 0, 32, 0⟩
/-- `BIN_CTX_SEL_CNT.count` [31:0], RC, reset 0, cleared by DEVICE: R157 (05_contexts.md). -/
def F.BIN_CTX_SEL_CNT_count (i : Nat) : Fld := ⟨0x400088 + 256 * i, 0, 32, 0⟩

/-! Block Scheduler. -/

/-- `SCH_STATUS.used` [13:0], RO, reset 0, cleared by DEVICE: R184 (06_scheduler.md). -/
def F.SCH_STATUS_used : Fld := ⟨0x40000, 0, 14, 0⟩
/-- `SCH_STATUS.shared_free` [29:16], RO, reset 0, cleared by DEVICE: R184 (06_scheduler.md). -/
def F.SCH_STATUS_shared_free : Fld := ⟨0x40000, 16, 14, 0⟩
/-- `SCH_SHARED.shared_size` [13:0], RO, reset 0, cleared by DEVICE: R184 (06_scheduler.md). -/
def F.SCH_SHARED_shared_size : Fld := ⟨0x40004, 0, 14, 0⟩
/-- `SCH_SUBMIT_D0–D7.data` [31:0], RW, reset 0, cleared by DEVICE: R184 (06_scheduler.md). -/
def F.SCH_SUBMIT_D_data (i : Nat) : Fld := ⟨0x40010 + 4 * i, 0, 32, 0⟩
/-- `SCH_SUBMIT_CMD.go` [0], WO, reset 0, cleared by —: R184 (06_scheduler.md). -/
def F.SCH_SUBMIT_CMD_go : Fld := ⟨0x40030, 0, 1, 0⟩
/-- `SCH_SUBMIT_CMD.auto_seq` [1], WO, reset 0, cleared by —: R184 (06_scheduler.md). -/
def F.SCH_SUBMIT_CMD_auto_seq : Fld := ⟨0x40030, 1, 1, 0⟩
/-- `SCH_SUBMIT_STATUS.busy` [0], RO, reset 0, cleared by DEVICE: R184 (06_scheduler.md). -/
def F.SCH_SUBMIT_STATUS_busy : Fld := ⟨0x40034, 0, 1, 0⟩
/-- `SCH_SUBMIT_STATUS.result` [7:4], RO, reset 0, cleared by DEVICE: R184 (06_scheduler.md). -/
def F.SCH_SUBMIT_STATUS_result : Fld := ⟨0x40034, 4, 4, 0⟩
/-- `SCH_CLASS_CFG.defined` [0], RO, reset 0, cleared by DEVICE: R184 (06_scheduler.md). -/
def F.SCH_CLASS_CFG_defined (i : Nat) : Fld := ⟨0x41000 + 128 * i, 0, 1, 0⟩
/-- `SCH_CLASS_CFG.mode` [1], RO, reset 0, cleared by DEVICE: R184 (06_scheduler.md). -/
def F.SCH_CLASS_CFG_mode (i : Nat) : Fld := ⟨0x41000 + 128 * i, 1, 1, 0⟩
/-- `SCH_CLASS_CFG.pool` [6:2], RO, reset 0, cleared by DEVICE: R184 (06_scheduler.md). -/
def F.SCH_CLASS_CFG_pool (i : Nat) : Fld := ⟨0x41000 + 128 * i, 2, 5, 0⟩
/-- `SCH_CLASS_CFG.kernel` [9:7], RO, reset 0, cleared by DEVICE: R184 (06_scheduler.md). -/
def F.SCH_CLASS_CFG_kernel (i : Nat) : Fld := ⟨0x41000 + 128 * i, 7, 3, 0⟩
/-- `SCH_CLASS_CFG.max_succ` [12:10], RO, reset 0, cleared by DEVICE: R184 (06_scheduler.md). -/
def F.SCH_CLASS_CFG_max_succ (i : Nat) : Fld := ⟨0x41000 + 128 * i, 10, 3, 0⟩
/-- `SCH_CLASS_CFG.late` [13], RO, reset 0, cleared by DEVICE: R184 (06_scheduler.md). -/
def F.SCH_CLASS_CFG_late (i : Nat) : Fld := ⟨0x41000 + 128 * i, 13, 1, 0⟩
/-- `SCH_CLASS_CFG.origins` [17:14], RO, reset 0, cleared by DEVICE: R184 (06_scheduler.md). -/
def F.SCH_CLASS_CFG_origins (i : Nat) : Fld := ⟨0x41000 + 128 * i, 14, 4, 0⟩
/-- `SCH_CLASS_CFG.n_m1` [21:18], RO, reset 0, cleared by DEVICE: R184 (06_scheduler.md). -/
def F.SCH_CLASS_CFG_n_m1 (i : Nat) : Fld := ⟨0x41000 + 128 * i, 18, 4, 0⟩
/-- `SCH_CLASS_CFG.origin_rp` [22], RO, reset 0, cleared by DEVICE: R184 (06_scheduler.md). -/
def F.SCH_CLASS_CFG_origin_rp (i : Nat) : Fld := ⟨0x41000 + 128 * i, 22, 1, 0⟩
/-- `SCH_CLASS_BUDGET.c_tk` [31:0], RO, reset 0, cleared by DEVICE: R184 (06_scheduler.md). -/
def F.SCH_CLASS_BUDGET_c_tk (i : Nat) : Fld := ⟨0x41004 + 128 * i, 0, 32, 0⟩
/-- `SCH_CLASS_DEADLINE.d_tk` [31:0], RO, reset 0, cleared by DEVICE: R184 (06_scheduler.md). -/
def F.SCH_CLASS_DEADLINE_d_tk (i : Nat) : Fld := ⟨0x41008 + 128 * i, 0, 32, 0⟩
/-- `SCH_CLASS_PERIOD.t_tk` [31:0], RO, reset 0, cleared by DEVICE: R184 (06_scheduler.md). -/
def F.SCH_CLASS_PERIOD_t_tk (i : Nat) : Fld := ⟨0x4100c + 128 * i, 0, 32, 0⟩
/-- `SCH_CLASS_ENERGY.e_nj` [31:0], RO, reset 0, cleared by DEVICE: R184 (06_scheduler.md). -/
def F.SCH_CLASS_ENERGY_e_nj (i : Nat) : Fld := ⟨0x41010 + 128 * i, 0, 32, 0⟩
/-- `SCH_CLASS_INPUT.in_units` [10:0], RO, reset 0, cleared by DEVICE: R184 (06_scheduler.md). -/
def F.SCH_CLASS_INPUT_in_units (i : Nat) : Fld := ⟨0x41014 + 128 * i, 0, 11, 0⟩
/-- `SCH_CLASS_RES.res` [13:0], RO, reset 0, cleared by DEVICE: R184 (06_scheduler.md). -/
def F.SCH_CLASS_RES_res (i : Nat) : Fld := ⟨0x41018 + 128 * i, 0, 14, 0⟩
/-- `SCH_CLASS_TPL_IN.in_addr` [22:0], RO, reset 0, cleared by DEVICE: R184 (06_scheduler.md). -/
def F.SCH_CLASS_TPL_IN_in_addr (i : Nat) : Fld := ⟨0x4101c + 128 * i, 0, 23, 0⟩
/-- `SCH_CLASS_TPL_OUT.out_addr` [22:0], RO, reset 0, cleared by DEVICE: R184 (06_scheduler.md). -/
def F.SCH_CLASS_TPL_OUT_out_addr (i : Nat) : Fld := ⟨0x41020 + 128 * i, 0, 23, 0⟩
/-- `SCH_CLASS_TPL_LEN.in_len` [10:0], RO, reset 0, cleared by DEVICE: R184 (06_scheduler.md). -/
def F.SCH_CLASS_TPL_LEN_in_len (i : Nat) : Fld := ⟨0x41024 + 128 * i, 0, 11, 0⟩
/-- `SCH_CLASS_TPL_LEN.out_len` [26:16], RO, reset 0, cleared by DEVICE: R184 (06_scheduler.md). -/
def F.SCH_CLASS_TPL_LEN_out_len (i : Nat) : Fld := ⟨0x41024 + 128 * i, 16, 11, 0⟩
/-- `SCH_CLASS_TPL_STRIDE.in_stride` [15:0], RO, reset 0, cleared by DEVICE: R184 (06_scheduler.md). -/
def F.SCH_CLASS_TPL_STRIDE_in_stride (i : Nat) : Fld := ⟨0x41028 + 128 * i, 0, 16, 0⟩
/-- `SCH_CLASS_TPL_STRIDE.out_stride` [31:16], RO, reset 0, cleared by DEVICE: R184 (06_scheduler.md). -/
def F.SCH_CLASS_TPL_STRIDE_out_stride (i : Nat) : Fld := ⟨0x41028 + 128 * i, 16, 16, 0⟩
/-- `SCH_CLASS_TPL_RING.depth` [7:0], RO, reset 0, cleared by DEVICE: R184 (06_scheduler.md). -/
def F.SCH_CLASS_TPL_RING_depth (i : Nat) : Fld := ⟨0x4102c + 128 * i, 0, 8, 0⟩
/-- `SCH_CLASS_TPL_RING.pos` [15:8], RO, reset 0, cleared by DEVICE: R184 (06_scheduler.md). -/
def F.SCH_CLASS_TPL_RING_pos (i : Nat) : Fld := ⟨0x4102c + 128 * i, 8, 8, 0⟩
/-- `SCH_CLASS_SEQ.next` [31:0], RO, reset 0, cleared by DEVICE: R184 (06_scheduler.md). -/
def F.SCH_CLASS_SEQ_next (i : Nat) : Fld := ⟨0x41030 + 128 * i, 0, 32, 0⟩
/-- `SCH_CLASS_WIN_TOP.h` [31:0], RO, reset 0, cleared by DEVICE: R184 (06_scheduler.md). -/
def F.SCH_CLASS_WIN_TOP_h (i : Nat) : Fld := ⟨0x41034 + 128 * i, 0, 32, 0⟩
/-- `SCH_CLASS_STATE.waiting` [13:0], RO, reset 0, cleared by DEVICE: R184 (06_scheduler.md). -/
def F.SCH_CLASS_STATE_waiting (i : Nat) : Fld := ⟨0x41038 + 128 * i, 0, 14, 0⟩
/-- `SCH_CLASS_STATE.held` [27:14], RO, reset 0, cleared by DEVICE: R184 (06_scheduler.md). -/
def F.SCH_CLASS_STATE_held (i : Nat) : Fld := ⟨0x41038 + 128 * i, 14, 14, 0⟩
/-- `SCH_CLASS_STATE.win_empty` [28], RO, reset 1, cleared by DEVICE: R184 (06_scheduler.md). -/
def F.SCH_CLASS_STATE_win_empty (i : Nat) : Fld := ⟨0x41038 + 128 * i, 28, 1, 1⟩
/-- `SCH_CLASS_REL_CNT.accepted` [31:0], RC, reset 0, cleared by DEVICE: R184 (06_scheduler.md). -/
def F.SCH_CLASS_REL_CNT_accepted (i : Nat) : Fld := ⟨0x41040 + 128 * i, 0, 32, 0⟩
/-- `SCH_CLASS_DONE_CNT.done` [31:0], RC, reset 0, cleared by DEVICE: R184 (06_scheduler.md). -/
def F.SCH_CLASS_DONE_CNT_done (i : Nat) : Fld := ⟨0x41044 + 128 * i, 0, 32, 0⟩
/-- `SCH_CLASS_DUP_CNT.dup` [15:0], RC, reset 0, cleared by DEVICE: R184 (06_scheduler.md). -/
def F.SCH_CLASS_DUP_CNT_dup (i : Nat) : Fld := ⟨0x41048 + 128 * i, 0, 16, 0⟩
/-- `SCH_CLASS_DUP_CNT.old` [31:16], RC, reset 0, cleared by DEVICE: R184 (06_scheduler.md). -/
def F.SCH_CLASS_DUP_CNT_old (i : Nat) : Fld := ⟨0x41048 + 128 * i, 16, 16, 0⟩
/-- `SCH_CLASS_LATE_CNT.late` [15:0], RC, reset 0, cleared by DEVICE: R184 (06_scheduler.md). -/
def F.SCH_CLASS_LATE_CNT_late (i : Nat) : Fld := ⟨0x4104c + 128 * i, 0, 16, 0⟩
/-- `SCH_CLASS_LATE_CNT.late_drop` [31:16], RC, reset 0, cleared by DEVICE: R184 (06_scheduler.md). -/
def F.SCH_CLASS_LATE_CNT_late_drop (i : Nat) : Fld := ⟨0x4104c + 128 * i, 16, 16, 0⟩
/-- `SCH_CLASS_STEP_LATE_CNT.step_late` [15:0], RC, reset 0, cleared by DEVICE: R184 (06_scheduler.md). -/
def F.SCH_CLASS_STEP_LATE_CNT_step_late (i : Nat) : Fld := ⟨0x41050 + 128 * i, 0, 16, 0⟩
/-- `SCH_CLASS_REFUSE_CNT.origin` [7:0], RC, reset 0, cleared by DEVICE: R184 (06_scheduler.md). -/
def F.SCH_CLASS_REFUSE_CNT_origin (i : Nat) : Fld := ⟨0x41054 + 128 * i, 0, 8, 0⟩
/-- `SCH_CLASS_REFUSE_CNT.ref` [15:8], RC, reset 0, cleared by DEVICE: R184 (06_scheduler.md). -/
def F.SCH_CLASS_REFUSE_CNT_ref (i : Nat) : Fld := ⟨0x41054 + 128 * i, 8, 8, 0⟩
/-- `SCH_CLASS_REFUSE_CNT.store_full` [23:16], RC, reset 0, cleared by DEVICE: R184 (06_scheduler.md). -/
def F.SCH_CLASS_REFUSE_CNT_store_full (i : Nat) : Fld := ⟨0x41054 + 128 * i, 16, 8, 0⟩
/-- `SCH_CLASS_REFUSE_CNT.rate_excess` [31:24], RC, reset 0, cleared by DEVICE: R184 (06_scheduler.md). -/
def F.SCH_CLASS_REFUSE_CNT_rate_excess (i : Nat) : Fld := ⟨0x41054 + 128 * i, 24, 8, 0⟩
/-- `SCH_CLASS_FAIL_CNT.input_poison` [7:0], RC, reset 0, cleared by DEVICE: R184 (06_scheduler.md). -/
def F.SCH_CLASS_FAIL_CNT_input_poison (i : Nat) : Fld := ⟨0x41058 + 128 * i, 0, 8, 0⟩
/-- `SCH_CLASS_FAIL_CNT.input_err` [15:8], RC, reset 0, cleared by DEVICE: R184 (06_scheduler.md). -/
def F.SCH_CLASS_FAIL_CNT_input_err (i : Nat) : Fld := ⟨0x41058 + 128 * i, 8, 8, 0⟩
/-- `SCH_CLASS_FAIL_CNT.output_err` [23:16], RC, reset 0, cleared by DEVICE: R184 (06_scheduler.md). -/
def F.SCH_CLASS_FAIL_CNT_output_err (i : Nat) : Fld := ⟨0x41058 + 128 * i, 16, 8, 0⟩
/-- `SCH_CLASS_FAIL_CNT.reissue_fail` [31:24], RC, reset 0, cleared by DEVICE: R184 (06_scheduler.md). -/
def F.SCH_CLASS_FAIL_CNT_reissue_fail (i : Nat) : Fld := ⟨0x41058 + 128 * i, 24, 8, 0⟩
/-- `SCH_CLASS_REISSUE_CNT.reissued` [15:0], RC, reset 0, cleared by DEVICE: R184 (06_scheduler.md). -/
def F.SCH_CLASS_REISSUE_CNT_reissued (i : Nat) : Fld := ⟨0x4105c + 128 * i, 0, 16, 0⟩
/-- `SCH_CLASS_REISSUE_CNT.spawn_wait` [31:16], RC, reset 0, cleared by DEVICE: R184 (06_scheduler.md). -/
def F.SCH_CLASS_REISSUE_CNT_spawn_wait (i : Nat) : Fld := ⟨0x4105c + 128 * i, 16, 16, 0⟩
/-- `SCH_CLASS_MAX_LAT.ticks` [31:0], RC, reset 0, cleared by DEVICE: R184 (06_scheduler.md). -/
def F.SCH_CLASS_MAX_LAT_ticks (i : Nat) : Fld := ⟨0x41060 + 128 * i, 0, 32, 0⟩
/-- `SCH_CLASS_MIN_SLACK.ticks` [31:0], RC, reset 0x7FFF_FFFF, cleared by DEVICE: R184 (06_scheduler.md). -/
def F.SCH_CLASS_MIN_SLACK_ticks (i : Nat) : Fld := ⟨0x41064 + 128 * i, 0, 32, 2147483647⟩
/-- `SCH_POOL_CFG.defined` [0], RO, reset 0, cleared by DEVICE: R184 (06_scheduler.md). -/
def F.SCH_POOL_CFG_defined (i : Nat) : Fld := ⟨0x43000 + 64 * i, 0, 1, 0⟩
/-- `SCH_POOL_CFG.n_plus_1` [1], RO, reset 0, cleared by DEVICE: R184 (06_scheduler.md). -/
def F.SCH_POOL_CFG_n_plus_1 (i : Nat) : Fld := ⟨0x43000 + 64 * i, 1, 1, 0⟩
/-- `SCH_POOL_CFG.kernels` [15:8], RO, reset 0, cleared by DEVICE: R184 (06_scheduler.md). -/
def F.SCH_POOL_CFG_kernels (i : Nat) : Fld := ⟨0x43000 + 64 * i, 8, 8, 0⟩
/-- `SCH_POOL_BINS0–7.bins` [31:0], RO, reset 0, cleared by DEVICE: R184 (06_scheduler.md). -/
def F.SCH_POOL_BINS_bins (i j : Nat) : Fld := ⟨0x43004 + 64 * i + 4 * j, 0, 32, 0⟩
/-- `SCH_POOL_STATUS.usable` [8:0], RO, reset 0, cleared by DEVICE: R184 (06_scheduler.md). -/
def F.SCH_POOL_STATUS_usable (i : Nat) : Fld := ⟨0x43024 + 64 * i, 0, 9, 0⟩
/-- `SCH_POOL_STATUS.idle` [17:9], RO, reset 0, cleared by DEVICE: R184 (06_scheduler.md). -/
def F.SCH_POOL_STATUS_idle (i : Nat) : Fld := ⟨0x43024 + 64 * i, 9, 9, 0⟩
/-- `SCH_POOL_STATUS.empty` [18], RO, reset 0, cleared by DEVICE: R184 (06_scheduler.md). -/
def F.SCH_POOL_STATUS_empty (i : Nat) : Fld := ⟨0x43024 + 64 * i, 18, 1, 0⟩
/-- `SCH_POOL_WAIT.deadline` [13:0], RO, reset 0, cleared by DEVICE: R184 (06_scheduler.md). -/
def F.SCH_POOL_WAIT_deadline (i : Nat) : Fld := ⟨0x43028 + 64 * i, 0, 14, 0⟩
/-- `SCH_POOL_WAIT.other` [27:14], RO, reset 0, cleared by DEVICE: R184 (06_scheduler.md). -/
def F.SCH_POOL_WAIT_other (i : Nat) : Fld := ⟨0x43028 + 64 * i, 14, 14, 0⟩
/-- `SCH_POOL_DISP_CNT.count` [31:0], RC, reset 0, cleared by DEVICE: R184 (06_scheduler.md). -/
def F.SCH_POOL_DISP_CNT_count (i : Nat) : Fld := ⟨0x4302c + 64 * i, 0, 32, 0⟩

/-! Block Admission. -/

/-- `ADM_RESULT.pass` [0], RO, reset 0, cleared by DEVICE: R206 (07_admission.md). -/
def F.ADM_RESULT_pass : Fld := ⟨0x50000, 0, 1, 0⟩
/-- `ADM_RESULT.in_force` [1], RO, reset 0, cleared by DEVICE: R206 (07_admission.md). -/
def F.ADM_RESULT_in_force : Fld := ⟨0x50000, 1, 1, 0⟩
/-- `ADM_RESULT.kind` [3:2], RO, reset 0, cleared by DEVICE: R206 (07_admission.md). -/
def F.ADM_RESULT_kind : Fld := ⟨0x50000, 2, 2, 0⟩
/-- `ADM_RESULT.first_code` [7:4], RO, reset 0, cleared by DEVICE: R206 (07_admission.md). -/
def F.ADM_RESULT_first_code : Fld := ⟨0x50000, 4, 4, 0⟩
/-- `ADM_RESULT.reason` [11:8], RO, reset 0, cleared by DEVICE: R206 (07_admission.md). -/
def F.ADM_RESULT_reason : Fld := ⟨0x50000, 8, 4, 0⟩
/-- `ADM_RESULT.where` [17:12], RO, reset 0, cleared by DEVICE: R206 (07_admission.md). -/
def F.ADM_RESULT_where : Fld := ⟨0x50000, 12, 6, 0⟩
/-- `ADM_RESULT.where_class` [18], RO, reset 0, cleared by DEVICE: R206 (07_admission.md). -/
def F.ADM_RESULT_where_class : Fld := ⟨0x50000, 18, 1, 0⟩
/-- `ADM_FAIL_MAP.failed` [7:0], RO, reset 0, cleared by DEVICE: R206 (07_admission.md). -/
def F.ADM_FAIL_MAP_failed : Fld := ⟨0x50004, 0, 8, 0⟩
/-- `ADM_TJ.tj_adm` [7:0], RO, reset 0, cleared by DEVICE: R206 (07_admission.md). -/
def F.ADM_TJ_tj_adm : Fld := ⟨0x50008, 0, 8, 0⟩
/-- `ADM_TJ.tj_crit` [15:8], RO, reset 0, cleared by DEVICE: R206 (07_admission.md). -/
def F.ADM_TJ_tj_crit : Fld := ⟨0x50008, 8, 8, 0⟩
/-- `ADM_CAP.cap` [10:0], RO, reset 1,600, cleared by DEVICE: R206 (07_admission.md). -/
def F.ADM_CAP_cap : Fld := ⟨0x5000c, 0, 11, 1600⟩
/-- `ADM_PBASE.uw` [31:0], RO, reset 0, cleared by DEVICE: R206 (07_admission.md). -/
def F.ADM_PBASE_uw : Fld := ⟨0x50010, 0, 32, 0⟩
/-- `ADM_PDECL.uw` [31:0], RO, reset 0, cleared by DEVICE: R206 (07_admission.md). -/
def F.ADM_PDECL_uw : Fld := ⟨0x50014, 0, 32, 0⟩
/-- `ADM_PDL.uw` [31:0], RO, reset 0, cleared by DEVICE: R206 (07_admission.md). -/
def F.ADM_PDL_uw : Fld := ⟨0x50018, 0, 32, 0⟩
/-- `ADM_PTOTAL.uw` [31:0], RO, reset 0, cleared by DEVICE: R206 (07_admission.md). -/
def F.ADM_PTOTAL_uw : Fld := ⟨0x5001c, 0, 32, 0⟩
/-- `ADM_PLIMIT.uw` [31:0], RO, reset 0, cleared by DEVICE: R206 (07_admission.md). -/
def F.ADM_PLIMIT_uw : Fld := ⟨0x50020, 0, 32, 0⟩
/-- `ADM_CONST.t_lr_tk` [7:0], RO, reset 120, cleared by —: R206 (07_admission.md). -/
def F.ADM_CONST_t_lr_tk : Fld := ⟨0x50024, 0, 8, 120⟩
/-- `ADM_CONST.entry_tk` [15:8], RO, reset 5, cleared by —: R206 (07_admission.md). -/
def F.ADM_CONST_entry_tk : Fld := ⟨0x50024, 8, 8, 5⟩
/-- `ADM_STORE_REQ.need` [13:0], RO, reset 0, cleared by DEVICE: R206 (07_admission.md). -/
def F.ADM_STORE_REQ_need : Fld := ⟨0x50028, 0, 14, 0⟩
/-- `ADM_STORE_REQ.res` [29:16], RO, reset 0, cleared by DEVICE: R206 (07_admission.md). -/
def F.ADM_STORE_REQ_res : Fld := ⟨0x50028, 16, 14, 0⟩
/-- `ADM_SPARE_STATUS.free` [3:0], RO, reset 0, cleared by DEVICE: R206 (07_admission.md). -/
def F.ADM_SPARE_STATUS_free : Fld := ⟨0x5002c, 0, 4, 0⟩
/-- `ADM_SPARE_STATUS.np1_pools` [9:4], RO, reset 0, cleared by DEVICE: R206 (07_admission.md). -/
def F.ADM_SPARE_STATUS_np1_pools : Fld := ⟨0x5002c, 4, 6, 0⟩
/-- `ADM_POOL_BINS.m_used` [8:0], RO, reset 0, cleared by DEVICE: R206 (07_admission.md). -/
def F.ADM_POOL_BINS_m_used (i : Nat) : Fld := ⟨0x50100 + 32 * i, 0, 9, 0⟩
/-- `ADM_POOL_BINS.usable` [17:9], RO, reset 0, cleared by DEVICE: R206 (07_admission.md). -/
def F.ADM_POOL_BINS_usable (i : Nat) : Fld := ⟨0x50100 + 32 * i, 9, 9, 0⟩
/-- `ADM_POOL_BINS.covered` [18], RO, reset 0, cleared by DEVICE: R206 (07_admission.md). -/
def F.ADM_POOL_BINS_covered (i : Nat) : Fld := ⟨0x50100 + 32 * i, 18, 1, 0⟩
/-- `ADM_POOL_BINS.n_plus_1` [19], RO, reset 0, cleared by DEVICE: R206 (07_admission.md). -/
def F.ADM_POOL_BINS_n_plus_1 (i : Nat) : Fld := ⟨0x50100 + 32 * i, 19, 1, 0⟩
/-- `ADM_POOL_BINS.groups` [25:20], RO, reset 0, cleared by DEVICE: R206 (07_admission.md). -/
def F.ADM_POOL_BINS_groups (i : Nat) : Fld := ⟨0x50100 + 32 * i, 20, 6, 0⟩
/-- `ADM_POOL_BINS.shed_cov` [26], RO, reset 0, cleared by DEVICE: R206 (07_admission.md). -/
def F.ADM_POOL_BINS_shed_cov (i : Nat) : Fld := ⟨0x50100 + 32 * i, 26, 1, 0⟩
/-- `ADM_POOL_DSUM.sum` [31:0], RO, reset 0, cleared by DEVICE: R206 (07_admission.md). -/
def F.ADM_POOL_DSUM_sum (i : Nat) : Fld := ⟨0x50104 + 32 * i, 0, 32, 0⟩
/-- `ADM_POOL_DLIMIT.limit` [31:0], RO, reset 0, cleared by DEVICE: R206 (07_admission.md). -/
def F.ADM_POOL_DLIMIT_limit (i : Nat) : Fld := ⟨0x50108 + 32 * i, 0, 32, 0⟩
/-- `ADM_POOL_DMAX.umax` [31:0], RO, reset 0, cleared by DEVICE: R206 (07_admission.md). -/
def F.ADM_POOL_DMAX_umax (i : Nat) : Fld := ⟨0x5010c + 32 * i, 0, 32, 0⟩
/-- `ADM_POOL_PF.demand` [31:0], RO, reset 0, cleared by DEVICE: R206 (07_admission.md). -/
def F.ADM_POOL_PF_demand (i : Nat) : Fld := ⟨0x50110 + 32 * i, 0, 32, 0⟩
/-- `ADM_POOL_PFLIM.limit` [31:0], RO, reset 0, cleared by DEVICE: R206 (07_admission.md). -/
def F.ADM_POOL_PFLIM_limit (i : Nat) : Fld := ⟨0x50114 + 32 * i, 0, 32, 0⟩
/-- `ADM_POOL_PDL.uw` [31:0], RO, reset 0, cleared by DEVICE: R206 (07_admission.md). -/
def F.ADM_POOL_PDL_uw (i : Nat) : Fld := ⟨0x50118 + 32 * i, 0, 32, 0⟩
/-- `ADM_CLASS_DENS.delta` [31:0], RO, reset 0, cleared by DEVICE: R206 (07_admission.md). -/
def F.ADM_CLASS_DENS_delta (i : Nat) : Fld := ⟨0x50800 + 16 * i, 0, 32, 0⟩
/-- `ADM_CLASS_FILL.f_tk` [15:0], RO, reset 0, cleared by DEVICE: R206 (07_admission.md). -/
def F.ADM_CLASS_FILL_f_tk (i : Nat) : Fld := ⟨0x50804 + 16 * i, 0, 16, 0⟩
/-- `ADM_CLASS_POWER.uw` [31:0], RO, reset 0, cleared by DEVICE: R206 (07_admission.md). -/
def F.ADM_CLASS_POWER_uw (i : Nat) : Fld := ⟨0x50808 + 16 * i, 0, 32, 0⟩
/-- `ADM_CLASS_RESMIN.need` [13:0], RO, reset 0, cleared by DEVICE: R206 (07_admission.md). -/
def F.ADM_CLASS_RESMIN_need (i : Nat) : Fld := ⟨0x5080c + 16 * i, 0, 14, 0⟩
/-- `ADM_CLASS_EMEAS.nj` [31:0], RC, reset 0, cleared by DEVICE: R206 (07_admission.md). -/
def F.ADM_CLASS_EMEAS_nj (i : Nat) : Fld := ⟨0x50c00 + 4 * i, 0, 32, 0⟩
/-- `ADM_CLASS_EOVER_CNT.count` [15:0], RC, reset 0, cleared by DEVICE: R206 (07_admission.md). -/
def F.ADM_CLASS_EOVER_CNT_count (i : Nat) : Fld := ⟨0x50d00 + 4 * i, 0, 16, 0⟩

/-! Block Thermal. -/

/-- `THM_STATUS.level` [1:0], RO, reset 0, cleared by DEVICE: R235 (08_power_thermal_scheduling.md). -/
def F.THM_STATUS_level : Fld := ⟨0x30000, 0, 2, 0⟩
/-- `THM_STATUS.index` [4:2], RO, reset 7, cleared by DEVICE: R235 (08_power_thermal_scheduling.md). -/
def F.THM_STATUS_index : Fld := ⟨0x30000, 2, 3, 7⟩
/-- `THM_STATUS.suspect` [8:5], RO, reset 0, cleared by DEVICE: R235 (08_power_thermal_scheduling.md). -/
def F.THM_STATUS_suspect : Fld := ⟨0x30000, 5, 4, 0⟩
/-- `THM_STATUS.pfc_on` [9], RO, reset 0, cleared by DEVICE: R235 (08_power_thermal_scheduling.md). -/
def F.THM_STATUS_pfc_on : Fld := ⟨0x30000, 9, 1, 0⟩
/-- `THM_STATUS.enforce` [10], RO, reset 0, cleared by DEVICE: R235 (08_power_thermal_scheduling.md). -/
def F.THM_STATUS_enforce : Fld := ⟨0x30000, 10, 1, 0⟩
/-- `THM_STATUS.shed_steps` [15:11], RO, reset 0, cleared by DEVICE: R235 (08_power_thermal_scheduling.md). -/
def F.THM_STATUS_shed_steps : Fld := ⟨0x30000, 11, 5, 0⟩
/-- `THM_STATUS.deg_thm` [16], RO, reset 0, cleared by DEVICE: R235 (08_power_thermal_scheduling.md). -/
def F.THM_STATUS_deg_thm : Fld := ⟨0x30000, 16, 1, 0⟩
/-- `THM_STATUS.deg_cap` [17], RO, reset 0, cleared by DEVICE: R235 (08_power_thermal_scheduling.md). -/
def F.THM_STATUS_deg_cap : Fld := ⟨0x30000, 17, 1, 0⟩
/-- `THM_STATUS.model_weak` [18], RO, reset 0, cleared by DEVICE: R235 (08_power_thermal_scheduling.md). -/
def F.THM_STATUS_model_weak : Fld := ⟨0x30000, 18, 1, 0⟩
/-- `THM_HOT.t_hot` [15:0], RO, reset 0, cleared by DEVICE: R235 (08_power_thermal_scheduling.md). -/
def F.THM_HOT_t_hot : Fld := ⟨0x30004, 0, 16, 0⟩
/-- `THM_HOT.die` [17:16], RO, reset 0, cleared by DEVICE: R235 (08_power_thermal_scheduling.md). -/
def F.THM_HOT_die : Fld := ⟨0x30004, 16, 2, 0⟩
/-- `THM_HOT.region` [21:18], RO, reset 0, cleared by DEVICE: R235 (08_power_thermal_scheduling.md). -/
def F.THM_HOT_region : Fld := ⟨0x30004, 18, 4, 0⟩
/-- `THM_DIE0–3.meas` [15:0], RO, reset 0, cleared by DEVICE: R235 (08_power_thermal_scheduling.md). -/
def F.THM_DIE_meas (i : Nat) : Fld := ⟨0x30010 + 4 * i, 0, 16, 0⟩
/-- `THM_DIE0–3.est` [31:16], RO, reset 0, cleared by DEVICE: R235 (08_power_thermal_scheduling.md). -/
def F.THM_DIE_est (i : Nat) : Fld := ⟨0x30010 + 4 * i, 16, 16, 0⟩
/-- `THM_THRESH.warn` [7:0], RW, reset Grade, R215, cleared by DEVICE: R235 (08_power_thermal_scheduling.md). -/
def F.THM_THRESH_warn : Fld := ⟨0x30020, 0, 8, Rst.warn⟩
/-- `THM_THRESH.throttle` [15:8], RW, reset Grade, cleared by DEVICE: R235 (08_power_thermal_scheduling.md). -/
def F.THM_THRESH_throttle : Fld := ⟨0x30020, 8, 8, Rst.throttle⟩
/-- `THM_THRESH.crit` [23:16], RW, reset Grade, cleared by DEVICE: R235 (08_power_thermal_scheduling.md). -/
def F.THM_THRESH_crit : Fld := ⟨0x30020, 16, 8, Rst.crit⟩
/-- `THM_THRESH.shut` [31:24], RO, reset Grade, cleared by DEVICE: R235 (08_power_thermal_scheduling.md). -/
def F.THM_THRESH_shut : Fld := ⟨0x30020, 24, 8, Rst.shut⟩
/-- `THM_HYST.hyst_c` [3:0], RW, reset 3, cleared by DEVICE: R235 (08_power_thermal_scheduling.md). -/
def F.THM_HYST_hyst_c : Fld := ⟨0x30024, 0, 4, 3⟩
/-- `THM_CAP.cap` [10:0], RW, reset 1,600, cleared by DEVICE: R235 (08_power_thermal_scheduling.md). -/
def F.THM_CAP_cap : Fld := ⟨0x30028, 0, 11, 1600⟩
/-- `THM_HEAD_CFG.step_t` [3:0], RW, reset 2, cleared by DEVICE: R235 (08_power_thermal_scheduling.md). -/
def F.THM_HEAD_CFG_step_t : Fld := ⟨0x3002c, 0, 4, 2⟩
/-- `THM_HEAD_CFG.step_p` [15:8], RW, reset 20, cleared by DEVICE: R235 (08_power_thermal_scheduling.md). -/
def F.THM_HEAD_CFG_step_p : Fld := ⟨0x3002c, 8, 8, 20⟩
/-- `THM_PAUSE0–7.pause_tk` [23:0], RW, reset R219, cleared by DEVICE: R235 (08_power_thermal_scheduling.md). -/
def F.THM_PAUSE_pause_tk (i : Nat) : Fld := ⟨0x30030 + 4 * i, 0, 24, (Rst.thmPause i)⟩
/-- `THM_PFC_CFG.pfc_index` [2:0], RW, reset 2, cleared by DEVICE: R235 (08_power_thermal_scheduling.md). -/
def F.THM_PFC_CFG_pfc_index : Fld := ⟨0x30050, 0, 3, 2⟩
/-- `THM_PFC_CFG.grace_us` [15:4], RW, reset 200, cleared by DEVICE: R235 (08_power_thermal_scheduling.md). -/
def F.THM_PFC_CFG_grace_us : Fld := ⟨0x30050, 4, 12, 200⟩
/-- `THM_PFC_CFG.refresh_us` [27:16], RW, reset 100, cleared by DEVICE: R235 (08_power_thermal_scheduling.md). -/
def F.THM_PFC_CFG_refresh_us : Fld := ⟨0x30050, 16, 12, 100⟩
/-- `THM_PFC_QUANTA.quanta` [15:0], RW, reset 0xFFFF, cleared by DEVICE: R235 (08_power_thermal_scheduling.md). -/
def F.THM_PFC_QUANTA_quanta : Fld := ⟨0x30054, 0, 16, 65535⟩
/-- `THM_SHED_INTERVAL.interval_us` [15:0], RW, reset 1,000, cleared by DEVICE: R235 (08_power_thermal_scheduling.md). -/
def F.THM_SHED_INTERVAL_interval_us : Fld := ⟨0x30058, 0, 16, 1000⟩
/-- `THM_WINDOW.ledger_ok` [0], RO, reset 0, cleared by DEVICE: R235 (08_power_thermal_scheduling.md). -/
def F.THM_WINDOW_ledger_ok : Fld := ⟨0x3005c, 0, 1, 0⟩
/-- `THM_WINDOW.fuse_ok` [1], RO, reset 0, cleared by DEVICE: R235 (08_power_thermal_scheduling.md). -/
def F.THM_WINDOW_fuse_ok : Fld := ⟨0x3005c, 1, 1, 0⟩
/-- `THM_WINDOW.charge_ok` [2], RO, reset 0, cleared by DEVICE: R235 (08_power_thermal_scheduling.md). -/
def F.THM_WINDOW_charge_ok : Fld := ⟨0x3005c, 2, 1, 0⟩
/-- `THM_WINDOW.charge_en` [3], RO, reset 0, cleared by DEVICE: R235 (08_power_thermal_scheduling.md). -/
def F.THM_WINDOW_charge_en : Fld := ⟨0x3005c, 3, 1, 0⟩
/-- `THM_WINDOW.charging` [4], RO, reset 0, cleared by DEVICE: R235 (08_power_thermal_scheduling.md). -/
def F.THM_WINDOW_charging : Fld := ⟨0x3005c, 4, 1, 0⟩
/-- `THM_RECAL.pending` [3:0], RO, reset 0, cleared by DEVICE: R235 (08_power_thermal_scheduling.md). -/
def F.THM_RECAL_pending : Fld := ⟨0x30060, 0, 4, 0⟩
/-- `THM_RECAL.done` [7:4], RO, reset 0, cleared by DEVICE: R235 (08_power_thermal_scheduling.md). -/
def F.THM_RECAL_done : Fld := ⟨0x30060, 4, 4, 0⟩
/-- `THM_POWER.p_meas` [31:0], RO, reset 0, cleared by DEVICE: R235 (08_power_thermal_scheduling.md). -/
def F.THM_POWER_p_meas : Fld := ⟨0x30070, 0, 32, 0⟩
/-- `THM_POWER_LANE, _CEL, _SHA, _SHB, _LOFT, _IO.uw` [31:0], RO, reset 0, cleared by DEVICE: R235 (08_power_thermal_scheduling.md). -/
def F.THM_POWER_LANE_uw : Fld := ⟨0x30074, 0, 32, 0⟩
/-- `THM_POWER_LANE, _CEL, _SHA, _SHB, _LOFT, _IO.uw` [31:0], RO, reset 0, cleared by DEVICE: R235 (08_power_thermal_scheduling.md). -/
def F.THM_POWER_CEL_uw : Fld := ⟨0x30078, 0, 32, 0⟩
/-- `THM_POWER_LANE, _CEL, _SHA, _SHB, _LOFT, _IO.uw` [31:0], RO, reset 0, cleared by DEVICE: R235 (08_power_thermal_scheduling.md). -/
def F.THM_POWER_SHA_uw : Fld := ⟨0x3007c, 0, 32, 0⟩
/-- `THM_POWER_LANE, _CEL, _SHA, _SHB, _LOFT, _IO.uw` [31:0], RO, reset 0, cleared by DEVICE: R235 (08_power_thermal_scheduling.md). -/
def F.THM_POWER_SHB_uw : Fld := ⟨0x30080, 0, 32, 0⟩
/-- `THM_POWER_LANE, _CEL, _SHA, _SHB, _LOFT, _IO.uw` [31:0], RO, reset 0, cleared by DEVICE: R235 (08_power_thermal_scheduling.md). -/
def F.THM_POWER_LOFT_uw : Fld := ⟨0x30084, 0, 32, 0⟩
/-- `THM_POWER_LANE, _CEL, _SHA, _SHB, _LOFT, _IO.uw` [31:0], RO, reset 0, cleared by DEVICE: R235 (08_power_thermal_scheduling.md). -/
def F.THM_POWER_IO_uw : Fld := ⟨0x30088, 0, 32, 0⟩
/-- `THM_POWER_PEAK.uw` [31:0], RC, reset 0, cleared by DEVICE: R235 (08_power_thermal_scheduling.md). -/
def F.THM_POWER_PEAK_uw : Fld := ⟨0x3008c, 0, 32, 0⟩
/-- `THM_CAP_EXC_CNT.samples` [31:0], RC, reset 0, cleared by DEVICE: R235 (08_power_thermal_scheduling.md). -/
def F.THM_CAP_EXC_CNT_samples : Fld := ⟨0x30090, 0, 32, 0⟩
/-- `THM_SHED0–15.kind` [1:0], RO, reset 0, cleared by DEVICE: R235 (08_power_thermal_scheduling.md). -/
def F.THM_SHE_kind (i : Nat) : Fld := ⟨0x30100 + 4 * i, 0, 2, 0⟩
/-- `THM_SHED0–15.id` [7:2], RO, reset 0, cleared by DEVICE: R235 (08_power_thermal_scheduling.md). -/
def F.THM_SHE_id (i : Nat) : Fld := ⟨0x30100 + 4 * i, 2, 6, 0⟩
/-- `THM_SHED_CNT0–63.count` [31:0], RC, reset 0, cleared by DEVICE: R235 (08_power_thermal_scheduling.md). -/
def F.THM_SHED_CNT_count (i : Nat) : Fld := ⟨0x30200 + 4 * i, 0, 32, 0⟩
/-- `THM_PFC_LANE0–127.be_prio` [7:0], RO, reset 0, cleared by DEVICE: R235 (08_power_thermal_scheduling.md). -/
def F.THM_PFC_LANE_be_prio (i : Nat) : Fld := ⟨0x30400 + 4 * i, 0, 8, 0⟩
/-- `THM_PFC_LANE0–127.pfc_en` [8], RO, reset 0, cleared by DEVICE: R235 (08_power_thermal_scheduling.md). -/
def F.THM_PFC_LANE_pfc_en (i : Nat) : Fld := ⟨0x30400 + 4 * i, 8, 1, 0⟩
/-- `THM_PFC_DROP_CNT0–127.count` [31:0], RC, reset 0, cleared by DEVICE: R235 (08_power_thermal_scheduling.md). -/
def F.THM_PFC_DROP_CNT_count (i : Nat) : Fld := ⟨0x30600 + 4 * i, 0, 32, 0⟩
/-- `THM_LAST_SHUT0–3.word` [31:0], RO, reset 0, cleared by DEVICE: R235 (08_power_thermal_scheduling.md). -/
def F.THM_LAST_SHUT_word (i : Nat) : Fld := ⟨0x30800 + 4 * i, 0, 32, 0⟩
/-- `THM_SENSOR0–159.temp` [15:0], RO, reset 0, cleared by DEVICE: R235 (08_power_thermal_scheduling.md). -/
def F.THM_SENSOR_temp (i : Nat) : Fld := ⟨0x31000 + 4 * i, 0, 16, 0⟩
/-- `THM_SENSOR0–159.valid` [16], RO, reset 0, cleared by DEVICE: R235 (08_power_thermal_scheduling.md). -/
def F.THM_SENSOR_valid (i : Nat) : Fld := ⟨0x31000 + 4 * i, 16, 1, 0⟩
/-- `THM_SENSOR0–159.suspect` [17], RO, reset 0, cleared by DEVICE: R235 (08_power_thermal_scheduling.md). -/
def F.THM_SENSOR_suspect (i : Nat) : Fld := ⟨0x31000 + 4 * i, 17, 1, 0⟩
/-- `THM_SENSOR0–159.disagree` [18], RO, reset 0, cleared by DEVICE: R235 (08_power_thermal_scheduling.md). -/
def F.THM_SENSOR_disagree (i : Nat) : Fld := ⟨0x31000 + 4 * i, 18, 1, 0⟩
/-- `THM_SENSOR0–159.failed` [19], RO, reset 0, cleared by DEVICE: R235 (08_power_thermal_scheduling.md). -/
def F.THM_SENSOR_failed (i : Nat) : Fld := ⟨0x31000 + 4 * i, 19, 1, 0⟩
/-- `THM_SENSOR0–159.offset` [27:20], RO, reset 0, cleared by DEVICE: R235 (08_power_thermal_scheduling.md). -/
def F.THM_SENSOR_offset (i : Nat) : Fld := ⟨0x31000 + 4 * i, 20, 8, 0⟩
/-- `THM_EST0–63.est` [15:0], RO, reset 0, cleared by DEVICE: R235 (08_power_thermal_scheduling.md). -/
def F.THM_EST_est (i : Nat) : Fld := ⟨0x31400 + 4 * i, 0, 16, 0⟩
/-- `THM_MODEL_THETA0–63.theta` [15:0], RO, reset fuse, cleared by —: R235 (08_power_thermal_scheduling.md). -/
def F.THM_MODEL_THETA_theta (i : Nat) : Fld := ⟨0x31500 + 4 * i, 0, 16, (Rst.theta i)⟩
/-- `THM_MODEL_W0–3.w_below` [15:0], RO, reset fuse, cleared by —: R235 (08_power_thermal_scheduling.md). -/
def F.THM_MODEL_W_w_below (i : Nat) : Fld := ⟨0x31600 + 4 * i, 0, 16, (Rst.wBelow i)⟩
/-- `THM_MODEL_W0–3.w_above` [31:16], RO, reset fuse, cleared by —: R235 (08_power_thermal_scheduling.md). -/
def F.THM_MODEL_W_w_above (i : Nat) : Fld := ⟨0x31600 + 4 * i, 16, 16, (Rst.wAbove i)⟩
/-- `THM_MODEL_TAU0–3.tau_us` [23:0], RO, reset fuse, cleared by —: R235 (08_power_thermal_scheduling.md). -/
def F.THM_MODEL_TAU_tau_us (i : Nat) : Fld := ⟨0x31610 + 4 * i, 0, 24, (Rst.tauUs i)⟩
/-- `THM_EN_BIN0–263.nj` [31:0], RO, reset 0, cleared by DEVICE: R235 (08_power_thermal_scheduling.md). -/
def F.THM_EN_BIN_nj (i : Nat) : Fld := ⟨0x32000 + 4 * i, 0, 32, 0⟩
/-- `THM_EN_LGRP0–15.nj` [31:0], RO, reset 0, cleared by DEVICE: R235 (08_power_thermal_scheduling.md). -/
def F.THM_EN_LGRP_nj (i : Nat) : Fld := ⟨0x32800 + 4 * i, 0, 32, 0⟩
/-- `THM_EN_BGRP0–31.nj` [31:0], RO, reset 0, cleared by DEVICE: R235 (08_power_thermal_scheduling.md). -/
def F.THM_EN_BGRP_nj (i : Nat) : Fld := ⟨0x32840 + 4 * i, 0, 32, 0⟩

/-! Block Lanes. -/

/-- `LN_CFG.proto` [3:0], RO, reset 0, cleared by DEVICE: R264 (09_serial_lanes.md). -/
def F.LN_CFG_proto (i : Nat) : Fld := ⟨0x100000 + 1024 * i, 0, 4, 0⟩
/-- `LN_CFG.sink` [4], RO, reset 0, cleared by DEVICE: R264 (09_serial_lanes.md). -/
def F.LN_CFG_sink (i : Nat) : Fld := ⟨0x100000 + 1024 * i, 4, 1, 0⟩
/-- `LN_CFG.fec` [6:5], RO, reset 0, cleared by DEVICE: R264 (09_serial_lanes.md). -/
def F.LN_CFG_fec (i : Nat) : Fld := ⟨0x100000 + 1024 * i, 5, 2, 0⟩
/-- `LN_CFG.pol_auto` [7], RO, reset 1, cleared by DEVICE: R264 (09_serial_lanes.md). -/
def F.LN_CFG_pol_auto (i : Nat) : Fld := ⟨0x100000 + 1024 * i, 7, 1, 1⟩
/-- `LN_CFG.pol_rx` [8], RO, reset 0, cleared by DEVICE: R264 (09_serial_lanes.md). -/
def F.LN_CFG_pol_rx (i : Nat) : Fld := ⟨0x100000 + 1024 * i, 8, 1, 0⟩
/-- `LN_CFG.pol_tx` [9], RO, reset 0, cleared by DEVICE: R264 (09_serial_lanes.md). -/
def F.LN_CFG_pol_tx (i : Nat) : Fld := ⟨0x100000 + 1024 * i, 9, 1, 0⟩
/-- `LN_CFG.eq_lock` [10], RO, reset 0, cleared by DEVICE: R264 (09_serial_lanes.md). -/
def F.LN_CFG_eq_lock (i : Nat) : Fld := ⟨0x100000 + 1024 * i, 10, 1, 0⟩
/-- `LN_CFG.n_cand_m1` [12:11], RO, reset 0, cleared by DEVICE: R264 (09_serial_lanes.md). -/
def F.LN_CFG_n_cand_m1 (i : Nat) : Fld := ⟨0x100000 + 1024 * i, 11, 2, 0⟩
/-- `LN_CFG.scr_en` [13], RO, reset 1, cleared by DEVICE: R264 (09_serial_lanes.md). -/
def F.LN_CFG_scr_en (i : Nat) : Fld := ⟨0x100000 + 1024 * i, 13, 1, 1⟩
/-- `LN_RATE.rate_q` [17:0], RO, reset 0, cleared by DEVICE: R264 (09_serial_lanes.md). -/
def F.LN_RATE_rate_q (i : Nat) : Fld := ⟨0x100004 + 1024 * i, 0, 18, 0⟩
/-- `LN_RATE.pam4` [18], RO, reset 0, cleared by DEVICE: R264 (09_serial_lanes.md). -/
def F.LN_RATE_pam4 (i : Nat) : Fld := ⟨0x100004 + 1024 * i, 18, 1, 0⟩
/-- `LN_PORT.first` [6:0], RO, reset 0, cleared by DEVICE: R264 (09_serial_lanes.md). -/
def F.LN_PORT_first (i : Nat) : Fld := ⟨0x100008 + 1024 * i, 0, 7, 0⟩
/-- `LN_PORT.width_m1` [9:7], RO, reset 0, cleared by DEVICE: R264 (09_serial_lanes.md). -/
def F.LN_PORT_width_m1 (i : Nat) : Fld := ⟨0x100008 + 1024 * i, 7, 3, 0⟩
/-- `LN_PORT.position` [12:10], RO, reset 0, cleared by DEVICE: R264 (09_serial_lanes.md). -/
def F.LN_PORT_position (i : Nat) : Fld := ⟨0x100008 + 1024 * i, 10, 3, 0⟩
/-- `LN_FOM_CFG.floor` [7:0], RO, reset 64, cleared by DEVICE: R264 (09_serial_lanes.md). -/
def F.LN_FOM_CFG_floor (i : Nat) : Fld := ⟨0x10000c + 1024 * i, 0, 8, 64⟩
/-- `LN_FOM_CFG.fom_ms` [15:8], RO, reset 2, cleared by DEVICE: R264 (09_serial_lanes.md). -/
def F.LN_FOM_CFG_fom_ms (i : Nat) : Fld := ⟨0x10000c + 1024 * i, 8, 8, 2⟩
/-- `LN_FOM_CFG.skew_max_tk` [23:16], RO, reset 192, cleared by DEVICE: R264 (09_serial_lanes.md). -/
def F.LN_FOM_CFG_skew_max_tk (i : Nat) : Fld := ⟨0x10000c + 1024 * i, 16, 8, 192⟩
/-- `LN_EQ_TX0–3.c_m2` [5:0], RO, reset 0, cleared by DEVICE: R264 (09_serial_lanes.md). -/
def F.LN_EQ_TX_c_m2 (i j : Nat) : Fld := ⟨0x100010 + 1024 * i + 8 * j, 0, 6, 0⟩
/-- `LN_EQ_TX0–3.c_m1` [11:6], RO, reset 0, cleared by DEVICE: R264 (09_serial_lanes.md). -/
def F.LN_EQ_TX_c_m1 (i j : Nat) : Fld := ⟨0x100010 + 1024 * i + 8 * j, 6, 6, 0⟩
/-- `LN_EQ_TX0–3.c_0` [17:12], RO, reset 63, cleared by DEVICE: R264 (09_serial_lanes.md). -/
def F.LN_EQ_TX_c_0 (i j : Nat) : Fld := ⟨0x100010 + 1024 * i + 8 * j, 12, 6, 63⟩
/-- `LN_EQ_TX0–3.c_p1` [23:18], RO, reset 0, cleared by DEVICE: R264 (09_serial_lanes.md). -/
def F.LN_EQ_TX_c_p1 (i j : Nat) : Fld := ⟨0x100010 + 1024 * i + 8 * j, 18, 6, 0⟩
/-- `LN_EQ_RX0–3.ctle_peak` [4:0], RO, reset 0, cleared by DEVICE: R264 (09_serial_lanes.md). -/
def F.LN_EQ_RX_ctle_peak (i j : Nat) : Fld := ⟨0x100014 + 1024 * i + 8 * j, 0, 5, 0⟩
/-- `LN_EQ_RX0–3.ctle_dc` [9:5], RO, reset 0, cleared by DEVICE: R264 (09_serial_lanes.md). -/
def F.LN_EQ_RX_ctle_dc (i j : Nat) : Fld := ⟨0x100014 + 1024 * i + 8 * j, 5, 5, 0⟩
/-- `LN_EQ_RX0–3.dfe1` [15:10], RO, reset 0, cleared by DEVICE: R264 (09_serial_lanes.md). -/
def F.LN_EQ_RX_dfe1 (i j : Nat) : Fld := ⟨0x100014 + 1024 * i + 8 * j, 10, 6, 0⟩
/-- `LN_EQ_RX0–3.dfe2` [21:16], RO, reset 0, cleared by DEVICE: R264 (09_serial_lanes.md). -/
def F.LN_EQ_RX_dfe2 (i j : Nat) : Fld := ⟨0x100014 + 1024 * i + 8 * j, 16, 6, 0⟩
/-- `LN_EQ_RX0–3.dfe3` [27:22], RO, reset 0, cleared by DEVICE: R264 (09_serial_lanes.md). -/
def F.LN_EQ_RX_dfe3 (i j : Nat) : Fld := ⟨0x100014 + 1024 * i + 8 * j, 22, 6, 0⟩
/-- `LN_JESD_CFG.e_m1` [4:0], RO, reset 0, cleared by DEVICE: R264 (09_serial_lanes.md). -/
def F.LN_JESD_CFG_e_m1 (i : Nat) : Fld := ⟨0x100030 + 1024 * i, 0, 5, 0⟩
/-- `LN_JESD_CFG.sysref` [6:5], RO, reset 0, cleared by DEVICE: R264 (09_serial_lanes.md). -/
def F.LN_JESD_CFG_sysref (i : Nat) : Fld := ⟨0x100030 + 1024 * i, 5, 2, 0⟩
/-- `LN_FILL_LO.fill` [31:0], RO, reset 0, cleared by DEVICE: R264 (09_serial_lanes.md). -/
def F.LN_FILL_LO_fill (i : Nat) : Fld := ⟨0x100034 + 1024 * i, 0, 32, 0⟩
/-- `LN_FILL_HI.fill` [31:0], RO, reset 0, cleared by DEVICE: R264 (09_serial_lanes.md). -/
def F.LN_FILL_HI_fill (i : Nat) : Fld := ⟨0x100038 + 1024 * i, 0, 32, 0⟩
/-- `LN_CTRL.enable` [0], RW, reset Stream, cleared by DEVICE: R264 (09_serial_lanes.md). -/
def F.LN_CTRL_enable (i : Nat) : Fld := ⟨0x100040 + 1024 * i, 0, 1, 0⟩
/-- `LN_CTRL.restart` [1], WO, reset 0, cleared by —: R264 (09_serial_lanes.md). -/
def F.LN_CTRL_restart (i : Nat) : Fld := ⟨0x100040 + 1024 * i, 1, 1, 0⟩
/-- `LN_CTRL.loop` [3:2], RW, reset 0, cleared by LGRP: R264 (09_serial_lanes.md). -/
def F.LN_CTRL_loop (i : Nat) : Fld := ⟨0x100040 + 1024 * i, 2, 2, 0⟩
/-- `LN_CTRL.loop_tx_drive` [4], RW, reset 0, cleared by LGRP: R264 (09_serial_lanes.md). -/
def F.LN_CTRL_loop_tx_drive (i : Nat) : Fld := ⟨0x100040 + 1024 * i, 4, 1, 0⟩
/-- `LN_CTRL.prbs_gen` [6:5], RW, reset 0, cleared by LGRP: R264 (09_serial_lanes.md). -/
def F.LN_CTRL_prbs_gen (i : Nat) : Fld := ⟨0x100040 + 1024 * i, 5, 2, 0⟩
/-- `LN_CTRL.prbs_chk` [8:7], RW, reset 0, cleared by LGRP: R264 (09_serial_lanes.md). -/
def F.LN_CTRL_prbs_chk (i : Nat) : Fld := ⟨0x100040 + 1024 * i, 7, 2, 0⟩
/-- `LN_STATUS.state` [3:0], RO, reset 0, cleared by LGRP: R264 (09_serial_lanes.md). -/
def F.LN_STATUS_state (i : Nat) : Fld := ⟨0x100050 + 1024 * i, 0, 4, 0⟩
/-- `LN_STATUS.link_up` [4], RO, reset 0, cleared by LGRP: R264 (09_serial_lanes.md). -/
def F.LN_STATUS_link_up (i : Nat) : Fld := ⟨0x100050 + 1024 * i, 4, 1, 0⟩
/-- `LN_STATUS.rx_inverted` [5], RO, reset 0, cleared by LGRP: R264 (09_serial_lanes.md). -/
def F.LN_STATUS_rx_inverted (i : Nat) : Fld := ⟨0x100050 + 1024 * i, 5, 1, 0⟩
/-- `LN_STATUS.cand` [7:6], RO, reset 0, cleared by LGRP: R264 (09_serial_lanes.md). -/
def F.LN_STATUS_cand (i : Nat) : Fld := ⟨0x100050 + 1024 * i, 6, 2, 0⟩
/-- `LN_STATUS.fom` [15:8], RO, reset 0, cleared by LGRP: R264 (09_serial_lanes.md). -/
def F.LN_STATUS_fom (i : Nat) : Fld := ⟨0x100050 + 1024 * i, 8, 8, 0⟩
/-- `LN_STATUS.fom_low` [16], RO, reset 0, cleared by LGRP: R264 (09_serial_lanes.md). -/
def F.LN_STATUS_fom_low (i : Nat) : Fld := ⟨0x100050 + 1024 * i, 16, 1, 0⟩
/-- `LN_STATUS.pos` [19:17], RO, reset 0, cleared by LGRP: R264 (09_serial_lanes.md). -/
def F.LN_STATUS_pos (i : Nat) : Fld := ⟨0x100050 + 1024 * i, 17, 3, 0⟩
/-- `LN_STATUS.loop_active` [20], RO, reset 0, cleared by LGRP: R264 (09_serial_lanes.md). -/
def F.LN_STATUS_loop_active (i : Nat) : Fld := ⟨0x100050 + 1024 * i, 20, 1, 0⟩
/-- `LN_STATUS.prbs_locked` [21], RO, reset 0, cleared by LGRP: R264 (09_serial_lanes.md). -/
def F.LN_STATUS_prbs_locked (i : Nat) : Fld := ⟨0x100050 + 1024 * i, 21, 1, 0⟩
/-- `LN_STATUS.remote_fault` [22], RO, reset 0, cleared by LGRP: R264 (09_serial_lanes.md). -/
def F.LN_STATUS_remote_fault (i : Nat) : Fld := ⟨0x100050 + 1024 * i, 22, 1, 0⟩
/-- `LN_FOM_SEL.foms` [31:0], RO, reset 0, cleared by LGRP: R264 (09_serial_lanes.md). -/
def F.LN_FOM_SEL_foms (i : Nat) : Fld := ⟨0x100054 + 1024 * i, 0, 32, 0⟩
/-- `LN_LAT.rx_base` [9:0], RO, reset 0, cleared by DEVICE: R264 (09_serial_lanes.md). -/
def F.LN_LAT_rx_base (i : Nat) : Fld := ⟨0x100058 + 1024 * i, 0, 10, 0⟩
/-- `LN_LAT.tx_base` [19:10], RO, reset 0, cleared by DEVICE: R264 (09_serial_lanes.md). -/
def F.LN_LAT_tx_base (i : Nat) : Fld := ⟨0x100058 + 1024 * i, 10, 10, 0⟩
/-- `LN_LAT.rx_last` [29:20], RO, reset 0, cleared by LGRP: R264 (09_serial_lanes.md). -/
def F.LN_LAT_rx_last (i : Nat) : Fld := ⟨0x100058 + 1024 * i, 20, 10, 0⟩
/-- `LN_SKEW.skew_tk` [8:0], RO, reset 0, cleared by LGRP: R264 (09_serial_lanes.md). -/
def F.LN_SKEW_skew_tk (i : Nat) : Fld := ⟨0x10005c + 1024 * i, 0, 9, 0⟩
/-- `LN_LINKDOWN_CNT.count` [15:0], RC, reset 0, cleared by DEVICE: R264 (09_serial_lanes.md). -/
def F.LN_LINKDOWN_CNT_count (i : Nat) : Fld := ⟨0x100080 + 1024 * i, 0, 16, 0⟩
/-- `LN_LINKDOWN_CNT.last_cause` [19:16], RC, reset 0, cleared by DEVICE: R264 (09_serial_lanes.md). -/
def F.LN_LINKDOWN_CNT_last_cause (i : Nat) : Fld := ⟨0x100080 + 1024 * i, 16, 4, 0⟩
/-- `LN_BRINGUP_FAIL_CNT.count` [15:0], RC, reset 0, cleared by DEVICE: R264 (09_serial_lanes.md). -/
def F.LN_BRINGUP_FAIL_CNT_count (i : Nat) : Fld := ⟨0x100084 + 1024 * i, 0, 16, 0⟩
/-- `LN_BRINGUP_FAIL_CNT.last_step` [19:16], RC, reset 0, cleared by DEVICE: R264 (09_serial_lanes.md). -/
def F.LN_BRINGUP_FAIL_CNT_last_step (i : Nat) : Fld := ⟨0x100084 + 1024 * i, 16, 4, 0⟩
/-- `LN_HDR_ERR_CNT.count` [31:0], RC, reset 0, cleared by DEVICE: R264 (09_serial_lanes.md). -/
def F.LN_HDR_ERR_CNT_count (i : Nat) : Fld := ⟨0x100088 + 1024 * i, 0, 32, 0⟩
/-- `LN_FEC_CORR_CNT.count` [31:0], RC, reset 0, cleared by DEVICE: R264 (09_serial_lanes.md). -/
def F.LN_FEC_CORR_CNT_count (i : Nat) : Fld := ⟨0x10008c + 1024 * i, 0, 32, 0⟩
/-- `LN_FEC_UNCORR_CNT.count` [31:0], RC, reset 0, cleared by DEVICE: R264 (09_serial_lanes.md). -/
def F.LN_FEC_UNCORR_CNT_count (i : Nat) : Fld := ⟨0x100090 + 1024 * i, 0, 32, 0⟩
/-- `LN_RM_INS_CNT.count` [31:0], RC, reset 0, cleared by DEVICE: R264 (09_serial_lanes.md). -/
def F.LN_RM_INS_CNT_count (i : Nat) : Fld := ⟨0x100094 + 1024 * i, 0, 32, 0⟩
/-- `LN_RM_DEL_CNT.count` [31:0], RC, reset 0, cleared by DEVICE: R264 (09_serial_lanes.md). -/
def F.LN_RM_DEL_CNT_count (i : Nat) : Fld := ⟨0x100098 + 1024 * i, 0, 32, 0⟩
/-- `LN_EB_ERR_CNT.ovf` [15:0], RC, reset 0, cleared by DEVICE: R264 (09_serial_lanes.md). -/
def F.LN_EB_ERR_CNT_ovf (i : Nat) : Fld := ⟨0x10009c + 1024 * i, 0, 16, 0⟩
/-- `LN_EB_ERR_CNT.unf` [31:16], RC, reset 0, cleared by DEVICE: R264 (09_serial_lanes.md). -/
def F.LN_EB_ERR_CNT_unf (i : Nat) : Fld := ⟨0x10009c + 1024 * i, 16, 16, 0⟩
/-- `LN_TX_UNDERRUN_CNT.count` [31:0], RC, reset 0, cleared by DEVICE: R264 (09_serial_lanes.md). -/
def F.LN_TX_UNDERRUN_CNT_count (i : Nat) : Fld := ⟨0x1000a0 + 1024 * i, 0, 32, 0⟩
/-- `LN_CRC_ERR_CNT.count` [31:0], RC, reset 0, cleared by DEVICE: R264 (09_serial_lanes.md). -/
def F.LN_CRC_ERR_CNT_count (i : Nat) : Fld := ⟨0x1000a4 + 1024 * i, 0, 32, 0⟩
/-- `LN_PRBS_ERR_CNT.count` [31:0], RC, reset 0, cleared by DEVICE: R264 (09_serial_lanes.md). -/
def F.LN_PRBS_ERR_CNT_count (i : Nat) : Fld := ⟨0x1000a8 + 1024 * i, 0, 32, 0⟩
/-- `LN_FOM_MIN.fom` [7:0], RC, reset 0xFF, cleared by DEVICE: R264 (09_serial_lanes.md). -/
def F.LN_FOM_MIN_fom (i : Nat) : Fld := ⟨0x1000ac + 1024 * i, 0, 8, 255⟩
/-- `LN_GRP_CFG.mode` [0], RO, reset 0, cleared by DEVICE: R265 (09_serial_lanes.md). -/
def F.LN_GRP_CFG_mode (i : Nat) : Fld := ⟨0x120000 + 64 * i, 0, 1, 0⟩
/-- `LN_GRP_STATUS.pll_lock` [0], RO, reset 0, cleared by LGRP: R265 (09_serial_lanes.md). -/
def F.LN_GRP_STATUS_pll_lock (i : Nat) : Fld := ⟨0x120004 + 64 * i, 0, 1, 0⟩
/-- `LN_GRP_STATUS.vco` [1], RO, reset 0, cleared by DEVICE: R265 (09_serial_lanes.md). -/
def F.LN_GRP_STATUS_vco (i : Nat) : Fld := ⟨0x120004 + 64 * i, 1, 1, 0⟩
/-- `LN_GRP_STATUS.held` [2], RO, reset 0, cleared by LGRP: R265 (09_serial_lanes.md). -/
def F.LN_GRP_STATUS_held (i : Nat) : Fld := ⟨0x120004 + 64 * i, 2, 1, 0⟩
/-- `LN_GRP_STATUS.up` [10:3], RO, reset 0, cleared by LGRP: R265 (09_serial_lanes.md). -/
def F.LN_GRP_STATUS_up (i : Nat) : Fld := ⟨0x120004 + 64 * i, 3, 8, 0⟩
/-- `LN_GRP_UNLOCK_CNT.count` [15:0], RC, reset 0, cleared by DEVICE: R265 (09_serial_lanes.md). -/
def F.LN_GRP_UNLOCK_CNT_count (i : Nat) : Fld := ⟨0x120008 + 64 * i, 0, 16, 0⟩

/-! Block Fronthaul. -/

/-- `FH_FLOW_INDEX.index` [13:0], RW, reset 0, cleared by DEVICE: R300 (10_fronthaul_path.md). -/
def F.FH_FLOW_INDEX_index : Fld := ⟨0x200000, 0, 14, 0⟩
/-- `FH_FLOW_DATA0–15.data` [31:0], RW, reset 0, cleared by DEVICE: R300 (10_fronthaul_path.md). -/
def F.FH_FLOW_DATA_data (i : Nat) : Fld := ⟨0x200004 + 4 * i, 0, 32, 0⟩
/-- `FH_FLOW_CMD.read` [0], WO, reset 0, cleared by —: R300 (10_fronthaul_path.md). -/
def F.FH_FLOW_CMD_read : Fld := ⟨0x200044, 0, 1, 0⟩
/-- `FH_FLOW_CMD.commit` [1], WO, reset 0, cleared by —: R300 (10_fronthaul_path.md). -/
def F.FH_FLOW_CMD_commit : Fld := ⟨0x200044, 1, 1, 0⟩
/-- `FH_FLOW_CMD.cnt_read` [2], WO, reset 0, cleared by —: R300 (10_fronthaul_path.md). -/
def F.FH_FLOW_CMD_cnt_read : Fld := ⟨0x200044, 2, 1, 0⟩
/-- `FH_FLOW_STATUS.busy` [0], RO, reset 0, cleared by DEVICE: R300 (10_fronthaul_path.md). -/
def F.FH_FLOW_STATUS_busy : Fld := ⟨0x200048, 0, 1, 0⟩
/-- `FH_FLOW_STATUS.last_refused` [1], RO, reset 0, cleared by DEVICE: R300 (10_fronthaul_path.md). -/
def F.FH_FLOW_STATUS_last_refused : Fld := ⟨0x200048, 1, 1, 0⟩
/-- `FH_FLOW_CNT0–15.count` [31:0], RO, reset 0, cleared by DEVICE: R300 (10_fronthaul_path.md). -/
def F.FH_FLOW_CNT_count (i : Nat) : Fld := ⟨0x200050 + 4 * i, 0, 32, 0⟩
/-- `FH_SEC_INDEX.index` [15:0], RW, reset 0, cleared by DEVICE: R300 (10_fronthaul_path.md). -/
def F.FH_SEC_INDEX_index : Fld := ⟨0x200100, 0, 16, 0⟩
/-- `FH_SEC_DATA0–3.data` [31:0], RO, reset 0, cleared by DEVICE: R300 (10_fronthaul_path.md). -/
def F.FH_SEC_DATA_data (i : Nat) : Fld := ⟨0x200104 + 4 * i, 0, 32, 0⟩
/-- `FH_SEC_CMD.read` [0], WO, reset 0, cleared by —: R300 (10_fronthaul_path.md). -/
def F.FH_SEC_CMD_read : Fld := ⟨0x200114, 0, 1, 0⟩
/-- `FH_NUM_INDEX.entry` [3:0], RW, reset 0, cleared by DEVICE: R300 (10_fronthaul_path.md). -/
def F.FH_NUM_INDEX_entry : Fld := ⟨0x200200, 0, 4, 0⟩
/-- `FH_NUM_INDEX.symbol` [26:16], RW, reset 0, cleared by DEVICE: R300 (10_fronthaul_path.md). -/
def F.FH_NUM_INDEX_symbol : Fld := ⟨0x200200, 16, 11, 0⟩
/-- `FH_NUM_CFG.n_sym` [10:0], RO, reset 0, cleared by DEVICE: R300 (10_fronthaul_path.md). -/
def F.FH_NUM_CFG_n_sym : Fld := ⟨0x200204, 0, 11, 0⟩
/-- `FH_NUM_CFG.sym_per_slot` [21:16], RO, reset 0, cleared by DEVICE: R300 (10_fronthaul_path.md). -/
def F.FH_NUM_CFG_sym_per_slot : Fld := ⟨0x200204, 16, 6, 0⟩
/-- `FH_NUM_CFG.slots_per_sf` [29:24], RO, reset 0, cleared by DEVICE: R300 (10_fronthaul_path.md). -/
def F.FH_NUM_CFG_slots_per_sf : Fld := ⟨0x200204, 24, 6, 0⟩
/-- `FH_NUM_OFF.off` [23:0], RO, reset 0, cleared by DEVICE: R300 (10_fronthaul_path.md). -/
def F.FH_NUM_OFF_off : Fld := ⟨0x200208, 0, 24, 0⟩
/-- `FH_LANE_CFG.engine` [1:0], RO, reset 0, cleared by DEVICE: R300 (10_fronthaul_path.md). -/
def F.FH_LANE_CFG_engine (i : Nat) : Fld := ⟨0x201000 + 32 * i, 0, 2, 0⟩
/-- `FH_LANE_CFG.max_frame` [15:2], RO, reset 9,216, cleared by DEVICE: R300 (10_fronthaul_path.md). -/
def F.FH_LANE_CFG_max_frame (i : Nat) : Fld := ⟨0x201000 + 32 * i, 2, 14, 9216⟩
/-- `FH_LANE_CFG.pause_max_us` [31:16], RO, reset 1,000, cleared by DEVICE: R300 (10_fronthaul_path.md). -/
def F.FH_LANE_CFG_pause_max_us (i : Nat) : Fld := ⟨0x201000 + 32 * i, 16, 16, 1000⟩
/-- `FH_LANE_MAC_SRC_LO, _HI.mac` [31:0], [15:0], RO, reset 0, cleared by DEVICE: R300 (10_fronthaul_path.md). -/
def F.FH_LANE_MAC_SRC_LO_mac (i : Nat) : Fld := ⟨0x201004 + 32 * i, 0, 32, 0⟩
/-- `FH_LANE_MAC_SRC_LO, _HI.mac` [31:0], [15:0], RO, reset 0, cleared by DEVICE: R300 (10_fronthaul_path.md). -/
def F.FH_LANE_MAC_SRC_HI_mac (i : Nat) : Fld := ⟨0x201008 + 32 * i, 0, 16, 0⟩
/-- `FH_LANE_MAC_DST_LO, _HI.mac` [31:0], [15:0], RO, reset 0, cleared by DEVICE: R300 (10_fronthaul_path.md). -/
def F.FH_LANE_MAC_DST_LO_mac (i : Nat) : Fld := ⟨0x20100c + 32 * i, 0, 32, 0⟩
/-- `FH_LANE_MAC_DST_LO, _HI.mac` [31:0], [15:0], RO, reset 0, cleared by DEVICE: R300 (10_fronthaul_path.md). -/
def F.FH_LANE_MAC_DST_HI_mac (i : Nat) : Fld := ⟨0x201010 + 32 * i, 0, 16, 0⟩
/-- `FH_LANE_CNT0.fcs` [15:0], RC, reset 0, cleared by DEVICE: R300 (10_fronthaul_path.md). -/
def F.FH_LANE_CNT0_fcs (i : Nat) : Fld := ⟨0x201014 + 32 * i, 0, 16, 0⟩
/-- `FH_LANE_CNT0.malformed` [31:16], RC, reset 0, cleared by DEVICE: R300 (10_fronthaul_path.md). -/
def F.FH_LANE_CNT0_malformed (i : Nat) : Fld := ⟨0x201014 + 32 * i, 16, 16, 0⟩
/-- `FH_LANE_CNT1.unknown` [15:0], RC, reset 0, cleared by DEVICE: R300 (10_fronthaul_path.md). -/
def F.FH_LANE_CNT1_unknown (i : Nat) : Fld := ⟨0x201018 + 32 * i, 0, 16, 0⟩
/-- `FH_LANE_CNT1.other` [31:16], RC, reset 0, cleared by DEVICE: R300 (10_fronthaul_path.md). -/
def F.FH_LANE_CNT1_other (i : Nat) : Fld := ⟨0x201018 + 32 * i, 16, 16, 0⟩
/-- `FH_LANE_CNT2.notime` [15:0], RC, reset 0, cleared by DEVICE: R300 (10_fronthaul_path.md). -/
def F.FH_LANE_CNT2_notime (i : Nat) : Fld := ⟨0x20101c + 32 * i, 0, 16, 0⟩
/-- `FH_LANE_CNT2.pause_ignored` [27:16], RC, reset 0, cleared by DEVICE: R300 (10_fronthaul_path.md). -/
def F.FH_LANE_CNT2_pause_ignored (i : Nat) : Fld := ⟨0x20101c + 32 * i, 16, 12, 0⟩
/-- `FH_LANE_CNT2.last_malformed` [31:28], RC, reset 0, cleared by DEVICE: R300 (10_fronthaul_path.md). -/
def F.FH_LANE_CNT2_last_malformed (i : Nat) : Fld := ⟨0x20101c + 32 * i, 28, 4, 0⟩
/-- `FH_ENG_CFG.hold_max_tk` [19:0], RO, reset 98,304, cleared by DEVICE: R300 (10_fronthaul_path.md). -/
def F.FH_ENG_CFG_hold_max_tk (i : Nat) : Fld := ⟨0x203000 + 32 * i, 0, 20, 98304⟩
/-- `FH_ENG_GRP.grp_thr` [15:0], RO, reset 1,000, cleared by DEVICE: R300 (10_fronthaul_path.md). -/
def F.FH_ENG_GRP_grp_thr (i : Nat) : Fld := ⟨0x203004 + 32 * i, 0, 16, 1000⟩
/-- `FH_ENG_STATUS.held` [9:0], RO, reset 0, cleared by DEVICE: R300 (10_fronthaul_path.md). -/
def F.FH_ENG_STATUS_held (i : Nat) : Fld := ⟨0x203008 + 32 * i, 0, 10, 0⟩
/-- `FH_ENG_STATUS.rel_queue` [18:10], RO, reset 0, cleared by DEVICE: R300 (10_fronthaul_path.md). -/
def F.FH_ENG_STATUS_rel_queue (i : Nat) : Fld := ⟨0x203008 + 32 * i, 10, 9, 0⟩
/-- `FH_ENG_CNT0.rel_drop` [15:0], RC, reset 0, cleared by DEVICE: R300 (10_fronthaul_path.md). -/
def F.FH_ENG_CNT0_rel_drop (i : Nat) : Fld := ⟨0x20300c + 32 * i, 0, 16, 0⟩
/-- `FH_ENG_CNT0.early_full` [31:16], RC, reset 0, cleared by DEVICE: R300 (10_fronthaul_path.md). -/
def F.FH_ENG_CNT0_early_full (i : Nat) : Fld := ⟨0x20300c + 32 * i, 16, 16, 0⟩
/-- `FH_ENG_CNT1.gated` [31:0], RC, reset 0, cleared by DEVICE: R300 (10_fronthaul_path.md). -/
def F.FH_ENG_CNT1_gated (i : Nat) : Fld := ⟨0x203010 + 32 * i, 0, 32, 0⟩
/-- `FH_GRP_STATUS0–15.faulty` [0], RO, reset 0, cleared by DEVICE: R300 (10_fronthaul_path.md). -/
def F.FH_GRP_STATUS_faulty (i : Nat) : Fld := ⟨0x203100 + 4 * i, 0, 1, 0⟩
/-- `FH_GRP_STATUS0–15.violations` [31:16], RO, reset 0, cleared by DEVICE: R300 (10_fronthaul_path.md). -/
def F.FH_GRP_STATUS_violations (i : Nat) : Fld := ⟨0x203100 + 4 * i, 16, 16, 0⟩

/-! Block Loft. -/

/-- `LFT_STATUS.groups_failed` [5:0], RO, reset 0, cleared by DEVICE: R329 (11_loft_memory.md). -/
def F.LFT_STATUS_groups_failed : Fld := ⟨0x300000, 0, 6, 0⟩
/-- `LFT_STATUS.spares_used` [11:6], RO, reset 0, cleared by DEVICE: R329 (11_loft_memory.md). -/
def F.LFT_STATUS_spares_used : Fld := ⟨0x300000, 6, 6, 0⟩
/-- `LFT_STATUS.selftest_done` [12], RO, reset 0, cleared by DEVICE: R329 (11_loft_memory.md). -/
def F.LFT_STATUS_selftest_done : Fld := ⟨0x300000, 12, 1, 0⟩
/-- `LFT_STATUS.selftest_pass` [13], RO, reset 0, cleared by DEVICE: R329 (11_loft_memory.md). -/
def F.LFT_STATUS_selftest_pass : Fld := ⟨0x300000, 13, 1, 0⟩
/-- `LFT_POISON_CNT.count` [31:0], RC, reset 0, cleared by DEVICE: R329 (11_loft_memory.md). -/
def F.LFT_POISON_CNT_count : Fld := ⟨0x300010, 0, 32, 0⟩
/-- `LFT_POISON_LAST.addr` [28:0], RO, reset 0, cleared by DEVICE: R329 (11_loft_memory.md). -/
def F.LFT_POISON_LAST_addr : Fld := ⟨0x300014, 0, 29, 0⟩
/-- `LFT_POISON_LAST_REQ.requester` [9:0], RO, reset 0, cleared by DEVICE: R329 (11_loft_memory.md). -/
def F.LFT_POISON_LAST_REQ_requester : Fld := ⟨0x300018, 0, 10, 0⟩
/-- `LFT_BG_CFG0–3.rate` [7:0], RO, reset 64, cleared by DEVICE: R329 (11_loft_memory.md). -/
def F.LFT_BG_CFG_rate (i : Nat) : Fld := ⟨0x300040 + 8 * i, 0, 8, 64⟩
/-- `LFT_BG_LAP0–3.lap_us` [23:0], RO, reset 0, cleared by DEVICE: R329 (11_loft_memory.md). -/
def F.LFT_BG_LAP_lap_us (i : Nat) : Fld := ⟨0x300044 + 8 * i, 0, 24, 0⟩
/-- `LFT_BG_UE_CNT.keeper` [15:0], RC, reset 0, cleared by DEVICE: R329 (11_loft_memory.md). -/
def F.LFT_BG_UE_CNT_keeper : Fld := ⟨0x300060, 0, 16, 0⟩
/-- `LFT_BG_UE_CNT.tables` [31:16], RC, reset 0, cleared by DEVICE: R329 (11_loft_memory.md). -/
def F.LFT_BG_UE_CNT_tables : Fld := ⟨0x300060, 16, 16, 0⟩
/-- `LFT_GRP_CFG.dorm_mode` [1:0], RO, reset 0, cleared by DEVICE: R329 (11_loft_memory.md). -/
def F.LFT_GRP_CFG_dorm_mode (i : Nat) : Fld := ⟨0x300100 + 32 * i, 0, 2, 0⟩
/-- `LFT_GRP_CFG.mirror_src` [2], RO, reset 0, cleared by DEVICE: R329 (11_loft_memory.md). -/
def F.LFT_GRP_CFG_mirror_src (i : Nat) : Fld := ⟨0x300100 + 32 * i, 2, 1, 0⟩
/-- `LFT_GRP_OWN.owner` [9:0], RO, reset 338, cleared by DEVICE: R329 (11_loft_memory.md). -/
def F.LFT_GRP_OWN_owner (i : Nat) : Fld := ⟨0x300104 + 32 * i, 0, 10, 338⟩
/-- `LFT_GRP_OWN.mixed` [10], RO, reset 0, cleared by DEVICE: R329 (11_loft_memory.md). -/
def F.LFT_GRP_OWN_mixed (i : Nat) : Fld := ⟨0x300104 + 32 * i, 10, 1, 0⟩
/-- `LFT_GRP_OWN.busy` [11], RO, reset 0, cleared by DEVICE: R329 (11_loft_memory.md). -/
def F.LFT_GRP_OWN_busy (i : Nat) : Fld := ⟨0x300104 + 32 * i, 11, 1, 0⟩
/-- `LFT_GRP_HANDOVER.new_owner` [9:0], WO, reset 0, cleared by —: R329 (11_loft_memory.md). -/
def F.LFT_GRP_HANDOVER_new_owner (i : Nat) : Fld := ⟨0x300108 + 32 * i, 0, 10, 0⟩
/-- `LFT_GRP_HANDOVER.clear` [10], WO, reset 0, cleared by —: R329 (11_loft_memory.md). -/
def F.LFT_GRP_HANDOVER_clear (i : Nat) : Fld := ⟨0x300108 + 32 * i, 10, 1, 0⟩
/-- `LFT_GRP_HANDOVER.go` [11], WO, reset 0, cleared by —: R329 (11_loft_memory.md). -/
def F.LFT_GRP_HANDOVER_go (i : Nat) : Fld := ⟨0x300108 + 32 * i, 11, 1, 0⟩
/-- `LFT_GRP_STATUS.power` [1:0], RO, reset 0, cleared by DEVICE: R329 (11_loft_memory.md). -/
def F.LFT_GRP_STATUS_power (i : Nat) : Fld := ⟨0x30010c + 32 * i, 0, 2, 0⟩
/-- `LFT_GRP_STATUS.failed` [2], RO, reset 0, cleared by DEVICE: R329 (11_loft_memory.md). -/
def F.LFT_GRP_STATUS_failed (i : Nat) : Fld := ⟨0x30010c + 32 * i, 2, 1, 0⟩
/-- `LFT_GRP_STATUS.spare_for` [8:3], RO, reset 0x3F, cleared by DEVICE: R329 (11_loft_memory.md). -/
def F.LFT_GRP_STATUS_spare_for (i : Nat) : Fld := ⟨0x30010c + 32 * i, 3, 6, 63⟩
/-- `LFT_GRP_STATUS.gated` [9], RO, reset 0, cleared by DEVICE: R329 (11_loft_memory.md). -/
def F.LFT_GRP_STATUS_gated (i : Nat) : Fld := ⟨0x30010c + 32 * i, 9, 1, 0⟩
/-- `LFT_GRP_LAP.lap_us` [23:0], RO, reset 0, cleared by DEVICE: R329 (11_loft_memory.md). -/
def F.LFT_GRP_LAP_lap_us (i : Nat) : Fld := ⟨0x300110 + 32 * i, 0, 24, 0⟩
/-- `LFT_GRP_LAP.stale` [24], RO, reset 0, cleared by DEVICE: R329 (11_loft_memory.md). -/
def F.LFT_GRP_LAP_stale (i : Nat) : Fld := ⟨0x300110 + 32 * i, 24, 1, 0⟩
/-- `LFT_GRP_CE_CNT.ce` [31:0], RC, reset 0, cleared by DEVICE: R329 (11_loft_memory.md). -/
def F.LFT_GRP_CE_CNT_ce (i : Nat) : Fld := ⟨0x300114 + 32 * i, 0, 32, 0⟩
/-- `LFT_GRP_UE_CNT.ue` [15:0], RC, reset 0, cleared by DEVICE: R329 (11_loft_memory.md). -/
def F.LFT_GRP_UE_CNT_ue (i : Nat) : Fld := ⟨0x300118 + 32 * i, 0, 16, 0⟩
/-- `LFT_GRP_UE_CNT.denied` [31:16], RC, reset 0, cleared by DEVICE: R329 (11_loft_memory.md). -/
def F.LFT_GRP_UE_CNT_denied (i : Nat) : Fld := ⟨0x300118 + 32 * i, 16, 16, 0⟩
/-- `LFT_GRP_VREP_CNT.count` [15:0], RC, reset 0, cleared by DEVICE: R329 (11_loft_memory.md). -/
def F.LFT_GRP_VREP_CNT_count (i : Nat) : Fld := ⟨0x30011c + 32 * i, 0, 16, 0⟩
/-- `LFT_BANK_OWN0–1023.owner` [9:0], RO, reset 338, cleared by DEVICE: R329 (11_loft_memory.md). -/
def F.LFT_BANK_OWN_owner (i : Nat) : Fld := ⟨0x301000 + 4 * i, 0, 10, 338⟩
/-- `LFT_BANK_OWN0–1023.new_owner` [19:10], WO, reset 0, cleared by —: R329 (11_loft_memory.md). -/
def F.LFT_BANK_OWN_new_owner (i : Nat) : Fld := ⟨0x301000 + 4 * i, 10, 10, 0⟩
/-- `LFT_BANK_OWN0–1023.clear` [20], WO, reset 0, cleared by —: R329 (11_loft_memory.md). -/
def F.LFT_BANK_OWN_clear (i : Nat) : Fld := ⟨0x301000 + 4 * i, 20, 1, 0⟩
/-- `LFT_BANK_OWN0–1023.go` [21], WO, reset 0, cleared by —: R329 (11_loft_memory.md). -/
def F.LFT_BANK_OWN_go (i : Nat) : Fld := ⟨0x301000 + 4 * i, 21, 1, 0⟩
/-- `LFT_BANK_OWN0–1023.busy` [22], RO, reset 0, cleared by DEVICE: R329 (11_loft_memory.md). -/
def F.LFT_BANK_OWN_busy (i : Nat) : Fld := ⟨0x301000 + 4 * i, 22, 1, 0⟩
/-- `LFT_BANK_OWN0–1023.substituted` [23], RO, reset 0, cleared by DEVICE: R329 (11_loft_memory.md). -/
def F.LFT_BANK_OWN_substituted (i : Nat) : Fld := ⟨0x301000 + 4 * i, 23, 1, 0⟩
/-- `LFT_BANK_CE_CNT0–1023.ce` [15:0], RC, reset 0, cleared by DEVICE: R329 (11_loft_memory.md). -/
def F.LFT_BANK_CE_CNT_ce (i : Nat) : Fld := ⟨0x302000 + 4 * i, 0, 16, 0⟩
/-- `LFT_DMA_SRC.src` [31:0], RW, reset 0, cleared by DEVICE: R330 (11_loft_memory.md). -/
def F.LFT_DMA_SRC_src (i : Nat) : Fld := ⟨0x304000 + 32 * i, 0, 32, 0⟩
/-- `LFT_DMA_DST.dst` [31:0], RW, reset 0, cleared by DEVICE: R330 (11_loft_memory.md). -/
def F.LFT_DMA_DST_dst (i : Nat) : Fld := ⟨0x304004 + 32 * i, 0, 32, 0⟩
/-- `LFT_DMA_LEN.units` [23:0], RW, reset 0, cleared by DEVICE: R330 (11_loft_memory.md). -/
def F.LFT_DMA_LEN_units (i : Nat) : Fld := ⟨0x304008 + 32 * i, 0, 24, 0⟩
/-- `LFT_DMA_CTRL.go` [0], WO, reset 0, cleared by —: R330 (11_loft_memory.md). -/
def F.LFT_DMA_CTRL_go (i : Nat) : Fld := ⟨0x30400c + 32 * i, 0, 1, 0⟩
/-- `LFT_DMA_CTRL.src_tray` [1], RW, reset 0, cleared by DEVICE: R330 (11_loft_memory.md). -/
def F.LFT_DMA_CTRL_src_tray (i : Nat) : Fld := ⟨0x30400c + 32 * i, 1, 1, 0⟩
/-- `LFT_DMA_CTRL.dst_tray` [2], RW, reset 0, cleared by DEVICE: R330 (11_loft_memory.md). -/
def F.LFT_DMA_CTRL_dst_tray (i : Nat) : Fld := ⟨0x30400c + 32 * i, 2, 1, 0⟩
/-- `LFT_DMA_CTRL.ev_done` [3], RW, reset 0, cleared by DEVICE: R330 (11_loft_memory.md). -/
def F.LFT_DMA_CTRL_ev_done (i : Nat) : Fld := ⟨0x30400c + 32 * i, 3, 1, 0⟩
/-- `LFT_DMA_CTRL.abort` [4], WO, reset 0, cleared by —: R330 (11_loft_memory.md). -/
def F.LFT_DMA_CTRL_abort (i : Nat) : Fld := ⟨0x30400c + 32 * i, 4, 1, 0⟩
/-- `LFT_DMA_STATUS.busy` [0], RO, reset 0, cleared by DEVICE: R330 (11_loft_memory.md). -/
def F.LFT_DMA_STATUS_busy (i : Nat) : Fld := ⟨0x304010 + 32 * i, 0, 1, 0⟩
/-- `LFT_DMA_STATUS.done` [1], RO, reset 0, cleared by DEVICE: R330 (11_loft_memory.md). -/
def F.LFT_DMA_STATUS_done (i : Nat) : Fld := ⟨0x304010 + 32 * i, 1, 1, 0⟩
/-- `LFT_DMA_STATUS.halted` [2], RO, reset 0, cleared by DEVICE: R330 (11_loft_memory.md). -/
def F.LFT_DMA_STATUS_halted (i : Nat) : Fld := ⟨0x304010 + 32 * i, 2, 1, 0⟩
/-- `LFT_DMA_STATUS.cause` [5:3], RO, reset 0, cleared by DEVICE: R330 (11_loft_memory.md). -/
def F.LFT_DMA_STATUS_cause (i : Nat) : Fld := ⟨0x304010 + 32 * i, 3, 3, 0⟩
/-- `LFT_DMA_UNITS_DONE.units` [23:0], RO, reset 0, cleared by DEVICE: R330 (11_loft_memory.md). -/
def F.LFT_DMA_UNITS_DONE_units (i : Nat) : Fld := ⟨0x304014 + 32 * i, 0, 24, 0⟩
/-- `LFT_DMA_FAIL_ADDR.addr` [31:0], RO, reset 0, cleared by DEVICE: R330 (11_loft_memory.md). -/
def F.LFT_DMA_FAIL_ADDR_addr (i : Nat) : Fld := ⟨0x304018 + 32 * i, 0, 32, 0⟩
/-- `LFT_DMA_CFG.as_owner` [9:0], RO, reset 0x3FF, cleared by DEVICE: R330 (11_loft_memory.md). -/
def F.LFT_DMA_CFG_as_owner (i : Nat) : Fld := ⟨0x30401c + 32 * i, 0, 10, 1023⟩
/-- `LFT_DMA_CFG.ctl` [11:10], RO, reset 0, cleared by DEVICE: R330 (11_loft_memory.md). -/
def F.LFT_DMA_CFG_ctl (i : Nat) : Fld := ⟨0x30401c + 32 * i, 10, 2, 0⟩

/-! Block Config. -/

/-- `CFG_STATUS.load_state` [2:0], RO, reset 0, cleared by DEVICE: R366 (12_configuration.md). -/
def F.CFG_STATUS_load_state : Fld := ⟨0x600000, 0, 3, 0⟩
/-- `CFG_STATUS.slot` [3], RO, reset 0, cleared by DEVICE: R366 (12_configuration.md). -/
def F.CFG_STATUS_slot : Fld := ⟨0x600000, 3, 1, 0⟩
/-- `CFG_STATUS.alt_tried` [4], RO, reset 0, cleared by DEVICE: R366 (12_configuration.md). -/
def F.CFG_STATUS_alt_tried : Fld := ⟨0x600000, 4, 1, 0⟩
/-- `CFG_STATUS.boot_slow` [5], RO, reset 0, cleared by DEVICE: R366 (12_configuration.md). -/
def F.CFG_STATUS_boot_slow : Fld := ⟨0x600000, 5, 1, 0⟩
/-- `CFG_STATUS.commits` [15:8], RO, reset 0, cleared by DEVICE: R366 (12_configuration.md). -/
def F.CFG_STATUS_commits : Fld := ⟨0x600000, 8, 8, 0⟩
/-- `CFG_FAIL0, CFG_FAIL1.code` [7:0], RO, reset 0, cleared by DEVICE: R366 (12_configuration.md). -/
def F.CFG_FAIL_code (i : Nat) : Fld := ⟨0x600004 + 4 * i, 0, 8, 0⟩
/-- `CFG_FAIL0, CFG_FAIL1.area` [9:8], RO, reset 0, cleared by DEVICE: R366 (12_configuration.md). -/
def F.CFG_FAIL_area (i : Nat) : Fld := ⟨0x600004 + 4 * i, 8, 2, 0⟩
/-- `CFG_FAIL0, CFG_FAIL1.reason` [13:10], RO, reset 0, cleared by DEVICE: R366 (12_configuration.md). -/
def F.CFG_FAIL_reason (i : Nat) : Fld := ⟨0x600004 + 4 * i, 10, 4, 0⟩
/-- `CFG_FAIL0, CFG_FAIL1.frame` [31:16], RO, reset 0, cleared by DEVICE: R366 (12_configuration.md). -/
def F.CFG_FAIL_frame (i : Nat) : Fld := ⟨0x600004 + 4 * i, 16, 16, 0⟩
/-- `CFG_STREAM.frames` [15:0], RO, reset 0, cleared by DEVICE: R366 (12_configuration.md). -/
def F.CFG_STREAM_frames : Fld := ⟨0x60000c, 0, 16, 0⟩
/-- `CFG_STREAM_VER.version` [31:0], RO, reset 0, cleared by DEVICE: R366 (12_configuration.md). -/
def F.CFG_STREAM_VER_version : Fld := ⟨0x600010, 0, 32, 0⟩
/-- `CFG_LOAD_US.us` [31:0], RO, reset 0, cleared by DEVICE: R366 (12_configuration.md). -/
def F.CFG_LOAD_US_us : Fld := ⟨0x600014, 0, 32, 0⟩
/-- `CFG_CRC_RETRY_CNT.count` [15:0], RC, reset 0, cleared by DEVICE: R366 (12_configuration.md). -/
def F.CFG_CRC_RETRY_CNT_count : Fld := ⟨0x600018, 0, 16, 0⟩
/-- `CFG_LOFT_SKIP_CNT.frames` [15:0], RC, reset 0, cleared by DEVICE: R366 (12_configuration.md). -/
def F.CFG_LOFT_SKIP_CNT_frames : Fld := ⟨0x60001c, 0, 16, 0⟩
/-- `CFG_ROOT0–11.root` [31:0], RO, reset 0, cleared by DEVICE: R366 (12_configuration.md). -/
def F.CFG_ROOT_root (i : Nat) : Fld := ⟨0x600020 + 4 * i, 0, 32, 0⟩
/-- `CFG_PR_CFG.enable` [0], RO, reset 0, cleared by DEVICE: R366 (12_configuration.md). -/
def F.CFG_PR_CFG_enable : Fld := ⟨0x600100, 0, 1, 0⟩
/-- `CFG_PR_CFG.rw_bin` [8:1], RO, reset 0, cleared by DEVICE: R366 (12_configuration.md). -/
def F.CFG_PR_CFG_rw_bin : Fld := ⟨0x600100, 1, 8, 0⟩
/-- `CFG_PR_CFG.stage_group` [13:9], RO, reset 0, cleared by DEVICE: R366 (12_configuration.md). -/
def F.CFG_PR_CFG_stage_group : Fld := ⟨0x600100, 9, 5, 0⟩
/-- `CFG_PR_SRC.addr` [29:0], RW, reset 0, cleared by DEVICE: R366 (12_configuration.md). -/
def F.CFG_PR_SRC_addr : Fld := ⟨0x600104, 0, 30, 0⟩
/-- `CFG_PR_LEN.frames` [12:0], RW, reset 0, cleared by DEVICE: R366 (12_configuration.md). -/
def F.CFG_PR_LEN_frames : Fld := ⟨0x600108, 0, 13, 0⟩
/-- `CFG_PR_CMD.stage` [0], WO, reset 0, cleared by —: R366 (12_configuration.md). -/
def F.CFG_PR_CMD_stage : Fld := ⟨0x60010c, 0, 1, 0⟩
/-- `CFG_PR_CMD.discard` [1], WO, reset 0, cleared by —: R366 (12_configuration.md). -/
def F.CFG_PR_CMD_discard : Fld := ⟨0x60010c, 1, 1, 0⟩
/-- `CFG_PR_STATUS.state` [1:0], RO, reset 0, cleared by DEVICE: R366 (12_configuration.md). -/
def F.CFG_PR_STATUS_state : Fld := ⟨0x600110, 0, 2, 0⟩
/-- `CFG_PR_STATUS.retained` [2], RO, reset 0, cleared by DEVICE: R366 (12_configuration.md). -/
def F.CFG_PR_STATUS_retained : Fld := ⟨0x600110, 2, 1, 0⟩
/-- `CFG_PR_STATUS.code` [10:3], RO, reset 0, cleared by DEVICE: R366 (12_configuration.md). -/
def F.CFG_PR_STATUS_code : Fld := ⟨0x600110, 3, 8, 0⟩
/-- `CFG_PR_STATUS.area` [12:11], RO, reset 0, cleared by DEVICE: R366 (12_configuration.md). -/
def F.CFG_PR_STATUS_area : Fld := ⟨0x600110, 11, 2, 0⟩
/-- `CFG_PR_STATUS.reason` [16:13], RO, reset 0, cleared by DEVICE: R366 (12_configuration.md). -/
def F.CFG_PR_STATUS_reason : Fld := ⟨0x600110, 13, 4, 0⟩
/-- `CFG_PR_STATUS.frames_done` [29:17], RO, reset 0, cleared by DEVICE: R366 (12_configuration.md). -/
def F.CFG_PR_STATUS_frames_done : Fld := ⟨0x600110, 17, 13, 0⟩
/-- `CFG_PR_ROOT0–11.root` [31:0], RO, reset 0, cleared by DEVICE: R366 (12_configuration.md). -/
def F.CFG_PR_ROOT_root (i : Nat) : Fld := ⟨0x600120 + 4 * i, 0, 32, 0⟩
/-- `CFG_PR_COMMIT_FP_LO, _HI.fp` [31:0], RO, reset 0, cleared by DEVICE: R366 (12_configuration.md). -/
def F.CFG_PR_COMMIT_FP_LO_fp : Fld := ⟨0x600150, 0, 32, 0⟩
/-- `CFG_PR_COMMIT_FP_LO, _HI.fp` [31:0], RO, reset 0, cleared by DEVICE: R366 (12_configuration.md). -/
def F.CFG_PR_COMMIT_FP_HI_fp : Fld := ⟨0x600154, 0, 32, 0⟩
/-- `CFG_PR_DROP_CNT.count` [31:0], RC, reset 0, cleared by DEVICE: R366 (12_configuration.md). -/
def F.CFG_PR_DROP_CNT_count : Fld := ⟨0x600158, 0, 32, 0⟩
/-- `CFG_PR_CNT.staged` [15:0], RC, reset 0, cleared by DEVICE: R366 (12_configuration.md). -/
def F.CFG_PR_CNT_staged : Fld := ⟨0x60015c, 0, 16, 0⟩
/-- `CFG_PR_CNT.refused` [31:16], RC, reset 0, cleared by DEVICE: R366 (12_configuration.md). -/
def F.CFG_PR_CNT_refused : Fld := ⟨0x60015c, 16, 16, 0⟩
/-- `CFG_SCRUB_POS.word` [24:0], RO, reset 0, cleared by DEVICE: R366 (12_configuration.md). -/
def F.CFG_SCRUB_POS_word (i : Nat) : Fld := ⟨0x600200 + 16 * i, 0, 25, 0⟩
/-- `CFG_SCRUB_SIG.sig` [31:0], RO, reset 0, cleared by DEVICE: R366 (12_configuration.md). -/
def F.CFG_SCRUB_SIG_sig (i : Nat) : Fld := ⟨0x600204 + 16 * i, 0, 32, 0⟩
/-- `CFG_SCRUB_CNT.corrected` [15:0], RC, reset 0, cleared by DEVICE: R366 (12_configuration.md). -/
def F.CFG_SCRUB_CNT_corrected (i : Nat) : Fld := ⟨0x600208 + 16 * i, 0, 16, 0⟩
/-- `CFG_SCRUB_CNT.repaired` [31:16], RC, reset 0, cleared by DEVICE: R366 (12_configuration.md). -/
def F.CFG_SCRUB_CNT_repaired (i : Nat) : Fld := ⟨0x600208 + 16 * i, 16, 16, 0⟩
/-- `CFG_SCRUB_LAP.lap_us` [23:0], RO, reset 0, cleared by DEVICE: R366 (12_configuration.md). -/
def F.CFG_SCRUB_LAP_lap_us (i : Nat) : Fld := ⟨0x60020c + 16 * i, 0, 24, 0⟩
/-- `CFG_SCRUB_STATE.mismatches` [1:0], RO, reset 0, cleared by DEVICE: R366 (12_configuration.md). -/
def F.CFG_SCRUB_STATE_mismatches : Fld := ⟨0x600220, 0, 2, 0⟩
/-- `CFG_SCRUB_STATE.failed` [2], RO, reset 0, cleared by DEVICE: R366 (12_configuration.md). -/
def F.CFG_SCRUB_STATE_failed : Fld := ⟨0x600220, 2, 1, 0⟩
/-- `CFG_SCRUB_STATE.unrepaired` [15:8], RO, reset 0, cleared by DEVICE: R366 (12_configuration.md). -/
def F.CFG_SCRUB_STATE_unrepaired : Fld := ⟨0x600220, 8, 8, 0⟩
/-- `CFG_SCRUB_VOTE_CNT.count` [15:0], RC, reset 0, cleared by DEVICE: R366 (12_configuration.md). -/
def F.CFG_SCRUB_VOTE_CNT_count : Fld := ⟨0x600224, 0, 16, 0⟩

/-! Block Twin. -/

/-- `TW_CFG.enable` [0], RO, reset 0, cleared by DEVICE: R396 (13_twin.md). -/
def F.TW_CFG_enable : Fld := ⟨0x500000, 0, 1, 0⟩
/-- `TW_CFG.lane_mask` [8:1], RO, reset 0, cleared by DEVICE: R396 (13_twin.md). -/
def F.TW_CFG_lane_mask : Fld := ⟨0x500000, 1, 8, 0⟩
/-- `TW_CFG.priority` [12:9], RO, reset 0, cleared by DEVICE: R396 (13_twin.md). -/
def F.TW_CFG_priority : Fld := ⟨0x500000, 9, 4, 0⟩
/-- `TW_CFG.fault_on_degraded` [13], RO, reset 0, cleared by DEVICE: R396 (13_twin.md). -/
def F.TW_CFG_fault_on_degraded : Fld := ⟨0x500000, 13, 1, 0⟩
/-- `TW_CFG.fault_on_free` [14], RO, reset 0, cleared by DEVICE: R396 (13_twin.md). -/
def F.TW_CFG_fault_on_free : Fld := ⟨0x500000, 14, 1, 0⟩
/-- `TW_CFG.fault_on_pool_empty` [15], RO, reset 0, cleared by DEVICE: R396 (13_twin.md). -/
def F.TW_CFG_fault_on_pool_empty : Fld := ⟨0x500000, 15, 1, 0⟩
/-- `TW_CFG.switch_on_partner` [16], RO, reset 0, cleared by DEVICE: R396 (13_twin.md). -/
def F.TW_CFG_switch_on_partner : Fld := ⟨0x500000, 16, 1, 0⟩
/-- `TW_CFG.take_if_not_ready` [17], RO, reset 1, cleared by DEVICE: R396 (13_twin.md). -/
def F.TW_CFG_take_if_not_ready : Fld := ⟨0x500000, 17, 1, 1⟩
/-- `TW_CFG.pair_wait_ms` [31:20], RO, reset 2,000, cleared by DEVICE: R396 (13_twin.md). -/
def F.TW_CFG_pair_wait_ms : Fld := ⟨0x500000, 20, 12, 2000⟩
/-- `TW_CFG2.seq_guard` [15:0], RO, reset 4,096, cleared by DEVICE: R396 (13_twin.md). -/
def F.TW_CFG2_seq_guard : Fld := ⟨0x500004, 0, 16, 4096⟩
/-- `TW_CFG2.bulk_share` [23:16], RO, reset 50, cleared by DEVICE: R396 (13_twin.md). -/
def F.TW_CFG2_bulk_share : Fld := ⟨0x500004, 16, 8, 50⟩
/-- `TW_CFG2.fp_tol` [31:24], RO, reset 25, cleared by DEVICE: R396 (13_twin.md). -/
def F.TW_CFG2_fp_tol : Fld := ⟨0x500004, 24, 8, 25⟩
/-- `TW_CFG3.lag_max_us` [15:0], RO, reset 1,000, cleared by DEVICE: R396 (13_twin.md). -/
def F.TW_CFG3_lag_max_us : Fld := ⟨0x500008, 0, 16, 1000⟩
/-- `TW_META.meta0` [4:0], RO, reset 0, cleared by DEVICE: R396 (13_twin.md). -/
def F.TW_META_meta0 : Fld := ⟨0x50000c, 0, 5, 0⟩
/-- `TW_META.meta1` [9:5], RO, reset 0, cleared by DEVICE: R396 (13_twin.md). -/
def F.TW_META_meta1 : Fld := ⟨0x50000c, 5, 5, 0⟩
/-- `TW_META.meta_count` [11:10], RO, reset 0, cleared by DEVICE: R396 (13_twin.md). -/
def F.TW_META_meta_count : Fld := ⟨0x50000c, 10, 2, 0⟩
/-- `TW_STATUS.state` [2:0], RO, reset 6, cleared by DEVICE: R396 (13_twin.md). -/
def F.TW_STATUS_state : Fld := ⟨0x500010, 0, 3, 6⟩
/-- `TW_STATUS.role` [3], RO, reset 0, cleared by DEVICE: R396 (13_twin.md). -/
def F.TW_STATUS_role : Fld := ⟨0x500010, 3, 1, 0⟩
/-- `TW_STATUS.ready` [4], RO, reset 0, cleared by DEVICE: R396 (13_twin.md). -/
def F.TW_STATUS_ready : Fld := ⟨0x500010, 4, 1, 0⟩
/-- `TW_STATUS.peer_ready` [5], RO, reset 0, cleared by DEVICE: R396 (13_twin.md). -/
def F.TW_STATUS_peer_ready : Fld := ⟨0x500010, 5, 1, 0⟩
/-- `TW_STATUS.sideband_ok` [6], RO, reset 0, cleared by DEVICE: R396 (13_twin.md). -/
def F.TW_STATUS_sideband_ok : Fld := ⟨0x500010, 6, 1, 0⟩
/-- `TW_STATUS.link_ok` [7], RO, reset 0, cleared by DEVICE: R396 (13_twin.md). -/
def F.TW_STATUS_link_ok : Fld := ⟨0x500010, 7, 1, 0⟩
/-- `TW_STATUS.lanes_up` [15:8], RO, reset 0, cleared by DEVICE: R396 (13_twin.md). -/
def F.TW_STATUS_lanes_up : Fld := ⟨0x500010, 8, 8, 0⟩
/-- `TW_STATUS.key_id` [19:16], RO, reset 0, cleared by DEVICE: R396 (13_twin.md). -/
def F.TW_STATUS_key_id : Fld := ⟨0x500010, 16, 4, 0⟩
/-- `TW_STATUS.pair_step` [22:20], RO, reset 0, cleared by DEVICE: R396 (13_twin.md). -/
def F.TW_STATUS_pair_step : Fld := ⟨0x500010, 20, 3, 0⟩
/-- `TW_EPOCH.epoch` [15:0], RO, reset 0, cleared by DEVICE: R396 (13_twin.md). -/
def F.TW_EPOCH_epoch : Fld := ⟨0x500014, 0, 16, 0⟩
/-- `TW_EPOCH.session` [31:16], RO, reset 0, cleared by DEVICE: R396 (13_twin.md). -/
def F.TW_EPOCH_session : Fld := ⟨0x500014, 16, 16, 0⟩
/-- `TW_PAIR_ID_LO, _HI.id` [31:0], RO, reset 0, cleared by DEVICE: R396 (13_twin.md). -/
def F.TW_PAIR_ID_LO_id : Fld := ⟨0x500018, 0, 32, 0⟩
/-- `TW_PAIR_ID_LO, _HI.id` [31:0], RO, reset 0, cleared by DEVICE: R396 (13_twin.md). -/
def F.TW_PAIR_ID_HI_id : Fld := ⟨0x50001c, 0, 32, 0⟩
/-- `TW_LAG.lag_us` [31:0], RO, reset 0, cleared by DEVICE: R396 (13_twin.md). -/
def F.TW_LAG_lag_us : Fld := ⟨0x500020, 0, 32, 0⟩
/-- `TW_FP_OFFSET.offset_ns` [31:0], RO, reset 0, cleared by DEVICE: R396 (13_twin.md). -/
def F.TW_FP_OFFSET_offset_ns : Fld := ⟨0x500024, 0, 32, 0⟩
/-- `TW_STALE.lines` [23:0], RO, reset 0, cleared by DEVICE: R396 (13_twin.md). -/
def F.TW_STALE_lines : Fld := ⟨0x500028, 0, 24, 0⟩
/-- `TW_BULK.percent` [6:0], RO, reset 0, cleared by DEVICE: R396 (13_twin.md). -/
def F.TW_BULK_percent : Fld := ⟨0x50002c, 0, 7, 0⟩
/-- `TW_BULK.done` [7], RO, reset 0, cleared by DEVICE: R396 (13_twin.md). -/
def F.TW_BULK_done : Fld := ⟨0x50002c, 7, 1, 0⟩
/-- `TW_PARTNER_FLT.groups` [15:0], RO, reset 0, cleared by DEVICE: R396 (13_twin.md). -/
def F.TW_PARTNER_FLT_groups : Fld := ⟨0x500030, 0, 16, 0⟩
/-- `TW_REQ.req` [1:0], WO, reset 0, cleared by —: R396 (13_twin.md). -/
def F.TW_REQ_req : Fld := ⟨0x500034, 0, 2, 0⟩
/-- `TW_REQ.rekey` [2], WO, reset 0, cleared by —: R396 (13_twin.md). -/
def F.TW_REQ_rekey : Fld := ⟨0x500034, 2, 1, 0⟩
/-- `TW_REQ_STATUS.last` [1:0], RO, reset 0, cleared by DEVICE: R396 (13_twin.md). -/
def F.TW_REQ_STATUS_last : Fld := ⟨0x500038, 0, 2, 0⟩
/-- `TW_REQ_STATUS.refused` [2], RO, reset 0, cleared by DEVICE: R396 (13_twin.md). -/
def F.TW_REQ_STATUS_refused : Fld := ⟨0x500038, 2, 1, 0⟩
/-- `TW_REQ_STATUS.reason` [5:3], RO, reset 0, cleared by DEVICE: R396 (13_twin.md). -/
def F.TW_REQ_STATUS_reason : Fld := ⟨0x500038, 3, 3, 0⟩
/-- `TW_CNT_LINK.retries` [15:0], RC, reset 0, cleared by DEVICE: R396 (13_twin.md). -/
def F.TW_CNT_LINK_retries : Fld := ⟨0x500040, 0, 16, 0⟩
/-- `TW_CNT_LINK.dup` [31:16], RC, reset 0, cleared by DEVICE: R396 (13_twin.md). -/
def F.TW_CNT_LINK_dup : Fld := ⟨0x500040, 16, 16, 0⟩
/-- `TW_CNT_LINES.dup` [15:0], RC, reset 0, cleared by DEVICE: R396 (13_twin.md). -/
def F.TW_CNT_LINES_dup : Fld := ⟨0x500044, 0, 16, 0⟩
/-- `TW_CNT_LINES.merge_refused` [31:16], RC, reset 0, cleared by DEVICE: R396 (13_twin.md). -/
def F.TW_CNT_LINES_merge_refused : Fld := ⟨0x500044, 16, 16, 0⟩
/-- `TW_CNT_TAG.fail` [15:0], RC, reset 0, cleared by DEVICE: R396 (13_twin.md). -/
def F.TW_CNT_TAG_fail : Fld := ⟨0x500048, 0, 16, 0⟩
/-- `TW_CNT_TAG.line_req` [31:16], RC, reset 0, cleared by DEVICE: R396 (13_twin.md). -/
def F.TW_CNT_TAG_line_req : Fld := ⟨0x500048, 16, 16, 0⟩
/-- `TW_CNT_MISC.malformed` [15:0], RC, reset 0, cleared by DEVICE: R396 (13_twin.md). -/
def F.TW_CNT_MISC_malformed : Fld := ⟨0x50004c, 0, 16, 0⟩
/-- `TW_CNT_MISC.zero_bursts` [31:16], RC, reset 0, cleared by DEVICE: R396 (13_twin.md). -/
def F.TW_CNT_MISC_zero_bursts : Fld := ⟨0x50004c, 16, 16, 0⟩
/-- `TW_HB_MISS_CNT.sideband` [15:0], RC, reset 0, cleared by DEVICE: R396 (13_twin.md). -/
def F.TW_HB_MISS_CNT_sideband : Fld := ⟨0x500050, 0, 16, 0⟩
/-- `TW_HB_MISS_CNT.link` [31:16], RC, reset 0, cleared by DEVICE: R396 (13_twin.md). -/
def F.TW_HB_MISS_CNT_link : Fld := ⟨0x500050, 16, 16, 0⟩
/-- `TW_TAKE_CNT.count` [15:0], RC, reset 0, cleared by DEVICE: R396 (13_twin.md). -/
def F.TW_TAKE_CNT_count : Fld := ⟨0x500054, 0, 16, 0⟩
/-- `TW_LAST_TAKE_FP_LO, _HI.fp` [31:0], RO, reset 0, cleared by DEVICE: R396 (13_twin.md). -/
def F.TW_LAST_TAKE_FP_LO_fp : Fld := ⟨0x500058, 0, 32, 0⟩
/-- `TW_LAST_TAKE_FP_LO, _HI.fp` [31:0], RO, reset 0, cleared by DEVICE: R396 (13_twin.md). -/
def F.TW_LAST_TAKE_FP_HI_fp : Fld := ⟨0x50005c, 0, 32, 0⟩
/-- `TW_LAST_TAKE_US.us` [15:0], RO, reset 0, cleared by DEVICE: R396 (13_twin.md). -/
def F.TW_LAST_TAKE_US_us : Fld := ⟨0x500060, 0, 16, 0⟩

/-! Block Clocks. -/

/-- `RST_MODE.mode` [2:0], RO, reset 0, cleared by DEVICE: R421 (14_modes_resets_crossings.md). -/
def F.RST_MODE_mode : Fld := ⟨0x21000, 0, 3, 0⟩
/-- `RST_MODE.prior` [3], RO, reset 0, cleared by DEVICE: R421 (14_modes_resets_crossings.md). -/
def F.RST_MODE_prior : Fld := ⟨0x21000, 3, 1, 0⟩
/-- `RST_MODE.entering` [4], RO, reset 0, cleared by DEVICE: R421 (14_modes_resets_crossings.md). -/
def F.RST_MODE_entering : Fld := ⟨0x21000, 4, 1, 0⟩
/-- `RST_HEALTH.degraded` [0], RO, reset 0, cleared by DEVICE: R421 (14_modes_resets_crossings.md). -/
def F.RST_HEALTH_degraded : Fld := ⟨0x21004, 0, 1, 0⟩
/-- `RST_HEALTH.cause` [10:1], RO, reset 0, cleared by DEVICE: R421 (14_modes_resets_crossings.md). -/
def F.RST_HEALTH_cause : Fld := ⟨0x21004, 1, 10, 0⟩
/-- `RST_MODE_REQ.req` [2:0], WO, reset 0, cleared by —: R421 (14_modes_resets_crossings.md). -/
def F.RST_MODE_REQ_req : Fld := ⟨0x21008, 0, 3, 0⟩
/-- `RST_MODE_REQ_STATUS.busy` [0], RO, reset 0, cleared by DEVICE: R421 (14_modes_resets_crossings.md). -/
def F.RST_MODE_REQ_STATUS_busy : Fld := ⟨0x2100c, 0, 1, 0⟩
/-- `RST_MODE_REQ_STATUS.refused` [1], RO, reset 0, cleared by DEVICE: R421 (14_modes_resets_crossings.md). -/
def F.RST_MODE_REQ_STATUS_refused : Fld := ⟨0x2100c, 1, 1, 0⟩
/-- `RST_MODE_REQ_STATUS.reason` [4:2], RO, reset 0, cleared by DEVICE: R421 (14_modes_resets_crossings.md). -/
def F.RST_MODE_REQ_STATUS_reason : Fld := ⟨0x2100c, 2, 3, 0⟩
/-- `RST_WAKE_CFG.item` [0], RO, reset 0, cleared by DEVICE: R421 (14_modes_resets_crossings.md). -/
def F.RST_WAKE_CFG_item : Fld := ⟨0x21010, 0, 1, 0⟩
/-- `RST_WAKE_CFG.lane_up` [1], RO, reset 0, cleared by DEVICE: R421 (14_modes_resets_crossings.md). -/
def F.RST_WAKE_CFG_lane_up : Fld := ⟨0x21010, 1, 1, 0⟩
/-- `RST_WAKE_CFG.frame` [2], RO, reset 0, cleared by DEVICE: R421 (14_modes_resets_crossings.md). -/
def F.RST_WAKE_CFG_frame : Fld := ⟨0x21010, 2, 1, 0⟩
/-- `RST_CTRL.warm` [0], WO, reset 0, cleared by —: R421 (14_modes_resets_crossings.md). -/
def F.RST_CTRL_warm : Fld := ⟨0x21014, 0, 1, 0⟩
/-- `RST_CTRL.shelf_a` [1], WO, reset 0, cleared by —: R421 (14_modes_resets_crossings.md). -/
def F.RST_CTRL_shelf_a : Fld := ⟨0x21014, 1, 1, 0⟩
/-- `RST_CTRL.shelf_b` [2], WO, reset 0, cleared by —: R421 (14_modes_resets_crossings.md). -/
def F.RST_CTRL_shelf_b : Fld := ⟨0x21014, 2, 1, 0⟩
/-- `RST_CTRL.bin` [3], WO, reset 0, cleared by —: R421 (14_modes_resets_crossings.md). -/
def F.RST_CTRL_bin : Fld := ⟨0x21014, 3, 1, 0⟩
/-- `RST_CTRL.lbin` [11:4], WO, reset 0, cleared by —: R421 (14_modes_resets_crossings.md). -/
def F.RST_CTRL_lbin : Fld := ⟨0x21014, 4, 8, 0⟩
/-- `RST_CTRL.lgrp` [12], WO, reset 0, cleared by —: R421 (14_modes_resets_crossings.md). -/
def F.RST_CTRL_lgrp : Fld := ⟨0x21014, 12, 1, 0⟩
/-- `RST_CTRL.group` [16:13], WO, reset 0, cleared by —: R421 (14_modes_resets_crossings.md). -/
def F.RST_CTRL_group : Fld := ⟨0x21014, 13, 4, 0⟩
/-- `RST_CAUSE.cause` [2:0], RO, reset 0, cleared by POR: R421 (14_modes_resets_crossings.md). -/
def F.RST_CAUSE_cause : Fld := ⟨0x21018, 0, 3, 0⟩
/-- `RST_WAKE_US.us` [15:0], RO, reset 0, cleared by DEVICE: R421 (14_modes_resets_crossings.md). -/
def F.RST_WAKE_US_us : Fld := ⟨0x2101c, 0, 16, 0⟩
/-- `RST_EV_LOST.count` [15:0], RC, reset 0, cleared by DEVICE: R421 (14_modes_resets_crossings.md). -/
def F.RST_EV_LOST_count : Fld := ⟨0x21020, 0, 16, 0⟩
/-- `RST_WARM_CNT.count` [15:0], RC, reset 0, cleared by DEVICE: R421 (14_modes_resets_crossings.md). -/
def F.RST_WARM_CNT_count : Fld := ⟨0x21024, 0, 16, 0⟩
/-- `RST_PORST_SHORT_CNT.count` [15:0], RC, reset 0, cleared by DEVICE: R421 (14_modes_resets_crossings.md). -/
def F.RST_PORST_SHORT_CNT_count : Fld := ⟨0x21028, 0, 16, 0⟩

/-! Block Security. -/

/-- `SEC_LC.state` [1:0], RO, reset fuse, cleared by —: R443 (15_lifecycle_security.md). -/
def F.SEC_LC_state : Fld := ⟨0x700000, 0, 2, 0⟩
/-- `SEC_LC.return_begun` [2], RO, reset fuse, cleared by —: R443 (15_lifecycle_security.md). -/
def F.SEC_LC_return_begun : Fld := ⟨0x700000, 2, 1, 0⟩
/-- `SEC_LC.owner_prog` [6:3], RO, reset fuse, cleared by —: R443 (15_lifecycle_security.md). -/
def F.SEC_LC_owner_prog : Fld := ⟨0x700000, 3, 4, 0⟩
/-- `SEC_LC.owner_rev` [10:7], RO, reset fuse, cleared by —: R443 (15_lifecycle_security.md). -/
def F.SEC_LC_owner_rev : Fld := ⟨0x700000, 7, 4, 0⟩
/-- `SEC_LC.key_prog` [14:11], RO, reset fuse, cleared by —: R443 (15_lifecycle_security.md). -/
def F.SEC_LC_key_prog : Fld := ⟨0x700000, 11, 4, 0⟩
/-- `SEC_LC.key_rev` [18:15], RO, reset fuse, cleared by —: R443 (15_lifecycle_security.md). -/
def F.SEC_LC_key_rev : Fld := ⟨0x700000, 15, 4, 0⟩
/-- `SEC_LC.key_valid` [19], RO, reset 0, cleared by DEVICE: R443 (15_lifecycle_security.md). -/
def F.SEC_LC_key_valid : Fld := ⟨0x700000, 19, 1, 0⟩
/-- `SEC_LC.fw_key0_rev` [20], RO, reset fuse, cleared by —: R443 (15_lifecycle_security.md). -/
def F.SEC_LC_fw_key0_rev : Fld := ⟨0x700000, 20, 1, 0⟩
/-- `SEC_ARB.c_fw` [5:0], RO, reset fuse, cleared by —: R443 (15_lifecycle_security.md). -/
def F.SEC_ARB_c_fw : Fld := ⟨0x700004, 0, 6, 0⟩
/-- `SEC_ARB.c_st` [13:8], RO, reset fuse, cleared by —: R443 (15_lifecycle_security.md). -/
def F.SEC_ARB_c_st : Fld := ⟨0x700004, 8, 6, 0⟩
/-- `SEC_ARB.last_fw` [16], RO, reset fuse, cleared by —: R443 (15_lifecycle_security.md). -/
def F.SEC_ARB_last_fw : Fld := ⟨0x700004, 16, 1, 0⟩
/-- `SEC_ARB.last_st` [17], RO, reset fuse, cleared by —: R443 (15_lifecycle_security.md). -/
def F.SEC_ARB_last_st : Fld := ⟨0x700004, 17, 1, 0⟩
/-- `SEC_MEAS_FW0–11.hash` [31:0], RO, reset 0, cleared by DEVICE: R443 (15_lifecycle_security.md). -/
def F.SEC_MEAS_FW_hash (i : Nat) : Fld := ⟨0x700010 + 4 * i, 0, 32, 0⟩
/-- `SEC_MEAS_CFG0–11.hash` [31:0], RO, reset 0, cleared by DEVICE: R443 (15_lifecycle_security.md). -/
def F.SEC_MEAS_CFG_hash (i : Nat) : Fld := ⟨0x700040 + 4 * i, 0, 32, 0⟩
/-- `SEC_ATT_PUB0–23.key` [31:0], RO, reset fuse, cleared by —: R443 (15_lifecycle_security.md). -/
def F.SEC_ATT_PUB_key (i : Nat) : Fld := ⟨0x700080 + 4 * i, 0, 32, (Rst.attPub i)⟩
/-- `SEC_XPORT_PUB0–23.key` [31:0], RO, reset fuse, cleared by —: R443 (15_lifecycle_security.md). -/
def F.SEC_XPORT_PUB_key (i : Nat) : Fld := ⟨0x7000e0 + 4 * i, 0, 32, (Rst.xportPub i)⟩
/-- `SEC_CMD_NONCE0–7.nonce` [31:0], RO, reset Random, cleared by DEVICE: R443 (15_lifecycle_security.md). -/
def F.SEC_CMD_NONCE_nonce (i : Nat) : Fld := ⟨0x700140 + 4 * i, 0, 32, 0⟩
/-- `SEC_CMD_DATA0–127.data` [31:0], RW, reset 0, cleared by WARM: R443 (15_lifecycle_security.md). -/
def F.SEC_CMD_DATA_data (i : Nat) : Fld := ⟨0x700200 + 4 * i, 0, 32, 0⟩
/-- `SEC_CMD_GO.go` [0], WO, reset 0, cleared by —: R443 (15_lifecycle_security.md). -/
def F.SEC_CMD_GO_go : Fld := ⟨0x700400, 0, 1, 0⟩
/-- `SEC_CMD_STATUS.busy` [0], RO, reset 0, cleared by WARM: R443 (15_lifecycle_security.md). -/
def F.SEC_CMD_STATUS_busy : Fld := ⟨0x700404, 0, 1, 0⟩
/-- `SEC_CMD_STATUS.accepted` [1], RO, reset 0, cleared by WARM: R443 (15_lifecycle_security.md). -/
def F.SEC_CMD_STATUS_accepted : Fld := ⟨0x700404, 1, 1, 0⟩
/-- `SEC_CMD_STATUS.pending` [2], RO, reset 0, cleared by DEVICE: R443 (15_lifecycle_security.md). -/
def F.SEC_CMD_STATUS_pending : Fld := ⟨0x700404, 2, 1, 0⟩
/-- `SEC_CMD_STATUS.reason` [6:3], RO, reset 0, cleared by WARM: R443 (15_lifecycle_security.md). -/
def F.SEC_CMD_STATUS_reason : Fld := ⟨0x700404, 3, 4, 0⟩
/-- `SEC_CMD_STATUS.opcode` [11:8], RO, reset 0, cleared by WARM: R443 (15_lifecycle_security.md). -/
def F.SEC_CMD_STATUS_opcode : Fld := ⟨0x700404, 8, 4, 0⟩
/-- `SEC_DBG_CTRL.lock` [0], WO, reset 0, cleared by —: R443 (15_lifecycle_security.md). -/
def F.SEC_DBG_CTRL_lock : Fld := ⟨0x700410, 0, 1, 0⟩
/-- `SEC_DBG_STATUS.open` [0], RO, reset 0, cleared by DEVICE: R443 (15_lifecycle_security.md). -/
def F.SEC_DBG_STATUS_open : Fld := ⟨0x700414, 0, 1, 0⟩
/-- `SEC_DBG_STATUS.mask` [3:1], RO, reset 0, cleared by DEVICE: R443 (15_lifecycle_security.md). -/
def F.SEC_DBG_STATUS_mask : Fld := ⟨0x700414, 1, 3, 0⟩
/-- `SEC_ATT_NONCE0–7.nonce` [31:0], RW, reset 0, cleared by WARM: R443 (15_lifecycle_security.md). -/
def F.SEC_ATT_NONCE_nonce (i : Nat) : Fld := ⟨0x700500 + 4 * i, 0, 32, 0⟩
/-- `SEC_ATT_CMD.go` [0], WO, reset 0, cleared by —: R443 (15_lifecycle_security.md). -/
def F.SEC_ATT_CMD_go : Fld := ⟨0x700520, 0, 1, 0⟩
/-- `SEC_ATT_STATUS.busy` [0], RO, reset 0, cleared by WARM: R443 (15_lifecycle_security.md). -/
def F.SEC_ATT_STATUS_busy : Fld := ⟨0x700524, 0, 1, 0⟩
/-- `SEC_ATT_REPORT0–127.report` [31:0], RO, reset 0, cleared by WARM: R443 (15_lifecycle_security.md). -/
def F.SEC_ATT_REPORT_report (i : Nat) : Fld := ⟨0x700600 + 4 * i, 0, 32, 0⟩

/-! Block Ledger. -/

/-- `LED_STATUS.full` [0], RO, reset 0, cleared by —: R443 (15_lifecycle_security.md). -/
def F.LED_STATUS_full : Fld := ⟨0x900000, 0, 1, 0⟩
/-- `LED_STATUS.window` [1], RO, reset 0, cleared by DEVICE: R443 (15_lifecycle_security.md). -/
def F.LED_STATUS_window : Fld := ⟨0x900000, 1, 1, 0⟩
/-- `LED_STATUS.spares` [5:2], RO, reset 8, cleared by —: R443 (15_lifecycle_security.md). -/
def F.LED_STATUS_spares : Fld := ⟨0x900000, 2, 4, 8⟩
/-- `LED_STATUS.retired` [11:6], RO, reset 0, cleared by —: R443 (15_lifecycle_security.md). -/
def F.LED_STATUS_retired : Fld := ⟨0x900000, 6, 6, 0⟩
/-- `LED_STATUS.queued_crit` [20:12], RO, reset 0, cleared by DEVICE: R443 (15_lifecycle_security.md). -/
def F.LED_STATUS_queued_crit : Fld := ⟨0x900000, 12, 9, 0⟩
/-- `LED_STATUS.queued_info` [28:21], RO, reset 0, cleared by DEVICE: R443 (15_lifecycle_security.md). -/
def F.LED_STATUS_queued_info : Fld := ⟨0x900000, 21, 8, 0⟩
/-- `LED_STATUS.info_stopped` [29], RO, reset 0, cleared by —: R443 (15_lifecycle_security.md). -/
def F.LED_STATUS_info_stopped : Fld := ⟨0x900000, 29, 1, 0⟩
/-- `LED_COUNT_CRIT.entries` [31:0], RO, reset 0, cleared by —: R443 (15_lifecycle_security.md). -/
def F.LED_COUNT_CRIT_entries : Fld := ⟨0x900004, 0, 32, 0⟩
/-- `LED_COUNT_INFO.entries` [31:0], RO, reset 0, cleared by —: R443 (15_lifecycle_security.md). -/
def F.LED_COUNT_INFO_entries : Fld := ⟨0x900008, 0, 32, 0⟩
/-- `LED_LOST.lost` [31:0], RO, reset 0, cleared by —: R443 (15_lifecycle_security.md). -/
def F.LED_LOST_lost : Fld := ⟨0x90000c, 0, 32, 0⟩
/-- `LED_TORN_CNT.torn` [15:0], RO, reset 0, cleared by —: R443 (15_lifecycle_security.md). -/
def F.LED_TORN_CNT_torn : Fld := ⟨0x900010, 0, 16, 0⟩
/-- `LED_ERASE0–63.erases` [16:0], RO, reset 0, cleared by —: R443 (15_lifecycle_security.md). -/
def F.LED_ERASE_erases (i : Nat) : Fld := ⟨0x900100 + 4 * i, 0, 17, 0⟩
/-- `LED_ERASE0–63.role` [18:17], RO, reset R437, cleared by —: R443 (15_lifecycle_security.md). -/
def F.LED_ERASE_role (i : Nat) : Fld := ⟨0x900100 + 4 * i, 17, 2, (Rst.ledRole i)⟩

/-! Block Bins. -/

/-- `SPR_CFG.canary_warn` [9:0], RO, reset 48, cleared by DEVICE: R462 (16_spares_and_wear.md). -/
def F.SPR_CFG_canary_warn : Fld := ⟨0x4a0000, 0, 10, 48⟩
/-- `SPR_CFG.canary_retire` [19:10], RO, reset 24, cleared by DEVICE: R462 (16_spares_and_wear.md). -/
def F.SPR_CFG_canary_retire : Fld := ⟨0x4a0000, 10, 10, 24⟩
/-- `SPR_CFG.canary_fail` [29:20], RO, reset 8, cleared by DEVICE: R462 (16_spares_and_wear.md). -/
def F.SPR_CFG_canary_fail : Fld := ⟨0x4a0000, 20, 10, 8⟩
/-- `SPR_CFG2.ce_thr` [15:0], RO, reset 64, cleared by DEVICE: R462 (16_spares_and_wear.md). -/
def F.SPR_CFG2_ce_thr : Fld := ⟨0x4a0004, 0, 16, 64⟩
/-- `SPR_CFG2.fom_drop` [23:16], RO, reset 32, cleared by DEVICE: R462 (16_spares_and_wear.md). -/
def F.SPR_CFG2_fom_drop : Fld := ⟨0x4a0004, 16, 8, 32⟩
/-- `SPR_CFG2.vco_unlocks` [27:24], RO, reset 3, cleared by DEVICE: R462 (16_spares_and_wear.md). -/
def F.SPR_CFG2_vco_unlocks : Fld := ⟨0x4a0004, 24, 4, 3⟩
/-- `SPR_STATUS.bins_free` [3:0], RO, reset 0, cleared by DEVICE: R462 (16_spares_and_wear.md). -/
def F.SPR_STATUS_bins_free : Fld := ⟨0x4a0008, 0, 4, 0⟩
/-- `SPR_STATUS.bins_retired` [12:4], RO, reset 0, cleared by DEVICE: R462 (16_spares_and_wear.md). -/
def F.SPR_STATUS_bins_retired : Fld := ⟨0x4a0008, 4, 9, 0⟩
/-- `SPR_STATUS.vco_used` [17:13], RO, reset 0, cleared by DEVICE: R462 (16_spares_and_wear.md). -/
def F.SPR_STATUS_vco_used : Fld := ⟨0x4a0008, 13, 5, 0⟩
/-- `SPR_STATUS.pairs_lost` [24:18], RO, reset 0, cleared by DEVICE: R462 (16_spares_and_wear.md). -/
def F.SPR_STATUS_pairs_lost : Fld := ⟨0x4a0008, 18, 7, 0⟩
/-- `SPR_STATUS.exhausted` [25], RO, reset 0, cleared by DEVICE: R462 (16_spares_and_wear.md). -/
def F.SPR_STATUS_exhausted : Fld := ⟨0x4a0008, 25, 1, 0⟩
/-- `SPR_STATUS.copying` [26], RO, reset 0, cleared by DEVICE: R462 (16_spares_and_wear.md). -/
def F.SPR_STATUS_copying : Fld := ⟨0x4a0008, 26, 1, 0⟩
/-- `SPR_BANK_PERMIT.permit` [31:0], RW, reset 0, cleared by DEVICE: R462 (16_spares_and_wear.md). -/
def F.SPR_BANK_PERMIT_permit : Fld := ⟨0x4a000c, 0, 32, 0⟩
/-- `SPR_BANK_PEND.pending` [31:0], RO, reset 0, cleared by DEVICE: R462 (16_spares_and_wear.md). -/
def F.SPR_BANK_PEND_pending : Fld := ⟨0x4a0010, 0, 32, 0⟩
/-- `SPR_BANK_COPY.busy` [0], RO, reset 0, cleared by DEVICE: R462 (16_spares_and_wear.md). -/
def F.SPR_BANK_COPY_busy : Fld := ⟨0x4a0014, 0, 1, 0⟩
/-- `SPR_BANK_COPY.group` [5:1], RO, reset 0, cleared by DEVICE: R462 (16_spares_and_wear.md). -/
def F.SPR_BANK_COPY_group : Fld := ⟨0x4a0014, 1, 5, 0⟩
/-- `SPR_BANK_COPY.bank` [10:6], RO, reset 0, cleared by DEVICE: R462 (16_spares_and_wear.md). -/
def F.SPR_BANK_COPY_bank : Fld := ⟨0x4a0014, 6, 5, 0⟩
/-- `SPR_BANK_COPY.rows_done` [26:11], RO, reset 0, cleared by DEVICE: R462 (16_spares_and_wear.md). -/
def F.SPR_BANK_COPY_rows_done : Fld := ⟨0x4a0014, 11, 16, 0⟩
/-- `SPR_SUB_CNT.bins` [7:0], RO, reset 0, cleared by —: R462 (16_spares_and_wear.md). -/
def F.SPR_SUB_CNT_bins : Fld := ⟨0x4a0018, 0, 8, 0⟩
/-- `SPR_SUB_CNT.banks` [15:8], RO, reset 0, cleared by —: R462 (16_spares_and_wear.md). -/
def F.SPR_SUB_CNT_banks : Fld := ⟨0x4a0018, 8, 8, 0⟩
/-- `SPR_SUB_CNT.vco` [20:16], RO, reset 0, cleared by —: R462 (16_spares_and_wear.md). -/
def F.SPR_SUB_CNT_vco : Fld := ⟨0x4a0018, 16, 5, 0⟩
/-- `SPR_SUB_CNT.sensors` [28:21], RO, reset 0, cleared by —: R462 (16_spares_and_wear.md). -/
def F.SPR_SUB_CNT_sensors : Fld := ⟨0x4a0018, 21, 8, 0⟩
/-- `SPR_LIFE0–4.hours` [31:0], RO, reset 0, cleared by —: R462 (16_spares_and_wear.md). -/
def F.SPR_LIFE_hours (i : Nat) : Fld := ⟨0x4a0020 + 4 * i, 0, 32, 0⟩
/-- `SPR_BIN_WEAR0–263.margin_min` [9:0], RO, reset 0x3FF, cleared by DEVICE: R462 (16_spares_and_wear.md). -/
def F.SPR_BIN_WEAR_margin_min (i : Nat) : Fld := ⟨0x4a0100 + 4 * i, 0, 10, 1023⟩
/-- `SPR_BIN_WEAR0–263.state` [11:10], RO, reset 0, cleared by DEVICE: R462 (16_spares_and_wear.md). -/
def F.SPR_BIN_WEAR_state (i : Nat) : Fld := ⟨0x4a0100 + 4 * i, 10, 2, 0⟩
/-- `SPR_BIN_WEAR0–263.cause` [14:12], RO, reset 0, cleared by DEVICE: R462 (16_spares_and_wear.md). -/
def F.SPR_BIN_WEAR_cause (i : Nat) : Fld := ⟨0x4a0100 + 4 * i, 12, 3, 0⟩
/-- `SPR_HATCH0–131.m_s0` [9:0], RO, reset 0x3FF, cleared by DEVICE: R462 (16_spares_and_wear.md). -/
def F.SPR_HATCH_m_s0 (i : Nat) : Fld := ⟨0x4a0600 + 4 * i, 0, 10, 1023⟩
/-- `SPR_HATCH0–131.m_s1` [19:10], RO, reset 0x3FF, cleared by DEVICE: R462 (16_spares_and_wear.md). -/
def F.SPR_HATCH_m_s1 (i : Nat) : Fld := ⟨0x4a0600 + 4 * i, 10, 10, 1023⟩
/-- `SPR_HATCH0–131.m_s2` [29:20], RO, reset 0x3FF, cleared by DEVICE: R462 (16_spares_and_wear.md). -/
def F.SPR_HATCH_m_s2 (i : Nat) : Fld := ⟨0x4a0600 + 4 * i, 20, 10, 1023⟩
/-- `SPR_HATCH0–131.pend` [30], RO, reset 0, cleared by DEVICE: R462 (16_spares_and_wear.md). -/
def F.SPR_HATCH_pend (i : Nat) : Fld := ⟨0x4a0600 + 4 * i, 30, 1, 0⟩
/-- `SPR_FOM0–127.baseline` [7:0], RO, reset 0, cleared by LGRP: R462 (16_spares_and_wear.md). -/
def F.SPR_FOM_baseline (i : Nat) : Fld := ⟨0x4a0900 + 4 * i, 0, 8, 0⟩
/-- `SPR_FOM0–127.hourly` [15:8], RO, reset 0, cleared by LGRP: R462 (16_spares_and_wear.md). -/
def F.SPR_FOM_hourly (i : Nat) : Fld := ⟨0x4a0900 + 4 * i, 8, 8, 0⟩
/-- `SPR_FOM0–127.trend` [16], RO, reset 0, cleared by LGRP: R462 (16_spares_and_wear.md). -/
def F.SPR_FOM_trend (i : Nat) : Fld := ⟨0x4a0900 + 4 * i, 16, 1, 0⟩

/-! Block Events. -/

/-- `EV_STATUS.unacked` [12:0], RO, reset 0, cleared by WARM: R490 (18_events_and_management.md). -/
def F.EV_STATUS_unacked : Fld := ⟨0x800000, 0, 13, 0⟩
/-- `EV_STATUS.alert` [13], RO, reset 0, cleared by WARM: R490 (18_events_and_management.md). -/
def F.EV_STATUS_alert : Fld := ⟨0x800000, 13, 1, 0⟩
/-- `EV_WR.index` [11:0], RO, reset 0, cleared by WARM: R490 (18_events_and_management.md). -/
def F.EV_WR_index : Fld := ⟨0x800004, 0, 12, 0⟩
/-- `EV_WR.next_seq` [22:12], RO, reset 0, cleared by WARM: R490 (18_events_and_management.md). -/
def F.EV_WR_next_seq : Fld := ⟨0x800004, 12, 11, 0⟩
/-- `EV_ACK.index` [11:0], RW, reset 0, cleared by WARM: R490 (18_events_and_management.md). -/
def F.EV_ACK_index : Fld := ⟨0x800008, 0, 12, 0⟩
/-- `EV_KP_ACK.index` [11:0], RW, reset 0, cleared by WARM: R490 (18_events_and_management.md). -/
def F.EV_KP_ACK_index : Fld := ⟨0x80000c, 0, 12, 0⟩
/-- `EV_CFG.alert_sev` [2:0], RO, reset 5, cleared by DEVICE: R490 (18_events_and_management.md). -/
def F.EV_CFG_alert_sev : Fld := ⟨0x800010, 0, 3, 5⟩
/-- `EV_CFG.ring_sev` [5:3], RO, reset 0, cleared by DEVICE: R490 (18_events_and_management.md). -/
def F.EV_CFG_ring_sev : Fld := ⟨0x800010, 3, 3, 0⟩
/-- `EV_CFG.port_sev` [8:6], RO, reset 3, cleared by DEVICE: R490 (18_events_and_management.md). -/
def F.EV_CFG_port_sev : Fld := ⟨0x800010, 6, 3, 3⟩
/-- `EV_SRC_MASK0–31.mask` [31:0], RO, reset 0, cleared by DEVICE: R490 (18_events_and_management.md). -/
def F.EV_SRC_MASK_mask (i : Nat) : Fld := ⟨0x800020 + 4 * i, 0, 32, 0⟩
/-- `EV_CNT.lost` [15:0], RC, reset 0, cleared by WARM: R490 (18_events_and_management.md). -/
def F.EV_CNT_lost : Fld := ⟨0x8000a0, 0, 16, 0⟩
/-- `EV_CNT.overrun` [31:16], RC, reset 0, cleared by WARM: R490 (18_events_and_management.md). -/
def F.EV_CNT_overrun : Fld := ⟨0x8000a0, 16, 16, 0⟩
/-- `EV_PORT_STATUS.count` [8:0], RO, reset 0, cleared by WARM: R490 (18_events_and_management.md). -/
def F.EV_PORT_STATUS_count : Fld := ⟨0x8000b0, 0, 9, 0⟩
/-- `EV_PORT_STATUS.data_valid` [9], RO, reset 0, cleared by WARM: R490 (18_events_and_management.md). -/
def F.EV_PORT_STATUS_data_valid : Fld := ⟨0x8000b0, 9, 1, 0⟩
/-- `EV_PORT_POP.pop` [0], WO, reset 0, cleared by —: R490 (18_events_and_management.md). -/
def F.EV_PORT_POP_pop : Fld := ⟨0x8000b4, 0, 1, 0⟩
/-- `EV_PORT_CNT.dropped` [15:0], RC, reset 0, cleared by WARM: R490 (18_events_and_management.md). -/
def F.EV_PORT_CNT_dropped : Fld := ⟨0x8000b8, 0, 16, 0⟩
/-- `EV_PORT_DATA0–3.word` [31:0], RO, reset 0, cleared by WARM: R490 (18_events_and_management.md). -/
def F.EV_PORT_DATA_word (i : Nat) : Fld := ⟨0x8000c0 + 4 * i, 0, 32, 0⟩
/-- `EV_RP_CFG.reg_bin` [7:0], RO, reset 0, cleared by DEVICE: R490 (18_events_and_management.md). -/
def F.EV_RP_CFG_reg_bin : Fld := ⟨0x8000e0, 0, 8, 0⟩
/-- `EV_RP_CFG.enable` [8], RO, reset 0, cleared by DEVICE: R490 (18_events_and_management.md). -/
def F.EV_RP_CFG_enable : Fld := ⟨0x8000e0, 8, 1, 0⟩
/-- `EV_RP_PERM.perm` [29:0], RO, reset 0x1555_5555, cleared by DEVICE: R490 (18_events_and_management.md). -/
def F.EV_RP_PERM_perm : Fld := ⟨0x8000e4, 0, 30, 357913941⟩
/-- `EV_RP_STATUS.outstanding` [3:0], RO, reset 0, cleared by BIN: R490 (18_events_and_management.md). -/
def F.EV_RP_STATUS_outstanding : Fld := ⟨0x8000e8, 0, 4, 0⟩
/-- `EV_RP_CNT.ignored` [15:0], RC, reset 0, cleared by DEVICE: R490 (18_events_and_management.md). -/
def F.EV_RP_CNT_ignored : Fld := ⟨0x8000ec, 0, 16, 0⟩
/-- `EV_RP_CNT.denied` [31:16], RC, reset 0, cleared by DEVICE: R490 (18_events_and_management.md). -/
def F.EV_RP_CNT_denied : Fld := ⟨0x8000ec, 16, 16, 0⟩
/-- `EV_RING0–16383.word` [31:0], RO, reset 0, cleared by WARM: R490 (18_events_and_management.md). -/
def F.EV_RING_word (i : Nat) : Fld := ⟨0x804000 + 4 * i, 0, 32, 0⟩

end Sys2Proof.Machine
end

