-- ==== Sys2Proof/Machine/RegRows.lean ====
section
/-! DEFINITION. The register rows the ports consult: for each field its base address, the strides
and counts of its indexes (outer first), the field at an offset, its access code (R11), the event
that clears it (R13), who may write it (1 keeper, 2 register port, 4 management port, 8 the
configuration: R341, R483 and the chapters) and which requesters hold copies of it (R510, the same bits). -/

namespace Sys2Proof.Machine

/-- Access codes (R11). -/
inductive Access where
  | ro | rw | wo | rc
  deriving DecidableEq, Repr

/-- The weakest event that clears a field (R13). -/
inductive ClearedBy where
  | por | device | warm | bin | lgrp | never
  deriving DecidableEq, Repr

/-- One row of a register table. -/
structure RegRow where
  base : Nat
  dims : List (Nat × Nat)
  at' : Nat → Fld
  acc : Access
  clr : ClearedBy
  writers : Nat
  copies : Nat

/-- Rows of the Identity block, part 0. -/
def rowsIdentity0 : List RegRow := [
  ⟨0x0, [], fun o => ⟨0x0 + o, 20, 12, 3671⟩, .ro, .never, 0, 0⟩,
  ⟨0x0, [], fun o => ⟨0x0 + o, 4, 16, 16680⟩, .ro, .never, 0, 0⟩,
  ⟨0x0, [], fun o => ⟨0x0 + o, 0, 4, Rst.stackRev⟩, .ro, .never, 0, 0⟩,
  ⟨0x4, [], fun o => ⟨0x4 + o, 0, 2, Rst.grade⟩, .ro, .never, 0, 0⟩,
  ⟨0x4, [], fun o => ⟨0x4 + o, 8, 8, Rst.tjMin⟩, .ro, .never, 0, 0⟩,
  ⟨0x4, [], fun o => ⟨0x4 + o, 16, 8, Rst.tjMax⟩, .ro, .never, 0, 0⟩,
  ⟨0x8, [], fun o => ⟨0x8 + o, 0, 32, Rst.uidLo⟩, .ro, .never, 0, 0⟩,
  ⟨0xc, [], fun o => ⟨0xc + o, 0, 32, Rst.uidHi⟩, .ro, .never, 0, 0⟩]

/-- Rows of the Bins block, part 0. -/
def rowsBins0 : List RegRow := [
  ⟨0x480000, [(16, 132)], fun o => ⟨0x480000 + o, 0, 1, 0⟩, .ro, .device, 0, 0⟩,
  ⟨0x480000, [(16, 132)], fun o => ⟨0x480000 + o, 1, 3, 0⟩, .ro, .device, 0, 0⟩,
  ⟨0x480004, [(16, 132)], fun o => ⟨0x480004 + o, 0, 32, 0⟩, .ro, .device, 0, 0⟩,
  ⟨0x480008, [(16, 132)], fun o => ⟨0x480008 + o, 0, 32, 0⟩, .ro, .device, 0, 0⟩,
  ⟨0x48000c, [(16, 132)], fun o => ⟨0x48000c + o, 0, 32, 0⟩, .ro, .device, 0, 0⟩,
  ⟨0x481000, [], fun o => ⟨0x481000 + o, 0, 8, 0⟩, .ro, .device, 0, 0⟩,
  ⟨0x400000, [(256, 264)], fun o => ⟨0x400000 + o, 0, 2, 0⟩, .ro, .device, 0, 0⟩,
  ⟨0x400000, [(256, 264)], fun o => ⟨0x400000 + o, 2, 1, 0⟩, .ro, .device, 0, 0⟩,
  ⟨0x400000, [(256, 264)], fun o => ⟨0x400000 + o, 3, 1, 0⟩, .ro, .bin, 0, 0⟩,
  ⟨0x400000, [(256, 264)], fun o => ⟨0x400000 + o, 4, 9, 511⟩, .ro, .device, 0, 0⟩,
  ⟨0x400000, [(256, 264)], fun o => ⟨0x400000 + o, 13, 6, 63⟩, .ro, .device, 0, 0⟩,
  ⟨0x400000, [(256, 264)], fun o => ⟨0x400000 + o, 19, 3, 0⟩, .ro, .bin, 0, 0⟩,
  ⟨0x400000, [(256, 264)], fun o => ⟨0x400000 + o, 22, 1, 0⟩, .ro, .device, 0, 0⟩,
  ⟨0x400004, [(256, 264)], fun o => ⟨0x400004 + o, 0, 32, 0⟩, .ro, .device, 0, 0⟩,
  ⟨0x400008, [(256, 264)], fun o => ⟨0x400008 + o, 0, 32, 0⟩, .ro, .device, 0, 0⟩,
  ⟨0x40000c, [(256, 264)], fun o => ⟨0x40000c + o, 0, 16, 0⟩, .ro, .device, 0, 0⟩,
  ⟨0x40000c, [(256, 264)], fun o => ⟨0x40000c + o, 16, 16, 0⟩, .ro, .device, 0, 0⟩,
  ⟨0x400010, [(256, 264)], fun o => ⟨0x400010 + o, 0, 7, 0⟩, .ro, .device, 0, 0⟩,
  ⟨0x400014, [(256, 264)], fun o => ⟨0x400014 + o, 0, 10, 0⟩, .ro, .device, 0, 0⟩,
  ⟨0x400018, [(256, 264)], fun o => ⟨0x400018 + o, 0, 16, 0⟩, .rc, .device, 0, 0⟩,
  ⟨0x490000, [(4, 256)], fun o => ⟨0x490000 + o, 0, 9, Rst.mapDefault (o / 4)⟩, .ro, .device, 0, 0⟩,
  ⟨0x490000, [(4, 256)], fun o => ⟨0x490000 + o, 9, 1, 0⟩, .ro, .device, 0, 0⟩,
  ⟨0x491000, [(32, 132), (4, 6)], fun o => ⟨0x491000 + o, 0, 32, 0⟩, .ro, .device, 0, 0⟩,
  ⟨0x491018, [(32, 132)], fun o => ⟨0x491018 + o, 0, 8, 0⟩, .ro, .device, 0, 0⟩,
  ⟨0x491018, [(32, 132)], fun o => ⟨0x491018 + o, 8, 8, 0⟩, .ro, .device, 0, 0⟩,
  ⟨0x49101c, [(32, 132)], fun o => ⟨0x49101c + o, 0, 16, 0⟩, .rc, .device, 0, 0⟩,
  ⟨0x400040, [(256, 264)], fun o => ⟨0x400040 + o, 0, 3, 0⟩, .ro, .device, 0, 0⟩,
  ⟨0x400040, [(256, 264)], fun o => ⟨0x400040 + o, 3, 3, 4⟩, .ro, .device, 0, 0⟩,
  ⟨0x400040, [(256, 264)], fun o => ⟨0x400040 + o, 8, 8, 0⟩, .ro, .device, 0, 0⟩,
  ⟨0x400044, [(256, 264)], fun o => ⟨0x400044 + o, 0, 3, 0⟩, .ro, .bin, 0, 0⟩,
  ⟨0x400044, [(256, 264)], fun o => ⟨0x400044 + o, 3, 3, 0⟩, .ro, .bin, 0, 0⟩,
  ⟨0x400044, [(256, 264)], fun o => ⟨0x400044 + o, 6, 1, 0⟩, .ro, .bin, 0, 0⟩,
  ⟨0x400044, [(256, 264)], fun o => ⟨0x400044 + o, 7, 3, 0⟩, .ro, .device, 0, 0⟩,
  ⟨0x400044, [(256, 264)], fun o => ⟨0x400044 + o, 10, 3, 0⟩, .ro, .device, 0, 0⟩,
  ⟨0x400044, [(256, 264)], fun o => ⟨0x400044 + o, 13, 1, 0⟩, .ro, .device, 0, 0⟩,
  ⟨0x400044, [(256, 264)], fun o => ⟨0x400044 + o, 14, 4, 0⟩, .ro, .device, 0, 0⟩,
  ⟨0x400048, [(256, 264)], fun o => ⟨0x400048 + o, 0, 6, 0⟩, .ro, .bin, 0, 0⟩,
  ⟨0x400048, [(256, 264)], fun o => ⟨0x400048 + o, 6, 3, 0⟩, .ro, .bin, 0, 0⟩,
  ⟨0x40004c, [(256, 264)], fun o => ⟨0x40004c + o, 0, 32, 0⟩, .ro, .bin, 0, 0⟩,
  ⟨0x400050, [(256, 264)], fun o => ⟨0x400050 + o, 0, 32, 0⟩, .ro, .bin, 0, 0⟩]

/-- Rows of the Bins block, part 1. -/
def rowsBins1 : List RegRow := [
  ⟨0x400054, [(256, 264)], fun o => ⟨0x400054 + o, 0, 32, 0⟩, .ro, .bin, 0, 0⟩,
  ⟨0x400058, [(256, 264)], fun o => ⟨0x400058 + o, 0, 32, 0⟩, .ro, .bin, 0, 0⟩,
  ⟨0x400060, [(256, 264)], fun o => ⟨0x400060 + o, 0, 32, 0⟩, .rc, .device, 0, 0⟩,
  ⟨0x400064, [(256, 264)], fun o => ⟨0x400064 + o, 0, 16, 0⟩, .rc, .device, 0, 0⟩,
  ⟨0x400068, [(256, 264)], fun o => ⟨0x400068 + o, 0, 6, 0⟩, .ro, .device, 0, 0⟩,
  ⟨0x400068, [(256, 264)], fun o => ⟨0x400068 + o, 8, 2, 0⟩, .ro, .device, 0, 0⟩,
  ⟨0x40006c, [(256, 264)], fun o => ⟨0x40006c + o, 0, 32, 0⟩, .ro, .device, 0, 0⟩,
  ⟨0x400070, [(256, 264)], fun o => ⟨0x400070 + o, 0, 16, 0⟩, .rc, .device, 0, 0⟩,
  ⟨0x400074, [(256, 264)], fun o => ⟨0x400074 + o, 0, 16, 0⟩, .rc, .device, 0, 0⟩,
  ⟨0x400078, [(256, 264)], fun o => ⟨0x400078 + o, 0, 16, 0⟩, .rc, .device, 0, 0⟩,
  ⟨0x40007c, [(256, 264)], fun o => ⟨0x40007c + o, 0, 16, 0⟩, .rc, .device, 0, 0⟩,
  ⟨0x40007c, [(256, 264)], fun o => ⟨0x40007c + o, 16, 4, 0⟩, .rc, .device, 0, 0⟩,
  ⟨0x400080, [(256, 264)], fun o => ⟨0x400080 + o, 0, 32, 0⟩, .ro, .device, 0, 0⟩,
  ⟨0x400084, [(256, 264)], fun o => ⟨0x400084 + o, 0, 32, 0⟩, .ro, .device, 0, 0⟩,
  ⟨0x400088, [(256, 264)], fun o => ⟨0x400088 + o, 0, 32, 0⟩, .rc, .device, 0, 0⟩,
  ⟨0x4a0000, [], fun o => ⟨0x4a0000 + o, 0, 10, 48⟩, .ro, .device, 8, 0⟩,
  ⟨0x4a0000, [], fun o => ⟨0x4a0000 + o, 10, 10, 24⟩, .ro, .device, 8, 0⟩,
  ⟨0x4a0000, [], fun o => ⟨0x4a0000 + o, 20, 10, 8⟩, .ro, .device, 8, 0⟩,
  ⟨0x4a0004, [], fun o => ⟨0x4a0004 + o, 0, 16, 64⟩, .ro, .device, 8, 0⟩,
  ⟨0x4a0004, [], fun o => ⟨0x4a0004 + o, 16, 8, 32⟩, .ro, .device, 8, 0⟩,
  ⟨0x4a0004, [], fun o => ⟨0x4a0004 + o, 24, 4, 3⟩, .ro, .device, 8, 0⟩,
  ⟨0x4a0008, [], fun o => ⟨0x4a0008 + o, 0, 4, 0⟩, .ro, .device, 0, 0⟩,
  ⟨0x4a0008, [], fun o => ⟨0x4a0008 + o, 4, 9, 0⟩, .ro, .device, 0, 0⟩,
  ⟨0x4a0008, [], fun o => ⟨0x4a0008 + o, 13, 5, 0⟩, .ro, .device, 0, 0⟩,
  ⟨0x4a0008, [], fun o => ⟨0x4a0008 + o, 18, 7, 0⟩, .ro, .device, 0, 0⟩,
  ⟨0x4a0008, [], fun o => ⟨0x4a0008 + o, 25, 1, 0⟩, .ro, .device, 0, 0⟩,
  ⟨0x4a0008, [], fun o => ⟨0x4a0008 + o, 26, 1, 0⟩, .ro, .device, 0, 0⟩,
  ⟨0x4a000c, [], fun o => ⟨0x4a000c + o, 0, 32, 0⟩, .rw, .device, 3, 0⟩,
  ⟨0x4a0010, [], fun o => ⟨0x4a0010 + o, 0, 32, 0⟩, .ro, .device, 0, 0⟩,
  ⟨0x4a0014, [], fun o => ⟨0x4a0014 + o, 0, 1, 0⟩, .ro, .device, 0, 0⟩,
  ⟨0x4a0014, [], fun o => ⟨0x4a0014 + o, 1, 5, 0⟩, .ro, .device, 0, 0⟩,
  ⟨0x4a0014, [], fun o => ⟨0x4a0014 + o, 6, 5, 0⟩, .ro, .device, 0, 0⟩,
  ⟨0x4a0014, [], fun o => ⟨0x4a0014 + o, 11, 16, 0⟩, .ro, .device, 0, 0⟩,
  ⟨0x4a0018, [], fun o => ⟨0x4a0018 + o, 0, 8, 0⟩, .ro, .never, 0, 0⟩,
  ⟨0x4a0018, [], fun o => ⟨0x4a0018 + o, 8, 8, 0⟩, .ro, .never, 0, 0⟩,
  ⟨0x4a0018, [], fun o => ⟨0x4a0018 + o, 16, 5, 0⟩, .ro, .never, 0, 0⟩,
  ⟨0x4a0018, [], fun o => ⟨0x4a0018 + o, 21, 8, 0⟩, .ro, .never, 0, 0⟩,
  ⟨0x4a0020, [(4, 5)], fun o => ⟨0x4a0020 + o, 0, 32, 0⟩, .ro, .never, 0, 0⟩,
  ⟨0x4a0100, [(4, 264)], fun o => ⟨0x4a0100 + o, 0, 10, 1023⟩, .ro, .device, 0, 0⟩,
  ⟨0x4a0100, [(4, 264)], fun o => ⟨0x4a0100 + o, 10, 2, 0⟩, .ro, .device, 0, 0⟩]

/-- Rows of the Bins block, part 2. -/
def rowsBins2 : List RegRow := [
  ⟨0x4a0100, [(4, 264)], fun o => ⟨0x4a0100 + o, 12, 3, 0⟩, .ro, .device, 0, 0⟩,
  ⟨0x4a0600, [(4, 132)], fun o => ⟨0x4a0600 + o, 0, 10, 1023⟩, .ro, .device, 0, 0⟩,
  ⟨0x4a0600, [(4, 132)], fun o => ⟨0x4a0600 + o, 10, 10, 1023⟩, .ro, .device, 0, 0⟩,
  ⟨0x4a0600, [(4, 132)], fun o => ⟨0x4a0600 + o, 20, 10, 1023⟩, .ro, .device, 0, 0⟩,
  ⟨0x4a0600, [(4, 132)], fun o => ⟨0x4a0600 + o, 30, 1, 0⟩, .ro, .device, 0, 0⟩,
  ⟨0x4a0900, [(4, 128)], fun o => ⟨0x4a0900 + o, 0, 8, 0⟩, .ro, .lgrp, 0, 0⟩,
  ⟨0x4a0900, [(4, 128)], fun o => ⟨0x4a0900 + o, 8, 8, 0⟩, .ro, .lgrp, 0, 0⟩,
  ⟨0x4a0900, [(4, 128)], fun o => ⟨0x4a0900 + o, 16, 1, 0⟩, .ro, .lgrp, 0, 0⟩]

/-- Rows of the TimeBase block, part 0. -/
def rowsTimeBase0 : List RegRow := [
  ⟨0x10000, [], fun o => ⟨0x10000 + o, 0, 2, 0⟩, .ro, .device, 0, 0⟩,
  ⟨0x10000, [], fun o => ⟨0x10000 + o, 2, 1, 0⟩, .ro, .device, 0, 0⟩,
  ⟨0x10000, [], fun o => ⟨0x10000 + o, 3, 2, 0⟩, .ro, .device, 0, 0⟩,
  ⟨0x10000, [], fun o => ⟨0x10000 + o, 5, 2, 0⟩, .ro, .device, 0, 0⟩,
  ⟨0x10000, [], fun o => ⟨0x10000 + o, 7, 1, 0⟩, .ro, .device, 0, 0⟩,
  ⟨0x10000, [], fun o => ⟨0x10000 + o, 8, 1, 0⟩, .ro, .device, 0, 0⟩,
  ⟨0x10000, [], fun o => ⟨0x10000 + o, 9, 2, 0⟩, .ro, .device, 0, 0⟩,
  ⟨0x10000, [], fun o => ⟨0x10000 + o, 11, 1, 0⟩, .ro, .device, 0, 0⟩,
  ⟨0x10000, [], fun o => ⟨0x10000 + o, 12, 1, 0⟩, .ro, .device, 0, 0⟩,
  ⟨0x10000, [], fun o => ⟨0x10000 + o, 13, 1, 0⟩, .ro, .device, 0, 0⟩,
  ⟨0x10000, [], fun o => ⟨0x10000 + o, 14, 1, 0⟩, .ro, .device, 0, 0⟩,
  ⟨0x10000, [], fun o => ⟨0x10000 + o, 15, 1, 0⟩, .ro, .device, 0, 0⟩,
  ⟨0x10004, [], fun o => ⟨0x10004 + o, 0, 32, 0⟩, .ro, .device, 0, 0⟩,
  ⟨0x10008, [], fun o => ⟨0x10008 + o, 0, 32, 0⟩, .ro, .device, 0, 7⟩,
  ⟨0x1000c, [], fun o => ⟨0x1000c + o, 0, 4, 0⟩, .ro, .device, 0, 7⟩,
  ⟨0x10010, [], fun o => ⟨0x10010 + o, 0, 32, 0⟩, .ro, .device, 8, 0⟩,
  ⟨0x10014, [], fun o => ⟨0x10014 + o, 0, 16, 0⟩, .ro, .device, 8, 0⟩,
  ⟨0x10018, [], fun o => ⟨0x10018 + o, 0, 30, 0⟩, .ro, .device, 8, 0⟩,
  ⟨0x10020, [], fun o => ⟨0x10020 + o, 0, 3, 0⟩, .rw, .device, 10, 0⟩,
  ⟨0x10020, [], fun o => ⟨0x10020 + o, 3, 3, 0⟩, .rw, .device, 10, 0⟩,
  ⟨0x10020, [], fun o => ⟨0x10020 + o, 6, 3, 0⟩, .rw, .device, 10, 0⟩,
  ⟨0x10020, [], fun o => ⟨0x10020 + o, 9, 3, 0⟩, .rw, .device, 10, 0⟩,
  ⟨0x10020, [], fun o => ⟨0x10020 + o, 12, 1, 0⟩, .rw, .device, 2, 0⟩,
  ⟨0x10020, [], fun o => ⟨0x10020 + o, 13, 1, 1⟩, .rw, .device, 2, 0⟩,
  ⟨0x10024, [], fun o => ⟨0x10024 + o, 0, 6, 0⟩, .ro, .device, 0, 0⟩,
  ⟨0x10028, [], fun o => ⟨0x10028 + o, 0, 7, 0⟩, .rw, .device, 10, 0⟩,
  ⟨0x10028, [], fun o => ⟨0x10028 + o, 8, 8, 24⟩, .rw, .device, 10, 0⟩,
  ⟨0x10028, [], fun o => ⟨0x10028 + o, 16, 1, 0⟩, .rw, .device, 10, 0⟩,
  ⟨0x1002c, [], fun o => ⟨0x1002c + o, 0, 7, 0⟩, .rw, .device, 10, 0⟩,
  ⟨0x1002c, [], fun o => ⟨0x1002c + o, 7, 1, 0⟩, .rw, .device, 10, 0⟩,
  ⟨0x1002c, [], fun o => ⟨0x1002c + o, 8, 4, 0⟩, .rw, .device, 10, 0⟩,
  ⟨0x1002c, [], fun o => ⟨0x1002c + o, 12, 1, 0⟩, .rw, .device, 10, 0⟩,
  ⟨0x1002c, [], fun o => ⟨0x1002c + o, 16, 8, 10⟩, .rw, .device, 10, 0⟩,
  ⟨0x10030, [(4, 4)], fun o => ⟨0x10030 + o, 0, 32, 0⟩, .rw, .device, 10, 0⟩,
  ⟨0x10040, [], fun o => ⟨0x10040 + o, 0, 3, 3⟩, .rw, .device, 10, 0⟩,
  ⟨0x10040, [], fun o => ⟨0x10040 + o, 4, 2, 1⟩, .rw, .device, 10, 0⟩,
  ⟨0x10040, [], fun o => ⟨0x10040 + o, 16, 10, 10⟩, .rw, .device, 10, 0⟩,
  ⟨0x10044, [], fun o => ⟨0x10044 + o, 0, 10, 50⟩, .rw, .device, 10, 0⟩,
  ⟨0x10044, [], fun o => ⟨0x10044 + o, 16, 10, 60⟩, .rw, .device, 10, 0⟩,
  ⟨0x10048, [], fun o => ⟨0x10048 + o, 0, 30, 1000⟩, .rw, .device, 10, 0⟩]

/-- Rows of the TimeBase block, part 1. -/
def rowsTimeBase1 : List RegRow := [
  ⟨0x1004c, [], fun o => ⟨0x1004c + o, 0, 12, 300⟩, .rw, .device, 10, 0⟩,
  ⟨0x1004c, [], fun o => ⟨0x1004c + o, 12, 20, 1500⟩, .rw, .device, 10, 0⟩,
  ⟨0x10050, [], fun o => ⟨0x10050 + o, 0, 8, 50⟩, .rw, .device, 10, 0⟩,
  ⟨0x10050, [], fun o => ⟨0x10050 + o, 8, 8, 10⟩, .rw, .device, 10, 0⟩,
  ⟨0x10050, [], fun o => ⟨0x10050 + o, 16, 8, 10⟩, .rw, .device, 10, 0⟩,
  ⟨0x10050, [], fun o => ⟨0x10050 + o, 24, 8, 50⟩, .rw, .device, 10, 0⟩,
  ⟨0x10054, [], fun o => ⟨0x10054 + o, 0, 16, 0⟩, .ro, .device, 0, 0⟩,
  ⟨0x10058, [], fun o => ⟨0x10058 + o, 0, 32, 0⟩, .ro, .device, 0, 0⟩,
  ⟨0x1005c, [], fun o => ⟨0x1005c + o, 0, 32, 0⟩, .ro, .device, 0, 0⟩,
  ⟨0x10060, [], fun o => ⟨0x10060 + o, 0, 32, 0⟩, .ro, .device, 0, 0⟩,
  ⟨0x10064, [], fun o => ⟨0x10064 + o, 0, 32, 0⟩, .ro, .device, 0, 0⟩,
  ⟨0x10068, [], fun o => ⟨0x10068 + o, 0, 32, 0⟩, .ro, .device, 0, 0⟩,
  ⟨0x1006c, [], fun o => ⟨0x1006c + o, 0, 1, 0⟩, .wo, .never, 2, 0⟩,
  ⟨0x10070, [], fun o => ⟨0x10070 + o, 0, 7, 72⟩, .rw, .device, 10, 0⟩,
  ⟨0x10070, [], fun o => ⟨0x10070 + o, 8, 8, 0⟩, .rw, .device, 10, 0⟩,
  ⟨0x10070, [], fun o => ⟨0x10070 + o, 16, 2, 0⟩, .rw, .device, 10, 0⟩,
  ⟨0x10070, [], fun o => ⟨0x10070 + o, 18, 1, 0⟩, .rw, .device, 10, 0⟩,
  ⟨0x10074, [], fun o => ⟨0x10074 + o, 0, 16, 0⟩, .ro, .device, 0, 0⟩,
  ⟨0x10074, [], fun o => ⟨0x10074 + o, 16, 1, 0⟩, .ro, .device, 0, 0⟩,
  ⟨0x10078, [], fun o => ⟨0x10078 + o, 0, 16, 0⟩, .ro, .device, 0, 0⟩,
  ⟨0x10078, [], fun o => ⟨0x10078 + o, 16, 8, 0⟩, .ro, .device, 0, 0⟩,
  ⟨0x10078, [], fun o => ⟨0x10078 + o, 24, 8, 0⟩, .ro, .device, 0, 0⟩,
  ⟨0x1007c, [], fun o => ⟨0x1007c + o, 0, 1, 0⟩, .wo, .never, 6, 0⟩,
  ⟨0x1007c, [], fun o => ⟨0x1007c + o, 1, 1, 0⟩, .wo, .never, 2, 0⟩,
  ⟨0x1007c, [], fun o => ⟨0x1007c + o, 2, 1, 0⟩, .wo, .never, 2, 0⟩,
  ⟨0x1007c, [], fun o => ⟨0x1007c + o, 3, 1, 0⟩, .wo, .never, 6, 0⟩,
  ⟨0x10080, [(4, 16)], fun o => ⟨0x10080 + o, 0, 32, 0⟩, .rw, .device, 10, 0⟩,
  ⟨0x100c0, [], fun o => ⟨0x100c0 + o, 0, 1, 0⟩, .rw, .device, 10, 0⟩,
  ⟨0x100c0, [], fun o => ⟨0x100c0 + o, 1, 1, 0⟩, .rw, .device, 10, 0⟩,
  ⟨0x100c0, [], fun o => ⟨0x100c0 + o, 2, 1, 0⟩, .rw, .device, 10, 0⟩,
  ⟨0x100c0, [], fun o => ⟨0x100c0 + o, 3, 13, 100⟩, .rw, .device, 10, 0⟩,
  ⟨0x100c0, [], fun o => ⟨0x100c0 + o, 16, 16, 0⟩, .rw, .device, 10, 0⟩,
  ⟨0x100c4, [(4, 4)], fun o => ⟨0x100c4 + o, 0, 5, 0⟩, .rw, .device, 10, 0⟩,
  ⟨0x100c4, [(4, 4)], fun o => ⟨0x100c4 + o, 8, 8, 0⟩, .rw, .device, 10, 0⟩,
  ⟨0x100e0, [(4, 4)], fun o => ⟨0x100e0 + o, 0, 2, 0⟩, .rw, .device, 10, 0⟩,
  ⟨0x100e0, [(4, 4)], fun o => ⟨0x100e0 + o, 2, 24, 0⟩, .rw, .device, 10, 0⟩,
  ⟨0x100f0, [(4, 4)], fun o => ⟨0x100f0 + o, 0, 24, 0⟩, .rw, .device, 10, 0⟩,
  ⟨0x100f0, [(4, 4)], fun o => ⟨0x100f0 + o, 24, 4, 0⟩, .rw, .device, 10, 0⟩,
  ⟨0x100f0, [(4, 4)], fun o => ⟨0x100f0 + o, 28, 4, 0⟩, .rw, .device, 10, 0⟩,
  ⟨0x10100, [], fun o => ⟨0x10100 + o, 0, 4, 0⟩, .wo, .never, 2, 0⟩]

/-- Rows of the TimeBase block, part 2. -/
def rowsTimeBase2 : List RegRow := [
  ⟨0x10110, [], fun o => ⟨0x10110 + o, 0, 32, 0⟩, .rc, .device, 0, 0⟩,
  ⟨0x10200, [], fun o => ⟨0x10200 + o, 0, 12, 0⟩, .rw, .device, 10, 0⟩,
  ⟨0x10204, [(4, 8)], fun o => ⟨0x10204 + o, 0, 32, 0⟩, .rw, .device, 10, 0⟩,
  ⟨0x10224, [], fun o => ⟨0x10224 + o, 0, 1, 0⟩, .wo, .never, 2, 0⟩,
  ⟨0x10224, [], fun o => ⟨0x10224 + o, 1, 1, 0⟩, .wo, .never, 2, 0⟩,
  ⟨0x10224, [], fun o => ⟨0x10224 + o, 2, 1, 0⟩, .wo, .never, 2, 0⟩,
  ⟨0x10228, [], fun o => ⟨0x10228 + o, 0, 1, 0⟩, .ro, .device, 0, 0⟩,
  ⟨0x10228, [], fun o => ⟨0x10228 + o, 1, 1, 0⟩, .ro, .device, 0, 0⟩,
  ⟨0x10228, [], fun o => ⟨0x10228 + o, 2, 1, 0⟩, .ro, .device, 0, 0⟩]

/-- Rows of the Clocks block, part 0. -/
def rowsClocks0 : List RegRow := [
  ⟨0x20000, [(4, 43)], fun o => ⟨0x20000 + o, 0, 2, 0⟩, .ro, .device, 0, 0⟩,
  ⟨0x20000, [(4, 43)], fun o => ⟨0x20000 + o, 2, 1, 0⟩, .ro, .device, 0, 0⟩,
  ⟨0x20000, [(4, 43)], fun o => ⟨0x20000 + o, 3, 1, 0⟩, .ro, .device, 0, 0⟩,
  ⟨0x20000, [(4, 43)], fun o => ⟨0x20000 + o, 4, 1, 0⟩, .ro, .device, 0, 0⟩,
  ⟨0x20100, [(4, 43)], fun o => ⟨0x20100 + o, 0, 32, 0⟩, .ro, .device, 0, 0⟩,
  ⟨0x20200, [(4, 43)], fun o => ⟨0x20200 + o, 0, 6, Rst.monFineRef (o / 4)⟩, .rw, .device, 8, 0⟩,
  ⟨0x20200, [(4, 43)], fun o => ⟨0x20200 + o, 6, 1, 1⟩, .rw, .device, 8, 0⟩,
  ⟨0x20200, [(4, 43)], fun o => ⟨0x20200 + o, 8, 8, 60⟩, .rw, .device, 8, 0⟩,
  ⟨0x20200, [(4, 43)], fun o => ⟨0x20200 + o, 16, 16, 20⟩, .rw, .device, 8, 0⟩,
  ⟨0x20300, [(8, 34)], fun o => ⟨0x20300 + o, 0, 32, 0⟩, .rw, .device, 8, 0⟩,
  ⟨0x20410, [(8, 9)], fun o => ⟨0x20410 + o, 0, 32, 0⟩, .ro, .device, 0, 0⟩,
  ⟨0x20304, [(8, 34)], fun o => ⟨0x20304 + o, 0, 16, 0⟩, .rw, .device, 8, 0⟩,
  ⟨0x20414, [(8, 9)], fun o => ⟨0x20414 + o, 0, 16, 0⟩, .ro, .device, 0, 0⟩,
  ⟨0x20500, [(4, 43)], fun o => ⟨0x20500 + o, 0, 16, 0⟩, .rc, .device, 0, 0⟩,
  ⟨0x20600, [], fun o => ⟨0x20600 + o, 0, 5, 0⟩, .rw, .device, 0, 0⟩,
  ⟨0x20600, [], fun o => ⟨0x20600 + o, 5, 1, 0⟩, .rw, .device, 0, 0⟩,
  ⟨0x20604, [], fun o => ⟨0x20604 + o, 0, 2, 3⟩, .ro, .device, 0, 0⟩,
  ⟨0x20604, [], fun o => ⟨0x20604 + o, 2, 1, 0⟩, .ro, .device, 0, 0⟩,
  ⟨0x20610, [(4, 4)], fun o => ⟨0x20610 + o, 0, 25, 0⟩, .rw, .device, 10, 0⟩,
  ⟨0x20610, [(4, 4)], fun o => ⟨0x20610 + o, 25, 1, 0⟩, .rw, .device, 10, 0⟩,
  ⟨0x20610, [(4, 4)], fun o => ⟨0x20610 + o, 26, 5, 0⟩, .rw, .device, 10, 0⟩,
  ⟨0x20700, [(16, 32)], fun o => ⟨0x20700 + o, 0, 5, 0⟩, .ro, .device, 0, 0⟩,
  ⟨0x20700, [(16, 32)], fun o => ⟨0x20700 + o, 5, 5, 0⟩, .ro, .device, 0, 0⟩,
  ⟨0x20700, [(16, 32)], fun o => ⟨0x20700 + o, 10, 5, 0⟩, .ro, .device, 0, 0⟩,
  ⟨0x20700, [(16, 32)], fun o => ⟨0x20700 + o, 15, 3, 0⟩, .ro, .device, 0, 0⟩,
  ⟨0x20700, [(16, 32)], fun o => ⟨0x20700 + o, 18, 3, 0⟩, .ro, .device, 0, 0⟩,
  ⟨0x20704, [(16, 32), (4, 3)], fun o => ⟨0x20704 + o, 0, 5, 0⟩, .rw, .device, 10, 0⟩,
  ⟨0x20704, [(16, 32), (4, 3)], fun o => ⟨0x20704 + o, 5, 3, 0⟩, .rw, .device, 10, 0⟩,
  ⟨0x20704, [(16, 32), (4, 3)], fun o => ⟨0x20704 + o, 8, 5, 31⟩, .rw, .device, 10, 0⟩,
  ⟨0x20900, [(4, 16)], fun o => ⟨0x20900 + o, 0, 2, 0⟩, .rw, .device, 10, 0⟩,
  ⟨0x20900, [(4, 16)], fun o => ⟨0x20900 + o, 4, 4, 0⟩, .rw, .device, 10, 0⟩,
  ⟨0x20900, [(4, 16)], fun o => ⟨0x20900 + o, 8, 2, 3⟩, .rw, .device, 10, 0⟩,
  ⟨0x20900, [(4, 16)], fun o => ⟨0x20900 + o, 12, 4, 0⟩, .rw, .device, 10, 0⟩,
  ⟨0x20a00, [(4, 321)], fun o => ⟨0x20a00 + o, 0, 1, 1⟩, .rw, .device, 10, 0⟩,
  ⟨0x20a00, [(4, 321)], fun o => ⟨0x20a00 + o, 1, 1, 0⟩, .rw, .device, 10, 0⟩,
  ⟨0x20a00, [(4, 321)], fun o => ⟨0x20a00 + o, 2, 1, 0⟩, .rw, .device, 10, 0⟩,
  ⟨0x20a00, [(4, 321)], fun o => ⟨0x20a00 + o, 4, 1, 0⟩, .ro, .device, 0, 0⟩,
  ⟨0x20f10, [], fun o => ⟨0x20f10 + o, 0, 9, 0⟩, .ro, .device, 0, 0⟩,
  ⟨0x20f10, [], fun o => ⟨0x20f10 + o, 16, 10, 0⟩, .ro, .device, 0, 0⟩,
  ⟨0x20f14, [], fun o => ⟨0x20f14 + o, 0, 16, 0⟩, .rc, .device, 0, 0⟩,
  ⟨0x20f18, [], fun o => ⟨0x20f18 + o, 0, 32, 0⟩, .rc, .device, 0, 0⟩,
  ⟨0x20f1c, [], fun o => ⟨0x20f1c + o, 0, 16, 0⟩, .rc, .device, 0, 0⟩]

/-- Rows of the Clocks block, part 1. -/
def rowsClocks1 : List RegRow := [
  ⟨0x21000, [], fun o => ⟨0x21000 + o, 0, 3, 0⟩, .ro, .device, 0, 0⟩,
  ⟨0x21000, [], fun o => ⟨0x21000 + o, 3, 1, 0⟩, .ro, .device, 0, 0⟩,
  ⟨0x21000, [], fun o => ⟨0x21000 + o, 4, 1, 0⟩, .ro, .device, 0, 0⟩,
  ⟨0x21004, [], fun o => ⟨0x21004 + o, 0, 1, 0⟩, .ro, .device, 0, 0⟩,
  ⟨0x21004, [], fun o => ⟨0x21004 + o, 1, 10, 0⟩, .ro, .device, 0, 0⟩,
  ⟨0x21008, [], fun o => ⟨0x21008 + o, 0, 3, 0⟩, .wo, .never, 6, 0⟩,
  ⟨0x2100c, [], fun o => ⟨0x2100c + o, 0, 1, 0⟩, .ro, .device, 0, 0⟩,
  ⟨0x2100c, [], fun o => ⟨0x2100c + o, 1, 1, 0⟩, .ro, .device, 0, 0⟩,
  ⟨0x2100c, [], fun o => ⟨0x2100c + o, 2, 3, 0⟩, .ro, .device, 0, 0⟩,
  ⟨0x21010, [], fun o => ⟨0x21010 + o, 0, 1, 0⟩, .ro, .device, 8, 0⟩,
  ⟨0x21010, [], fun o => ⟨0x21010 + o, 1, 1, 0⟩, .ro, .device, 8, 0⟩,
  ⟨0x21010, [], fun o => ⟨0x21010 + o, 2, 1, 0⟩, .ro, .device, 8, 0⟩,
  ⟨0x21014, [], fun o => ⟨0x21014 + o, 0, 1, 0⟩, .wo, .never, 2, 0⟩,
  ⟨0x21014, [], fun o => ⟨0x21014 + o, 1, 1, 0⟩, .wo, .never, 2, 0⟩,
  ⟨0x21014, [], fun o => ⟨0x21014 + o, 2, 1, 0⟩, .wo, .never, 2, 0⟩,
  ⟨0x21014, [], fun o => ⟨0x21014 + o, 3, 1, 0⟩, .wo, .never, 2, 0⟩,
  ⟨0x21014, [], fun o => ⟨0x21014 + o, 4, 8, 0⟩, .wo, .never, 2, 0⟩,
  ⟨0x21014, [], fun o => ⟨0x21014 + o, 12, 1, 0⟩, .wo, .never, 2, 0⟩,
  ⟨0x21014, [], fun o => ⟨0x21014 + o, 13, 4, 0⟩, .wo, .never, 2, 0⟩,
  ⟨0x21018, [], fun o => ⟨0x21018 + o, 0, 3, 0⟩, .ro, .por, 0, 0⟩,
  ⟨0x2101c, [], fun o => ⟨0x2101c + o, 0, 16, 0⟩, .ro, .device, 0, 0⟩,
  ⟨0x21020, [], fun o => ⟨0x21020 + o, 0, 16, 0⟩, .rc, .device, 0, 0⟩,
  ⟨0x21024, [], fun o => ⟨0x21024 + o, 0, 16, 0⟩, .rc, .device, 0, 0⟩,
  ⟨0x21028, [], fun o => ⟨0x21028 + o, 0, 16, 0⟩, .rc, .device, 0, 0⟩]

/-- Rows of the Scheduler block, part 0. -/
def rowsScheduler0 : List RegRow := [
  ⟨0x40000, [], fun o => ⟨0x40000 + o, 0, 14, 0⟩, .ro, .device, 0, 0⟩,
  ⟨0x40000, [], fun o => ⟨0x40000 + o, 16, 14, 0⟩, .ro, .device, 0, 0⟩,
  ⟨0x40004, [], fun o => ⟨0x40004 + o, 0, 14, 0⟩, .ro, .device, 0, 0⟩,
  ⟨0x40010, [(4, 8)], fun o => ⟨0x40010 + o, 0, 32, 0⟩, .rw, .device, 3, 3⟩,
  ⟨0x40030, [], fun o => ⟨0x40030 + o, 0, 1, 0⟩, .wo, .never, 3, 3⟩,
  ⟨0x40030, [], fun o => ⟨0x40030 + o, 1, 1, 0⟩, .wo, .never, 3, 3⟩,
  ⟨0x40034, [], fun o => ⟨0x40034 + o, 0, 1, 0⟩, .ro, .device, 0, 3⟩,
  ⟨0x40034, [], fun o => ⟨0x40034 + o, 4, 4, 0⟩, .ro, .device, 0, 3⟩,
  ⟨0x41000, [(128, 64)], fun o => ⟨0x41000 + o, 0, 1, 0⟩, .ro, .device, 8, 0⟩,
  ⟨0x41000, [(128, 64)], fun o => ⟨0x41000 + o, 1, 1, 0⟩, .ro, .device, 8, 0⟩,
  ⟨0x41000, [(128, 64)], fun o => ⟨0x41000 + o, 2, 5, 0⟩, .ro, .device, 8, 0⟩,
  ⟨0x41000, [(128, 64)], fun o => ⟨0x41000 + o, 7, 3, 0⟩, .ro, .device, 8, 0⟩,
  ⟨0x41000, [(128, 64)], fun o => ⟨0x41000 + o, 10, 3, 0⟩, .ro, .device, 8, 0⟩,
  ⟨0x41000, [(128, 64)], fun o => ⟨0x41000 + o, 13, 1, 0⟩, .ro, .device, 8, 0⟩,
  ⟨0x41000, [(128, 64)], fun o => ⟨0x41000 + o, 14, 4, 0⟩, .ro, .device, 8, 0⟩,
  ⟨0x41000, [(128, 64)], fun o => ⟨0x41000 + o, 18, 4, 0⟩, .ro, .device, 8, 0⟩,
  ⟨0x41000, [(128, 64)], fun o => ⟨0x41000 + o, 22, 1, 0⟩, .ro, .device, 8, 0⟩,
  ⟨0x41004, [(128, 64)], fun o => ⟨0x41004 + o, 0, 32, 0⟩, .ro, .device, 8, 0⟩,
  ⟨0x41008, [(128, 64)], fun o => ⟨0x41008 + o, 0, 32, 0⟩, .ro, .device, 8, 0⟩,
  ⟨0x4100c, [(128, 64)], fun o => ⟨0x4100c + o, 0, 32, 0⟩, .ro, .device, 8, 0⟩,
  ⟨0x41010, [(128, 64)], fun o => ⟨0x41010 + o, 0, 32, 0⟩, .ro, .device, 8, 0⟩,
  ⟨0x41014, [(128, 64)], fun o => ⟨0x41014 + o, 0, 11, 0⟩, .ro, .device, 8, 0⟩,
  ⟨0x41018, [(128, 64)], fun o => ⟨0x41018 + o, 0, 14, 0⟩, .ro, .device, 8, 0⟩,
  ⟨0x4101c, [(128, 64)], fun o => ⟨0x4101c + o, 0, 23, 0⟩, .ro, .device, 8, 0⟩,
  ⟨0x41020, [(128, 64)], fun o => ⟨0x41020 + o, 0, 23, 0⟩, .ro, .device, 8, 0⟩,
  ⟨0x41024, [(128, 64)], fun o => ⟨0x41024 + o, 0, 11, 0⟩, .ro, .device, 8, 0⟩,
  ⟨0x41024, [(128, 64)], fun o => ⟨0x41024 + o, 16, 11, 0⟩, .ro, .device, 8, 0⟩,
  ⟨0x41028, [(128, 64)], fun o => ⟨0x41028 + o, 0, 16, 0⟩, .ro, .device, 8, 0⟩,
  ⟨0x41028, [(128, 64)], fun o => ⟨0x41028 + o, 16, 16, 0⟩, .ro, .device, 8, 0⟩,
  ⟨0x4102c, [(128, 64)], fun o => ⟨0x4102c + o, 0, 8, 0⟩, .ro, .device, 8, 0⟩,
  ⟨0x4102c, [(128, 64)], fun o => ⟨0x4102c + o, 8, 8, 0⟩, .ro, .device, 0, 0⟩,
  ⟨0x41030, [(128, 64)], fun o => ⟨0x41030 + o, 0, 32, 0⟩, .ro, .device, 0, 0⟩,
  ⟨0x41034, [(128, 64)], fun o => ⟨0x41034 + o, 0, 32, 0⟩, .ro, .device, 0, 0⟩,
  ⟨0x41038, [(128, 64)], fun o => ⟨0x41038 + o, 0, 14, 0⟩, .ro, .device, 0, 0⟩,
  ⟨0x41038, [(128, 64)], fun o => ⟨0x41038 + o, 14, 14, 0⟩, .ro, .device, 0, 0⟩,
  ⟨0x41038, [(128, 64)], fun o => ⟨0x41038 + o, 28, 1, 1⟩, .ro, .device, 0, 0⟩,
  ⟨0x41040, [(128, 64)], fun o => ⟨0x41040 + o, 0, 32, 0⟩, .rc, .device, 0, 0⟩,
  ⟨0x41044, [(128, 64)], fun o => ⟨0x41044 + o, 0, 32, 0⟩, .rc, .device, 0, 0⟩,
  ⟨0x41048, [(128, 64)], fun o => ⟨0x41048 + o, 0, 16, 0⟩, .rc, .device, 0, 0⟩,
  ⟨0x41048, [(128, 64)], fun o => ⟨0x41048 + o, 16, 16, 0⟩, .rc, .device, 0, 0⟩]

/-- Rows of the Scheduler block, part 1. -/
def rowsScheduler1 : List RegRow := [
  ⟨0x4104c, [(128, 64)], fun o => ⟨0x4104c + o, 0, 16, 0⟩, .rc, .device, 0, 0⟩,
  ⟨0x4104c, [(128, 64)], fun o => ⟨0x4104c + o, 16, 16, 0⟩, .rc, .device, 0, 0⟩,
  ⟨0x41050, [(128, 64)], fun o => ⟨0x41050 + o, 0, 16, 0⟩, .rc, .device, 0, 0⟩,
  ⟨0x41054, [(128, 64)], fun o => ⟨0x41054 + o, 0, 8, 0⟩, .rc, .device, 0, 0⟩,
  ⟨0x41054, [(128, 64)], fun o => ⟨0x41054 + o, 8, 8, 0⟩, .rc, .device, 0, 0⟩,
  ⟨0x41054, [(128, 64)], fun o => ⟨0x41054 + o, 16, 8, 0⟩, .rc, .device, 0, 0⟩,
  ⟨0x41054, [(128, 64)], fun o => ⟨0x41054 + o, 24, 8, 0⟩, .rc, .device, 0, 0⟩,
  ⟨0x41058, [(128, 64)], fun o => ⟨0x41058 + o, 0, 8, 0⟩, .rc, .device, 0, 0⟩,
  ⟨0x41058, [(128, 64)], fun o => ⟨0x41058 + o, 8, 8, 0⟩, .rc, .device, 0, 0⟩,
  ⟨0x41058, [(128, 64)], fun o => ⟨0x41058 + o, 16, 8, 0⟩, .rc, .device, 0, 0⟩,
  ⟨0x41058, [(128, 64)], fun o => ⟨0x41058 + o, 24, 8, 0⟩, .rc, .device, 0, 0⟩,
  ⟨0x4105c, [(128, 64)], fun o => ⟨0x4105c + o, 0, 16, 0⟩, .rc, .device, 0, 0⟩,
  ⟨0x4105c, [(128, 64)], fun o => ⟨0x4105c + o, 16, 16, 0⟩, .rc, .device, 0, 0⟩,
  ⟨0x41060, [(128, 64)], fun o => ⟨0x41060 + o, 0, 32, 0⟩, .rc, .device, 0, 0⟩,
  ⟨0x41064, [(128, 64)], fun o => ⟨0x41064 + o, 0, 32, 2147483647⟩, .rc, .device, 0, 0⟩,
  ⟨0x43000, [(64, 32)], fun o => ⟨0x43000 + o, 0, 1, 0⟩, .ro, .device, 8, 0⟩,
  ⟨0x43000, [(64, 32)], fun o => ⟨0x43000 + o, 1, 1, 0⟩, .ro, .device, 8, 0⟩,
  ⟨0x43000, [(64, 32)], fun o => ⟨0x43000 + o, 8, 8, 0⟩, .ro, .device, 8, 0⟩,
  ⟨0x43004, [(64, 32), (4, 8)], fun o => ⟨0x43004 + o, 0, 32, 0⟩, .ro, .device, 8, 0⟩,
  ⟨0x43024, [(64, 32)], fun o => ⟨0x43024 + o, 0, 9, 0⟩, .ro, .device, 0, 0⟩,
  ⟨0x43024, [(64, 32)], fun o => ⟨0x43024 + o, 9, 9, 0⟩, .ro, .device, 0, 0⟩,
  ⟨0x43024, [(64, 32)], fun o => ⟨0x43024 + o, 18, 1, 0⟩, .ro, .device, 0, 0⟩,
  ⟨0x43028, [(64, 32)], fun o => ⟨0x43028 + o, 0, 14, 0⟩, .ro, .device, 0, 0⟩,
  ⟨0x43028, [(64, 32)], fun o => ⟨0x43028 + o, 14, 14, 0⟩, .ro, .device, 0, 0⟩,
  ⟨0x4302c, [(64, 32)], fun o => ⟨0x4302c + o, 0, 32, 0⟩, .rc, .device, 0, 0⟩]

/-- Rows of the Admission block, part 0. -/
def rowsAdmission0 : List RegRow := [
  ⟨0x50000, [], fun o => ⟨0x50000 + o, 0, 1, 0⟩, .ro, .device, 0, 0⟩,
  ⟨0x50000, [], fun o => ⟨0x50000 + o, 1, 1, 0⟩, .ro, .device, 0, 0⟩,
  ⟨0x50000, [], fun o => ⟨0x50000 + o, 2, 2, 0⟩, .ro, .device, 0, 0⟩,
  ⟨0x50000, [], fun o => ⟨0x50000 + o, 4, 4, 0⟩, .ro, .device, 0, 0⟩,
  ⟨0x50000, [], fun o => ⟨0x50000 + o, 8, 4, 0⟩, .ro, .device, 0, 0⟩,
  ⟨0x50000, [], fun o => ⟨0x50000 + o, 12, 6, 0⟩, .ro, .device, 0, 0⟩,
  ⟨0x50000, [], fun o => ⟨0x50000 + o, 18, 1, 0⟩, .ro, .device, 0, 0⟩,
  ⟨0x50004, [], fun o => ⟨0x50004 + o, 0, 8, 0⟩, .ro, .device, 0, 0⟩,
  ⟨0x50008, [], fun o => ⟨0x50008 + o, 0, 8, 0⟩, .ro, .device, 0, 0⟩,
  ⟨0x50008, [], fun o => ⟨0x50008 + o, 8, 8, 0⟩, .ro, .device, 0, 0⟩,
  ⟨0x5000c, [], fun o => ⟨0x5000c + o, 0, 11, 1600⟩, .ro, .device, 0, 0⟩,
  ⟨0x50010, [], fun o => ⟨0x50010 + o, 0, 32, 0⟩, .ro, .device, 0, 0⟩,
  ⟨0x50014, [], fun o => ⟨0x50014 + o, 0, 32, 0⟩, .ro, .device, 0, 0⟩,
  ⟨0x50018, [], fun o => ⟨0x50018 + o, 0, 32, 0⟩, .ro, .device, 0, 0⟩,
  ⟨0x5001c, [], fun o => ⟨0x5001c + o, 0, 32, 0⟩, .ro, .device, 0, 0⟩,
  ⟨0x50020, [], fun o => ⟨0x50020 + o, 0, 32, 0⟩, .ro, .device, 0, 0⟩,
  ⟨0x50024, [], fun o => ⟨0x50024 + o, 0, 8, 120⟩, .ro, .never, 0, 0⟩,
  ⟨0x50024, [], fun o => ⟨0x50024 + o, 8, 8, 5⟩, .ro, .never, 0, 0⟩,
  ⟨0x50028, [], fun o => ⟨0x50028 + o, 0, 14, 0⟩, .ro, .device, 0, 0⟩,
  ⟨0x50028, [], fun o => ⟨0x50028 + o, 16, 14, 0⟩, .ro, .device, 0, 0⟩,
  ⟨0x5002c, [], fun o => ⟨0x5002c + o, 0, 4, 0⟩, .ro, .device, 0, 0⟩,
  ⟨0x5002c, [], fun o => ⟨0x5002c + o, 4, 6, 0⟩, .ro, .device, 0, 0⟩,
  ⟨0x50100, [(32, 32)], fun o => ⟨0x50100 + o, 0, 9, 0⟩, .ro, .device, 0, 0⟩,
  ⟨0x50100, [(32, 32)], fun o => ⟨0x50100 + o, 9, 9, 0⟩, .ro, .device, 0, 0⟩,
  ⟨0x50100, [(32, 32)], fun o => ⟨0x50100 + o, 18, 1, 0⟩, .ro, .device, 0, 0⟩,
  ⟨0x50100, [(32, 32)], fun o => ⟨0x50100 + o, 19, 1, 0⟩, .ro, .device, 0, 0⟩,
  ⟨0x50100, [(32, 32)], fun o => ⟨0x50100 + o, 20, 6, 0⟩, .ro, .device, 0, 0⟩,
  ⟨0x50100, [(32, 32)], fun o => ⟨0x50100 + o, 26, 1, 0⟩, .ro, .device, 0, 0⟩,
  ⟨0x50104, [(32, 32)], fun o => ⟨0x50104 + o, 0, 32, 0⟩, .ro, .device, 0, 0⟩,
  ⟨0x50108, [(32, 32)], fun o => ⟨0x50108 + o, 0, 32, 0⟩, .ro, .device, 0, 0⟩,
  ⟨0x5010c, [(32, 32)], fun o => ⟨0x5010c + o, 0, 32, 0⟩, .ro, .device, 0, 0⟩,
  ⟨0x50110, [(32, 32)], fun o => ⟨0x50110 + o, 0, 32, 0⟩, .ro, .device, 0, 0⟩,
  ⟨0x50114, [(32, 32)], fun o => ⟨0x50114 + o, 0, 32, 0⟩, .ro, .device, 0, 0⟩,
  ⟨0x50118, [(32, 32)], fun o => ⟨0x50118 + o, 0, 32, 0⟩, .ro, .device, 0, 0⟩,
  ⟨0x50800, [(16, 64)], fun o => ⟨0x50800 + o, 0, 32, 0⟩, .ro, .device, 0, 0⟩,
  ⟨0x50804, [(16, 64)], fun o => ⟨0x50804 + o, 0, 16, 0⟩, .ro, .device, 0, 0⟩,
  ⟨0x50808, [(16, 64)], fun o => ⟨0x50808 + o, 0, 32, 0⟩, .ro, .device, 0, 0⟩,
  ⟨0x5080c, [(16, 64)], fun o => ⟨0x5080c + o, 0, 14, 0⟩, .ro, .device, 0, 0⟩,
  ⟨0x50c00, [(4, 64)], fun o => ⟨0x50c00 + o, 0, 32, 0⟩, .rc, .device, 0, 0⟩,
  ⟨0x50d00, [(4, 64)], fun o => ⟨0x50d00 + o, 0, 16, 0⟩, .rc, .device, 0, 0⟩]

/-- Rows of the Thermal block, part 0. -/
def rowsThermal0 : List RegRow := [
  ⟨0x30000, [], fun o => ⟨0x30000 + o, 0, 2, 0⟩, .ro, .device, 0, 0⟩,
  ⟨0x30000, [], fun o => ⟨0x30000 + o, 2, 3, 7⟩, .ro, .device, 0, 0⟩,
  ⟨0x30000, [], fun o => ⟨0x30000 + o, 5, 4, 0⟩, .ro, .device, 0, 0⟩,
  ⟨0x30000, [], fun o => ⟨0x30000 + o, 9, 1, 0⟩, .ro, .device, 0, 0⟩,
  ⟨0x30000, [], fun o => ⟨0x30000 + o, 10, 1, 0⟩, .ro, .device, 0, 0⟩,
  ⟨0x30000, [], fun o => ⟨0x30000 + o, 11, 5, 0⟩, .ro, .device, 0, 0⟩,
  ⟨0x30000, [], fun o => ⟨0x30000 + o, 16, 1, 0⟩, .ro, .device, 0, 0⟩,
  ⟨0x30000, [], fun o => ⟨0x30000 + o, 17, 1, 0⟩, .ro, .device, 0, 0⟩,
  ⟨0x30000, [], fun o => ⟨0x30000 + o, 18, 1, 0⟩, .ro, .device, 0, 0⟩,
  ⟨0x30004, [], fun o => ⟨0x30004 + o, 0, 16, 0⟩, .ro, .device, 0, 0⟩,
  ⟨0x30004, [], fun o => ⟨0x30004 + o, 16, 2, 0⟩, .ro, .device, 0, 0⟩,
  ⟨0x30004, [], fun o => ⟨0x30004 + o, 18, 4, 0⟩, .ro, .device, 0, 0⟩,
  ⟨0x30010, [(4, 4)], fun o => ⟨0x30010 + o, 0, 16, 0⟩, .ro, .device, 0, 0⟩,
  ⟨0x30010, [(4, 4)], fun o => ⟨0x30010 + o, 16, 16, 0⟩, .ro, .device, 0, 0⟩,
  ⟨0x30020, [], fun o => ⟨0x30020 + o, 0, 8, Rst.warn⟩, .rw, .device, 10, 0⟩,
  ⟨0x30020, [], fun o => ⟨0x30020 + o, 8, 8, Rst.throttle⟩, .rw, .device, 10, 0⟩,
  ⟨0x30020, [], fun o => ⟨0x30020 + o, 16, 8, Rst.crit⟩, .rw, .device, 10, 0⟩,
  ⟨0x30020, [], fun o => ⟨0x30020 + o, 24, 8, Rst.shut⟩, .ro, .device, 8, 0⟩,
  ⟨0x30024, [], fun o => ⟨0x30024 + o, 0, 4, 3⟩, .rw, .device, 10, 0⟩,
  ⟨0x30028, [], fun o => ⟨0x30028 + o, 0, 11, 1600⟩, .rw, .device, 10, 0⟩,
  ⟨0x3002c, [], fun o => ⟨0x3002c + o, 0, 4, 2⟩, .rw, .device, 10, 0⟩,
  ⟨0x3002c, [], fun o => ⟨0x3002c + o, 8, 8, 20⟩, .rw, .device, 10, 0⟩,
  ⟨0x30030, [(4, 8)], fun o => ⟨0x30030 + o, 0, 24, Rst.thmPause (o / 4)⟩, .rw, .device, 10, 0⟩,
  ⟨0x30050, [], fun o => ⟨0x30050 + o, 0, 3, 2⟩, .rw, .device, 10, 0⟩,
  ⟨0x30050, [], fun o => ⟨0x30050 + o, 4, 12, 200⟩, .rw, .device, 10, 0⟩,
  ⟨0x30050, [], fun o => ⟨0x30050 + o, 16, 12, 100⟩, .rw, .device, 10, 0⟩,
  ⟨0x30054, [], fun o => ⟨0x30054 + o, 0, 16, 65535⟩, .rw, .device, 10, 0⟩,
  ⟨0x30058, [], fun o => ⟨0x30058 + o, 0, 16, 1000⟩, .rw, .device, 10, 0⟩,
  ⟨0x3005c, [], fun o => ⟨0x3005c + o, 0, 1, 0⟩, .ro, .device, 0, 0⟩,
  ⟨0x3005c, [], fun o => ⟨0x3005c + o, 1, 1, 0⟩, .ro, .device, 0, 0⟩,
  ⟨0x3005c, [], fun o => ⟨0x3005c + o, 2, 1, 0⟩, .ro, .device, 0, 0⟩,
  ⟨0x3005c, [], fun o => ⟨0x3005c + o, 3, 1, 0⟩, .ro, .device, 8, 0⟩,
  ⟨0x3005c, [], fun o => ⟨0x3005c + o, 4, 1, 0⟩, .ro, .device, 0, 0⟩,
  ⟨0x30060, [], fun o => ⟨0x30060 + o, 0, 4, 0⟩, .ro, .device, 0, 0⟩,
  ⟨0x30060, [], fun o => ⟨0x30060 + o, 4, 4, 0⟩, .ro, .device, 0, 0⟩,
  ⟨0x30070, [], fun o => ⟨0x30070 + o, 0, 32, 0⟩, .ro, .device, 0, 0⟩,
  ⟨0x30074, [], fun o => ⟨0x30074 + o, 0, 32, 0⟩, .ro, .device, 0, 0⟩,
  ⟨0x30078, [], fun o => ⟨0x30078 + o, 0, 32, 0⟩, .ro, .device, 0, 0⟩,
  ⟨0x3007c, [], fun o => ⟨0x3007c + o, 0, 32, 0⟩, .ro, .device, 0, 0⟩,
  ⟨0x30080, [], fun o => ⟨0x30080 + o, 0, 32, 0⟩, .ro, .device, 0, 0⟩]

/-- Rows of the Thermal block, part 1. -/
def rowsThermal1 : List RegRow := [
  ⟨0x30084, [], fun o => ⟨0x30084 + o, 0, 32, 0⟩, .ro, .device, 0, 0⟩,
  ⟨0x30088, [], fun o => ⟨0x30088 + o, 0, 32, 0⟩, .ro, .device, 0, 0⟩,
  ⟨0x3008c, [], fun o => ⟨0x3008c + o, 0, 32, 0⟩, .rc, .device, 0, 0⟩,
  ⟨0x30090, [], fun o => ⟨0x30090 + o, 0, 32, 0⟩, .rc, .device, 0, 0⟩,
  ⟨0x30100, [(4, 16)], fun o => ⟨0x30100 + o, 0, 2, 0⟩, .ro, .device, 8, 0⟩,
  ⟨0x30100, [(4, 16)], fun o => ⟨0x30100 + o, 2, 6, 0⟩, .ro, .device, 8, 0⟩,
  ⟨0x30200, [(4, 64)], fun o => ⟨0x30200 + o, 0, 32, 0⟩, .rc, .device, 0, 0⟩,
  ⟨0x30400, [(4, 128)], fun o => ⟨0x30400 + o, 0, 8, 0⟩, .ro, .device, 8, 0⟩,
  ⟨0x30400, [(4, 128)], fun o => ⟨0x30400 + o, 8, 1, 0⟩, .ro, .device, 8, 0⟩,
  ⟨0x30600, [(4, 128)], fun o => ⟨0x30600 + o, 0, 32, 0⟩, .rc, .device, 0, 0⟩,
  ⟨0x30800, [(4, 4)], fun o => ⟨0x30800 + o, 0, 32, 0⟩, .ro, .device, 0, 0⟩,
  ⟨0x31000, [(4, 160)], fun o => ⟨0x31000 + o, 0, 16, 0⟩, .ro, .device, 0, 0⟩,
  ⟨0x31000, [(4, 160)], fun o => ⟨0x31000 + o, 16, 1, 0⟩, .ro, .device, 0, 0⟩,
  ⟨0x31000, [(4, 160)], fun o => ⟨0x31000 + o, 17, 1, 0⟩, .ro, .device, 0, 0⟩,
  ⟨0x31000, [(4, 160)], fun o => ⟨0x31000 + o, 18, 1, 0⟩, .ro, .device, 0, 0⟩,
  ⟨0x31000, [(4, 160)], fun o => ⟨0x31000 + o, 19, 1, 0⟩, .ro, .device, 0, 0⟩,
  ⟨0x31000, [(4, 160)], fun o => ⟨0x31000 + o, 20, 8, 0⟩, .ro, .device, 0, 0⟩,
  ⟨0x31400, [(4, 64)], fun o => ⟨0x31400 + o, 0, 16, 0⟩, .ro, .device, 0, 0⟩,
  ⟨0x31500, [(4, 64)], fun o => ⟨0x31500 + o, 0, 16, Rst.theta (o / 4)⟩, .ro, .never, 0, 0⟩,
  ⟨0x31600, [(4, 4)], fun o => ⟨0x31600 + o, 0, 16, Rst.wBelow (o / 4)⟩, .ro, .never, 0, 0⟩,
  ⟨0x31600, [(4, 4)], fun o => ⟨0x31600 + o, 16, 16, Rst.wAbove (o / 4)⟩, .ro, .never, 0, 0⟩,
  ⟨0x31610, [(4, 4)], fun o => ⟨0x31610 + o, 0, 24, Rst.tauUs (o / 4)⟩, .ro, .never, 0, 0⟩,
  ⟨0x32000, [(4, 264)], fun o => ⟨0x32000 + o, 0, 32, 0⟩, .ro, .device, 0, 0⟩,
  ⟨0x32800, [(4, 16)], fun o => ⟨0x32800 + o, 0, 32, 0⟩, .ro, .device, 0, 0⟩,
  ⟨0x32840, [(4, 32)], fun o => ⟨0x32840 + o, 0, 32, 0⟩, .ro, .device, 0, 0⟩]

/-- Rows of the Lanes block, part 0. -/
def rowsLanes0 : List RegRow := [
  ⟨0x100000, [(1024, 128)], fun o => ⟨0x100000 + o, 0, 4, 0⟩, .ro, .device, 8, 0⟩,
  ⟨0x100000, [(1024, 128)], fun o => ⟨0x100000 + o, 4, 1, 0⟩, .ro, .device, 8, 0⟩,
  ⟨0x100000, [(1024, 128)], fun o => ⟨0x100000 + o, 5, 2, 0⟩, .ro, .device, 8, 0⟩,
  ⟨0x100000, [(1024, 128)], fun o => ⟨0x100000 + o, 7, 1, 1⟩, .ro, .device, 8, 0⟩,
  ⟨0x100000, [(1024, 128)], fun o => ⟨0x100000 + o, 8, 1, 0⟩, .ro, .device, 8, 0⟩,
  ⟨0x100000, [(1024, 128)], fun o => ⟨0x100000 + o, 9, 1, 0⟩, .ro, .device, 8, 0⟩,
  ⟨0x100000, [(1024, 128)], fun o => ⟨0x100000 + o, 10, 1, 0⟩, .ro, .device, 8, 0⟩,
  ⟨0x100000, [(1024, 128)], fun o => ⟨0x100000 + o, 11, 2, 0⟩, .ro, .device, 8, 0⟩,
  ⟨0x100000, [(1024, 128)], fun o => ⟨0x100000 + o, 13, 1, 1⟩, .ro, .device, 8, 0⟩,
  ⟨0x100004, [(1024, 128)], fun o => ⟨0x100004 + o, 0, 18, 0⟩, .ro, .device, 8, 0⟩,
  ⟨0x100004, [(1024, 128)], fun o => ⟨0x100004 + o, 18, 1, 0⟩, .ro, .device, 8, 0⟩,
  ⟨0x100008, [(1024, 128)], fun o => ⟨0x100008 + o, 0, 7, 0⟩, .ro, .device, 8, 0⟩,
  ⟨0x100008, [(1024, 128)], fun o => ⟨0x100008 + o, 7, 3, 0⟩, .ro, .device, 8, 0⟩,
  ⟨0x100008, [(1024, 128)], fun o => ⟨0x100008 + o, 10, 3, 0⟩, .ro, .device, 8, 0⟩,
  ⟨0x10000c, [(1024, 128)], fun o => ⟨0x10000c + o, 0, 8, 64⟩, .ro, .device, 8, 0⟩,
  ⟨0x10000c, [(1024, 128)], fun o => ⟨0x10000c + o, 8, 8, 2⟩, .ro, .device, 8, 0⟩,
  ⟨0x10000c, [(1024, 128)], fun o => ⟨0x10000c + o, 16, 8, 192⟩, .ro, .device, 8, 0⟩,
  ⟨0x100010, [(1024, 128), (8, 4)], fun o => ⟨0x100010 + o, 0, 6, 0⟩, .ro, .device, 8, 0⟩,
  ⟨0x100010, [(1024, 128), (8, 4)], fun o => ⟨0x100010 + o, 6, 6, 0⟩, .ro, .device, 8, 0⟩,
  ⟨0x100010, [(1024, 128), (8, 4)], fun o => ⟨0x100010 + o, 12, 6, 63⟩, .ro, .device, 8, 0⟩,
  ⟨0x100010, [(1024, 128), (8, 4)], fun o => ⟨0x100010 + o, 18, 6, 0⟩, .ro, .device, 8, 0⟩,
  ⟨0x100014, [(1024, 128), (8, 4)], fun o => ⟨0x100014 + o, 0, 5, 0⟩, .ro, .device, 8, 0⟩,
  ⟨0x100014, [(1024, 128), (8, 4)], fun o => ⟨0x100014 + o, 5, 5, 0⟩, .ro, .device, 8, 0⟩,
  ⟨0x100014, [(1024, 128), (8, 4)], fun o => ⟨0x100014 + o, 10, 6, 0⟩, .ro, .device, 8, 0⟩,
  ⟨0x100014, [(1024, 128), (8, 4)], fun o => ⟨0x100014 + o, 16, 6, 0⟩, .ro, .device, 8, 0⟩,
  ⟨0x100014, [(1024, 128), (8, 4)], fun o => ⟨0x100014 + o, 22, 6, 0⟩, .ro, .device, 8, 0⟩,
  ⟨0x100030, [(1024, 128)], fun o => ⟨0x100030 + o, 0, 5, 0⟩, .ro, .device, 8, 0⟩,
  ⟨0x100030, [(1024, 128)], fun o => ⟨0x100030 + o, 5, 2, 0⟩, .ro, .device, 8, 0⟩,
  ⟨0x100034, [(1024, 128)], fun o => ⟨0x100034 + o, 0, 32, 0⟩, .ro, .device, 8, 0⟩,
  ⟨0x100038, [(1024, 128)], fun o => ⟨0x100038 + o, 0, 32, 0⟩, .ro, .device, 8, 0⟩,
  ⟨0x100040, [(1024, 128)], fun o => ⟨0x100040 + o, 0, 1, 0⟩, .rw, .device, 10, 0⟩,
  ⟨0x100040, [(1024, 128)], fun o => ⟨0x100040 + o, 1, 1, 0⟩, .wo, .never, 2, 0⟩,
  ⟨0x100040, [(1024, 128)], fun o => ⟨0x100040 + o, 2, 2, 0⟩, .rw, .lgrp, 2, 0⟩,
  ⟨0x100040, [(1024, 128)], fun o => ⟨0x100040 + o, 4, 1, 0⟩, .rw, .lgrp, 2, 0⟩,
  ⟨0x100040, [(1024, 128)], fun o => ⟨0x100040 + o, 5, 2, 0⟩, .rw, .lgrp, 2, 0⟩,
  ⟨0x100040, [(1024, 128)], fun o => ⟨0x100040 + o, 7, 2, 0⟩, .rw, .lgrp, 2, 0⟩,
  ⟨0x100050, [(1024, 128)], fun o => ⟨0x100050 + o, 0, 4, 0⟩, .ro, .lgrp, 0, 0⟩,
  ⟨0x100050, [(1024, 128)], fun o => ⟨0x100050 + o, 4, 1, 0⟩, .ro, .lgrp, 0, 0⟩,
  ⟨0x100050, [(1024, 128)], fun o => ⟨0x100050 + o, 5, 1, 0⟩, .ro, .lgrp, 0, 0⟩,
  ⟨0x100050, [(1024, 128)], fun o => ⟨0x100050 + o, 6, 2, 0⟩, .ro, .lgrp, 0, 0⟩]

/-- Rows of the Lanes block, part 1. -/
def rowsLanes1 : List RegRow := [
  ⟨0x100050, [(1024, 128)], fun o => ⟨0x100050 + o, 8, 8, 0⟩, .ro, .lgrp, 0, 0⟩,
  ⟨0x100050, [(1024, 128)], fun o => ⟨0x100050 + o, 16, 1, 0⟩, .ro, .lgrp, 0, 0⟩,
  ⟨0x100050, [(1024, 128)], fun o => ⟨0x100050 + o, 17, 3, 0⟩, .ro, .lgrp, 0, 0⟩,
  ⟨0x100050, [(1024, 128)], fun o => ⟨0x100050 + o, 20, 1, 0⟩, .ro, .lgrp, 0, 0⟩,
  ⟨0x100050, [(1024, 128)], fun o => ⟨0x100050 + o, 21, 1, 0⟩, .ro, .lgrp, 0, 0⟩,
  ⟨0x100050, [(1024, 128)], fun o => ⟨0x100050 + o, 22, 1, 0⟩, .ro, .lgrp, 0, 0⟩,
  ⟨0x100054, [(1024, 128)], fun o => ⟨0x100054 + o, 0, 32, 0⟩, .ro, .lgrp, 0, 0⟩,
  ⟨0x100058, [(1024, 128)], fun o => ⟨0x100058 + o, 0, 10, 0⟩, .ro, .device, 0, 0⟩,
  ⟨0x100058, [(1024, 128)], fun o => ⟨0x100058 + o, 10, 10, 0⟩, .ro, .device, 0, 0⟩,
  ⟨0x100058, [(1024, 128)], fun o => ⟨0x100058 + o, 20, 10, 0⟩, .ro, .lgrp, 0, 0⟩,
  ⟨0x10005c, [(1024, 128)], fun o => ⟨0x10005c + o, 0, 9, 0⟩, .ro, .lgrp, 0, 0⟩,
  ⟨0x100080, [(1024, 128)], fun o => ⟨0x100080 + o, 0, 16, 0⟩, .rc, .device, 0, 0⟩,
  ⟨0x100080, [(1024, 128)], fun o => ⟨0x100080 + o, 16, 4, 0⟩, .rc, .device, 0, 0⟩,
  ⟨0x100084, [(1024, 128)], fun o => ⟨0x100084 + o, 0, 16, 0⟩, .rc, .device, 0, 0⟩,
  ⟨0x100084, [(1024, 128)], fun o => ⟨0x100084 + o, 16, 4, 0⟩, .rc, .device, 0, 0⟩,
  ⟨0x100088, [(1024, 128)], fun o => ⟨0x100088 + o, 0, 32, 0⟩, .rc, .device, 0, 0⟩,
  ⟨0x10008c, [(1024, 128)], fun o => ⟨0x10008c + o, 0, 32, 0⟩, .rc, .device, 0, 0⟩,
  ⟨0x100090, [(1024, 128)], fun o => ⟨0x100090 + o, 0, 32, 0⟩, .rc, .device, 0, 0⟩,
  ⟨0x100094, [(1024, 128)], fun o => ⟨0x100094 + o, 0, 32, 0⟩, .rc, .device, 0, 0⟩,
  ⟨0x100098, [(1024, 128)], fun o => ⟨0x100098 + o, 0, 32, 0⟩, .rc, .device, 0, 0⟩,
  ⟨0x10009c, [(1024, 128)], fun o => ⟨0x10009c + o, 0, 16, 0⟩, .rc, .device, 0, 0⟩,
  ⟨0x10009c, [(1024, 128)], fun o => ⟨0x10009c + o, 16, 16, 0⟩, .rc, .device, 0, 0⟩,
  ⟨0x1000a0, [(1024, 128)], fun o => ⟨0x1000a0 + o, 0, 32, 0⟩, .rc, .device, 0, 0⟩,
  ⟨0x1000a4, [(1024, 128)], fun o => ⟨0x1000a4 + o, 0, 32, 0⟩, .rc, .device, 0, 0⟩,
  ⟨0x1000a8, [(1024, 128)], fun o => ⟨0x1000a8 + o, 0, 32, 0⟩, .rc, .device, 0, 0⟩,
  ⟨0x1000ac, [(1024, 128)], fun o => ⟨0x1000ac + o, 0, 8, 255⟩, .rc, .device, 0, 0⟩,
  ⟨0x120000, [(64, 16)], fun o => ⟨0x120000 + o, 0, 1, 0⟩, .ro, .device, 8, 0⟩,
  ⟨0x120004, [(64, 16)], fun o => ⟨0x120004 + o, 0, 1, 0⟩, .ro, .lgrp, 0, 0⟩,
  ⟨0x120004, [(64, 16)], fun o => ⟨0x120004 + o, 1, 1, 0⟩, .ro, .device, 0, 0⟩,
  ⟨0x120004, [(64, 16)], fun o => ⟨0x120004 + o, 2, 1, 0⟩, .ro, .lgrp, 0, 0⟩,
  ⟨0x120004, [(64, 16)], fun o => ⟨0x120004 + o, 3, 8, 0⟩, .ro, .lgrp, 0, 0⟩,
  ⟨0x120008, [(64, 16)], fun o => ⟨0x120008 + o, 0, 16, 0⟩, .rc, .device, 0, 0⟩]

/-- Rows of the Fronthaul block, part 0. -/
def rowsFronthaul0 : List RegRow := [
  ⟨0x200000, [], fun o => ⟨0x200000 + o, 0, 14, 0⟩, .rw, .device, 7, 7⟩,
  ⟨0x200004, [(4, 16)], fun o => ⟨0x200004 + o, 0, 32, 0⟩, .rw, .device, 2, 7⟩,
  ⟨0x200044, [], fun o => ⟨0x200044 + o, 0, 1, 0⟩, .wo, .never, 7, 7⟩,
  ⟨0x200044, [], fun o => ⟨0x200044 + o, 1, 1, 0⟩, .wo, .never, 2, 7⟩,
  ⟨0x200044, [], fun o => ⟨0x200044 + o, 2, 1, 0⟩, .wo, .never, 2, 7⟩,
  ⟨0x200048, [], fun o => ⟨0x200048 + o, 0, 1, 0⟩, .ro, .device, 0, 7⟩,
  ⟨0x200048, [], fun o => ⟨0x200048 + o, 1, 1, 0⟩, .ro, .device, 0, 7⟩,
  ⟨0x200050, [(4, 16)], fun o => ⟨0x200050 + o, 0, 32, 0⟩, .ro, .device, 0, 7⟩,
  ⟨0x200100, [], fun o => ⟨0x200100 + o, 0, 16, 0⟩, .rw, .device, 7, 7⟩,
  ⟨0x200104, [(4, 4)], fun o => ⟨0x200104 + o, 0, 32, 0⟩, .ro, .device, 0, 7⟩,
  ⟨0x200114, [], fun o => ⟨0x200114 + o, 0, 1, 0⟩, .wo, .never, 7, 7⟩,
  ⟨0x200200, [], fun o => ⟨0x200200 + o, 0, 4, 0⟩, .rw, .device, 7, 7⟩,
  ⟨0x200200, [], fun o => ⟨0x200200 + o, 16, 11, 0⟩, .rw, .device, 7, 7⟩,
  ⟨0x200204, [], fun o => ⟨0x200204 + o, 0, 11, 0⟩, .ro, .device, 0, 7⟩,
  ⟨0x200204, [], fun o => ⟨0x200204 + o, 16, 6, 0⟩, .ro, .device, 0, 7⟩,
  ⟨0x200204, [], fun o => ⟨0x200204 + o, 24, 6, 0⟩, .ro, .device, 0, 7⟩,
  ⟨0x200208, [], fun o => ⟨0x200208 + o, 0, 24, 0⟩, .ro, .device, 0, 7⟩,
  ⟨0x201000, [(32, 128)], fun o => ⟨0x201000 + o, 0, 2, 0⟩, .ro, .device, 8, 0⟩,
  ⟨0x201000, [(32, 128)], fun o => ⟨0x201000 + o, 2, 14, 9216⟩, .ro, .device, 8, 0⟩,
  ⟨0x201000, [(32, 128)], fun o => ⟨0x201000 + o, 16, 16, 1000⟩, .ro, .device, 8, 0⟩,
  ⟨0x201004, [(32, 128)], fun o => ⟨0x201004 + o, 0, 32, 0⟩, .ro, .device, 8, 0⟩,
  ⟨0x201008, [(32, 128)], fun o => ⟨0x201008 + o, 0, 16, 0⟩, .ro, .device, 8, 0⟩,
  ⟨0x20100c, [(32, 128)], fun o => ⟨0x20100c + o, 0, 32, 0⟩, .ro, .device, 8, 0⟩,
  ⟨0x201010, [(32, 128)], fun o => ⟨0x201010 + o, 0, 16, 0⟩, .ro, .device, 8, 0⟩,
  ⟨0x201014, [(32, 128)], fun o => ⟨0x201014 + o, 0, 16, 0⟩, .rc, .device, 0, 0⟩,
  ⟨0x201014, [(32, 128)], fun o => ⟨0x201014 + o, 16, 16, 0⟩, .rc, .device, 0, 0⟩,
  ⟨0x201018, [(32, 128)], fun o => ⟨0x201018 + o, 0, 16, 0⟩, .rc, .device, 0, 0⟩,
  ⟨0x201018, [(32, 128)], fun o => ⟨0x201018 + o, 16, 16, 0⟩, .rc, .device, 0, 0⟩,
  ⟨0x20101c, [(32, 128)], fun o => ⟨0x20101c + o, 0, 16, 0⟩, .rc, .device, 0, 0⟩,
  ⟨0x20101c, [(32, 128)], fun o => ⟨0x20101c + o, 16, 12, 0⟩, .rc, .device, 0, 0⟩,
  ⟨0x20101c, [(32, 128)], fun o => ⟨0x20101c + o, 28, 4, 0⟩, .rc, .device, 0, 0⟩,
  ⟨0x203000, [(32, 4)], fun o => ⟨0x203000 + o, 0, 20, 98304⟩, .ro, .device, 8, 0⟩,
  ⟨0x203004, [(32, 4)], fun o => ⟨0x203004 + o, 0, 16, 1000⟩, .ro, .device, 8, 0⟩,
  ⟨0x203008, [(32, 4)], fun o => ⟨0x203008 + o, 0, 10, 0⟩, .ro, .device, 0, 0⟩,
  ⟨0x203008, [(32, 4)], fun o => ⟨0x203008 + o, 10, 9, 0⟩, .ro, .device, 0, 0⟩,
  ⟨0x20300c, [(32, 4)], fun o => ⟨0x20300c + o, 0, 16, 0⟩, .rc, .device, 0, 0⟩,
  ⟨0x20300c, [(32, 4)], fun o => ⟨0x20300c + o, 16, 16, 0⟩, .rc, .device, 0, 0⟩,
  ⟨0x203010, [(32, 4)], fun o => ⟨0x203010 + o, 0, 32, 0⟩, .rc, .device, 0, 0⟩,
  ⟨0x203100, [(4, 16)], fun o => ⟨0x203100 + o, 0, 1, 0⟩, .ro, .device, 0, 0⟩,
  ⟨0x203100, [(4, 16)], fun o => ⟨0x203100 + o, 16, 16, 0⟩, .ro, .device, 0, 0⟩]

/-- Rows of the Loft block, part 0. -/
def rowsLoft0 : List RegRow := [
  ⟨0x300000, [], fun o => ⟨0x300000 + o, 0, 6, 0⟩, .ro, .device, 0, 0⟩,
  ⟨0x300000, [], fun o => ⟨0x300000 + o, 6, 6, 0⟩, .ro, .device, 0, 0⟩,
  ⟨0x300000, [], fun o => ⟨0x300000 + o, 12, 1, 0⟩, .ro, .device, 0, 0⟩,
  ⟨0x300000, [], fun o => ⟨0x300000 + o, 13, 1, 0⟩, .ro, .device, 0, 0⟩,
  ⟨0x300010, [], fun o => ⟨0x300010 + o, 0, 32, 0⟩, .rc, .device, 0, 0⟩,
  ⟨0x300014, [], fun o => ⟨0x300014 + o, 0, 29, 0⟩, .ro, .device, 0, 0⟩,
  ⟨0x300018, [], fun o => ⟨0x300018 + o, 0, 10, 0⟩, .ro, .device, 0, 0⟩,
  ⟨0x300040, [(8, 4)], fun o => ⟨0x300040 + o, 0, 8, 64⟩, .ro, .device, 8, 0⟩,
  ⟨0x300044, [(8, 4)], fun o => ⟨0x300044 + o, 0, 24, 0⟩, .ro, .device, 0, 0⟩,
  ⟨0x300060, [], fun o => ⟨0x300060 + o, 0, 16, 0⟩, .rc, .device, 0, 0⟩,
  ⟨0x300060, [], fun o => ⟨0x300060 + o, 16, 16, 0⟩, .rc, .device, 0, 0⟩,
  ⟨0x300100, [(32, 32)], fun o => ⟨0x300100 + o, 0, 2, 0⟩, .ro, .device, 8, 0⟩,
  ⟨0x300100, [(32, 32)], fun o => ⟨0x300100 + o, 2, 1, 0⟩, .ro, .device, 8, 0⟩,
  ⟨0x300104, [(32, 32)], fun o => ⟨0x300104 + o, 0, 10, 338⟩, .ro, .device, 0, 0⟩,
  ⟨0x300104, [(32, 32)], fun o => ⟨0x300104 + o, 10, 1, 0⟩, .ro, .device, 0, 0⟩,
  ⟨0x300104, [(32, 32)], fun o => ⟨0x300104 + o, 11, 1, 0⟩, .ro, .device, 0, 0⟩,
  ⟨0x300108, [(32, 32)], fun o => ⟨0x300108 + o, 0, 10, 0⟩, .wo, .never, 3, 0⟩,
  ⟨0x300108, [(32, 32)], fun o => ⟨0x300108 + o, 10, 1, 0⟩, .wo, .never, 3, 0⟩,
  ⟨0x300108, [(32, 32)], fun o => ⟨0x300108 + o, 11, 1, 0⟩, .wo, .never, 3, 0⟩,
  ⟨0x30010c, [(32, 32)], fun o => ⟨0x30010c + o, 0, 2, 0⟩, .ro, .device, 0, 0⟩,
  ⟨0x30010c, [(32, 32)], fun o => ⟨0x30010c + o, 2, 1, 0⟩, .ro, .device, 0, 0⟩,
  ⟨0x30010c, [(32, 32)], fun o => ⟨0x30010c + o, 3, 6, 63⟩, .ro, .device, 0, 0⟩,
  ⟨0x30010c, [(32, 32)], fun o => ⟨0x30010c + o, 9, 1, 0⟩, .ro, .device, 0, 0⟩,
  ⟨0x300110, [(32, 32)], fun o => ⟨0x300110 + o, 0, 24, 0⟩, .ro, .device, 0, 0⟩,
  ⟨0x300110, [(32, 32)], fun o => ⟨0x300110 + o, 24, 1, 0⟩, .ro, .device, 0, 0⟩,
  ⟨0x300114, [(32, 32)], fun o => ⟨0x300114 + o, 0, 32, 0⟩, .rc, .device, 0, 0⟩,
  ⟨0x300118, [(32, 32)], fun o => ⟨0x300118 + o, 0, 16, 0⟩, .rc, .device, 0, 0⟩,
  ⟨0x300118, [(32, 32)], fun o => ⟨0x300118 + o, 16, 16, 0⟩, .rc, .device, 0, 0⟩,
  ⟨0x30011c, [(32, 32)], fun o => ⟨0x30011c + o, 0, 16, 0⟩, .rc, .device, 0, 0⟩,
  ⟨0x301000, [(4, 1024)], fun o => ⟨0x301000 + o, 0, 10, 338⟩, .ro, .device, 0, 0⟩,
  ⟨0x301000, [(4, 1024)], fun o => ⟨0x301000 + o, 10, 10, 0⟩, .wo, .never, 3, 0⟩,
  ⟨0x301000, [(4, 1024)], fun o => ⟨0x301000 + o, 20, 1, 0⟩, .wo, .never, 3, 0⟩,
  ⟨0x301000, [(4, 1024)], fun o => ⟨0x301000 + o, 21, 1, 0⟩, .wo, .never, 3, 0⟩,
  ⟨0x301000, [(4, 1024)], fun o => ⟨0x301000 + o, 22, 1, 0⟩, .ro, .device, 0, 0⟩,
  ⟨0x301000, [(4, 1024)], fun o => ⟨0x301000 + o, 23, 1, 0⟩, .ro, .device, 0, 0⟩,
  ⟨0x302000, [(4, 1024)], fun o => ⟨0x302000 + o, 0, 16, 0⟩, .rc, .device, 0, 0⟩,
  ⟨0x304000, [(32, 64)], fun o => ⟨0x304000 + o, 0, 32, 0⟩, .rw, .device, 3, 0⟩,
  ⟨0x304004, [(32, 64)], fun o => ⟨0x304004 + o, 0, 32, 0⟩, .rw, .device, 3, 0⟩,
  ⟨0x304008, [(32, 64)], fun o => ⟨0x304008 + o, 0, 24, 0⟩, .rw, .device, 3, 0⟩,
  ⟨0x30400c, [(32, 64)], fun o => ⟨0x30400c + o, 0, 1, 0⟩, .wo, .never, 3, 0⟩]

/-- Rows of the Loft block, part 1. -/
def rowsLoft1 : List RegRow := [
  ⟨0x30400c, [(32, 64)], fun o => ⟨0x30400c + o, 1, 1, 0⟩, .rw, .device, 3, 0⟩,
  ⟨0x30400c, [(32, 64)], fun o => ⟨0x30400c + o, 2, 1, 0⟩, .rw, .device, 3, 0⟩,
  ⟨0x30400c, [(32, 64)], fun o => ⟨0x30400c + o, 3, 1, 0⟩, .rw, .device, 3, 0⟩,
  ⟨0x30400c, [(32, 64)], fun o => ⟨0x30400c + o, 4, 1, 0⟩, .wo, .never, 3, 0⟩,
  ⟨0x304010, [(32, 64)], fun o => ⟨0x304010 + o, 0, 1, 0⟩, .ro, .device, 0, 0⟩,
  ⟨0x304010, [(32, 64)], fun o => ⟨0x304010 + o, 1, 1, 0⟩, .ro, .device, 0, 0⟩,
  ⟨0x304010, [(32, 64)], fun o => ⟨0x304010 + o, 2, 1, 0⟩, .ro, .device, 0, 0⟩,
  ⟨0x304010, [(32, 64)], fun o => ⟨0x304010 + o, 3, 3, 0⟩, .ro, .device, 0, 0⟩,
  ⟨0x304014, [(32, 64)], fun o => ⟨0x304014 + o, 0, 24, 0⟩, .ro, .device, 0, 0⟩,
  ⟨0x304018, [(32, 64)], fun o => ⟨0x304018 + o, 0, 32, 0⟩, .ro, .device, 0, 0⟩,
  ⟨0x30401c, [(32, 64)], fun o => ⟨0x30401c + o, 0, 10, 1023⟩, .ro, .device, 8, 0⟩,
  ⟨0x30401c, [(32, 64)], fun o => ⟨0x30401c + o, 10, 2, 0⟩, .ro, .device, 8, 0⟩]

/-- Rows of the Config block, part 0. -/
def rowsConfig0 : List RegRow := [
  ⟨0x600000, [], fun o => ⟨0x600000 + o, 0, 3, 0⟩, .ro, .device, 0, 0⟩,
  ⟨0x600000, [], fun o => ⟨0x600000 + o, 3, 1, 0⟩, .ro, .device, 0, 0⟩,
  ⟨0x600000, [], fun o => ⟨0x600000 + o, 4, 1, 0⟩, .ro, .device, 0, 0⟩,
  ⟨0x600000, [], fun o => ⟨0x600000 + o, 5, 1, 0⟩, .ro, .device, 0, 0⟩,
  ⟨0x600000, [], fun o => ⟨0x600000 + o, 8, 8, 0⟩, .ro, .device, 0, 0⟩,
  ⟨0x600004, [(4, 2)], fun o => ⟨0x600004 + o, 0, 8, 0⟩, .ro, .device, 0, 0⟩,
  ⟨0x600004, [(4, 2)], fun o => ⟨0x600004 + o, 8, 2, 0⟩, .ro, .device, 0, 0⟩,
  ⟨0x600004, [(4, 2)], fun o => ⟨0x600004 + o, 10, 4, 0⟩, .ro, .device, 0, 0⟩,
  ⟨0x600004, [(4, 2)], fun o => ⟨0x600004 + o, 16, 16, 0⟩, .ro, .device, 0, 0⟩,
  ⟨0x60000c, [], fun o => ⟨0x60000c + o, 0, 16, 0⟩, .ro, .device, 0, 0⟩,
  ⟨0x600010, [], fun o => ⟨0x600010 + o, 0, 32, 0⟩, .ro, .device, 0, 0⟩,
  ⟨0x600014, [], fun o => ⟨0x600014 + o, 0, 32, 0⟩, .ro, .device, 0, 0⟩,
  ⟨0x600018, [], fun o => ⟨0x600018 + o, 0, 16, 0⟩, .rc, .device, 0, 0⟩,
  ⟨0x60001c, [], fun o => ⟨0x60001c + o, 0, 16, 0⟩, .rc, .device, 0, 0⟩,
  ⟨0x600020, [(4, 12)], fun o => ⟨0x600020 + o, 0, 32, 0⟩, .ro, .device, 0, 0⟩,
  ⟨0x600100, [], fun o => ⟨0x600100 + o, 0, 1, 0⟩, .ro, .device, 8, 0⟩,
  ⟨0x600100, [], fun o => ⟨0x600100 + o, 1, 8, 0⟩, .ro, .device, 8, 0⟩,
  ⟨0x600100, [], fun o => ⟨0x600100 + o, 9, 5, 0⟩, .ro, .device, 8, 0⟩,
  ⟨0x600104, [], fun o => ⟨0x600104 + o, 0, 30, 0⟩, .rw, .device, 2, 0⟩,
  ⟨0x600108, [], fun o => ⟨0x600108 + o, 0, 13, 0⟩, .rw, .device, 2, 0⟩,
  ⟨0x60010c, [], fun o => ⟨0x60010c + o, 0, 1, 0⟩, .wo, .never, 2, 0⟩,
  ⟨0x60010c, [], fun o => ⟨0x60010c + o, 1, 1, 0⟩, .wo, .never, 2, 0⟩,
  ⟨0x600110, [], fun o => ⟨0x600110 + o, 0, 2, 0⟩, .ro, .device, 0, 0⟩,
  ⟨0x600110, [], fun o => ⟨0x600110 + o, 2, 1, 0⟩, .ro, .device, 0, 0⟩,
  ⟨0x600110, [], fun o => ⟨0x600110 + o, 3, 8, 0⟩, .ro, .device, 0, 0⟩,
  ⟨0x600110, [], fun o => ⟨0x600110 + o, 11, 2, 0⟩, .ro, .device, 0, 0⟩,
  ⟨0x600110, [], fun o => ⟨0x600110 + o, 13, 4, 0⟩, .ro, .device, 0, 0⟩,
  ⟨0x600110, [], fun o => ⟨0x600110 + o, 17, 13, 0⟩, .ro, .device, 0, 0⟩,
  ⟨0x600120, [(4, 12)], fun o => ⟨0x600120 + o, 0, 32, 0⟩, .ro, .device, 0, 0⟩,
  ⟨0x600150, [], fun o => ⟨0x600150 + o, 0, 32, 0⟩, .ro, .device, 0, 0⟩,
  ⟨0x600154, [], fun o => ⟨0x600154 + o, 0, 32, 0⟩, .ro, .device, 0, 0⟩,
  ⟨0x600158, [], fun o => ⟨0x600158 + o, 0, 32, 0⟩, .rc, .device, 0, 0⟩,
  ⟨0x60015c, [], fun o => ⟨0x60015c + o, 0, 16, 0⟩, .rc, .device, 0, 0⟩,
  ⟨0x60015c, [], fun o => ⟨0x60015c + o, 16, 16, 0⟩, .rc, .device, 0, 0⟩,
  ⟨0x600200, [(16, 2)], fun o => ⟨0x600200 + o, 0, 25, 0⟩, .ro, .device, 0, 0⟩,
  ⟨0x600204, [(16, 2)], fun o => ⟨0x600204 + o, 0, 32, 0⟩, .ro, .device, 0, 0⟩,
  ⟨0x600208, [(16, 2)], fun o => ⟨0x600208 + o, 0, 16, 0⟩, .rc, .device, 0, 0⟩,
  ⟨0x600208, [(16, 2)], fun o => ⟨0x600208 + o, 16, 16, 0⟩, .rc, .device, 0, 0⟩,
  ⟨0x60020c, [(16, 2)], fun o => ⟨0x60020c + o, 0, 24, 0⟩, .ro, .device, 0, 0⟩,
  ⟨0x600220, [], fun o => ⟨0x600220 + o, 0, 2, 0⟩, .ro, .device, 0, 0⟩]

/-- Rows of the Config block, part 1. -/
def rowsConfig1 : List RegRow := [
  ⟨0x600220, [], fun o => ⟨0x600220 + o, 2, 1, 0⟩, .ro, .device, 0, 0⟩,
  ⟨0x600220, [], fun o => ⟨0x600220 + o, 8, 8, 0⟩, .ro, .device, 0, 0⟩,
  ⟨0x600224, [], fun o => ⟨0x600224 + o, 0, 16, 0⟩, .rc, .device, 0, 0⟩]

/-- Rows of the Twin block, part 0. -/
def rowsTwin0 : List RegRow := [
  ⟨0x500000, [], fun o => ⟨0x500000 + o, 0, 1, 0⟩, .ro, .device, 8, 0⟩,
  ⟨0x500000, [], fun o => ⟨0x500000 + o, 1, 8, 0⟩, .ro, .device, 8, 0⟩,
  ⟨0x500000, [], fun o => ⟨0x500000 + o, 9, 4, 0⟩, .ro, .device, 8, 0⟩,
  ⟨0x500000, [], fun o => ⟨0x500000 + o, 13, 1, 0⟩, .ro, .device, 8, 0⟩,
  ⟨0x500000, [], fun o => ⟨0x500000 + o, 14, 1, 0⟩, .ro, .device, 8, 0⟩,
  ⟨0x500000, [], fun o => ⟨0x500000 + o, 15, 1, 0⟩, .ro, .device, 8, 0⟩,
  ⟨0x500000, [], fun o => ⟨0x500000 + o, 16, 1, 0⟩, .ro, .device, 8, 0⟩,
  ⟨0x500000, [], fun o => ⟨0x500000 + o, 17, 1, 1⟩, .ro, .device, 8, 0⟩,
  ⟨0x500000, [], fun o => ⟨0x500000 + o, 20, 12, 2000⟩, .ro, .device, 8, 0⟩,
  ⟨0x500004, [], fun o => ⟨0x500004 + o, 0, 16, 4096⟩, .ro, .device, 8, 0⟩,
  ⟨0x500004, [], fun o => ⟨0x500004 + o, 16, 8, 50⟩, .ro, .device, 8, 0⟩,
  ⟨0x500004, [], fun o => ⟨0x500004 + o, 24, 8, 25⟩, .ro, .device, 8, 0⟩,
  ⟨0x500008, [], fun o => ⟨0x500008 + o, 0, 16, 1000⟩, .ro, .device, 8, 0⟩,
  ⟨0x50000c, [], fun o => ⟨0x50000c + o, 0, 5, 0⟩, .ro, .device, 8, 0⟩,
  ⟨0x50000c, [], fun o => ⟨0x50000c + o, 5, 5, 0⟩, .ro, .device, 8, 0⟩,
  ⟨0x50000c, [], fun o => ⟨0x50000c + o, 10, 2, 0⟩, .ro, .device, 8, 0⟩,
  ⟨0x500010, [], fun o => ⟨0x500010 + o, 0, 3, 6⟩, .ro, .device, 0, 0⟩,
  ⟨0x500010, [], fun o => ⟨0x500010 + o, 3, 1, 0⟩, .ro, .device, 0, 0⟩,
  ⟨0x500010, [], fun o => ⟨0x500010 + o, 4, 1, 0⟩, .ro, .device, 0, 0⟩,
  ⟨0x500010, [], fun o => ⟨0x500010 + o, 5, 1, 0⟩, .ro, .device, 0, 0⟩,
  ⟨0x500010, [], fun o => ⟨0x500010 + o, 6, 1, 0⟩, .ro, .device, 0, 0⟩,
  ⟨0x500010, [], fun o => ⟨0x500010 + o, 7, 1, 0⟩, .ro, .device, 0, 0⟩,
  ⟨0x500010, [], fun o => ⟨0x500010 + o, 8, 8, 0⟩, .ro, .device, 0, 0⟩,
  ⟨0x500010, [], fun o => ⟨0x500010 + o, 16, 4, 0⟩, .ro, .device, 0, 0⟩,
  ⟨0x500010, [], fun o => ⟨0x500010 + o, 20, 3, 0⟩, .ro, .device, 0, 0⟩,
  ⟨0x500014, [], fun o => ⟨0x500014 + o, 0, 16, 0⟩, .ro, .device, 0, 0⟩,
  ⟨0x500014, [], fun o => ⟨0x500014 + o, 16, 16, 0⟩, .ro, .device, 0, 0⟩,
  ⟨0x500018, [], fun o => ⟨0x500018 + o, 0, 32, 0⟩, .ro, .device, 0, 0⟩,
  ⟨0x50001c, [], fun o => ⟨0x50001c + o, 0, 32, 0⟩, .ro, .device, 0, 0⟩,
  ⟨0x500020, [], fun o => ⟨0x500020 + o, 0, 32, 0⟩, .ro, .device, 0, 0⟩,
  ⟨0x500024, [], fun o => ⟨0x500024 + o, 0, 32, 0⟩, .ro, .device, 0, 0⟩,
  ⟨0x500028, [], fun o => ⟨0x500028 + o, 0, 24, 0⟩, .ro, .device, 0, 0⟩,
  ⟨0x50002c, [], fun o => ⟨0x50002c + o, 0, 7, 0⟩, .ro, .device, 0, 0⟩,
  ⟨0x50002c, [], fun o => ⟨0x50002c + o, 7, 1, 0⟩, .ro, .device, 0, 0⟩,
  ⟨0x500030, [], fun o => ⟨0x500030 + o, 0, 16, 0⟩, .ro, .device, 0, 0⟩,
  ⟨0x500034, [], fun o => ⟨0x500034 + o, 0, 2, 0⟩, .wo, .never, 6, 0⟩,
  ⟨0x500034, [], fun o => ⟨0x500034 + o, 2, 1, 0⟩, .wo, .never, 2, 0⟩,
  ⟨0x500038, [], fun o => ⟨0x500038 + o, 0, 2, 0⟩, .ro, .device, 0, 0⟩,
  ⟨0x500038, [], fun o => ⟨0x500038 + o, 2, 1, 0⟩, .ro, .device, 0, 0⟩,
  ⟨0x500038, [], fun o => ⟨0x500038 + o, 3, 3, 0⟩, .ro, .device, 0, 0⟩]

/-- Rows of the Twin block, part 1. -/
def rowsTwin1 : List RegRow := [
  ⟨0x500040, [], fun o => ⟨0x500040 + o, 0, 16, 0⟩, .rc, .device, 0, 0⟩,
  ⟨0x500040, [], fun o => ⟨0x500040 + o, 16, 16, 0⟩, .rc, .device, 0, 0⟩,
  ⟨0x500044, [], fun o => ⟨0x500044 + o, 0, 16, 0⟩, .rc, .device, 0, 0⟩,
  ⟨0x500044, [], fun o => ⟨0x500044 + o, 16, 16, 0⟩, .rc, .device, 0, 0⟩,
  ⟨0x500048, [], fun o => ⟨0x500048 + o, 0, 16, 0⟩, .rc, .device, 0, 0⟩,
  ⟨0x500048, [], fun o => ⟨0x500048 + o, 16, 16, 0⟩, .rc, .device, 0, 0⟩,
  ⟨0x50004c, [], fun o => ⟨0x50004c + o, 0, 16, 0⟩, .rc, .device, 0, 0⟩,
  ⟨0x50004c, [], fun o => ⟨0x50004c + o, 16, 16, 0⟩, .rc, .device, 0, 0⟩,
  ⟨0x500050, [], fun o => ⟨0x500050 + o, 0, 16, 0⟩, .rc, .device, 0, 0⟩,
  ⟨0x500050, [], fun o => ⟨0x500050 + o, 16, 16, 0⟩, .rc, .device, 0, 0⟩,
  ⟨0x500054, [], fun o => ⟨0x500054 + o, 0, 16, 0⟩, .rc, .device, 0, 0⟩,
  ⟨0x500058, [], fun o => ⟨0x500058 + o, 0, 32, 0⟩, .ro, .device, 0, 0⟩,
  ⟨0x50005c, [], fun o => ⟨0x50005c + o, 0, 32, 0⟩, .ro, .device, 0, 0⟩,
  ⟨0x500060, [], fun o => ⟨0x500060 + o, 0, 16, 0⟩, .ro, .device, 0, 0⟩]

/-- Rows of the Security block, part 0. -/
def rowsSecurity0 : List RegRow := [
  ⟨0x700000, [], fun o => ⟨0x700000 + o, 0, 2, 0⟩, .ro, .never, 0, 0⟩,
  ⟨0x700000, [], fun o => ⟨0x700000 + o, 2, 1, 0⟩, .ro, .never, 0, 0⟩,
  ⟨0x700000, [], fun o => ⟨0x700000 + o, 3, 4, 0⟩, .ro, .never, 0, 0⟩,
  ⟨0x700000, [], fun o => ⟨0x700000 + o, 7, 4, 0⟩, .ro, .never, 0, 0⟩,
  ⟨0x700000, [], fun o => ⟨0x700000 + o, 11, 4, 0⟩, .ro, .never, 0, 0⟩,
  ⟨0x700000, [], fun o => ⟨0x700000 + o, 15, 4, 0⟩, .ro, .never, 0, 0⟩,
  ⟨0x700000, [], fun o => ⟨0x700000 + o, 19, 1, 0⟩, .ro, .device, 0, 0⟩,
  ⟨0x700000, [], fun o => ⟨0x700000 + o, 20, 1, 0⟩, .ro, .never, 0, 0⟩,
  ⟨0x700004, [], fun o => ⟨0x700004 + o, 0, 6, 0⟩, .ro, .never, 0, 0⟩,
  ⟨0x700004, [], fun o => ⟨0x700004 + o, 8, 6, 0⟩, .ro, .never, 0, 0⟩,
  ⟨0x700004, [], fun o => ⟨0x700004 + o, 16, 1, 0⟩, .ro, .never, 0, 0⟩,
  ⟨0x700004, [], fun o => ⟨0x700004 + o, 17, 1, 0⟩, .ro, .never, 0, 0⟩,
  ⟨0x700010, [(4, 12)], fun o => ⟨0x700010 + o, 0, 32, 0⟩, .ro, .device, 0, 0⟩,
  ⟨0x700040, [(4, 12)], fun o => ⟨0x700040 + o, 0, 32, 0⟩, .ro, .device, 0, 0⟩,
  ⟨0x700080, [(4, 24)], fun o => ⟨0x700080 + o, 0, 32, Rst.attPub (o / 4)⟩, .ro, .never, 0, 0⟩,
  ⟨0x7000e0, [(4, 24)], fun o => ⟨0x7000e0 + o, 0, 32, Rst.xportPub (o / 4)⟩, .ro, .never, 0, 0⟩,
  ⟨0x700140, [(4, 8)], fun o => ⟨0x700140 + o, 0, 32, 0⟩, .ro, .device, 0, 0⟩,
  ⟨0x700200, [(4, 128)], fun o => ⟨0x700200 + o, 0, 32, 0⟩, .rw, .warm, 6, 6⟩,
  ⟨0x700400, [], fun o => ⟨0x700400 + o, 0, 1, 0⟩, .wo, .never, 6, 6⟩,
  ⟨0x700404, [], fun o => ⟨0x700404 + o, 0, 1, 0⟩, .ro, .warm, 0, 6⟩,
  ⟨0x700404, [], fun o => ⟨0x700404 + o, 1, 1, 0⟩, .ro, .warm, 0, 6⟩,
  ⟨0x700404, [], fun o => ⟨0x700404 + o, 2, 1, 0⟩, .ro, .device, 0, 6⟩,
  ⟨0x700404, [], fun o => ⟨0x700404 + o, 3, 4, 0⟩, .ro, .warm, 0, 6⟩,
  ⟨0x700404, [], fun o => ⟨0x700404 + o, 8, 4, 0⟩, .ro, .warm, 0, 6⟩,
  ⟨0x700410, [], fun o => ⟨0x700410 + o, 0, 1, 0⟩, .wo, .never, 7, 0⟩,
  ⟨0x700414, [], fun o => ⟨0x700414 + o, 0, 1, 0⟩, .ro, .device, 0, 0⟩,
  ⟨0x700414, [], fun o => ⟨0x700414 + o, 1, 3, 0⟩, .ro, .device, 0, 0⟩,
  ⟨0x700500, [(4, 8)], fun o => ⟨0x700500 + o, 0, 32, 0⟩, .rw, .warm, 6, 6⟩,
  ⟨0x700520, [], fun o => ⟨0x700520 + o, 0, 1, 0⟩, .wo, .never, 6, 6⟩,
  ⟨0x700524, [], fun o => ⟨0x700524 + o, 0, 1, 0⟩, .ro, .warm, 0, 6⟩,
  ⟨0x700600, [(4, 128)], fun o => ⟨0x700600 + o, 0, 32, 0⟩, .ro, .warm, 0, 6⟩]

/-- Rows of the Ledger block, part 0. -/
def rowsLedger0 : List RegRow := [
  ⟨0x900000, [], fun o => ⟨0x900000 + o, 0, 1, 0⟩, .ro, .never, 0, 0⟩,
  ⟨0x900000, [], fun o => ⟨0x900000 + o, 1, 1, 0⟩, .ro, .device, 0, 0⟩,
  ⟨0x900000, [], fun o => ⟨0x900000 + o, 2, 4, 8⟩, .ro, .never, 0, 0⟩,
  ⟨0x900000, [], fun o => ⟨0x900000 + o, 6, 6, 0⟩, .ro, .never, 0, 0⟩,
  ⟨0x900000, [], fun o => ⟨0x900000 + o, 12, 9, 0⟩, .ro, .device, 0, 0⟩,
  ⟨0x900000, [], fun o => ⟨0x900000 + o, 21, 8, 0⟩, .ro, .device, 0, 0⟩,
  ⟨0x900000, [], fun o => ⟨0x900000 + o, 29, 1, 0⟩, .ro, .never, 0, 0⟩,
  ⟨0x900004, [], fun o => ⟨0x900004 + o, 0, 32, 0⟩, .ro, .never, 0, 0⟩,
  ⟨0x900008, [], fun o => ⟨0x900008 + o, 0, 32, 0⟩, .ro, .never, 0, 0⟩,
  ⟨0x90000c, [], fun o => ⟨0x90000c + o, 0, 32, 0⟩, .ro, .never, 0, 0⟩,
  ⟨0x900010, [], fun o => ⟨0x900010 + o, 0, 16, 0⟩, .ro, .never, 0, 0⟩,
  ⟨0x900100, [(4, 64)], fun o => ⟨0x900100 + o, 0, 17, 0⟩, .ro, .never, 0, 0⟩,
  ⟨0x900100, [(4, 64)], fun o => ⟨0x900100 + o, 17, 2, Rst.ledRole (o / 4)⟩, .ro, .never, 0, 0⟩]

/-- Rows of the Events block, part 0. -/
def rowsEvents0 : List RegRow := [
  ⟨0x800000, [], fun o => ⟨0x800000 + o, 0, 13, 0⟩, .ro, .warm, 0, 0⟩,
  ⟨0x800000, [], fun o => ⟨0x800000 + o, 13, 1, 0⟩, .ro, .warm, 0, 0⟩,
  ⟨0x800004, [], fun o => ⟨0x800004 + o, 0, 12, 0⟩, .ro, .warm, 0, 0⟩,
  ⟨0x800004, [], fun o => ⟨0x800004 + o, 12, 11, 0⟩, .ro, .warm, 0, 0⟩,
  ⟨0x800008, [], fun o => ⟨0x800008 + o, 0, 12, 0⟩, .rw, .warm, 4, 0⟩,
  ⟨0x80000c, [], fun o => ⟨0x80000c + o, 0, 12, 0⟩, .rw, .warm, 1, 0⟩,
  ⟨0x800010, [], fun o => ⟨0x800010 + o, 0, 3, 5⟩, .ro, .device, 8, 0⟩,
  ⟨0x800010, [], fun o => ⟨0x800010 + o, 3, 3, 0⟩, .ro, .device, 8, 0⟩,
  ⟨0x800010, [], fun o => ⟨0x800010 + o, 6, 3, 3⟩, .ro, .device, 8, 0⟩,
  ⟨0x800020, [(4, 32)], fun o => ⟨0x800020 + o, 0, 32, 0⟩, .ro, .device, 8, 0⟩,
  ⟨0x8000a0, [], fun o => ⟨0x8000a0 + o, 0, 16, 0⟩, .rc, .warm, 0, 0⟩,
  ⟨0x8000a0, [], fun o => ⟨0x8000a0 + o, 16, 16, 0⟩, .rc, .warm, 0, 0⟩,
  ⟨0x8000b0, [], fun o => ⟨0x8000b0 + o, 0, 9, 0⟩, .ro, .warm, 0, 0⟩,
  ⟨0x8000b0, [], fun o => ⟨0x8000b0 + o, 9, 1, 0⟩, .ro, .warm, 0, 0⟩,
  ⟨0x8000b4, [], fun o => ⟨0x8000b4 + o, 0, 1, 0⟩, .wo, .never, 2, 0⟩,
  ⟨0x8000b8, [], fun o => ⟨0x8000b8 + o, 0, 16, 0⟩, .rc, .warm, 0, 0⟩,
  ⟨0x8000c0, [(4, 4)], fun o => ⟨0x8000c0 + o, 0, 32, 0⟩, .ro, .warm, 0, 0⟩,
  ⟨0x8000e0, [], fun o => ⟨0x8000e0 + o, 0, 8, 0⟩, .ro, .device, 8, 0⟩,
  ⟨0x8000e0, [], fun o => ⟨0x8000e0 + o, 8, 1, 0⟩, .ro, .device, 8, 0⟩,
  ⟨0x8000e4, [], fun o => ⟨0x8000e4 + o, 0, 30, 357913941⟩, .ro, .device, 8, 0⟩,
  ⟨0x8000e8, [], fun o => ⟨0x8000e8 + o, 0, 4, 0⟩, .ro, .bin, 0, 0⟩,
  ⟨0x8000ec, [], fun o => ⟨0x8000ec + o, 0, 16, 0⟩, .rc, .device, 0, 0⟩,
  ⟨0x8000ec, [], fun o => ⟨0x8000ec + o, 16, 16, 0⟩, .rc, .device, 0, 0⟩,
  ⟨0x804000, [(4, 16384)], fun o => ⟨0x804000 + o, 0, 32, 0⟩, .ro, .warm, 0, 0⟩]

/-- Every register row. -/
def regRows : List RegRow :=
  rowsIdentity0 ++ rowsBins0 ++ rowsBins1 ++ rowsBins2 ++ rowsTimeBase0 ++ rowsTimeBase1 ++ rowsTimeBase2 ++ rowsClocks0 ++ rowsClocks1 ++ rowsScheduler0 ++ rowsScheduler1 ++ rowsAdmission0 ++ rowsThermal0 ++ rowsThermal1 ++ rowsLanes0 ++ rowsLanes1 ++ rowsFronthaul0 ++ rowsLoft0 ++ rowsLoft1 ++ rowsConfig0 ++ rowsConfig1 ++ rowsTwin0 ++ rowsTwin1 ++ rowsSecurity0 ++ rowsLedger0 ++ rowsEvents0

end Sys2Proof.Machine
end

