-- ==== Sys2Proof/Machine/Bits.lean ====
section
/-! DEFINITION. Bit fields, signed values, saturation, CRC-32C and keyed lists: the helpers every
family uses. -/

namespace Sys2Proof.Machine

/-- Bits `lo + w - 1 .. lo` of `n`. -/
def bits (n lo w : Nat) : Nat := (n >>> lo) % 2 ^ w

/-- Bit `i` of `n`. -/
def bitAt (n i : Nat) : Bool := n.testBit i

/-- `n` with bit `i` set to `b`. -/
def putBit (n i : Nat) (b : Bool) : Nat :=
  if n.testBit i then (if b then n else n - 2 ^ i) else (if b then n + 2 ^ i else n)

/-- A Bool as a one-bit field. -/
def ofBool (b : Bool) : Nat := if b then 1 else 0

/-- The `w`-bit two's complement pattern of `i`. -/
def ofInt (w : Nat) (i : Int) : Nat := (i % (2 ^ w : Int)).toNat

/-- The signed value of a `w`-bit pattern. -/
def toInt (w n : Nat) : Int :=
  let m := n % 2 ^ w
  if m < 2 ^ (w - 1) then (m : Int) else (m : Int) - (2 ^ w : Int)

/-- The `w`-bit pattern of `i` saturated to the signed range. -/
def satInt (w : Nat) (i : Int) : Nat :=
  ofInt w (max (-(2 ^ (w - 1) : Int)) (min ((2 ^ (w - 1) : Int) - 1) i))

/-- `n` saturated to `w` bits. -/
def satNat (w n : Nat) : Nat := min n (2 ^ w - 1)

/-- Ceiling division. -/
def ceilDiv (a b : Nat) : Nat := (a + b - 1) / b

/-- Microseconds to ticks, rounded up: 1 µs = 983.04 tk (R8). -/
def usToTk (us : Nat) : Nat := ceilDiv (us * 98304) 100

/-- Ticks to microseconds, rounded down. -/
def tkToUs (tk : Nat) : Nat := tk * 100 / 98304

/-- One bit of a reflected CRC-32C. -/
def crcBit (c : Nat) : Nat := if c % 2 = 1 then (c / 2) ^^^ 0x82F63B78 else c / 2

/-- `n` bits of a reflected CRC-32C. -/
def crcBits : Nat → Nat → Nat
  | 0, c => c
  | n + 1, c => crcBits n (crcBit c)

/-- CRC-32C over 32-bit words, each taken least significant byte first (R64, R437). -/
def crc32c (ws : List Nat) : Nat :=
  (ws.foldl (fun c w => crcBits 32 (c ^^^ (w % 2 ^ 32))) 0xFFFFFFFF) ^^^ 0xFFFFFFFF

/-- The number of set bits among the low `w` bits of `n`. -/
def popCount : Nat → Nat → Nat
  | 0, _ => 0
  | w + 1, n => popCount w n + ofBool (n.testBit w)

/-- The lowest set bit among the low `w` bits of `n` at or above `from`. -/
def lowestBit (n w : Nat) : Option Nat := (List.range w).find? (fun i => n.testBit i)

/-- The value at key `k` of a keyed list. -/
def aget {α : Type} (l : List (Nat × α)) (k : Nat) : Option α :=
  (l.find? (fun p => p.1 == k)).map Prod.snd

/-- A keyed list without key `k`. -/
def adel {α : Type} (l : List (Nat × α)) (k : Nat) : List (Nat × α) :=
  l.filter (fun p => p.1 != k)

/-- Insertion by rising key. -/
def ains {α : Type} (k : Nat) (v : α) : List (Nat × α) → List (Nat × α)
  | [] => [(k, v)]
  | p :: t => if k < p.1 then (k, v) :: p :: t else p :: ains k v t

/-- A keyed list with `v` at key `k`, in rising key order. -/
def aset {α : Type} (l : List (Nat × α)) (k : Nat) (v : α) : List (Nat × α) :=
  ains k v (adel l k)

/-- Insertion of a number into a rising list without repeats. -/
def nins (k : Nat) : List Nat → List Nat
  | [] => [k]
  | h :: t => if k < h then k :: h :: t else if k = h then h :: t else h :: nins k t

/-- Removal of a number from a list. -/
def ndel (l : List Nat) (k : Nat) : List Nat := l.filter (fun x => x != k)

/-! Field maps. -/

/-- The key of a field: its address and lowest bit. -/
def Fld.key (f : Fld) : Nat := f.addr * 32 + f.lo

/-- The copy of a field held by requester `k` (R510): 0 keeper, 1 register port, 2 management
port. -/
def Fld.copy (f : Fld) (k : Nat) : Fld := ⟨f.addr + (k + 1) * 2 ^ 32, f.lo, f.width, f.reset⟩

/-- The stored value at a key, if one differs from reset. -/
def fget (m : FldMap) (k : Nat) : Option Nat := aget m k

/-- The contents of field `f`. -/
def fread (m : FldMap) (f : Fld) : Nat := (aget m f.key).getD f.reset

/-- The map after field `f` takes `v`, cut to the field's width; a field at its reset value is not
listed. -/
def fwrite (m : FldMap) (f : Fld) (v : Nat) : FldMap :=
  let v' := v % 2 ^ f.width
  if v' = f.reset then adel m f.key else aset m f.key v'

end Sys2Proof.Machine
end

