-- ==== Sys2Proof/Machine/Fabric.lean ====
section
/-! DEFINITION. The fabric below the bin (R101 to R114): the look-up table, carry segments, the complex MAC unit
and its pipeline, a tile's registers and how they step under an image, the level rule, the crossbar's indices, the
delays of routes, and the words of the bin port and the hatch port (R140, R149). -/

namespace Sys2Proof.Machine

/-! The logic cell (R101). -/

/-- The 6-input output O6 of truth table `t` at the inputs `i`. -/
def lutO6 (t i : Nat) : Bool := t.testBit (i % 64)
/-- The 5-input outputs O5L and O5H, from truth-table bits [31:0] and [63:32]. -/
def lutO5L (t i : Nat) : Bool := t.testBit (i % 32)
def lutO5H (t i : Nat) : Bool := t.testBit (32 + i % 32)

/-! The complex MAC unit (R104 to R106). -/

/-- A complex value. -/
structure Cplx where
  re : Int
  im : Int
  deriving DecidableEq, Repr

/-- A complex operand: 16-bit two's-complement I and Q. -/
def Cplx.ok (a : Cplx) : Bool := -32768 ≤ a.re && a.re < 32768 && -32768 ≤ a.im && a.im < 32768

def Cplx.add (a b : Cplx) : Cplx := ⟨a.re + b.re, a.im + b.im⟩
def Cplx.neg (a : Cplx) : Cplx := ⟨-a.re, -a.im⟩

/-- The product p = a·b, or a·conj(b) (R104). -/
def macProd (conj : Bool) (a b : Cplx) : Cplx :=
  let bi := if conj then -b.im else b.im
  ⟨a.re * b.re - a.im * bi, a.re * bi + a.im * b.re⟩

/-- A unit's accumulator and its sticky overflow flag (R104, R106). -/
structure MacAcc where
  acc : Cplx
  ovf : Bool
  deriving DecidableEq, Repr

/-- A sum leaves the 48 bits of a component (R106). -/
def mac48 (x : Int) : Bool := -(2 ^ 47) ≤ x && x < 2 ^ 47

/-- A component after an overflow: wrapped modulo 2^48, or clamped when sat_acc is set (R106). -/
def macFit (sat : Bool) (x : Int) : Int :=
  if sat then max (-(2 ^ 47)) (min (2 ^ 47 - 1) x) else toInt 48 (ofInt 48 x)

/-- The accumulator after a tick with product `p` (R104, R106): the clear input acts before the operation and
ends the flag. With the chain bit `p` is p0 + p1. -/
def macStep (mode : MacMode) (sat clear : Bool) (p : Cplx) (u : MacAcc) : MacAcc :=
  let u := if clear then ⟨⟨0, 0⟩, false⟩ else u
  let x := match mode with
    | .mul => p
    | .mac => u.acc.add p
    | .msub => u.acc.add p.neg
    | .hold => u.acc
  ⟨⟨macFit sat x.re, macFit sat x.im⟩, u.ovf || !mac48 x.re || !mac48 x.im⟩

/-- Division by 2^s rounded half to even (R105). -/
def macRound (x : Int) (s : Nat) : Int :=
  let d : Int := 2 ^ s
  let q := x / d
  let r := 2 * (x - q * d)
  if r < d then q else if d < r then q + 1 else if q % 2 = 0 then q else q + 1

/-- A component of the output register: rounded, saturated to 16 bits, with its saturation (R105). -/
def macOut1 (x : Int) (s : Nat) : Int × Bool :=
  let y := macRound x s
  (max (-32768) (min 32767 y), y < -32768 || 32767 < y)

/-- The output register and the sat flag (R105). -/
def macOut (u : MacAcc) (s : Nat) : Cplx × Bool :=
  (⟨(macOut1 u.acc.re s).1, (macOut1 u.acc.im s).1⟩, (macOut1 u.acc.re s).2 || (macOut1 u.acc.im s).2)

/-- The accumulator after the operand pairs `l` in mode MAC, one pair a tick. -/
def macRun (sat conj : Bool) : List (Cplx × Cplx) → MacAcc → MacAcc
  | [], u => u
  | x :: t, u => macRun sat conj t (macStep .mac sat false (macProd conj x.1 x.2) u)

/-- A MAC unit's registers (R105): the operands, clear and enable captured in tick 0; the product of tick 1 with
the clear and enable that go with it; the accumulator of tick 2; the output register and its sat flag. -/
structure MacUnit where
  a : Cplx
  b : Cplx
  clr : Bool
  en : Bool
  p : Cplx
  pclr : Bool
  pen : Bool
  u : MacAcc
  out : Cplx
  sat : Bool
  deriving DecidableEq, Repr

/-- Every register 0. -/
def MacUnit.zero : MacUnit := ⟨⟨0, 0⟩, ⟨0, 0⟩, false, false, ⟨0, 0⟩, false, false, ⟨⟨0, 0⟩, false⟩, ⟨0, 0⟩, false⟩

/-- A unit's settings in a context (R104). -/
structure MacSet where
  mode : MacMode
  conj : Bool
  chain : Bool
  shift : Nat
  sat : Bool
  deriving DecidableEq, Repr

/-- A tick of a unit (R104, R105): each stage takes what the stage before it held. `p0` is M0's product, which M1
adds when its chain bit is set. With enable 0 the accumulator holds (log entry 106). -/
def macTick (c : MacSet) (p0 a b : Cplx) (clr en : Bool) (m : MacUnit) : MacUnit :=
  let o := macOut m.u c.shift
  let p := if c.chain then p0.add m.p else m.p
  { a := a, b := b, clr := clr, en := en, p := macProd c.conj m.a m.b, pclr := m.clr, pen := m.en
    u := macStep (if m.pen then c.mode else .hold) c.sat m.pclr p m.u, out := o.1, sat := o.2 }

/-! A tile's registers and crossbar (R101, R107, R417). -/

/-- A bin's registers in the fabric: the flip-flops that hold 1 by their number, the MAC units by 2 · tile + unit,
the sink registers of the bin crossbar that do not hold 0 by index, the entries of the FIFOs at the ports of tiles
on RC1 to RC3 by 4 · tile + 2 · direction + port (0 into the tile, 1 out of it), and the entry each FIFO last gave,
with its valid bit at 64. -/
structure BinFab where
  ffs : List Nat
  macs : List (Nat × MacUnit)
  sinks : List (Nat × Nat)
  fifos : List (Nat × List Nat)
  given : List (Nat × Nat)
  deriving DecidableEq, Repr

/-- Every register 0, every FIFO empty. -/
def BinFab.zero : BinFab := ⟨[], [], [], [], []⟩

/-- The number of a flip-flop. -/
def flop (t c : Nat) (hi : Bool) : Nat := 2 * (128 * t + c) + ofBool hi

/-- A unit's registers. -/
def BinFab.mac (r : BinFab) (t u : Nat) : MacUnit := (aget r.macs (2 * t + u)).getD MacUnit.zero

/-- A sink register of the bin crossbar. -/
def BinFab.sink (r : BinFab) (i : Nat) : Nat := (aget r.sinks i).getD 0

/-- The entries of a port's FIFO. -/
def BinFab.fifo (r : BinFab) (t d p : Nat) : List Nat := (aget r.fifos (4 * t + 2 * d + p)).getD []

/-- What a port's FIFO gave last. -/
def BinFab.gave (r : BinFab) (t d p : Nat) : Nat := (aget r.given (4 * t + 2 * d + p)).getD 0

/-- The 64 bits of input port `p` of tile `t`; a tile on RC1 to RC3 has a FIFO there (R417). -/
def portIn (r : BinFab) (cross : Bool) (t p : Nat) : Nat :=
  if cross then r.gave t 0 p % 2 ^ 64 else r.sink (2 * t + p)

/-- A registered source of the tile crossbar; an output of a look-up table is none. -/
def regVal (r : BinFab) (cross : Bool) (t : Nat) : TileSrc → Bool
  | .const v => v
  | .ff c hi => r.ffs.contains (flop t c hi)
  | .port p b => (portIn r cross t p).testBit b
  | .mac u b => if b < 16 then (ofInt 16 (r.mac t u).out.re).testBit b
      else (ofInt 16 (r.mac t u).out.im).testBit (b - 16)
  | .sat u => (r.mac t u).sat
  | .ovf u => (r.mac t u).u.ovf
  | .full p => cross && 8 ≤ (r.fifo t 1 p).length
  | .valid p => !cross || (r.gave t 0 p).testBit 64
  | .o6 _ => false
  | .o5l _ => false
  | .o5h _ => false

/-- A look-up table's settings: five-input pair, truth table, level, inputs. -/
def lutOf (e : List FabElem) (t c : Nat) : Option (Bool × Nat × Nat × List TileSrc) :=
  e.findSome? (fun x => match x with
    | .lut t' c' f tbl l ins => if t' = t && c' = c then some (f, tbl, l, ins) else none
    | _ => none)

/-- A carry segment's settings: level, joined to the segment before it, constant carry-in (R103). -/
def carryOf (e : List FabElem) (t k : Nat) : Option (Nat × Bool × Bool) :=
  e.findSome? (fun x => match x with
    | .carry t' k' l j c => if t' = t && k' = k then some (l, j, c) else none
    | _ => none)

/-- The number whose bits a list of sources gives, the lowest first. -/
def srcNum (v : TileSrc → Bool) (l : List TileSrc) : Nat := l.foldr (fun x n => ofBool (v x) + 2 * n) 0

/-- The outputs O6, O5L and O5H of a cell's table whose inputs read as `v` (R101). -/
def tableOut (e : List FabElem) (v : TileSrc → Bool) (t c : Nat) : Bool × Bool × Bool :=
  match lutOf e t c with
  | none => (false, false, false)
  | some (f, tbl, _, ins) =>
    let i := srcNum v ins
    if f then (false, lutO5L tbl i, lutO5H tbl i) else (lutO6 tbl i, false, false)

/-- The carry into cell `n` of segment `k` (R103): O5L is the bit's propagate and O5H its generate (log entry
106); at 16 it is the segment's carry-out. -/
def carryAt (e : List FabElem) (v : TileSrc → Bool) (t k : Nat) (cin : Bool) : Nat → Bool
  | 0 => cin
  | n + 1 =>
    let o := tableOut e v t (16 * k + n)
    o.2.2 || (o.2.1 && carryAt e v t k cin n)

/-- The carry-in of segment `k` (R103): a constant, or the carry-out of the segment before it. -/
def carryIn (e : List FabElem) (v0 : TileSrc → Bool) (t k : Nat) : Bool :=
  match carryOf e t k with
  | none => false
  | some (_, joined, c) =>
    if !joined then c
    else carryAt e v0 t (k - 1) (((carryOf e t (k - 1)).map (fun x => x.2.2)).getD false) 16

/-- The outputs of a cell whose table reads `v`: in a carry segment O6 is the bit's sum (R103). -/
def cellOut (e : List FabElem) (v v0 : TileSrc → Bool) (t c : Nat) : Bool × Bool × Bool :=
  let o := tableOut e v t c
  match carryOf e t (c / 16) with
  | none => o
  | some _ => (xor o.2.1 (carryAt e v t (c / 16) (carryIn e v0 t (c / 16)) (c % 16)), o.2.1, o.2.2)

/-- The level of a cell's table: its segment's, or its own (R108). A cell without settings counts as level 0. -/
def cellLevel (e : List FabElem) (t c : Nat) : Nat :=
  match carryOf e t (c / 16) with
  | some (l, _, _) => l
  | none => ((lutOf e t c).map (fun x => x.2.2.1)).getD 0

/-- A look-up table's output by name. -/
def lutPick (f : Nat → Bool × Bool × Bool) (reg : TileSrc → Bool) : TileSrc → Bool
  | .o6 c => (f c).1
  | .o5l c => (f c).2.1
  | .o5h c => (f c).2.2
  | x => reg x

/-- The tile crossbar's sources (R107, R108): level-0 tables read registered sources, level-1 tables those and
level-0 outputs. -/
def tileVal (e : List FabElem) (r : BinFab) (cross : Bool) (t : Nat) : TileSrc → Bool :=
  let reg := regVal r cross t
  let out0 := cellOut e reg reg t
  let v1 := lutPick (fun c => if cellLevel e t c = 0 then out0 c else (false, false, false)) reg
  lutPick (fun c => if cellLevel e t c = 0 then out0 c else cellOut e v1 reg t c) reg

/-- The D input of a flip-flop of cell `c` (R101). -/
def dVal (v : TileSrc → Bool) (c : Nat) : DSel → Bool
  | .o6 => v (.o6 c)
  | .o5l => v (.o5l c)
  | .o5h => v (.o5h c)
  | .direct x => v x

/-- The flip-flops of tile `t` after its clock's edge: a load takes the initial value, else an enabled one takes D
(R101). That a load acts while the clock enable is 0 is the model's choice (log entry 138). -/
def ffsStep (e : List FabElem) (v : TileSrc → Bool) (t : Nat) (l : List Nat) : List Nat :=
  e.foldl (fun l x => match x with
    | .ff t' c hi d ce ld init =>
      if t' = t && (v ld || v ce) then
        (if (if v ld then init else dVal v c d) then nins (flop t c hi) l else ndel l (flop t c hi))
      else l
    | _ => l) l

/-- The MAC units of tile `t` after its clock's edge (R104, R105). -/
def macsStep (e : List FabElem) (v : TileSrc → Bool) (t : Nat) (r : BinFab) : List (Nat × MacUnit) :=
  e.foldl (fun l x => match x with
    | .mac t' u mode conj chain shift sat a b clr en _ =>
      if t' ≠ t then l
      else
        let cx := fun (w : List TileSrc) => (⟨toInt 16 (srcNum v w), toInt 16 (srcNum v w / 2 ^ 16)⟩ : Cplx)
        aset l (2 * t + u)
          (macTick ⟨mode, conj, chain, shift, sat⟩ (r.mac t 0).p (cx a) (cx b) (v clr) (v en) (r.mac t u))
    | _ => l) r.macs

/-- A clock edge of tile `t`: every flip-flop and MAC register steps on the values before it. -/
def tileStep (e : List FabElem) (cross : Bool) (t : Nat) (r : BinFab) : BinFab :=
  let v := tileVal e r cross t
  { r with ffs := ffsStep e v t r.ffs, macs := macsStep e v t r }

/-- The 64 bits of output port `p` of tile `t` (R107). -/
def portOut (e : List FabElem) (r : BinFab) (cross : Bool) (t p : Nat) : Nat :=
  e.foldl (fun n x => match x with
    | .out t' p' b s => if t' = t && p' = p && regVal r cross t s && !n.testBit b then n + 2 ^ b else n
    | _ => n) 0

/-- The initial values of an image (R102, R131, R134): every flip-flop and MAC register takes its own, the ports,
sinks and FIFOs 0. A MAC's list gives a, b, p, the accumulator and the output, I before Q, then the captured clear
and enable and those that go with the product. -/
def fabInit (e : List FabElem) : BinFab :=
  let c := fun (i : List Int) (n : Nat) => (⟨i.getD n 0, i.getD (n + 1) 0⟩ : Cplx)
  let f := fun (i : List Int) (n : Nat) => i.getD n 0 ≠ 0
  e.foldl (fun r x => match x with
    | .ff t n hi _ _ _ init => if init then { r with ffs := nins (flop t n hi) r.ffs } else r
    | .mac t u _ _ _ _ _ _ _ _ _ i =>
      let m : MacUnit := ⟨c i 0, c i 2, f i 10, f i 11, c i 4, f i 12, f i 13, ⟨c i 6, false⟩, c i 8, false⟩
      { r with macs := aset r.macs (2 * t + u) m }
    | _ => r) BinFab.zero

/-! The level rule (R108). -/

/-- A source that no look-up table drives. -/
def srcRegistered : TileSrc → Bool
  | .o6 _ => false
  | .o5l _ => false
  | .o5h _ => false
  | _ => true

/-- The cell whose table drives a source. -/
def srcCell : TileSrc → Nat
  | .o6 c => c
  | .o5l c => c
  | .o5h c => c
  | _ => 0

/-- The levels of an image hold (R103, R108): a level-0 element takes registered sources, a level-1 element those
and level-0 outputs; two joined segments are the levels 0 and 1, and a segment's tables have its level. -/
def levelsOk (e : List FabElem) : Bool :=
  e.all (fun x => match x with
    | .lut t c _ _ l ins => l ≤ 1 && l = cellLevel e t c
        && ins.all (fun i => srcRegistered i || (l = 1 && cellLevel e t (srcCell i) = 0))
    | .carry t k l j _ => l ≤ 1 && (!j || (l = 1 && 0 < k && (carryOf e t (k - 1)).any (fun y => y.1 = 0)))
    | _ => true)

/-! The words of the bin port and the hatch port (R140, R149). -/

/-- The control word's fields (R140). -/
structure CtrlWord where
  done : Bool
  spawn : Bool
  event : Bool
  wrEn : Bool
  rdEn : Bool
  rdSlot : Nat
  wrSlot : Nat
  rdLine : Nat
  wrLine : Nat
  wrMask : Nat
  evCode : Nat
  evSev : Nat
  ctxSel : Bool
  ctx : Nat
  ctxInit : Bool
  deriving DecidableEq, Repr

/-- The fields of a 64-bit control word (R140). -/
def ctrlSplit (w : Nat) : CtrlWord :=
  ⟨w.testBit 0, w.testBit 1, w.testBit 2, w.testBit 3, w.testBit 4, bits w 5 1, bits w 6 1, bits w 7 10,
    bits w 17 10, bits w 27 8, bits w 35 7, bits w 42 3, w.testBit 45, bits w 46 3, w.testBit 49⟩

/-- The hatch command word's fields (R149). -/
structure HatchWord where
  valid : Bool
  wr : Bool
  addr : Nat
  beatsM1 : Nat
  tag : Nat
  deriving DecidableEq, Repr

/-- The fields of a 64-bit hatch command word (R149). -/
def hatchSplit (w : Nat) : HatchWord := ⟨w.testBit 0, w.testBit 1, bits w 2 24, bits w 26 4, bits w 30 6⟩

/-! The bin crossbar (R110, R111). -/

/-- Index `i` names a source; a sink that selects any other receives 0. -/
def xbarSource (i : Nat) : Bool := i ≤ 101
/-- Index `i` names a sink. -/
def xbarSink (i : Nat) : Bool := i ≤ 92 || (97 ≤ i && i ≤ 102)
/-- The 64 bits a sink captures that selects index `i`: 0 for a reserved index and for 127. -/
def xbarRead (src : Nat → Nat) (i : Nat) : Nat := if xbarSource i then src i % 2 ^ 64 else 0

/-! Routes (R114). -/

/-- Where a path between two registers runs (R114). -/
inductive PathKind where
  | tile
  | tiles
  | route (hops pad : Nat) (cross : Bool)
  deriving DecidableEq, Repr

/-- The delay of a bin-to-bin route of `h` hops and pad `p` that crosses the hatch or not. -/
def routeDelay (h p : Nat) (cross : Bool) : Nat := h + (if cross then 1 else 0) + p + 2

/-- The delay of every kind of path (R114). -/
def pathDelay : PathKind → Nat
  | .tile => 1
  | .tiles => 2
  | .route h p c => routeDelay h p c

end Sys2Proof.Machine
end

