-- ==== Sys2Proof/Machine/Memory.lean ====
section
/-! DEFINITION. Byte memories: lists of (address, byte) pairs in one canonical form, addresses
strictly rising and no entry equal to 0, which is what an unlisted address reads as (log entry 3). -/

namespace Sys2Proof.Machine

/-- A byte memory. -/
abbrev Memory := List Host.Cell

/-- Addresses strictly rise above `lo` and no entry is 0. -/
def Memory.wfFrom : Nat → Memory → Bool
  | _, [] => true
  | lo, c :: t => lo ≤ c.1 && c.2 != 0#8 && Memory.wfFrom (c.1 + 1) t

/-- The canonical form. -/
def Memory.wf (m : Memory) : Bool := Memory.wfFrom 0 m

/-- The byte at an address. -/
def Memory.read : Memory → Nat → BitVec 8
  | [], _ => 0#8
  | c :: t, a => if c.1 = a then c.2 else Memory.read t a

/-- The memory after byte `b` is stored at address `a`. -/
def Memory.write : Memory → Nat → BitVec 8 → Memory
  | [], a, b => if b = 0#8 then [] else [(a, b)]
  | c :: t, a, b =>
    if c.1 < a then c :: Memory.write t a b
    else if c.1 = a then (if b = 0#8 then t else (a, b) :: t)
    else if b = 0#8 then c :: t else (a, b) :: c :: t

/-- `n` bytes from address `a`, the first least significant. -/
def Memory.readN (m : Memory) (a : Nat) : Nat → Nat
  | 0 => 0
  | n + 1 => (m.read a).toNat + 256 * Memory.readN m (a + 1) n

/-- The memory after the low `n` bytes of `v` are stored from address `a`, the first least
significant. -/
def Memory.writeN (m : Memory) (a : Nat) (v : Nat) : Nat → Memory
  | 0 => m
  | n + 1 => Memory.writeN (m.write a (BitVec.ofNat 8 v)) (a + 1) (v / 256) n

/-- The memory without the addresses that satisfy `p`. -/
def Memory.erase (m : Memory) (p : Nat → Bool) : Memory := m.filter (fun c => !p c.1)

end Sys2Proof.Machine
end

