-- ==== Sys2Proof/Machine/Parts.lean ====
section
/-! DEFINITION. The parts of the state that are not register fields: queues, tables, engines. -/

namespace Sys2Proof.Machine

/-! Events and the ledger (R475, R437). -/

/-- An event record (R475). -/
structure EvRec where
  fp : Nat
  source : Nat
  code : Nat
  sev : Nat
  seq : Nat
  data : Nat
  deriving DecidableEq, Repr

/-- The event unit beside its registers: the input queue (R476), the keeper's count of
unacknowledged ring records (R478), the user port's FIFO (R480), whether the unit runs, the tick in which the last
record entered and how many entered in it, and the first tick of the next KEEP cycle (R476). -/
structure EventUnit where
  inq : List EvRec
  kpUnacked : Nat
  port : List EvRec
  running : Bool
  tick : Nat
  same : Nat
  next : Nat
  deriving DecidableEq, Repr

/-- A ledger entry: an event record with the further words that its rule sends with it (R198, R230, R232), or a
model snapshot of 16 words (R437). -/
structure LedEntry where
  crit : Bool
  warm : Bool
  boot : Nat
  seq : Nat
  record : EvRec
  payload : List Nat
  extra : List Nat
  deriving DecidableEq, Repr

/-- A stored entry: its sector, its first slot and the entry. -/
structure LedSlot where
  sector : Nat
  slot : Nat
  entry : LedEntry
  deriving DecidableEq, Repr

/-- The ledger beside its registers (R437 to R441): the waiting queue, the append or erase that
runs, the rings with the open sector first, the slots used in each ring's open sector, the stored
entries, the next entry sequence, the boot count, whether a deferral was reported, and what the scan of
R441 has to do: whether it is due, the entries torn by a power loss, the sector whose erase was cut. -/
structure Ledger where
  queue : List LedEntry
  appending : Option LedEntry
  erasing : Option Nat
  eraseCrit : Bool
  genRing : List Nat
  critRing : List Nat
  genUsed : Nat
  critUsed : Nat
  stored : List LedSlot
  nextSeq : Nat
  boot : Nat
  deferred : Bool
  scanDue : Bool
  torn : Nat
  tornErase : Option Nat
  deriving DecidableEq, Repr

/-! The time base (R40 to R77). -/

/-- One time reference (R47): the consecutive good seconds of a PPS, the offsets of the last eight
consecutive PTP exchanges (newest first), whether an edge waits for its message, the tick of the last edge, the
seconds of disagreement, the last accepted offset, and since when every measurement has been rejected. Offsets are
reference less FP in 1/16 tk (R40). -/
structure TimeRef where
  run : Nat
  offs : List Int
  edgeSeen : Bool
  lastEdge : Option Nat
  todBad : Nat
  lastOff : Int
  rejSince : Option Nat
  deriving DecidableEq, Repr

/-- A PTP exchange under way on the slave port (R45, R46): the master's time of its Sync in 2^-16 ns, and the times
at the ball, in 1/49,152 ns, at which that Sync arrived and the Delay_Req left. -/
structure PtpExch where
  t1 : Option Int
  t2 : Option Nat
  t3 : Option Nat
  deriving DecidableEq, Repr

/-- An oscillator model (R58, R59, R64): validity, 10 s samples learned, the 1 °C bins
(temperature + 64, count, sum), the snapshot words, and whether it was restored and still
unchecked (R63). -/
structure OscModel where
  valid : Bool
  order : Nat
  secs : Nat
  bins : List (Nat × Nat × Int)
  words : List Nat
  unchecked : Bool
  deriving DecidableEq, Repr

/-- A trigger entry: its eight data words (R68) and its pending next firing as a count N. -/
structure TrgEntry where
  data : List Nat
  next : Option Nat
  deriving DecidableEq, Repr

/-- A trigger commit that waits for its FP_c (R69). -/
structure TrgPend where
  index : Nat
  data : List Nat
  keep : Bool
  at' : Nat
  deriving DecidableEq, Repr

/-- The last PTP message the device sent (R45), with the timestamp it carries (R40, R46): a frame position
and its fraction in 1/16 tk. -/
structure PtpSent where
  lane : Nat
  kind : Nat
  stamp : Nat
  frac : Nat
  deriving DecidableEq, Repr

/-- A pulse that a trigger drives on a UIO pin (R71): the tick at which it ends, its pin and its active
level. -/
structure PinPulse where
  till : Nat
  pin : Nat
  level : Bool
  deriving DecidableEq, Repr

/-- The time base beside its registers. `samples` are the one-second means of the correction with the tick
each second ended at, and `lastAcc` is the tick of the last accepted measurement (R57); `freqPart` is the
share of the correction that the loop's frequency path holds, beside what corrects the phase (R56);
`lockSince` is the tick since which the phase criterion of lock holds, `offSince` that since which the phase
error exceeds four times the threshold (R50, R56); in HOLDOVER, `cEntry`, `tEntry` and `tauEntry` are the
correction, temperature and second from which the model steers (R58), and `tLast` is the last valid board
temperature (R61); `fired` are the triggers that have fired with another of tick `firedN` (R71); `ppsEdge`
is the last edge of PPS_OUT, as the second boundary it marks and its tick, `ppsUntil` the tick at which the
pulse ends, and `todDue` says that its message is still to be sent (R73); `sysrefBurst` gives the frame
boundary and the pulses of an output's last burst (R75). -/
structure TimeBase where
  ptp : TimeRef
  pps0 : TimeRef
  pps1 : TimeRef
  master : Bool
  ql : Nat
  samples : List (Nat × Int)
  lastAcc : Option Nat
  freqPart : Int
  lockSince : Option Nat
  offSince : Option Nat
  cEntry : Int
  te0 : Nat
  tEntry : Int
  tauEntry : Nat
  tLast : Option Int
  tSeenMin : Int
  tSeenMax : Int
  btempLost : Bool
  stepAccepted : Bool
  models : List (Nat × OscModel)
  btGood : Nat
  btBad : Nat
  trgs : List (Nat × TrgEntry)
  trgPend : Option TrgPend
  pulses : List (Nat × PinPulse)
  fired : List Nat
  firedN : Nat
  lastCommitN : Option Nat
  ptpSent : Option PtpSent
  exch : PtpExch
  todSent : Option Nat
  ppsEdge : Option (Nat × Nat)
  ppsUntil : Option Nat
  todDue : Bool
  sysrefArmed : List Nat
  sysrefBurst : List (Nat × Nat × Nat)
  deriving DecidableEq, Repr

/-- The pins the rules drive or read (R36), the forcing of every output to its safe state (R93),
and the levels of the UIO pins that triggers drive (R71). `highZ` says that VCCAUX is below its tolerance,
which makes every UIO ball and control output high-impedance (R34). -/
structure Pins where
  highZ : Bool
  done : Bool
  errorN : Bool
  thermN : Bool
  alertN : Bool
  outputsSafe : Bool
  porstN : Bool
  uioLevel : List (Nat × Bool)
  twHbOut : Bool
  twTakeN : Bool
  twHbIn : Bool
  twRoleIn : Bool
  ppsOut : Bool
  deriving DecidableEq, Repr

/-! The Loft (R301 to R330). -/

/-- A queued request with its requester's owner ID (R306, R307), and the tick it entered its queue. -/
structure QReq where
  req : LoftReq
  ok : Bool
  at' : Nat
  deriving DecidableEq, Repr

/-- A bank's two request queues, the cycles since a general request was served, and the tick of its next free LOFT
cycle: a bank uses one for each access (R301, R306). -/
structure BankQ where
  stream : List QReq
  gen : List QReq
  since : Nat
  next : Nat
  deriving DecidableEq, Repr

/-- The answer to a request: its owner ID, status 0 done, 1 error response, 2 poisoned, and data. -/
structure LoftResp where
  owner : Nat
  status : Nat
  data : Nat
  deriving DecidableEq, Repr

/-- A handover in progress (R309): `since` is the tick from which its bulk clear runs. -/
structure Handover where
  group : Bool
  index : Nat
  owner : Nat
  clear : Bool
  quiesced : Bool
  since : Nat
  deriving DecidableEq, Repr

/-- A DMA transfer in progress (R324 to R326): `next` is the first tick in which its next unit of two beats can be
complete. -/
structure DmaRun where
  src : Nat
  dst : Nat
  units : Nat
  srcTray : Bool
  dstTray : Bool
  evDone : Bool
  aborting : Bool
  next : Nat
  deriving DecidableEq, Repr

/-- The Loft beside its registers: the array of each word (64 data bits by byte address, 8 check
bits and the three valid copies by word address), the queues, pending write-backs and poisonings by
word, the idle scrubbers' laps and rows, handovers, DMA, the background engines (`bgAt`: when each
reads its next word, in 1/100 tk), the keeper's open trap (R320), and the words of keeper SRAM that are not 0. -/
structure Loft where
  data : Memory
  check : Memory
  valid : Memory
  queues : List (Nat × BankQ)
  writeBacks : List Nat
  poisons : List Nat
  last : Option LoftResp
  scrub : List (Nat × Nat × Nat)
  lapStart : List (Nat × Nat)
  handovers : List Handover
  dma : List (Nat × DmaRun)
  bgPos : List (Nat × Nat)
  bgPoison : List (Nat × Nat)
  bgStart : List (Nat × Nat)
  bgAt : List (Nat × Nat)
  keeperTrap : Option Nat
  sram : List (Nat × Nat)
  deriving DecidableEq, Repr

/-! The twin (R366 to R396). -/

/-- A frame sent and not yet acknowledged (R369): its channel and number, the lanes that have carried
it, when it was last sent, its retries, its body, and the epoch, session and ack of its header. -/
structure TwinTx where
  vc : Nat
  seq : Nat
  lane : Nat
  lanes : List Nat
  at' : Nat
  retries : Nat
  body : TwinBody
  epoch : Nat
  session : Nat
  ack : Nat
  deriving DecidableEq, Repr

/-- A line as the active last sent it (R378, R383): key ID and session, version, plaintext, and whether
it has been sent in full under that key. -/
structure TwinSent where
  key : Nat
  session : Nat
  version : Nat
  data : Nat
  full : Bool
  deriving DecidableEq, Repr

/-- A stored line of regions 0 to 2 in the mirror store (R376): ciphertext and the metadata words. -/
structure TwinLine where
  data : Nat
  tag : Nat
  info : Nat
  deriving DecidableEq, Repr

/-- The twin's timers, in ticks (R369 to R372, R382, R384, R386): since when a device that has not paired waits, when
the present step of pairing began and the last one failed, the last heartbeat of the sideband and of the link, when the
next ACK and heartbeat are due, when the next session's keys were last asked for, and when the next line of a bulk pass
may be sent, in 1/100 tk. -/
structure TwinTimers where
  wait : Option Nat
  step : Nat
  fail : Nat
  sb : Nat
  link : Nat
  ack : Nat
  hb : Nat
  rekey : Nat
  bulk : Nat
  deriving DecidableEq, Repr

/-- The twin engine beside its registers (R366 to R396). `faultSent` is the cause row of the fault
last declared; `pairN` counts key agreements and names their secrets; `hello` is the twin's HELLO;
`txSeq` and `rxSeq` are the last numbers sent and delivered in order by channel; `keys` are the
installed (session, ID) pairs; `rot` is the key ID a rotation leaves; `dirty` names dirty lines with
the tick since which they wait, and `stalled` those whose words are poisoned; `bulk` is the index of the next line of the bulk pass; `owners` are
the stream owners of the mirrored groups' banks; `roots` are the roots of the commits since load; `pattern` is the tick
at which TW_HB_OUT began the pattern of a declared fault (R370). -/
structure Twin where
  faultSent : Option Nat
  strap : Bool
  pairN : Nat
  fails : Nat
  waiting : Bool
  detached : Bool
  edges : List Nat
  sbLost : Bool
  linkLost : Bool
  hello : Option TwinCtl
  hashOk : Bool
  txSeq : List (Nat × Nat)
  txq : List TwinTx
  rxSeq : List (Nat × Nat)
  rxHeld : List TwinFrame
  keys : List (Nat × Nat)
  agreed : Bool
  rot : Option (Nat × Nat)
  rotFlushed : Bool
  dirty : List (Nat × Nat)
  stalled : List Nat
  sent : List (Nat × TwinSent)
  bulk : Option Nat
  mirror : List (Nat × TwinLine)
  handoff : Bool
  takeAt : Option (Nat × Nat)
  owners : List (Nat × Nat)
  converting : List Nat
  roots : List Nat
  pattern : Option Nat
  tm : TwinTimers
  deriving DecidableEq, Repr

/-! Contexts, bins and the work-item scheduler (R131 to R184). -/

/-- The states of a store entry (R169). -/
inductive ItemSt where
  | waiting | bound | run | hold
  deriving DecidableEq, Repr

/-- A work item with its store entry (R160, R161, R168, R169). `entry` is the class whose
reservation holds the entry, or 64 for the shared part; `bin` and `slot` hold while it is bound or
runs; `holdRes` and `holdSh` are the HOLD entries reserved for its successors from the class's
reservation and from the shared part; `parent` is the item whose drain a successor waits for. Its
release FP and deadline are counts N. -/
structure Item where
  id : Nat
  cls : Nat
  origin : Nat
  reissue : Bool
  excess : Bool
  release : Nat
  deadline : Nat
  seq : Nat
  inLen : Nat
  outLen : Nat
  inAddr : Nat
  outAddr : Nat
  arg : Nat
  entry : Nat
  st : ItemSt
  bin : Nat
  slot : Nat
  holdRes : Nat
  holdSh : Nat
  parent : Option Nat
  stepLate : Bool
  deriving DecidableEq, Repr

/-- A decision in progress (R171): its first tick, the bin, its slot and the item taken. -/
structure Decision where
  at' : Nat
  bin : Nat
  slot : Nat
  item : Nat
  deriving DecidableEq, Repr

/-- A fill in progress (R173, R174): the beats that have returned, the total, the first beat's
number, the owner ID, and whether its item is gone, so that its beats are discarded. -/
structure Fill where
  bin : Nat
  slot : Nat
  item : Nat
  done : Nat
  total : Nat
  beat : Nat
  owner : Nat
  gone : Bool
  deriving DecidableEq, Repr

/-- A drain in progress (R175): its parent item's number, class and sequence, the beats sent, the
total, the first beat's number, the owner ID, and whether a beat met an error response. -/
structure Drain where
  item : Nat
  cls : Nat
  seq : Nat
  bin : Nat
  slot : Nat
  sent : Nat
  total : Nat
  beat : Nat
  owner : Nat
  err : Bool
  deriving DecidableEq, Repr

/-- The scheduler beside its registers: the ready store in the order of acceptance, the numbers of
items, each class's window map (bit k stands for h − k, R165), its last group G and count g (R166),
the decisions, fills and drains in progress, and the kernels of bins that a partial commit holds back
(R356), as 8 · logical bin + kernel. -/
structure Sched where
  items : List Item
  nextId : Nat
  win : List (Nat × Nat)
  police : List (Nat × Nat × Nat)
  decisions : List Decision
  fills : List Fill
  drains : List Drain
  heldKernels : List Nat
  deriving DecidableEq, Repr

/-- A spawn record waiting to be handed on after its parent's end tick (R147): the tick in which it is handed on, the
256 bits, the parent's number, its end FP, whether the parent drains, and the owner of the HOLD entry. -/
structure HandOn where
  at' : Nat
  record : Nat
  parent : Nat
  release : Nat
  drains : Bool
  entry : Nat
  deriving DecidableEq, Repr

/-- A hatch command (R149, R150): its first beat's number, its beats, the tag, the beats done, whether it
carries an old generation (R151), the data of a write's beats, the tick of the command word, and whether the
bin's own crossbar drives it, so that the later beats come from its sinks 98 to 101; and what a read's beats hold that
a later write of the same bin has overtaken, as (beat, status, data) (R305). -/
structure HatchCmd where
  wr : Bool
  beat : Nat
  beats : Nat
  tag : Nat
  done : Nat
  stale : Bool
  data : List Nat
  at' : Nat
  own : Bool
  got : List (Nat × Nat × Nat)
  deriving DecidableEq, Repr

/-- The hatch read data of R141: the tick in which sources 98 to 101 hold the beat, the beat, its tag, and the
error and last bits. -/
structure HatchBeat where
  at' : Nat
  data : Nat
  tag : Nat
  err : Bool
  last : Bool
  deriving DecidableEq, Repr

/-- A tray line written by one side in one tick (R145): the tick, slot, line, and what it held. -/
structure LineWrite where
  at' : Nat
  slot : Nat
  line : Nat
  old : Nat
  oldValid : Bool
  deriving DecidableEq, Repr

/-- What the control and hatch command words of one tick have carried (R140, R146, R149, R154): a tray read, a
tray write, a spawn record, an event, a context select, a hatch command. -/
structure PortUse where
  at' : Nat
  rd : Bool
  wr : Bool
  spawn : Bool
  event : Bool
  sel : Bool
  hatch : Bool
  deriving DecidableEq, Repr

/-- The message classes of a hatch pass-through (R22). -/
inductive MsgClass where
  | request | response | event | mirror
  deriving DecidableEq, Repr

/-- An entry of a hatch pass-through's buffer (R22): the die whose partition takes it first (0 the Cellar, 1 Shelf A,
2 Shelf B, 3 the Loft), the die at which it ends, its class, whether it goes toward the Loft, its 32 bytes and the
tick of its acceptance. -/
structure PassEntry where
  die : Nat
  last : Nat
  cls : MsgClass
  up : Bool
  data : Nat
  at' : Nat
  deriving DecidableEq, Repr

/-- A bin's port and sequencer beside their registers (R137 to R155): the running item, the tick of
its item tick 1, its start FP and budget, the tick of the last end or kill, the spawn buffer, the records to
hand on, the hatch commands outstanding, the end of a write's data beats, the last hatch beat, the tray lines
read, newest first, with the ticks from which sources 89 to 96 hold them, the line read last, the
ticks of the last forwarded event and of the last ctx_init select (none once its initial values are loaded), the context before the last select with its tick,
what the port's words have carried in their tick, the ticks since which the slots
are FREE, the end of the pause timer, whether it is out of dispatch (R362), being substituted
(R452) or in reset, the last line each side of its trays wrote, for a Shelf A bin the pass-through entries of its
column, and the fabric's registers. -/
structure BinRun where
  item : Option Nat
  start : Nat
  ended : Option Nat
  startFp : Nat
  budget : Nat
  buf : List Nat
  hand : List HandOn
  hatch : List HatchCmd
  wrEnd : Nat
  rdBeat : Option HatchBeat
  lines : List (Nat × Nat)
  line : Nat
  evLast : Option Nat
  initAt : Option Nat
  was : Option (Nat × Nat)
  use : Option PortUse
  free0 : Nat
  free1 : Nat
  pause : Option Nat
  outDisp : Bool
  subst : Bool
  rst : Bool
  binWrote : Option LineWrite
  dmaWrote : Option LineWrite
  pass : List PassEntry
  fab : BinFab
  deriving DecidableEq, Repr

/-- The registers of the corridors and the user hatch wires (R112 to R115): the inbound channels by
16 · physical bin + 4d + k of the outbound channel that feeds them, and the 64-bit words of user hatch wires as an
end receives them, by 16 · (1000 + column) + 4 · shelf + word; only those that do not hold 0. The pad registers of a
route's last channel, oldest value first, and those of the user hatch words, by the same numbers. -/
structure Mesh where
  chan : List (Nat × Nat)
  pads : List (Nat × List Nat)
  deriving DecidableEq, Repr

/-! Clocks and gates (R78 to R100). -/

/-- The running counts of a monitor (R84, R85): consecutive coarse passes, fine passes and fine
fails, and consecutive gates beyond half the tolerance against the time reference. -/
structure MonRun where
  coarse : Nat
  fine : Nat
  fails : Nat
  ref : Nat
  deriving DecidableEq, Repr

/-- A multiplexer that moves (R90, R91): its number, the source and divider it moves to, the source
it leaves, and whether a forced recovery runs. -/
structure MuxMove where
  mux : Nat
  src : Nat
  div : Nat
  old : Nat
  forced : Bool
  deriving DecidableEq, Repr

/-- The clocks beside their registers: the monitors' counts, the gates asked to close, the moving
multiplexers, the sources in use that no register shows (lane group references, auxiliary PLL
references, RCLK_OUT), the dividers in use, the domains held under R92 with the source they wait
for, and whether the boot clock is slow (R79). -/
structure Clk where
  mons : List (Nat × MonRun)
  closing : List Nat
  moves : List MuxMove
  inUse : List (Nat × Nat)
  divs : List (Nat × Nat)
  held : List (Nat × Nat)
  slow : Bool
  deriving DecidableEq, Repr

/-! Lanes (R236 to R265). -/

/-- What a lane's TX ball carries (R258 to R260). -/
inductive LaneOut where
  | electricalIdle | remoteFault | idles | frames | blocks | linkLayer | received | prbs
  deriving DecidableEq, Repr

/-- A lane beside its registers: the waiting 10 ms after a failed step (R254), whether LN_FOM_LOW may
be raised (R253), the elastic buffer's fill (R244), whether a frame is open on its transmitter
(R249), the bundle of the block last received and the block last taken, the error-free bits of the PRBS checker (R260),
the tick at which the lane entered its state, the blocks received with the ticks in which the sink holds them (R243),
the tick of the last take with its L_tx and that in which its first bit crosses the TX ball, the scrambler and the PRBS
generator (R241, R260), the 66 bits last sent, the number in its extended multiblock of the block last sent on a
JESD204C lane (R241), the descrambler and the PRBS checker's generator, the blocks delivered since the lane went UP, and
on the lowest lane of a port the ball ticks of its block sets (R246). -/
structure LaneRun where
  failed : Bool
  lowArmed : Bool
  fill : Nat
  frameOpen : Bool
  lastRx : Option Nat
  lastTx : Option Nat
  prbsRun : Nat
  since : Nat
  rxQ : List (Nat × Nat)
  takeAt : Option (Nat × Nat)
  ballAt : Nat
  scr : Nat
  prbs : Nat
  line : Option Nat
  emb : Option Nat
  descr : Nat
  chk : Nat
  blkNo : Nat
  sets : List (Nat × Nat)
  deriving DecidableEq, Repr

/-- The lanes beside their registers, and the tuning-word and unlock records of each group's PLL
(R448): the worn flag (1 tuning, 2 unlocks, 0 not worn) and the ticks of the last unlocks; the tick and the frame
position at which each group's PLL locked (R258). -/
structure Lanes where
  lanes : List (Nat × LaneRun)
  worn : List (Nat × Nat)
  unlocks : List (Nat × List Nat)
  lockAt : List (Nat × Nat × Nat)
  deriving DecidableEq, Repr

/-! Modes and resets (R397 to R411). -/

/-- The mode control beside its registers: the wake in progress (cause and tick), whether the
shelves are up in it, a wake cause held during DORMANT entry (R402), the shelves and lane groups in
reset, the last keeper watchdog expiry (R405), whether the post-POR thermal hold stands (R231), whether
the internal POR is held (R32), the resets that wait for the shelves' power as (kind, target) with 1 WARM,
2 SHELF, 3 BIN, 4 LGRP (R408), the upper dies that have lost the Cellar's heartbeat (R411), the rail that
came out of order and is to be reported once the loader starts (R32), whether the SAFE of a lost rail holds
until PORST_N (R33), whether the start tests of this reset are still to be made (R20), the tick at which the
present mode began, and the ticks at which the resets of shelves (0, 1), lane groups (16 + g) and bins (64 + p) began
(R405). -/
structure Modes where
  waking : Option (Nat × Nat)
  shelvesUp : Bool
  heldWake : Option Nat
  shelfRst : List Nat
  lgrpRst : List Nat
  wdLast : Option Nat
  thermalHold : Bool
  por : Bool
  deferred : List (Nat × Nat)
  deadDies : List Nat
  seqOrder : Option Nat
  needPorst : Bool
  testDue : Bool
  since : Nat
  rstAt : List (Nat × Nat)
  deriving DecidableEq, Repr

/-! Deadline admission (R185 to R206). -/

/-- The admission table (R188): tj_adm in °C, the cap in 0.1 W, the declared powers in µW, and
whether a table was carried. -/
structure AdmTable where
  tj : Int
  cap : Nat
  pLane : Nat
  pIo : Nat
  pStatic : Nat
  given : Bool
  deriving DecidableEq, Repr

/-! The thermal manager (R207 to R235). -/

/-- A PFC frame that a lane has sent (R222): the priorities it enables, its quanta and its tick. -/
structure PfcFrame where
  enables : Nat
  quanta : Nat
  sentAt : Nat
  deriving DecidableEq, Repr

/-- The thermal manager beside its registers: each sensor's consecutive invalid samples, each pair's
samples of disagreement, each die's samples of excess and of agreement, the samples above the cap,
the samples for which the restore condition has held, whether restoring has begun, T_hot at the
last shed step, the start of the slow-down episode, the last PFC frame of each lane, the
tick of the last THM_PRESHUT and whether it waits to be written, whether the charging and fuse deferrals
were raised, the dies that average for recalibration, the shutdown latch (four words) and whether it is
due to be written (R232), the lanes that dropped a frame in the PFC episode (R223), the samples spent in each band
of R459, the filtered power of each region in 2^−16 µW (R211), the energy counters of the Cellar hard logic and of the
user I/O in nJ (R210), each averaging sensor's sum of T_est less its uncorrected reading with its samples (R213), and
the ticks of the last shed or restore step of the critical level and of coverage (R225, R227, R458). -/
structure Thermal where
  invalid : List (Nat × Nat)
  disagree : List (Nat × Nat)
  excess : List (Nat × Nat)
  agree : List (Nat × Nat)
  overCap : Nat
  restoreOk : Nat
  restoring : Bool
  shedAt : Int
  pfcStart : Nat
  pfcSent : List (Nat × PfcFrame)
  preshutAt : Option Nat
  preshutDue : Bool
  chargeDeferred : Bool
  fuseDeferred : Bool
  averaging : List Nat
  latch : List Nat
  latchDue : Bool
  pfcLanes : List Nat
  life : List Nat
  lifeAt : Nat
  filtered : List Nat
  enCel : Nat
  enIo : Nat
  avg : List (Nat × Int × Nat)
  stepAt : Option Nat
  stepCov : Option Nat
  deriving DecidableEq, Repr

/-! The fronthaul path (R266 to R300). -/

/-- A release of a fronthaul item (R282): its class, sequence, release FP as a count, references
and argument. -/
structure FhRelease where
  cls : Nat
  seq : Nat
  release : Nat
  inAddr : Nat
  inLen : Nat
  outAddr : Nat
  outLen : Nat
  arg : Nat
  deriving DecidableEq, Repr

/-- A section write that the Loft has not acknowledged: the section's index in its flow and the bytes
of its slice. -/
structure SecWrite where
  idx : Nat
  data : List Nat
  deriving DecidableEq, Repr

/-- An open symbol (R281): its flow and count n, the frame count F and symbol s, its S_FP and the
window's two ends as counts N, the sections accepted and present, the sequence gaps, the clipped, early and
failed bits, the writes that wait for their acknowledgement, and the release FP that the offset in force when it
opened gives (R298). -/
structure OpenSym where
  flow : Nat
  n : Nat
  frame : Nat
  sym : Nat
  sfp : Nat
  opn : Nat
  close : Nat
  accepted : Nat
  present : Nat
  gaps : Nat
  clipped : Bool
  early : Bool
  failed : Bool
  writes : List SecWrite
  rel : Nat
  deriving DecidableEq, Repr

/-- A message in a hold buffer (R279): its engine, flow, symbol count, frame count and symbol, its length and its
sections as (index in the flow, section). -/
structure HeldMsg where
  engine : Nat
  flow : Nat
  n : Nat
  frame : Nat
  sym : Nat
  bytes : Nat
  secs : List (Nat × EcpriSec)
  deriving DecidableEq, Repr

/-- A closed symbol whose status line is not yet acknowledged (R282). -/
structure Closed where
  engine : Nat
  flow : Nat
  item : FhRelease
  deriving DecidableEq, Repr

/-- The headers of an egress message (R272, R293): the eCPRI revision, message type and E bit, the port's source and destination addresses, the VLAN fields
(the ID, the priority) of a tagged frame, frameId, subframeId, slotId and symbolId, the eAxC, the section's id, its
first PRB and PRBs, and udCompHdr (the mantissa width, block floating point) when the flow carries it. -/
structure TxHead where
  revision : Nat
  msgType : Nat
  eBit : Nat
  src : Nat
  dst : Nat
  vlan : Option (Nat × Nat)
  frame : Nat
  subframe : Nat
  slot : Nat
  symbol : Nat
  eaxc : Nat
  id : Nat
  start : Nat
  num : Nat
  comp : Option (Nat × Bool)
  deriving DecidableEq, Repr

/-- A message sent on egress (R293): its headers, the flow, the count n, the sequence ID, the section's entry, its
payload bytes and the poison bit. -/
structure TxMsg where
  head : TxHead
  flow : Nat
  n : Nat
  seq : Nat
  entry : Nat
  data : List Nat
  poison : Bool
  deriving DecidableEq, Repr

/-- A one-way delay response (R269): the lane, the addresses, the eCPRI revision, the message and action types, the
request's measurement ID and its receive timestamp in 1/49,152 ns of PTP time. -/
structure OwdMsg where
  lane : Nat
  src : Nat
  dst : Nat
  revision : Nat
  msgType : Nat
  action : Nat
  meas : Nat
  time : Nat
  deriving DecidableEq, Repr

/-- The pause state of a lane (R286): the second of frame time it counts in, the pause honoured in it
in tk, whether the abuse was raised, and the tick until which the MAC holds. -/
structure PauseRun where
  second : Nat
  used : Nat
  raised : Bool
  until' : Option Nat
  deriving DecidableEq, Repr

/-- The fronthaul path beside its registers: the flow words at 16 f + w, the section words at
4 e + w, the numerology entries and their offsets at 1,280 entry + symbol, the flow counters at
16 f + i, each flow's last accepted IDs, the open symbols, the hold buffers, the closed symbols, the
releases queued by engine, the violations of flows and groups as (tick, weight), the armed egress
buffers at 256 f + j, the buffers whose check tick has passed without an arm, each egress flow's
sequence ID, the last messages and JESD204C samples sent, a flow commit in progress (index, data
and due tick), the last unknown-flow report of each lane, the pause state, the answer to the
last one-way delay request, the poisoned words of the
tables, each quarantined flow's end tick, the first tick in which each engine may hand on its next release, and the
highest count of each flow's symbols that sym_missing has counted. -/
structure Fronthaul where
  flow : List (Nat × Nat)
  sec : List (Nat × Nat)
  num : List (Nat × Nat)
  off : List (Nat × Nat)
  cnt : List (Nat × Nat)
  ids : List (Nat × List Nat)
  opens : List OpenSym
  held : List HeldMsg
  closed : List Closed
  queue : List (Nat × FhRelease)
  viol : List (Nat × List (Nat × Nat))
  grpViol : List (Nat × List (Nat × Nat))
  arms : List Nat
  checked : List Nat
  txSeq : List (Nat × Nat)
  lastTx : List TxMsg
  lastJesd : List Nat
  commit : Option (Nat × List Nat × Nat)
  unknown : List (Nat × Nat)
  pause : List (Nat × PauseRun)
  owdReply : Option OwdMsg
  poisoned : List Nat
  quarEnd : List (Nat × Nat)
  relFree : List (Nat × Nat)
  missed : List (Nat × Nat)
  deriving DecidableEq, Repr

/-! Configuration (R331 to R366). -/

/-- A planned corridor or hatch route (R115): the logical bins it joins, its declared delay, the hatch
word it crosses (3 for none), the outbound channels it takes as (physical bin, 4d + k), its pad. -/
structure RoutePlan where
  src : Nat
  dst : Nat
  delay : Nat
  hatch : Nat
  hops : List (Nat × Nat)
  pad : Nat
  deriving DecidableEq, Repr

/-- What a stream has brought so far (R340 to R342): the next sequence number of kinds 1 to 3, the next
image frame as 32 · image + frame, the image words and their settings by that number, the replication targets as
(8 · logical bin + context, image), the UIO pins named, the numbers of pairing secrets and of admission
tables, the triggers with the frames that carry them, the images that use corridor, lane or hatch-wire
indices, and the shelf records. -/
structure StreamSeen where
  seqs : List (Nat × Nat)
  image : Nat
  data : List (Nat × List Nat)
  elems : List (Nat × List FabElem)
  targets : List (Nat × Nat)
  pins : List Nat
  secrets : Nat
  adms : Nat
  trgs : List (Nat × Nat)
  fabric : List Nat
  shelf : List ShelfRec
  deriving DecidableEq, Repr

/-- A command on the flash link (R331): the lines of CFG_CS_N it addresses as a mask, the mode (0 1S-1S-1S, 1 8D-8D-8D,
2 8S-8S-8S), the opcode, the address, the dummy cycles, the bytes it writes and the number of bytes it reads. -/
structure FlashCmd where
  cs : Nat
  mode : Nat
  opcode : Nat
  addr : Option Nat
  dummies : Nat
  data : List Nat
  read : Nat
  deriving DecidableEq, Repr

/-- The loader in an attempt (R346): the slot's header once it has passed its checks, whether the
self-test has ended, the times the present frame was re-read, the next frame's index, the kind of the last
one, the segment's frames held, the tick at which the load began, whether slot 1 is read from the first device, the
tick of the header's read, and the hashes of the segments so far (R337). -/
structure LoadRun where
  hdr : Option Header
  tested : Bool
  tries : Nat
  next : Nat
  kind : Nat
  seg : List Frame
  start : Nat
  alt : Bool
  hdrAt : Nat
  hashes : List Nat
  deriving DecidableEq, Repr

/-- A staged partial stream (R353 to R356): its header, its frames, what they bring, and, in a commit,
its first tick, the kernels affected as 8 · logical bin + context, and the tick its writes began. -/
structure StageRun where
  hdr : Header
  frames : List Frame
  seen : StreamSeen
  fired : Nat
  affected : List Nat
  writing : Option Nat
  deriving DecidableEq, Repr

/-- A configuration word that awaits repair (R361, R362): the engine that found it, its address, the
user hatch wire whose enable it holds, if any, and whether it holds its bin. -/
structure ScrubWord where
  engine : Nat
  word : Nat
  wire : Option Nat
  holds : Bool
  deriving DecidableEq, Repr

/-- A scrubber engine's lap (R363): its first tick, whether a write or repair overlapped it, whether
the last completed lap may be compared, and the rate that the engine took from its register at the lap's start. -/
structure Lap where
  start : Nat
  touched : Bool
  ready : Bool
  rate : Nat
  deriving DecidableEq, Repr

/-- The configuration beside its registers: the loader's attempt and what its stream has brought; the
image words in force and the settings they hold by 32 · image + frame, configuration memory's image by 8 · physical bin + context,
routes, hatch-wire enables by 8 · logical bin + context, UIO settings by pin, the flash section, the
pairing secret and the stream's group owners; the root, version and key source in force; the
firmware's measurement; the commands that the loader sent last to the flash (R331); the copy into the stage group, with
the tick it began and the first frame whose source it could not read (`staging`),
the staged stream, and the one retained after a commit; the bins held for a repair, for a commit and until the next load; the words awaiting repair;
the disabled hatch wires found intact at one end (2 · wire + shelf) and held under R127, as 192 · column
+ wire; the bins of the last commit's region; the laps; the classes a failed commit sheds; the configuration words that
stand with errors as (word, inverted data bits, inverted check bits), those that no source could repair, and the logical
bins whose shelf records a commit has written. -/
structure Cfg where
  load : Option LoadRun
  seen : StreamSeen
  image : List (Nat × List Nat)
  elems : List (Nat × List FabElem)
  mem : List (Nat × Nat)
  routes : List RoutePlan
  enables : List (Nat × Nat)
  uio : List (Nat × Nat)
  flash : List Nat
  flashMode : Nat
  flashOut : List FlashCmd
  secret : List Nat
  owners : List Nat
  root : Nat
  keySrc : Nat
  fwHash : Nat
  staging : Option (Nat × Option Nat)
  stage : Option StageRun
  retained : Option StageRun
  heldRepair : List Nat
  heldCommit : List Nat
  heldFor : List Nat
  repairs : List ScrubWord
  wireSeen : List Nat
  wireHeld : List Nat
  lastMask : Nat
  laps : List (Nat × Lap)
  failShed : List Nat
  struck : List (Nat × Nat × Nat)
  lostWords : List Nat
  shelfNew : List Nat
  deriving DecidableEq, Repr

/-! Security (R422 to R436). -/

/-- A fuse programming run (R428, R429): the opcode of its command (11 and 12 stand for the advance of the
firmware's and the streams' anti-rollback counter), its port (1 register port, 2 management port, 0 the
device), its operands, the phase of TO_RETURN, the fuse bits still to burn, the repeats of the first, whether its
next bit waits for VFUSE or the windows (R29, R233), and whether a reset has cut it: then only the first bit is
completed (R429). -/
structure Burn where
  op : Nat
  port : Nat
  args : List Nat
  phase : Nat
  bits : List Nat
  tries : Nat
  held : Bool
  cut : Bool
  deriving DecidableEq, Repr

/-- The security partition beside its registers: the burned fuse bits (log entry 26), the owner key
hashes and stream keys by slot, the battery-backed key and whether its loss
was found at the last start, the pending fuse command, the run that burns, the
anti-rollback advances that wait as (counter, version), the nonces drawn, the scan instruction of the JTAG
port, the firmware's version, whether the pending command was requested before the advances (R233), and whether
SEC_VFUSE_ABSENT has been raised for the request that waits at the front (R29). -/
structure Sec where
  fuses : List Nat
  owners : List (Nat × Nat)
  keys : List (Nat × Nat)
  bbKey : Option Nat
  bbLost : Bool
  pending : Option Burn
  burn : Option Burn
  advances : List (Nat × Nat)
  draws : Nat
  jtag : Option Nat
  fwVersion : Nat
  cmdFirst : Bool
  told : Bool
  deriving DecidableEq, Repr

/-! Spares and wear (R444 to R462). -/

/-- A live substitution (R452): the logical bin, the retired bin, the spare, its first tick, and whether
the spare is prepared. -/
structure SubRun where
  log : Nat
  old : Nat
  spare : Nat
  start : Nat
  prep : Bool
  deriving DecidableEq, Repr

/-- Spares and wear beside their registers: the last 16 canary measurements by bin, the bins for which
FAB_BIN_WEAR was raised, the hatch wires marked for the next start by 3 · column + segment (32 · group +
wire), the words corrected in the hour, the banks that passed ce_thr in the hour before, the banks
pending substitution, each lane's hours since its selection (whether the baseline is taken, consecutive
low hours, whether the trend was raised), the substitutions that wait as (tick, logical, physical) and
the one that runs, when each monitor last measured (a bin's canary by bin, a segment's by 1,024 + 3 · column + segment,
the hour of bank b by 2,048 + b, that of lane l by 4,096 + l) and the sum and number of the hour's FoM by lane. -/
structure Spr where
  canary : List (Nat × List Nat)
  warned : List Nat
  wires : List (Nat × Nat)
  ce : List Nat
  ceHigh : List Nat
  worn : List Nat
  fom : List (Nat × Nat × Bool)
  subWait : List (Nat × Nat × Nat)
  sub : Option SubRun
  last : List (Nat × Nat)
  fomSum : List (Nat × Nat × Nat)
  deriving DecidableEq, Repr

/-! The ports of the address map (R481, R486). -/

/-- What the ports last sent: the management port's status and data words of its last frame, none while it
sends only 0xFF; the register port's last response (R486); and the data of the last read that clears (R11). -/
structure Ports where
  mgmt : List (Nat × Nat)
  resp : Option Nat
  read : Nat
  deriving DecidableEq, Repr

end Sys2Proof.Machine
end

