-- ==== Sys2Proof/Machine/State.lean ====
section
/-! DEFINITION. The state of the block, the reasons a step can stop, and the state after reset. -/

namespace Sys2Proof.Machine

/-- Why the machine stops. -/
inductive Fault where
  /-- Operation beyond the absolute maximum ratings (R491): no meaning raises it; safe. -/
  | beyondRatings
  deriving DecidableEq, Repr

/-- Why a command has no meaning. -/
inductive Refusal where
  /-- A command that has no meaning yet; safe. -/
  | notModelled (mnemonic : String)
  /-- An operand outside the range the specification gives it (a bin above 263): no such event can
  happen; raised by every meaning through `checked`; safe. -/
  | illFormed
  deriving DecidableEq, Repr

/-- The state of the block. -/
structure State where
  /-- The commands that wait, first in, first out. -/
  pending : List Instr
  /-- The register fields that differ from their reset values. -/
  flds : FldMap
  /-- TICK cycles since reset, the model's own clock. -/
  now : Nat
  /-- The frame position as the count N of R42. -/
  fp : Nat
  /-- The counter of free values, the model's own. -/
  fresh : Nat
  /-- Counters whose event is not due again before a clearing read (R148). -/
  reported : List Nat
  /-- WARM is asserted (R407). -/
  warm : Bool
  ev : EventUnit
  led : Ledger
  pins : Pins
  tb : TimeBase
  loft : Loft
  twin : Twin
  sch : Sched
  bins : List (Nat × BinRun)
  /-- Tray bytes at (2 · physical bin + slot) · 65,536 + byte (R142). -/
  trays : Memory
  /-- The tray lines whose valid bit is 1, as (2 · physical bin + slot) · 1,024 + line. -/
  trayValid : List Nat
  mesh : Mesh
  clk : Clk
  lanes : Lanes
  modes : Modes
  /-- The shed entries of R225 that are shed for a thermal or power cause, and for coverage. -/
  shedThm : List Nat
  shedCov : List Nat
  adm : AdmTable
  thm : Thermal
  fh : Fronthaul
  cfg : Cfg
  sec : Sec
  spr : Spr
  ports : Ports
  deriving DecidableEq, Repr

/-- The scheduler, empty (R168). -/
def Sched.reset : Sched := ⟨[], 0, [], [], [], [], [], []⟩

/-- A time reference that has measured nothing. -/
def TimeRef.reset : TimeRef := ⟨0, [], false, none, 0, 0, none⟩

/-- The time base after POR or DEVICE (R49): no model learned, no trigger, nothing sent. -/
def TimeBase.reset : TimeBase :=
  ⟨TimeRef.reset, TimeRef.reset, TimeRef.reset, false, 15, [], none, 0, none, none, 0, 0, 0, 0, none, 0, 0, false,
    false, [], 0, 0, [], none, [], [], 0, none, none, ⟨none, none, none⟩, none, none, none, false, [], []⟩

/-- The pins in reset and in LOAD (R345, R375): outputs safe; the inputs at levels that the rules do not
state (log entry 1). VCCAUX is within its tolerance from POR_RELEASE on (R32, R34). -/
def Pins.reset : Pins := ⟨true, false, true, true, true, true, true, [], false, true, false, false, false⟩

/-- The Loft after POR or DEVICE: every group OFF, nothing in the array (R312). -/
def Loft.reset : Loft := ⟨[], [], [], [], [], [], none, [], [], [], [], [], [], [], [], none, []⟩

/-- The twin engine after POR or DEVICE: pairing ended (R409). -/
def Twin.reset : Twin :=
  ⟨none, false, 0, 0, false, false, [], false, false, none, true, [], [], [], [], [], false, none, false,
    [], [], [], none, [], false, none, [], [], [], none, ⟨none, 0, 0, 0, 0, 0, 0, 0, 0⟩⟩

/-- The thermal manager after POR or DEVICE, with an empty latch (R229). -/
def Thermal.reset : Thermal :=
  ⟨[], [], [], [], 0, 0, false, 0, 0, [], none, false, false, false, [], [0, 0, 0, 0], false, [],
    [0, 0, 0, 0, 0], 0, List.replicate 64 0, 0, 0, [], none, none⟩

/-- The fronthaul path, with empty tables. -/
def Fronthaul.reset : Fronthaul :=
  ⟨[], [], [], [], [], [], [], [], [], [], [], [], [], [], [], [], [], none, [], [], none, [], [], [], []⟩

/-- What a stream has brought before its first frame. -/
def StreamSeen.reset : StreamSeen := ⟨[], 0, [], [], [], [], 0, 0, [], [], []⟩

/-- The configuration with nothing loaded. -/
def Cfg.reset : Cfg :=
  ⟨none, StreamSeen.reset, [], [], [], [], [], [], [], 0, [], [], [], 0, 0, 0, none, none, none, [], [], [], [], [], [], 0,
    [], [], [], [], []⟩

/-- The security partition of a device in MAKER: no fuse burned, no key (log entry 1). -/
def Sec.reset : Sec := ⟨[], [], [], none, false, none, none, [], 0, none, 0, false, false⟩

/-- The ledger of a new device (R437): nothing stored, general ring 0 to 47, critical ring 56 to 63. -/
def Ledger.reset : Ledger :=
  ⟨[], none, none, false, List.range 48, (List.range 8).map (· + 56), 0, 0, [], 0, 0, false, true, 0, none⟩

/-- Wear records of a new device. -/
def Spr.reset : Spr := ⟨[], [], [], [], [], [], [], [], none, [], []⟩

/-- Modes and resets while the internal POR is held (R32). -/
def Modes.reset : Modes := ⟨none, false, none, [], [], none, false, true, [], [], none, false, true, 0, []⟩

/-- The machine right after a power-on reset, of a new device (R13, R32, R397): every register field at
its reset value, mode LOAD, the internal POR held until POR_RELEASE, nothing stored. -/
def State.reset : State where
  pending := []
  flds := []
  now := 0
  fp := 0
  fresh := 0
  reported := []
  warm := false
  ev := ⟨[], 0, [], false, 0, 0, 0⟩
  led := Ledger.reset
  pins := Pins.reset
  tb := TimeBase.reset
  loft := Loft.reset
  twin := Twin.reset
  sch := Sched.reset
  bins := []
  trays := []
  trayValid := []
  mesh := ⟨[], []⟩
  clk := ⟨[], [], [], [], [], [], false⟩
  lanes := ⟨[], [], [], []⟩
  modes := Modes.reset
  shedThm := []
  shedCov := []
  adm := ⟨0, 1600, 0, 0, 0, false⟩
  thm := Thermal.reset
  fh := Fronthaul.reset
  cfg := Cfg.reset
  sec := Sec.reset
  spr := Spr.reset
  ports := ⟨[], none, 0⟩

end Sys2Proof.Machine
end

