-- ==== Sys2Proof/WellFormed.lean ====
section
/-! DEFINITION. Well-formed commands: every operand in the range the specification gives it. -/

namespace Sys2Proof

/-- A command whose operands lie in their ranges. -/
def Instr.wf : Instr → Bool
  | .porRelease order _ _ => order.all (fun r => r < 9)
  | .coreRailLoss => true
  | .railLost rail => 2 ≤ rail && rail ≤ 8
  | .porstNLow _ => true
  | .porstNShortPulse cycles => cycles < 336
  | .selfTestComplete t => t.ok
  | .headerRead h => h.ok
  | .bootSlowTimeout => true
  | .flashFrameRead f => f.ok
  | .firmwareRead f => f.ok
  | .monitorGateComplete m _ count => m < 43 && count < 2 ^ 32
  | .clockStopDetect m => m < 42
  | .trefCompareGate _ _ => true
  | .tickPllFault m reason => 34 ≤ m && m ≤ 36 && 1 ≤ reason && reason ≤ 3
  | .rcCfgWrite t k src div fb => t < 32 && k < 3 && src < 32 && div < 8 && fb < 32
  | .muxSwitchComplete m => m < 120
  | .switchWatchdogExpiry m => m < 120
  | .switchRecoveryRelease m => m < 120
  | .gateEnWrite g _ _ _ => g < 321
  | .gateBusIdle g => g < 321
  | .gateCloseTimeout g requester => g < 321 && requester < 1024
  | .ptpMessageRx lane kind _ _ _ m => lane < 128 && kind ≤ 5 && m.frac < 16
  | .ptpMessageSend lane m => lane < 128 && m.kind ≤ 5 && m.frac < 16
  | .ptpSyncTimeout => true
  | .announceReceiptTimeout => true
  | .ppsEdge n _ => n < 2
  | .ppsEdgeMissing n => n < 2
  | .todMessageRx n _ => n < 2
  | .esmcRx ql => ql < 16
  | .syncEQualifyTimer _ => true
  | .waitToRestoreExpiry which => 1 ≤ which && which ≤ 5
  | .lockTimeExpiry _ => true
  | .lockLossTimeout => true
  | .loopSecondSample _ => true
  | .teEstEval => true
  | .stepAccept => true
  | .stepApply => true
  | .modelSample => true
  | .modelRefit => true
  | .btempRead raw => raw.all (fun r => r < 65536)
  | .modelSnapshot => true
  | .modelExport idx => idx < 2
  | .modelImport idx => idx < 2
  | .modelDiscard idx => idx < 2
  | .fpCapture _ => true
  | .trgRead => true
  | .trgCommit _ => true
  | .trgCommitEffect => true
  | .triggerFire index => index < 4096
  | .triggerPulseEnd index => index < 4096
  | .ppsOutPulse => true
  | .todOutSend => true
  | .sysrefArm mask => mask < 16
  | .sysrefGappedStart k => k < 4
  | .hatchContention c w => c < 132 && w < 192
  | .contextSelect p => p < 264
  | .itemDone p tick _ => p < 264 && 4 ≤ tick
  | .itemEndingComplete p _ => p < 264
  | .budgetKill p => p < 264
  | .trayRead p slot line => p < 264 && slot < 2 && line < 1024
  | .trayWrite p slot line mask data => p < 264 && slot < 2 && line < 1024 && mask < 256 && data < 2 ^ 512
  | .spawn p record => p < 264 && record < 2 ^ 256
  | .userEvent p code sev data => p < 264 && code < 128 && sev < 8 && data < 2 ^ 32
  | .contextSelectStatic p ctx _ => p < 264 && ctx < 8
  | .hatchRead p beat beatsM1 tag => p < 264 && beat < 2 ^ 24 && beatsM1 < 16 && tag < 64
  | .hatchWrite p beat beatsM1 tag data => p < 264 && beat < 2 ^ 24 && beatsM1 < 16 && tag < 64 && data.length = beatsM1 + 1 && data.all (fun d => d < 2 ^ 256)
  | .hatchReadBeat p => p < 264
  | .hatchWriteAccept p => p < 264
  | .spawnHandOn p => p < 264
  | .submitGo _ _ => true
  | .decisionStart pool => pool < 32
  | .decisionBind p slot => p < 264 && slot < 2
  | .fillBeat p slot => p < 264 && slot < 2
  | .drainBeat p slot => p < 264 && slot < 2
  | .drainAckComplete p slot => p < 264 && slot < 2
  | .lateDropLs _ => true
  | .deadlinePass _ => true
  | .pauseTimerExpiry p => p < 264
  | .capWrite cap => cap < 2048
  | .threshWrite warn throttle crit => -128 ≤ warn && warn < 128 && -128 ≤ throttle && throttle < 128 && -128 ≤ crit && crit < 128
  | .thermalSample x => x.readings.length = 160 && x.power.length = 16
  | .shutdownComparatorTrip n temp => n < 160 && -32768 ≤ temp && temp < 32768
  | .pfcRefresh => true
  | .pfcGraceExpiry => true
  | .shedStep => true
  | .restoreStep => true
  | .recalStart => true
  | .recalComplete d => d < 4
  | .signalDetect l => l < 128
  | .eqTrialComplete l eyes => l < 128 && eyes.length ≤ 4
  | .cdrLock l => l < 128
  | .polarityDetect l _ => l < 128
  | .blockLock l => l < 128
  | .laneOrderDetect l pos => l < 128 && pos.length ≤ 8
  | .deskew l skew => l < 128 && skew < 512
  | .bringupStepTimeout l => l < 128
  | .bringupRetry l => l < 128
  | .laneLinkLoss l cause => l < 128 && 1 ≤ cause && cause ≤ 6
  | .groupPllLock g _ => g < 16
  | .groupPllUnlock g => g < 16
  | .laneEnableWrite l _ => l < 128
  | .laneRestart l => l < 128
  | .loopSelect l loop _ => l < 128 && loop < 4
  | .prbsGenSelect l gen => l < 128 && gen < 4
  | .prbsChkSelect l chk => l < 128 && chk < 4
  | .laneBlockRx l b => l < 128 && b.header < 4 && b.taken ≤ 16 && b.residence < 512
  | .laneTxTake l bundle x => l < 128 && bundle < 2 ^ 96 && x.residence < 512
  | .fomWindow l _ => l < 128
  | .ethFrameRx l f => l < 128 && f.ok
  | .pauseFrameRx l _ => l < 128
  | .heldMessageRelease f _ => f < 16384
  | .symbolWindowOpen f _ => f < 16384
  | .sectionWriteAck f _ => f < 16384
  | .symbolWindowClose f _ => f < 16384
  | .statusLineAck f => f < 16384
  | .fronthaulRelease e => e < 4
  | .quarantineEnd f => f < 16384
  | .partnerFaultClear g => g < 16
  | .egressCheck f _ => f < 16384
  | .egressArmExpiry f _ => f < 16384
  | .jesdEgressSpan f _ blocks => f < 16384 && blocks < 2 ^ 20
  | .flowRead _ => true
  | .flowCommit => true
  | .flowCommitEffect => true
  | .flowCntRead => true
  | .sectionRead _ => true
  | .loftRequestEnqueue r => r.owner < 1024 && r.addr < 2 ^ 30 && (r.addr < 2 ^ 29 || r.owner = 336 || (272 ≤ r.owner && r.owner < 336)) && r.addr % 8 = 0 && r.data < 2 ^ 64 && r.mask < 256 && (r.mask = 255 || r.owner = 336) && (r.owner < 256 || (271 < r.owner && r.owner < 339)) && (!r.fetch || (r.owner = 336 && !r.wr)) && (!r.streaming || r.owner < 256)
  | .loftBankServe b _ => b < 1024
  | .correctionWriteBack b => b < 1024
  | .poisonWrite b => b < 1024
  | .idleScrub b _ => b < 1024
  | .bgScrub e _ => e = 2 || e = 3
  | .groupHandover g owner _ => g < 32 && owner < 1024
  | .bankHandover b owner _ => b < 1024 && owner < 1024
  | .handoverQuiesce group index => index < (if group then 32 else 1024)
  | .handoverClearDone group index => index < (if group then 32 else 1024)
  | .groupWakeComplete g bad _ => g < 32 && bad.all (fun k => k < 32)
  | .dmaGo c _ _ _ _ => c < 64
  | .dmaAbort c _ => c < 64
  | .dmaCommandComplete c => c < 64
  | .prStage => true
  | .prStageComplete h fs => h.ok && fs.all Frame.ok
  | .prDiscard => true
  | .prCommitWriteStart us => us.all (fun x => x.1 < 2 ^ 21)
  | .prCommitEnd us => us.all (fun x => x.1 < 2 ^ 21)
  | .cfgScrubWord e _ wire _ => e < 2 && wire.all (fun w => w < 192)
  | .cfgScrubRepair _ => true
  | .cfgScrubLapEnd e flip => e < 2 && flip < 2 ^ 32
  | .cfgScrubStall e => e < 2
  | .twinHeartbeatRx f => f.ok && f.body.typ = 1
  | .twinMirrorRx f => f.ok && f.body.typ = 2
  | .twinAckRx f => f.ok && f.body.typ = 3
  | .twinLineReqRx f => f.ok && f.body.typ = 4
  | .twinControlRx f => f.ok && f.body.typ = 5
  | .twinFaultRx f => f.ok && f.body.typ = 6
  | .twinAckTimer => true
  | .twinResendTimeout vc seq => vc < 4 && seq < 2 ^ 32
  | .twinHeartbeatSend => true
  | .sidebandEdge => true
  | .heartbeatPathTimeout _ => true
  | .pairWaitExpiry => true
  | .pairStepTimeout => true
  | .pairRetry => true
  | .mirrorLineSend _ => true
  | .twinRekey => true
  | .sessionRekeyRetry => true
  | .twinHandoff => true
  | .twinDetach => true
  | .twinPair => true
  | .groupConvertComplete g => g < 32
  | .runRequest _ => true
  | .dozeRequest _ => true
  | .dormantRequest _ => true
  | .dormantEntryComplete => true
  | .wakeComplete => true
  | .warmReset => true
  | .warmResetEnd us _ => us.all (fun x => x.1 < 262144)
  | .shelfReset h => h < 2
  | .shelfResetRelease h => h < 2
  | .binReset l => l < 256
  | .binResetRelease p => p < 264
  | .lgrpReset g => g < 16
  | .lgrpResetRelease g => g < 16
  | .keeperWatchdogExpiry _ => true
  | .cellarHeartbeatLoss d => 1 ≤ d && d ≤ 3
  | .provision _ tk _ => tk ≤ verifyTk
  | .toField _ tk _ => tk ≤ verifyTk
  | .toReturn _ tk _ => tk ≤ verifyTk
  | .addOwnerKey _ tk _ => tk ≤ verifyTk
  | .revokeOwnerKey _ tk _ => tk ≤ verifyTk
  | .setStreamKey _ tk secret _ => tk ≤ verifyTk && secret < 2 ^ 384
  | .revokeStreamKey _ tk _ => tk ≤ verifyTk
  | .eraseBbramKey _ tk => tk ≤ verifyTk
  | .debugUnlock _ tk => tk ≤ verifyTk
  | .fwKeyRevoke _ tk _ => tk ≤ verifyTk
  | .fuseCommandResume _ => true
  | .returnResume _ => true
  | .debugLock => true
  | .jtagInstruction n => n < 6
  | .attestGo _ => true
  | .attestComplete _ => true
  | .ledgerAppendComplete => true
  | .ledgerEraseComplete => true
  | .canaryMeasure p slack => p < 264 && slack < 1024
  | .binSubstitutionPrep => true
  | .binSubstitutionComplete => true
  | .hatchCanaryMeasure c seg margin group wire => c < 132 && seg < 3 && margin < 1024 && group < 32 && wire < 32
  | .bankCeHour b => b < 1024
  | .fomHour l idle => l < 128 && idle < 256
  | .bankPermitWrite mask => mask < 2 ^ 32
  | .bankCopyComplete => true
  | .coverShedStep pool => pool < 32
  | .coverRestoreStep pool => pool < 32
  | .thmLife => true
  | .eventDispatch => true
  | .evAckWrite v => v < 4096
  | .evKpAckWrite v => v < 4096
  | .evPortPop => true
  | .mgmtRead addr words => addr < 2 ^ 32 && 1 ≤ words && words ≤ 2 ^ 30
  | .mgmtWrite addr data x => addr < 2 ^ 32 && data < 2 ^ 32 && x.ok
  | .mgmtUnknownOpcode op => op < 256 && op ≠ 2 && op ≠ 3
  | .mgmtFrameAbort op addr data _ x => op < 256 && addr < 2 ^ 32 && data < 2 ^ 32 && x.ok
  | .regportRead addr tag out => addr < 2 ^ 32 && tag < 64 && out ≤ 8
  | .regportWrite addr data tag out x => addr < 2 ^ 32 && data < 2 ^ 32 && tag < 64 && out ≤ 8 && x.ok
  | .registerWrite _ addr data x => addr < 2 ^ 32 && data < 2 ^ 32 && x.ok
  | .readClear _ addr => addr < 2 ^ 32
  | .porstNRise => true
  | .secCmdUnknownOpcode _ => true
  | .fuseBurnComplete _ => true
  | .pauseTimeExpiry l => l < 128
  | .takeoverTablesWritten => true

end Sys2Proof
end

