-- ==== Sys2Proof/Machine/Ops.lean ====
section
/-! DEFINITION. The shared operations: register fields, frame positions, free values, events, the
ledger queue, modes and health. -/

namespace Sys2Proof.Machine

/-- What a command answers. -/
abbrev Res := Host.Outcome State Fault Refusal

/-! Register fields. -/

/-- The contents of a field. -/
def State.get (s : State) (f : Fld) : Nat := fread s.flds f

/-- The contents of a one-bit field. -/
def State.flag (s : State) (f : Fld) : Bool := s.get f != 0

/-- The state after a field takes a value. -/
def State.set (s : State) (f : Fld) (v : Nat) : State := { s with flds := fwrite s.flds f v }

/-- The state after a counter adds `n`, saturating. -/
def State.bump (s : State) (f : Fld) (n : Nat) : State := s.set f (satNat f.width (s.get f + n))

/-- Several fields at once, in order. -/
def State.setAll (s : State) (l : List (Fld × Nat)) : State := l.foldl (fun t p => t.set p.1 p.2) s

/-- A value the specification leaves open, and the counter's advance. -/
def State.free (s : State) : Nat := Config.freeValue s.fresh

/-- The state after one free value is used. -/
def State.useFree (s : State) : State := { s with fresh := s.fresh + 1 }

/-- A mean of `n` values with the sum `sum` as a whole number: its rounding is left open (log entry 116), and so is the
mean of none. -/
def meanOpen (s : State) (sum n : Nat) : Nat × State :=
  if n = 0 then (s.free, s.useFree)
  else if sum % n = 0 then (sum / n, s)
  else (sum / n + s.free % 2, s.useFree)

/-! Frame positions (R9, R10, R42). -/

/-- Ticks in an epoch. -/
def epochTk : Nat := 10066329600

/-- Ticks in a frame. -/
def frameTk : Nat := 9830400

/-- The number of frame positions: the epoch wraps modulo 2^30 (R10). -/
def fpSpan : Nat := 2 ^ 30 * epochTk

/-- The 64-bit frame position of the count `n` (R9, R42). -/
def fpPack (n : Nat) : Nat :=
  (n / epochTk % 2 ^ 30) * 2 ^ 34 + (n % epochTk / frameTk) * 2 ^ 24 + n % frameTk

/-- The count N of a 64-bit frame position (R42). -/
def fpUnpack (w : Nat) : Nat :=
  (w / 2 ^ 34 % 2 ^ 30) * epochTk + (w / 2 ^ 24 % 2 ^ 10) * frameTk + w % 2 ^ 24

/-- A legal frame position: its tick is below 9,830,400 (R9). -/
def fpLegal (w : Nat) : Bool := w % 2 ^ 24 < frameTk

/-- The count after `d` ticks, wrapping with the epoch (R10). -/
def fpAdd (n d : Nat) : Nat := (n + d) % fpSpan

/-- The frame position as reports carry it: 0 while fp_valid is 0 (R475). -/
def State.fpStamp (s : State) : Nat := if s.flag F.TB_STATUS_fp_valid then fpPack s.fp else 0

/-! Events (R475, R476) and the ledger queue (R440). -/

/-- The queue's records that entered before the present tick, those of this tick that go before a record of source
`src`, and those that go after it (R476: ascending source order). -/
def evSplit (s : State) (src : Nat) : List EvRec × List EvRec × List EvRec :=
  let k := s.ev.inq.length - (if s.ev.tick = s.now then s.ev.same else 0)
  let cur := s.ev.inq.drop k
  (s.ev.inq.take k, cur.takeWhile (fun x => x.source ≤ src), cur.dropWhile (fun x => x.source ≤ src))

/-- The sequence number that a record of source `src` takes as it enters: those after it in this tick move on by one. -/
def evSeq (s : State) (src : Nat) : Nat :=
  match (evSplit s src).2.2 with
  | x :: _ => x.seq
  | [] => s.get F.EV_WR_next_seq

/-- A record with the next number. -/
def EvRec.bumped (r : EvRec) : EvRec := { r with seq := (r.seq + 1) % 2048 }

/-- The ledger's entries that wait for records which move on follow them (R437, R476). -/
def Ledger.renumber (l : Ledger) (rs : List EvRec) : Ledger :=
  let go : LedEntry → LedEntry := fun e => if rs.contains e.record then { e with record := e.record.bumped } else e
  { l with queue := l.queue.map go, appending := l.appending.map go }

/-- A record enters the input queue: it takes its number among the records of this tick, in ascending source order; a
full queue of 512 discards it, with its number, and EV_CNT.lost counts it (R476). -/
def evIn (s : State) (r : EvRec) : State :=
  let q := s.get F.EV_WR_next_seq
  let x := evSplit s r.source
  let n := evSeq s r.source
  let same := (if s.ev.tick = s.now then s.ev.same else 0) + 1
  let s := s.set F.EV_WR_next_seq ((q + 1) % 2048)
  if s.ev.inq.length < 512 then
    { s with led := s.led.renumber x.2.2, ev := { s.ev with
      inq := x.1 ++ x.2.1 ++ { r with seq := n } :: x.2.2.map EvRec.bumped, tick := s.now, same := same } }
  else s.bump F.EV_CNT_lost 1

/-- Removal of the last element that satisfies `p`. -/
def dropLast' {α : Type} (p : α → Bool) (l : List α) : List α :=
  (l.reverse.eraseP p).reverse

/-- The waiting informational entries. -/
def Ledger.infos (l : Ledger) : Nat := (l.queue.filter (fun e => !e.crit)).length

/-- The queue rule of R440: the queue after entry `e` arrives, and the entry discarded, if any. -/
def ledQueueIn (q : List LedEntry) (e : LedEntry) : List LedEntry × Option LedEntry :=
  let infos := (q.filter (fun x => !x.crit)).length
  if e.crit then
    if q.length < 256 then (q ++ [e], none)
    else if infos = 0 then (q, some e)
    else (dropLast' (fun x => !x.crit) q ++ [e], q.reverse.find? (fun x => !x.crit))
  else
    if infos < 192 ∧ q.length < 256 then (q ++ [e], none)
    else if infos = 0 then (q, some e)
    else (q.eraseP (fun x => !x.crit) ++ [e], q.find? (fun x => !x.crit))

/-- The waiting counts of LED_STATUS follow the queue (R443). -/
def ledCounts (s : State) : State :=
  (s.set F.LED_STATUS_queued_crit (s.led.queue.length - s.led.infos)).set
    F.LED_STATUS_queued_info s.led.infos

/-- Slots an entry takes (R437): a snapshot 3; an event entry its head, its record, the words that go with it
and its CRC, 1 slot where none go with it. -/
def LedEntry.slots (e : LedEntry) : Nat :=
  if e.payload = [] then ceilDiv (28 + 4 * e.extra.length) 32 else 3

/-- The writer takes the next queued entry while the ledger window holds and no append or erase
runs (R439, R440): it appends to the open sector of the entry's ring, or erases the ring's next
sector first. Informational entries are lost once the general area has stopped. After a hardware shutdown, while
THERM_N is asserted, no write is attempted (R228). -/
def ledKick (s : State) : State :=
  if !s.pins.thermN || s.led.appending.isSome || s.led.erasing.isSome || !s.flag F.LED_STATUS_window then s
  else match s.led.queue with
    | [] => s
    | e :: rest =>
      let ring := if e.crit then s.led.critRing else s.led.genRing
      let used := if e.crit then s.led.critUsed else s.led.genUsed
      if (!e.crit && s.flag F.LED_STATUS_info_stopped) || ring = [] then
        ledCounts ({ s with led := { s.led with queue := rest } }.bump F.LED_LOST_lost 1)
      else if used + e.slots ≤ 127 then
        ledCounts { s with led := { s.led with queue := rest, appending := some e } }
      else
        let ring' := ring.tail ++ ring.head?.toList
        if e.crit then
          { s with led := { s.led with critRing := ring', eraseCrit := true, erasing := ring'.head? } }
        else
          { s with led := { s.led with genRing := ring', eraseCrit := false, erasing := ring'.head? } }

/-- Security and ledger codes (R442). -/
def Ev.LED_QUEUE_LOST : Nat := 0x63

/-- A record enters the event unit without any ledger entry; while WARM is asserted it is lost and
counted (R407). -/
def evOnly (s : State) (source code sev data : Nat) : State :=
  if s.warm then s.bump F.RST_EV_LOST_count 1
  else evIn s ⟨s.fpStamp, source, code, sev, 0, data % 2 ^ 32⟩

/-- The Cellar's die temperature as THM_WINDOW_DEFER carries it (R209, R214, R233): the estimate while the die is
suspect, with the 8 °C of a weak model, and the highest reading otherwise. -/
def cellarTemp (s : State) : Nat :=
  if bitAt (s.get F.THM_STATUS_suspect) 0 then
    (s.get (F.THM_DIE_est 0) + (if s.flag F.THM_STATUS_model_weak then 128 else 0)) % 65536
  else s.get (F.THM_DIE_meas 0)

/-- The first deferral of a ledger write since the window last held (R233). -/
def ledDeferral (s : State) : State :=
  if s.flag F.LED_STATUS_window || s.led.deferred then s
  else evOnly { s with led := { s.led with deferred := true } } 1018 0x30 2
    (1 + cellarTemp s * 65536)

/-- A ledger entry joins the Cellar queue (R440); each entry discarded is counted in LED_LOST and
raises LED_QUEUE_LOST (R442). -/
def ledEnqueue (s : State) (e : LedEntry) : State :=
  if !e.crit && s.flag F.LED_STATUS_info_stopped then s.bump F.LED_LOST_lost 1
  else
    let e := { e with seq := s.led.nextSeq, boot := s.led.boot }
    let r := ledQueueIn s.led.queue e
    let s := ledCounts { s with led := { s.led with queue := r.1, nextSeq := s.led.nextSeq + 1 } }
    let s := ledDeferral s
    match r.2 with
    | none => ledKick s
    | some d => ledKick (evOnly (s.bump F.LED_LOST_lost 1) 1023 Ev.LED_QUEUE_LOST 4 (ofBool d.crit))

/-- An event record is raised (R475 to R477): the ledger is decided first; while WARM is asserted
the record takes no number and does not enter the unit (R407). -/
def raiseLed (s : State) (crit : Bool) (extra : List Nat) (source code sev data : Nat) : State :=
  let r : EvRec := ⟨s.fpStamp, source, code, sev, 0, data % 2 ^ 32⟩
  let crit := crit || sev = 7
  if s.warm then
    if crit || 5 ≤ sev then ledEnqueue s ⟨crit, true, 0, 0, r, [], extra⟩
    else s.bump F.RST_EV_LOST_count 1
  else
    let r' := { r with seq := evSeq s source }
    let s' := evIn s r
    if crit || 5 ≤ sev then ledEnqueue s' ⟨crit, false, 0, 0, r', [], extra⟩ else s'

/-- An event whose ledger entry carries the record alone. -/
def raiseCrit (s : State) (crit : Bool) (source code sev data : Nat) : State :=
  raiseLed s crit [] source code sev data

/-- An event whose rule does not make it a critical entry. -/
def raise (s : State) (source code sev data : Nat) : State := raiseCrit s false source code sev data

/-- The number of an event kind counted in field `f`. -/
def onceKey (f : Fld) (code : Nat) : Nat := f.key * 256 + code

/-- An event of a counted kind (R148): it is raised at the first count after a reset or a clearing
read of counter `f`. -/
def raiseOnce (s : State) (f : Fld) (source code sev data : Nat) : State :=
  if s.reported.contains (onceKey f code) then s
  else raise { s with reported := nins (onceKey f code) s.reported } source code sev data

/-- A counter steps and its event is raised under the rule of R148. -/
def countRaise (s : State) (f : Fld) (source code sev data : Nat) : State :=
  raiseOnce (s.bump f 1) f source code sev data

/-! The twin's dirty lines (R375, R378). -/

/-- The device is paired: SYNC or PAIRED (R396). -/
def twPaired (s : State) : Bool := s.get F.TW_STATUS_state = 2 || s.get F.TW_STATUS_state = 3

/-- The device is the active of a pair. -/
def twMirrors (s : State) : Bool := s.flag F.TW_CFG_enable && s.flag F.TW_STATUS_role && twPaired s

/-- The code of UP in LN_STATUS.state (R253). -/
def Ln.up : Nat := 9

/-- The state of lane `l`'s receiver. -/
def State.lane (s : State) (l : Nat) : Nat := s.get (F.LN_STATUS_state l)

/-- The twin record is replaced. -/
def setTw (s : State) (t : Twin) : State := { s with twin := t }

/-- The twin lanes that are UP (R367). -/
def twLanes (s : State) : List Nat :=
  (List.range 8).filterMap (fun k =>
    if bitAt (s.get F.TW_CFG_lane_mask) k && s.lane (120 + k) = Ln.up then some (120 + k) else none)

/-- A frame is sent on twin lane `lane` and waits for its acknowledgement, with the epoch, the session and the highest
response number received in order in its header (R368, R369). -/
def twPut (b : TwinBody) (s : State) (lane : Nat) : State :=
  let n := ((aget s.twin.txSeq b.vc).getD 0 + 1) % 2 ^ 32
  setTw s { s.twin with
    txSeq := aset s.twin.txSeq b.vc n
    txq := s.twin.txq ++
      [⟨b.vc, n, lane, [lane], s.now, 0, b, s.get F.TW_EPOCH_epoch, s.get F.TW_EPOCH_session,
        (aget s.twin.rxSeq 1).getD 0⟩] }

/-- A write to a mirrored structure marks its line dirty in the active (R378); a line that waits
keeps its age. -/
def markDirty (s : State) (a : Nat) : State :=
  if !twMirrors s || s.twin.dirty.any (fun p => p.1 = a) then s
  else { s with twin := { s.twin with dirty := s.twin.dirty ++ [(a, s.now)] } }

/-- The mirror addresses of class `k`'s line `i`, of flow `f`, of time-base line `i`, and of the line
that holds Loft word `w` (R375). -/
def classLine (k i : Nat) : Nat := 4 * k + i
def flowLine (f : Nat) : Nat := 2 ^ 28 + f / 2
def tbLine (i : Nat) : Nat := 2 * 2 ^ 28 + i
def loftLine (w : Nat) : Nat := 3 * 2 ^ 28 + w / 2 ^ 21 % 32 * 2 ^ 18 + w / 8 % 2 ^ 18

/-! Modes and health (R397, R403, R404). -/

/-- The codes of RST_MODE.mode (R397). -/
def Mode.load : Nat := 0
def Mode.active : Nat := 1
def Mode.standby : Nat := 2
def Mode.doze : Nat := 3
def Mode.dormant : Nat := 4
def Mode.safe : Nat := 5

/-- The present mode. -/
def State.mode (s : State) : Nat := s.get F.RST_MODE_mode

/-- The mode changes and RST_MODE_CHANGE is raised (R397); a change to the same mode does
nothing. A recalibration that has not ended stays queued (R213). -/
def setMode (s : State) (m : Nat) : State :=
  if s.mode = m then s
  else
    let t := { s with
      modes := { s.modes with since := s.now }, thm := { s.thm with averaging := [], avg := [] } }
    raise (t.set F.RST_MODE_mode m) 1021 0x47 3 (m + s.mode * 8)

/-- An active twin declares a fault (R388): `row` is the cause row, 1 to 5 (row 6 is a handoff). Nothing is declared
when twin operation is not declared or the device is not the active. A FAULT frame goes out on every UP twin lane; the
sideband pattern ends with TW_HB_OUT held low (R370). -/
def declareFault (s : State) (row : Nat) : State :=
  if s.flag F.TW_CFG_enable && s.flag F.TW_STATUS_role then
    let s := { s with twin := { s.twin with faultSent := some row, pattern := some s.now }, pins := { s.pins with twHbOut := false } }
    raise ((twLanes s).foldl (twPut (.fault false)) s) 1001 0x13 6 row
  else s

/-- A DEGRADED cause is set or ends (R404): bit `b` of the cause field, 1 to 10. The setting of
DEGRADED declares a fault to the twin when fault_on_degraded = 1 (R388). -/
def setDegraded (s : State) (b : Nat) (on : Bool) : State :=
  let c := s.get F.RST_HEALTH_cause
  let c' := putBit c (b - 1) on
  let s := s.set F.RST_HEALTH_cause c'
  if c = 0 && c' != 0 then
    let s := raise (s.set F.RST_HEALTH_degraded 1) 1021 0x4B 5 (c' * 2)
    if s.flag F.TW_CFG_fault_on_degraded then declareFault s 3 else s
  else if c != 0 && c' = 0 then raise (s.set F.RST_HEALTH_degraded 0) 1021 0x4C 3 0
  else s

/-- The device enters SAFE (R403): every output takes its safe state (R93), a transition in
progress is overridden (R402), the twin is told unless the cause is thermal (R388), and ERROR_N or
THERM_N is asserted. -/
def enterSafe (s : State) (thermal : Bool) : State :=
  let s := if thermal then s else declareFault s 1
  let s := { s with pins := { s.pins with
    outputsSafe := true, twTakeN := true, twHbOut := false,
    errorN := s.pins.errorN && thermal, thermN := s.pins.thermN && !thermal } }
  let s := { s with modes := { s.modes with waking := none, heldWake := none } }
  setMode ((s.set F.RST_MODE_entering 0).set F.RST_MODE_REQ_STATUS_busy 0) Mode.safe

/-! Time. An event that names an instant moves the clock to it (log entry 6). -/

/-- The state `d` ticks later. -/
def State.later (s : State) (d : Nat) : State := { s with now := s.now + d, fp := fpAdd s.fp d }

/-- The state at tick `t`, or as it is when `t` has passed. -/
def State.atNow (s : State) (t : Nat) : State := s.later (t - s.now)

/-- Ticks from count `a` to count `b` (R10). -/
def fpGap (a b : Nat) : Nat := (b + fpSpan - a) % fpSpan

/-- Count `a` lies after count `b`: frame positions compare as unsigned values (R10). -/
def fpAfter (a b : Nat) : Bool := b < a

/-- The state when the FP reaches count `n`, or as it is when the FP has passed it. -/
def State.atFp (s : State) (n : Nat) : State := if fpAfter n s.fp then s.later (fpGap s.fp n) else s

/-! Poisoned table words (R320). -/

/-- A read by requester `who` found word `w` of the Cellar tables poisoned (R320): it is counted, and the event at the
Loft's device-wide source names the word of the store and the requester (log entry 47). -/
def tablePoison (s : State) (w who : Nat) : State :=
  raise (s.bump F.LFT_POISON_CNT_count 1) 1016 2 4 (w % 2 ^ 21 + who * 2 ^ 21)

/-! Time base state (R49, R50). -/

/-- The codes of TB_STATUS.state (R77). -/
def Tb.free : Nat := 0
def Tb.acquiring : Nat := 1
def Tb.locked : Nat := 2
def Tb.holdover : Nat := 3

/-- The time base takes state `n`; every transition raises TB_STATE (R50), the lock criteria and the
comparison of the oscillators count anew (R56, R85), and an active twin whose time base enters FREE may
declare a fault (R388). -/
def setTb (s : State) (n : Nat) : State :=
  let o := s.get F.TB_STATUS_state
  if o = n then s
  else
    let s := { s with
      tb := { s.tb with lockSince := none, offSince := none }
      clk := { s.clk with mons := s.clk.mons.map (fun (x : Nat × MonRun) => (x.1, { x.2 with ref := 0 })) } }
    let s := raise (markDirty (s.set F.TB_STATUS_state n) (tbLine 0)) 968 1
      (if n = Tb.holdover || n = Tb.free then 5 else 3) (n + o * 4)
    if n = Tb.free && s.flag F.TW_CFG_fault_on_free then declareFault s 4 else s

/-! What holds after every command. -/

/-- The ring holds a record, unacknowledged by the management port, with severity ≥ alert_sev (R477). -/
def evAlerted (s : State) : Bool :=
  (List.range (s.get F.EV_STATUS_unacked)).any (fun j =>
    s.get F.EV_CFG_alert_sev
      ≤ bits (s.get (F.EV_RING_word (4 * ((s.get F.EV_ACK_index + j) % 4096) + 2))) 18 3)

/-- MG_ALERT_N is driven low: the condition of R477 holds, WARM does not, and in LOAD the event unit runs
(R407, R479). -/
def alertLow (s : State) : Bool := evAlerted s && !s.warm && (s.ev.running || s.mode != Mode.load)

/-- Every output takes its safe state in LOAD and in SAFE (R93, R345, R403). -/
def safeOutputs (s : State) : Bool := s.pins.outputsSafe || s.mode = Mode.load || s.mode = Mode.safe

/-- The time outputs are held low: in LOAD and SAFE, in STANDBY, and before the FP is valid (R51, R93,
R345, R385). -/
def timeQuiet (s : State) : Bool :=
  safeOutputs s || s.mode = Mode.standby || !s.flag F.TB_STATUS_fp_valid

/-- PPS_OUT is high while its pulse lasts (R73). -/
def ppsHigh (s : State) : Bool := !timeQuiet s && s.tb.ppsUntil.any (fun t => s.now < t)

/-- The signals that are functions of the state follow it: MG_ALERT_N and EV_STATUS.alert (R477, R479), the
forcing of the outputs, PPS_OUT (R73), TB_TRG_STATUS.armed, which equals fp_valid (R77), and the frame
position within its 64 bits (R9, R10). -/
def settle (s : State) : State :=
  let low := alertLow s
  let out := safeOutputs s
  let pps := ppsHigh s
  let s := s.setAll [(F.EV_STATUS_alert, ofBool low), (F.TB_TRG_STATUS_armed, s.get F.TB_STATUS_fp_valid)]
  { s with fp := s.fp % fpSpan, pins := { s.pins with alertN := !low, outputsSafe := out, ppsOut := pps } }

/-- A well-formed command takes its next state; an ill-formed one is refused. -/
def checked (i : Instr) (t : State) : Res := if i.wf then .next (settle t) else .refused .illFormed

end Sys2Proof.Machine
end

