-- ==== Sys2Proof/Machine/Loft.lean ====
section
/-! DEFINITION. The Loft (R301 to R323): addresses, the code and poison, valid copies, ownership,
reads and writes, the bank queues, handovers and power. -/

namespace Sys2Proof.Machine

/-! Addresses (R301, R303, R304). A word is named by its interleaved byte address over 8. -/

/-- The group of word `w`. -/
def wGroup (w : Nat) : Nat := w / 2 ^ 21 % 32
/-- The logical bank of word `w` within its group. -/
def wBank (w : Nat) : Nat := w % 32
/-- The row of word `w`. -/
def wRow (w : Nat) : Nat := w / 32 % 65536
/-- The device logical bank of word `w`. -/
def wLBank (w : Nat) : Nat := 32 * wGroup w + wBank w

/-- The word of device logical bank `b` at row `r`. -/
def wordOf (b r : Nat) : Nat := b / 32 * 2 ^ 21 + r * 32 + b % 32

/-- The interleaved byte address of a 30-bit Loft address (R304): bit 29 selects the linear view. -/
def loftAddr (a : Nat) : Nat :=
  if bitAt a 29 then
    let b := bits a 19 10
    let o := bits a 0 19
    wordOf b (o / 8) * 8 + o % 8
  else bits a 0 29

/-! The code of R314. -/

/-- The 8-bit values of weight `k`, ascending. -/
def ofWeight (k : Nat) : List Nat := (List.range 256).filter (fun v => popCount 8 v = k)

/-- The data columns: the 56 values of weight 3 ascending, then the complements of the first 8. -/
def dataCols : List Nat :=
  [0x07, 0x0B, 0x0D, 0x0E, 0x13, 0x15, 0x16, 0x19, 0x1A, 0x1C, 0x23, 0x25, 0x26, 0x29, 0x2A, 0x2C,
   0x31, 0x32, 0x34, 0x38, 0x43, 0x45, 0x46, 0x49, 0x4A, 0x4C, 0x51, 0x52, 0x54, 0x58, 0x61, 0x62,
   0x64, 0x68, 0x70, 0x83, 0x85, 0x86, 0x89, 0x8A, 0x8C, 0x91, 0x92, 0x94, 0x98, 0xA1, 0xA2, 0xA4,
   0xA8, 0xB0, 0xC1, 0xC2, 0xC4, 0xC8, 0xD0, 0xE0,
   0xF8, 0xF4, 0xF2, 0xF1, 0xEC, 0xEA, 0xE9, 0xE6]

/-- The fold patterns of A[3] to A[28]. -/
def foldCols : List Nat :=
  [0x03, 0x05, 0x06, 0x09, 0x0A, 0x0C, 0x11, 0x12, 0x14, 0x18, 0x21, 0x22, 0x24, 0x28, 0x30, 0x41,
   0x42, 0x44, 0x48, 0x50, 0x60, 0x81, 0x82, 0x84, 0x88, 0x90]

/-- The exclusive OR of the columns whose bit of `v` is 1. -/
def xorCols : List Nat → Nat → Nat
  | [], _ => 0
  | c :: t, v => (if v % 2 = 1 then c else 0) ^^^ xorCols t (v / 2)

/-- The check bits of data `d` at word `w`. -/
def checkOf (d w : Nat) : Nat := xorCols dataCols d ^^^ xorCols foldCols w

/-- The outcome of decoding a word (R314). -/
inductive Decoded where
  | clean (d : Nat)
  | corrected (d : Nat)
  | poisoned
  | uncorrectable
  deriving DecidableEq, Repr

/-- The data bit whose column is `c`. -/
def colBit (c : Nat) : Option Nat := (List.range 64).find? (fun i => dataCols.getD i 0 = c)

/-- `d` with data bit `i` inverted. -/
def flipBit (d i : Nat) : Nat := d ^^^ 2 ^ i

/-- A paired syndrome: the column of one of the data bits 0 to 7 and 56 to 63. -/
def paired (c : Nat) : Bool :=
  match colBit c with
  | some i => i < 8 || 56 ≤ i
  | none => false

/-- Decoding of stored data `d` and check bits `c` read for word `w`, by the first row that applies
(R314). -/
def decodeWord (d c w : Nat) : Decoded :=
  let syn := checkOf d w ^^^ c
  if syn = 0 then .clean d
  else if syn = 0xFF then .poisoned
  else if paired syn && (match colBit (syn ^^^ 0xFF) with
      | some i => flipBit d i = 0
      | none => false) then .poisoned
  else match colBit syn with
    | some i => .corrected (flipBit d i)
    | none =>
      if popCount 8 syn = 1 then .corrected d else .uncorrectable

/-! The array. -/

/-- The stored data bits of word `w`. -/
def Loft.dataAt (l : Loft) (w : Nat) : Nat := l.data.readN (w * 8) 8
/-- The stored check bits. -/
def Loft.checkAt (l : Loft) (w : Nat) : Nat := (l.check.read w).toNat
/-- The stored valid copies. -/
def Loft.validAt (l : Loft) (w : Nat) : Nat := (l.valid.read w).toNat
/-- The 2-of-3 vote (R315). -/
def vote (v : Nat) : Bool := 2 ≤ popCount 3 v

/-- The array after word `w` takes data, check bits and valid copies. -/
def Loft.put (l : Loft) (w d c v : Nat) : Loft :=
  { l with data := l.data.writeN (w * 8) d 8,
           check := l.check.write w (BitVec.ofNat 8 c),
           valid := l.valid.write w (BitVec.ofNat 8 (v % 8)) }

/-- A whole-word write (R316): new check bits, all valid copies set, and any pending write-back or
poisoning of the word abandoned (R321). -/
def Loft.store (l : Loft) (w d : Nat) : Loft :=
  let l := l.put w d (checkOf d w) 7
  { l with writeBacks := ndel l.writeBacks w, poisons := ndel l.poisons w }

/-- A word is poisoned (R316). -/
def Loft.poison (l : Loft) (w : Nat) : Loft :=
  let l := l.put w 0 (checkOf 0 w ^^^ 0xFF) 7
  { l with writeBacks := ndel l.writeBacks w, poisons := ndel l.poisons w }

/-- The array after a change of the Loft. -/
def State.setLoft (s : State) (l : Loft) : State := { s with loft := l }

/-- Upsets strike word `w`. A word turned from vote 0 to vote 1 whose array was never written since
a wake from OFF holds arbitrary contents (R315), a free value. -/
def upsetWord (s : State) (w : Nat) (u : Upset) : State :=
  if u.data = 0 && u.check = 0 && u.valid = 0 then s
  else
    let l := s.loft
    let v := l.validAt w
    let v' := v ^^^ (u.valid % 8)
    if !vote v && vote v' && l.dataAt w = 0 && l.checkAt w = 0 then
      { s with fresh := s.fresh + 2,
               loft := l.put w (Config.freeValue s.fresh) (Config.freeValue (s.fresh + 1) % 256) v' }
    else
      s.setLoft (l.put w ((l.dataAt w) ^^^ (u.data % 2 ^ 64)) ((l.checkAt w) ^^^ (u.check % 256)) v')

/-- A vote's disagreeing copies are rewritten and counted (R315). -/
def voteRepair (s : State) (w : Nat) : State :=
  let v := s.loft.validAt w
  if v = 0 || v = 7 then s
  else
    let v' := if vote v then 7 else 0
    let s := s.setLoft { s.loft with valid := s.loft.valid.write w (BitVec.ofNat 8 v') }
    s.bump (F.LFT_GRP_VREP_CNT_count (wGroup w)) 1

/-- A corrected word is counted once while its write-back is pending; at most 4 write-backs wait in
a bank (R314). The hour's distinct words are kept (R447). -/
def countCorrected (s : State) (w : Nat) : State :=
  if s.loft.writeBacks.contains w then s
  else
    let s := (s.bump (F.LFT_BANK_CE_CNT_ce (wLBank w)) 1).bump (F.LFT_GRP_CE_CNT_ce (wGroup w)) 1
    let s := { s with spr := { s.spr with ce := nins w s.spr.ce } }
    if (s.loft.writeBacks.filter (fun x => wLBank x = wLBank w)).length < 4 then
      s.setLoft { s.loft with writeBacks := s.loft.writeBacks ++ [w] }
    else s

/-- The owner of device logical bank `b`. -/
def State.bankOwner (s : State) (b : Nat) : Nat := s.get (F.LFT_BANK_OWN_owner b)

/-- A read answered under R320 is counted and raises LFT_POISON_READ naming the requester. -/
def poisonRead (s : State) (w who : Nat) : State :=
  let s := s.bump F.LFT_POISON_CNT_count 1
  let s := (s.set F.LFT_POISON_LAST_addr (w * 8)).set F.LFT_POISON_LAST_REQ_requester who
  raise s (776 + wGroup w) 2 4 (w % 2 ^ 21 + who * 2 ^ 21)

/-- A word read by requester `who` (R314, R315, R320): its data, or none when it is answered as
poisoned; the state after the vote's repair, the counts, and the poisoning that is due. -/
def readWord (s : State) (w who : Nat) : Option Nat × State :=
  let s := voteRepair s w
  if !vote (s.loft.validAt w) then (some 0, s)
  else match decodeWord (s.loft.dataAt w) (s.loft.checkAt w) w with
    | .clean d => (some d, s)
    | .corrected d => (some d, countCorrected s w)
    | .poisoned => (none, poisonRead s w who)
    | .uncorrectable =>
      let s := s.setLoft { s.loft with poisons := nins w s.loft.poisons }
      (none, poisonRead s w who)

/-- The bank is taken by a handover (R309). -/
def bankBusy (s : State) (b : Nat) : Bool :=
  s.flag (F.LFT_BANK_OWN_busy b)

/-- The block behind gate `g` takes requests: the gate is open and not asked to close (R97). -/
def gateOpen (s : State) (g : Nat) : Bool :=
  s.flag (F.CLK_GATE_EN_open g) && !s.clk.closing.contains g

/-- A request that the terminator answers is counted where gate `g` is closed, and not where it is only asked to close
(R97, R98). -/
def shutCount (s : State) (g : Nat) : State :=
  if s.flag (F.CLK_GATE_EN_open g) then s else s.bump F.CLK_GATE_CLOSED_CNT_count 1

/-- The group serves accesses: it is ON, it has not failed, its gate is open, and no handover holds
the bank (R98, R309, R312, R323). -/
def bankServes (s : State) (b : Nat) : Bool :=
  s.get (F.LFT_GRP_STATUS_power (b / 32)) = 1 && !s.flag (F.LFT_GRP_STATUS_failed (b / 32))
    && gateOpen s (280 + b / 32) && !bankBusy s b

/-- A request is allowed (R308): the requester owns the bank; the twin mirror reads a group marked
mirror_src whatever its owner. -/
def ownerOk (s : State) (owner b : Nat) (wr : Bool) : Bool :=
  s.bankOwner b = owner || (!wr && owner = 337 && s.flag (F.LFT_GRP_CFG_mirror_src (b / 32)))

/-- A denied request is counted and raises LFT_ACCESS_DENIED under R148 (R308). -/
def denied (s : State) (owner b : Nat) : State :=
  countRaise s (F.LFT_GRP_UE_CNT_denied (b / 32)) (776 + b / 32) 3 3
    (owner + s.bankOwner b * 1024 + b % 32 * 2 ^ 20)

/-- The judgement of a request at its bank, with the counts a refusal brings (R98, R308, R312). -/
def judge (s : State) (owner b : Nat) (wr : Bool) : Bool × State :=
  if !s.flag (F.CLK_GATE_EN_open (280 + b / 32)) then (false, s.bump F.CLK_GATE_CLOSED_CNT_count 1)
  else if !bankServes s b then (false, s)
  else if !ownerOk s owner b wr then (false, denied s owner b)
  else (true, s)

/-! Beats of 32 bytes (R149, R303): four words in consecutive banks. -/

/-- The words of beat `n` (the byte address over 32). -/
def beatWords (n : Nat) : List Nat := [4 * n, 4 * n + 1, 4 * n + 2, 4 * n + 3]

/-- The last beat of the address space (R149). -/
def beatLimit : Nat := 2 ^ 24

/-- A beat read: 0 done with its 256 data bits, 1 error response, 2 poisoned with the first such
word in `data`. -/
structure BeatRead where
  status : Nat
  data : Nat
  deriving DecidableEq, Repr

/-- The words of a beat are read in order, each into its 64 bits. -/
def readWords (who : Nat) : List Nat → Nat → State → Option Nat × Nat × State
  | [], acc, s => (none, acc, s)
  | w :: ws, acc, s =>
    let r := readWord s w who
    match r.1 with
    | some d =>
      let t := readWords who ws (acc) r.2
      (t.1, d + 2 ^ 64 * t.2.1, t.2.2)
    | none =>
      let t := readWords who ws acc r.2
      (some w, 2 ^ 64 * t.2.1, t.2.2)

/-- A beat read under owner ID `owner` (R149, R308, R320). -/
def readBeat (s : State) (owner n : Nat) : BeatRead × State :=
  if beatLimit ≤ n then (⟨1, 0⟩, s)
  else
    let j := (beatWords n).foldl
      (fun (a : Bool × State) w => if a.1 then judge a.2 owner (wLBank w) false else a) (true, s)
    if !j.1 then (⟨1, 0⟩, j.2)
    else
      let r := readWords owner (beatWords n) 0 j.2
      match r.1 with
      | none => (⟨0, r.2.1⟩, r.2.2)
      | some w => (⟨2, w⟩, r.2.2)

/-- A write of word `w` marks its line when the group is a mirrored one (R378). -/
def loftDirty (s : State) (w : Nat) : State :=
  if s.flag (F.LFT_GRP_CFG_mirror_src (wGroup w)) then markDirty s (loftLine w) else s

/-- A beat written under owner ID `owner`: true when the Loft took it (R308, R316). -/
def writeBeat (s : State) (owner n data : Nat) : Bool × State :=
  if beatLimit ≤ n then (false, s)
  else
    let j := (beatWords n).foldl
      (fun (a : Bool × State) w => if a.1 then judge a.2 owner (wLBank w) true else a) (true, s)
    if !j.1 then j
    else
      let s := (beatWords n).foldl voteRepair j.2
      let l := (beatWords n).foldl
        (fun l w => l.store w (bits data (64 * (w % 4)) 64)) s.loft
      (true, loftDirty (s.setLoft l) (4 * n))

/-! The bank queues (R306). -/

/-- Bank `b`'s queues. -/
def State.bankQ (s : State) (b : Nat) : BankQ := (aget s.loft.queues b).getD ⟨[], [], 0, 0⟩

/-- Bank `b`'s queues are replaced. -/
def setBankQ (s : State) (b : Nat) (q : BankQ) : State :=
  s.setLoft { s.loft with queues := aset s.loft.queues b q }

/-- LOFT_REQUEST_ENQUEUE (R304, R306, R308): the keeper's and a DMA channel's address may be in the linear view;
ownership is judged as the request enters the queue; a refused request completes at once with an error response; a full
queue of 16 takes nothing. -/
def enqueueReq (s : State) (r : LoftReq) : State :=
  let r := { r with addr := loftAddr r.addr }
  let b := wLBank (r.addr / 8)
  let q := s.bankQ b
  if 16 ≤ (if r.streaming then q.stream else q.gen).length then s
  else
    let j := judge s r.owner b r.wr
    if !j.1 then j.2.setLoft { j.2.loft with last := some ⟨r.owner, 1, 0⟩ }
    else
      let e : QReq := ⟨r, true, s.now⟩
      setBankQ j.2 b (if r.streaming then { q with stream := q.stream ++ [e] }
        else { q with gen := q.gen ++ [e] })

/-- LOFT_REQUEST_ENQUEUE. -/
def execLoftRequestEnqueue (r : LoftReq) (s : State) : Res :=
  checked (.loftRequestEnqueue r) (enqueueReq s r)

/-- The bytes of `new` chosen by `mask`, the others of `old`. -/
def mergeBytes (old new mask : Nat) : Nat :=
  ((List.range 8).map (fun i => (if mask.testBit i then bits new (8 * i) 8 else bits old (8 * i) 8)
    * 2 ^ (8 * i))).foldl (· + ·) 0

/-- A request is served (R306, R314, R316, R320): the answer and the state. A part-word write is a
read-modify-write, refused on a poisoned or uncorrectable word. -/
def serveReq (s : State) (r : LoftReq) : State :=
  let w := r.addr / 8
  if r.wr then
    if r.mask % 256 = 255 then
      let s := voteRepair s w
      let s := loftDirty (s.setLoft (s.loft.store w (r.data % 2 ^ 64))) w
      s.setLoft { s.loft with last := some ⟨r.owner, 0, 0⟩ }
    else
      let a := readWord s w r.owner
      match a.1 with
      | none => a.2.setLoft { a.2.loft with last := some ⟨r.owner, 2, 0⟩ }
      | some d =>
        let t := loftDirty (a.2.setLoft (a.2.loft.store w (mergeBytes d (r.data % 2 ^ 64) r.mask))) w
        t.setLoft { t.loft with last := some ⟨r.owner, 0, 0⟩ }
  else
    let a := readWord s w r.owner
    match a.1 with
    | none => a.2.setLoft { a.2.loft with last := some ⟨r.owner, 2, 0⟩ }
    | some d => a.2.setLoft { a.2.loft with last := some ⟨r.owner, 0, d⟩ }

/-- The request a bank serves in this LOFT cycle, and its queues after it (R306): the oldest
streaming request, but a waiting general request in at least one cycle of every five. -/
def BankQ.pick (q : BankQ) : Option (LoftReq × BankQ) :=
  match q.gen, q.stream with
  | [], [] => none
  | g :: gs, [] => some (g.req, { q with gen := gs, since := 0 })
  | [], t :: ts => some (t.req, { q with stream := ts, since := 0 })
  | g :: gs, t :: ts =>
    if 4 ≤ q.since then some (g.req, { q with gen := gs, since := 0 })
    else some (t.req, { q with stream := ts, since := q.since + 1 })

/-- Bank `b` has a LOFT cycle with no request (R314, R317): its group is ON behind an open gate and nothing waits. -/
def bankIdle (s : State) (b : Nat) : Bool :=
  let q := s.bankQ b
  q.stream = [] && q.gen = [] && s.get (F.LFT_GRP_STATUS_power (b / 32)) = 1 && gateOpen s (280 + b / 32)

/-- Bank `b` takes its next free LOFT cycle, of 2 tk (R301, R306). -/
def bankCycle (s : State) (b : Nat) : State :=
  let s := s.atNow (s.bankQ b).next
  setBankQ s b { s.bankQ b with next := s.now / 2 * 2 + 2 }

/-- CORRECTION_WRITE_BACK (R314): the oldest pending write-back of bank `b` is made in an idle
cycle; with a request waiting, or the group stopped, it stays pending. -/
def execCorrectionWriteBack (b : Nat) (s : State) : Res :=
  checked (.correctionWriteBack b) <|
    match s.loft.writeBacks.find? (fun w => wLBank w = b) with
    | none => s
    | some w =>
      if !bankIdle s b then s else
      let s := bankCycle s b
      match decodeWord (s.loft.dataAt w) (s.loft.checkAt w) w with
      | .corrected d => s.setLoft (s.loft.store w d)
      | _ => s.setLoft { s.loft with writeBacks := ndel s.loft.writeBacks w }

/-- POISON_WRITE (R314): the bank poisons a word it found uncorrectable. -/
def execPoisonWrite (b : Nat) (s : State) : Res :=
  checked (.poisonWrite b) <|
    match s.loft.poisons.find? (fun w => wLBank w = b) with
    | none => s
    | some w =>
      let s := bankCycle s b
      s.setLoft (s.loft.poison w)

/-! Scrubbing (R317 to R319). -/

/-- A bank's scrub lap and row. -/
def State.scrubAt (s : State) (b : Nat) : Nat × Nat := (aget s.loft.scrub b).getD (0, 0)

/-- An uncorrectable word found by an idle scrubber (R319): one that a read has found already is poisoned and no
more (R321). -/
def scrubUe (s : State) (w : Nat) : State :=
  let asked := s.loft.poisons.contains w
  let s := s.setLoft (s.loft.poison w)
  if asked then s else
  let s := s.bump (F.LFT_GRP_UE_CNT_ue (wGroup w)) 1
  raise s (776 + wGroup w) 1 5 (w % 2 ^ 21 + s.bankOwner (wLBank w) * 2 ^ 21)

/-- The scrubber of bank `b` moves on; a group's lap is complete when every bank has passed row
65,535 (R317). -/
def scrubAdvance (s : State) (b : Nat) : State :=
  let p := s.scrubAt b
  let p' := if p.2 = 65535 then (p.1 + 1, 0) else (p.1, p.2 + 1)
  let s := s.setLoft { s.loft with scrub := aset s.loft.scrub b p' }
  let g := b / 32
  if p.2 = 65535 && (List.range 32).all (fun k => p'.1 ≤ (s.scrubAt (32 * g + k)).1) then
    let t0 := (aget s.loft.lapStart g).getD 0
    let s := s.setLoft { s.loft with lapStart := aset s.loft.lapStart g s.now }
    (s.set (F.LFT_GRP_LAP_lap_us g) (satNat 24 (tkToUs (s.now - t0)))).set (F.LFT_GRP_LAP_stale g) 0
  else s

/-! Handover (R309, R310). -/

/-- The banks a handover affects. -/
def Handover.banks (h : Handover) : List Nat :=
  if h.group then (List.range 32).map (fun k => 32 * h.index + k) else [h.index]

/-- The group a handover acts in. -/
def Handover.grp (h : Handover) : Nat := if h.group then h.index else h.index / 32

/-- The data of the handover events: bank and whole group. -/
def Handover.evBank (h : Handover) : Nat :=
  if h.group then 2 ^ 16 else h.index % 32 * 2 ^ 11

/-- Group `g`'s owner fields follow bank 0 and the others (R329). -/
def groupOwner (s : State) (g : Nat) : State :=
  let o := s.bankOwner (32 * g)
  let mixed := (List.range 32).any (fun k => s.bankOwner (32 * g + k) != o)
  (s.set (F.LFT_GRP_OWN_owner g) o).set (F.LFT_GRP_OWN_mixed g) (ofBool mixed)

/-- Busy marks of a handover (R309, R329): its banks, and the group while any of its banks is busy. -/
def Handover.mark (h : Handover) (s : State) (b : Bool) : State :=
  let s := h.banks.foldl (fun t k => t.set (F.LFT_BANK_OWN_busy k) (ofBool b)) s
  s.set (F.LFT_GRP_OWN_busy h.grp) (ofBool ((List.range 32).any (fun k => bankBusy s (32 * h.grp + k))))

/-- Banks take an owner. -/
def setOwners (s : State) (banks : List Nat) (o : Nat) : State :=
  banks.foldl (fun t b => t.set (F.LFT_BANK_OWN_owner b) o) s

/-- A handover of the stage group drops the retained stream (R359). -/
def retainedDrop (s : State) (g : Nat) : State :=
  if s.flag F.CFG_PR_CFG_enable && s.get F.CFG_PR_CFG_stage_group = g then
    { s.set F.CFG_PR_STATUS_retained 0 with cfg := { s.cfg with retained := none } }
  else s

/-- A handover takes effect (R309): the owner changes, busy ends, LFT_HANDOVER is raised. -/
def handoverEffect (s : State) (h : Handover) : State :=
  let s := retainedDrop s h.grp
  let s := s.setLoft { s.loft with handovers := s.loft.handovers.filter (fun x => x != h) }
  let s := groupOwner (h.mark (setOwners s h.banks h.owner) false) h.grp
  raise s (776 + h.grp) 4 2 (h.owner + ofBool h.clear * 1024 + h.evBank)

/-- The spare bank of group `g` takes logical bank `k` (R302, R323). -/
def spareTakes (s : State) (g k : Nat) : State :=
  let s := (s.set (F.LFT_GRP_STATUS_spare_for g) k).set (F.LFT_BANK_OWN_substituted (32 * g + k)) 1
  (s.bump F.LFT_STATUS_spares_used 1).bump F.SPR_SUB_CNT_banks 1

/-- A pending worn bank among some banks is substituted as they are cleared (R455). -/
def spareOnClear (s : State) (banks : List Nat) : State :=
  (s.spr.worn.filter (fun b => banks.contains b)).foldl (fun t b =>
    let g := b / 32
    if t.get (F.LFT_GRP_STATUS_spare_for g) ≠ 0x3F then t
    else
      let t := { t with spr := { t.spr with worn := ndel t.spr.worn b } }
      let t := t.set F.SPR_BANK_PEND_pending (putBit (t.get F.SPR_BANK_PEND_pending) g false)
      raiseCrit (spareTakes t g (b % 32)) true (776 + g) 6 5 (b % 32)) s

/-- Every valid bit of some banks is cleared in bulk (R309), with pending substitutions (R455). -/
def clearBanks (s : State) (banks : List Nat) : State :=
  let s := spareOnClear s banks
  s.setLoft { s.loft with
    valid := s.loft.valid.erase (fun w => banks.contains (wLBank w)),
    writeBacks := s.loft.writeBacks.filter (fun w => !banks.contains (wLBank w)),
    poisons := s.loft.poisons.filter (fun w => !banks.contains (wLBank w)) }

/-- A handover's reason for refusal under rows 1 to 4 of R310, 0 for none. -/
def handoverReason (s : State) (h : Handover) : Nat :=
  if 338 < h.owner then 1
  else if h.banks.any (bankBusy s) then 2
  else if s.flag (F.LFT_GRP_STATUS_failed h.grp) then 3
  else if s.flag F.CFG_PR_CFG_enable && s.get F.CFG_PR_CFG_stage_group = h.grp
    && s.get F.CFG_PR_STATUS_state ≠ 0 then 4
  else 0

/-- A refused handover (R310). -/
def handoverRefused (s : State) (h : Handover) (reason : Nat) : State :=
  raise s (776 + h.grp) 5 3 (reason + h.evBank)

/-- An accepted handover begins (R309): at once in a group that is off or retained, or to the
present owner without clear; otherwise busy, with new requests refused. -/
def handoverStart (s : State) (h : Handover) : State :=
  let p := s.get (F.LFT_GRP_STATUS_power h.grp)
  if p = 0 || p = 2 then
    handoverEffect (if h.clear then clearBanks s h.banks else s) h
  else if !h.clear && h.banks.all (fun b => s.bankOwner b = h.owner) then handoverEffect s h
  else h.mark (s.setLoft { s.loft with handovers := s.loft.handovers ++ [h] }) true

/-- The handover that waits at a target. -/
def findHandover (s : State) (group : Bool) (i : Nat) : Option Handover :=
  s.loft.handovers.find? (fun h => h.group = group && h.index = i)

/-- A bulk clear that has quiesced ends, 512 tk after it began, and the owner takes effect (R309). -/
def handoverClearDone (s : State) (group : Bool) (index : Nat) : State :=
  match findHandover s group index with
  | none => s
  | some h =>
    if h.clear && h.quiesced then
      let s := s.atNow (h.since + 512)
      handoverEffect (clearBanks s h.banks) h
    else s

/-! Power and failure (R312, R323). -/

/-- A group loses its array: it is OFF. -/
def groupOff (s : State) (g : Nat) : State :=
  let s := s.set (F.LFT_GRP_STATUS_power g) 0
  s.setLoft { s.loft with
    data := s.loft.data.erase (fun a => wGroup (a / 8) = g),
    check := s.loft.check.erase (fun w => wGroup w = g),
    valid := s.loft.valid.erase (fun w => wGroup w = g),
    queues := s.loft.queues.filter (fun p => p.1 / 32 != g),
    writeBacks := s.loft.writeBacks.filter (fun w => wGroup w != g),
    poisons := s.loft.poisons.filter (fun w => wGroup w != g) }

/-- A group fails (R323): owner 1,023, every access an error response, DEGRADED. -/
def groupFail (s : State) (g first : Nat) (second : Option Nat) : State :=
  let s := s.set (F.LFT_GRP_STATUS_failed g) 1
  let s := setOwners s ((List.range 32).map (fun k => 32 * g + k)) 1023
  let s := (groupOwner s g).bump F.LFT_STATUS_groups_failed 1
  let s := raiseCrit s true (776 + g) 7 6
    (first + (match second with | some x => x * 32 + 1024 | none => 0))
  setDegraded s 6 true

/-- The checker test of group `g` (R322, R323): `bad` names the failing logical banks, `spareBad`
a failing of the spare, which fails the bank that it serves. -/
def checkerTest (s : State) (g : Nat) (bad : List Nat) (spareBad : Bool) : State :=
  if s.flag (F.LFT_GRP_STATUS_failed g) then s
  else match bad with
    | [] =>
      let k := s.get (F.LFT_GRP_STATUS_spare_for g)
      if spareBad && k ≠ 0x3F then groupFail s g k none else s
    | [k] =>
      if s.get (F.LFT_GRP_STATUS_spare_for g) = 0x3F && !spareBad then
        raiseCrit (spareTakes s g k) true (776 + g) 6 5 k
      else groupFail s g k none
    | k :: j :: _ => groupFail s g k (some j)

/-- The rate at which background engine `e` works: engines 0 and 1 take it from their register at each lap (R363). -/
def bgRate (s : State) (e : Nat) : Nat :=
  match aget s.cfg.laps e with
  | some l => if e < 2 then l.rate else s.get (F.LFT_BG_CFG_rate e)
  | none => s.get (F.LFT_BG_CFG_rate e)

/-- 1/100 tk between two words of background engine `e`: rate words in 1 µs, or 8 · rate for the configuration's
engines 0 and 1; a rate of 0 acts as 1 (R318, R329, R360). -/
def bgGap (s : State) (e : Nat) : Nat := (if e < 2 then 12288 else 98304) / max 1 (bgRate s e)

/-- Engine `e` waits for its next word (R318, R360). -/
def bgDue (s : State) (e : Nat) : State :=
  let t := max (100 * s.now) ((aget s.loft.bgAt e).getD 0)
  let s := s.atNow (ceilDiv t 100)
  s.setLoft { s.loft with bgAt := aset s.loft.bgAt e (t + bgGap s e) }

end Sys2Proof.Machine
end

