-- ==== Sys2Proof/Machine/TimeBase.lean ====
section
/-! DEFINITION. The time base (R40 to R77, R511): references, states, steps, the discipline loop,
holdover, the oscillator model. The triggers' actions are in Triggers. -/

namespace Sys2Proof.Machine

/-- Bit `i` of TB_REF_QUAL: PTP, PPS0, PPS1, synchronous Ethernet, TREF0, TREF1 (R77). -/
def State.qual (s : State) (i : Nat) : Bool := bitAt (s.get F.TB_REF_QUAL_qual) i

/-- Bit `i` of TB_REF_QUAL is set or cleared. -/
def setQual (s : State) (i : Nat) (b : Bool) : State :=
  s.set F.TB_REF_QUAL_qual (putBit (s.get F.TB_REF_QUAL_qual) i b)

/-- TB_REF_PRIO's four choices, highest first (R44). -/
def prioList (s : State) : List Nat :=
  [s.get F.TB_REF_PRIO_prio0, s.get F.TB_REF_PRIO_prio1, s.get F.TB_REF_PRIO_prio2,
   s.get F.TB_REF_PRIO_prio3]

/-- The qualified time references in priority order: 1 PTP, 2 PPS0, 3 PPS1 (R44). -/
def timeRefs (s : State) : List Nat :=
  (prioList s).filter (fun p => 1 ≤ p && p ≤ 3 && s.qual (p - 1))

/-- Synchronous Ethernet is listed, enabled and qualified (R44). -/
def syncEInUse (s : State) : Bool := (prioList s).contains 4 && s.qual 3

/-- Holdover is possible (R50): the selected oscillator or synchronous Ethernet is qualified. -/
def holdoverPossible (s : State) : Bool :=
  s.qual 3 || (s.qual (4 + s.get F.TB_STATUS_tref_active) && s.get F.CLK_TB_STATUS_input ≤ 1)

/-- TB_STATUS.freq_src follows the PLL input and synchronous Ethernet (R77, R80). -/
def setFreqSrc (s : State) : State :=
  let i := s.get F.CLK_TB_STATUS_input
  s.set F.TB_STATUS_freq_src (if i = 2 then 2 else if i = 3 then 3 else if syncEInUse s then 1 else 0)

/-- Nanoseconds to the nearest whole tick: 3,125 ns are 3,072 tk (R41). -/
def nsToTk (ns : Int) : Int := (ns * 3072 * 2 + 3125) / (3125 * 2)

/-- A phase of `x` sixteenths of a tick in 1/16 ns, and in whole ns, each to the nearest (R40, R41, R77). -/
def phaseNs16 (x : Int) : Int := (x * 3125 * 2 + 3072) / (3072 * 2)
def phaseNs (x : Int) : Int := (x * 3125 * 2 + 49152) / (49152 * 2)

/-- A phase of `x` sixteenths of a tick to the nearest whole tick. -/
def phaseTk (x : Int) : Int := (x + 8) / 16

/-- The integer square root by `n` binary digits. -/
def isqrt : Nat → Nat → Nat → Nat
  | 0, _, r => r
  | n + 1, x, r => if (r + 2 ^ n) * (r + 2 ^ n) ≤ x then isqrt n x (r + 2 ^ n) else isqrt n x r

/-- The mean of the samples, rounded down (R57). -/
def meanOf (l : List Int) : Int := l.foldl (· + ·) 0 / (l.length : Int)

/-- The standard error of the samples in units of 0.1 ppt, rounded up, saturating at 0xFFFF (R57):
the standard deviation over the N samples divided by the root of N. -/
def stdErr (l : List Int) : Nat :=
  let n := l.length
  if n < 2 then 0xFFFF
  else
    let sum := l.foldl (· + ·) 0
    let sq := l.foldl (fun a x => a + x * x) 0
    let v := ((n : Int) * sq - sum * sum).toNat
    let q := v / n ^ 3
    let r := isqrt 32 q 0
    min 0xFFFF (if r * r * n ^ 3 = v then r else r + 1)

/-- A model that has learned nothing. -/
def OscModel.empty : OscModel := ⟨false, 0, 0, [], [], false⟩

/-- The model of oscillator `i`. -/
def State.model (s : State) (i : Nat) : OscModel := (aget s.tb.models i).getD OscModel.empty

/-- The model may steer HOLDOVER (R61, R63): it is valid, and if it was restored or imported its check is done. -/
def OscModel.usable (m : OscModel) : Bool := m.valid && !m.unchecked

/-- The model of the oscillator in use may steer HOLDOVER. -/
def modelOk (s : State) : Bool := (s.model (s.get F.TB_STATUS_tref_active)).usable

/-- The holdover error bound in ns, rounded up (R66, R61), after `t` seconds. -/
def teEst (s : State) (t : Nat) : Nat :=
  let te0 := s.tb.te0
  if syncEInUse s then
    ceilDiv ((te0 * 720000) + s.get F.TB_SYNCE_CFG_y_s * t * 720 + 1000 * t) 720000
  else
    let tE := s.tb.tEntry
    let hi := toInt 8 (s.get F.TB_MODEL_STATUS_t_max) * 16
    let lo := toInt 8 (s.get F.TB_MODEL_STATUS_t_min) * 16
    let up := (s.tb.tSeenMax - tE).toNat
    let dn := (tE - s.tb.tSeenMin).toNat
    let dT := max up dn
    let out := if s.tb.tSeenMax > hi + 32 || s.tb.tSeenMin < lo - 32 then
        max (s.tb.tSeenMax - max hi tE).toNat (min lo tE - s.tb.tSeenMin).toNat else 0
    let rm := 3200 * s.get F.TB_OSC_GRADE_r_max
    let kT := s.get F.TB_OSC_GRADE_k_t
    let kU := 10 * s.get F.TB_OSC_GRADE_k_u
    let term :=
      if s.tb.btempLost then rm
      else if !modelOk s then min (kU * dT) rm
      else min (kT * (dT - min out dT) + kU * min out dT) rm
    ceilDiv (te0 * 172800000 + 17280 * s.get F.TB_Y0_y0 * t + s.get F.TB_OSC_GRADE_ageing * t * t
      + 1080 * term * t + 240000 * t) 172800000

/-! Exact evaluation of a model (R58, R64). -/

/-- A binary32 pattern times 2^149, an integer; infinities and NaNs are not produced by a fit. -/
def f32 (w : Nat) : Int :=
  let e := bits w 23 8
  let m := bits w 0 23
  let v : Nat := if e = 0 then m else (m + 2 ^ 23) * 2 ^ (e - 1)
  if bitAt w 31 then -(v : Int) else (v : Int)

/-- y at temperature `t` (1/16 °C), `sec` seconds after the model's reference time, in ppb times
2^149 · 4096 · 86400 (R58). -/
def modelY (ws : List Nat) (t : Int) (sec : Int) : Int :=
  let x := t - toInt 16 (ws.getD 6 0)
  ((f32 (ws.getD 1 0) * 4096 + f32 (ws.getD 2 0) * x * 256 + f32 (ws.getD 3 0) * x * x * 16
    + f32 (ws.getD 4 0) * x * x * x) * 86400) + f32 (ws.getD 5 0) * 4096 * sec

/-- PTP seconds of the present frame position (R42). -/
def ptpSeconds (s : State) : Nat :=
  s.get F.TB_EPOCH_SEC_LO_sec_lo + s.get F.TB_EPOCH_SEC_HI_sec_hi * 2 ^ 32
    + (s.fp + s.get F.TB_EPOCH_TK_o) / 983040000

/-- The PTP time of count `n` with fraction `frac` sixteenths, in 1/49,152 ns (R42): S seconds and (N + o) times
3,125/3,072 ns. -/
def ptpTime (s : State) (n frac : Nat) : Nat :=
  (s.get F.TB_EPOCH_SEC_LO_sec_lo + s.get F.TB_EPOCH_SEC_HI_sec_hi * 2 ^ 32) * 10 ^ 9 * 49152
    + ((n + s.get F.TB_EPOCH_TK_o) * 16 + frac) * 3125

/-- Seconds since the reference time t0 of a model (R58, R64). -/
def modelAge (s : State) (ws : List Nat) : Int :=
  (ptpSeconds s : Int) - (ws.getD 7 0 + bits (ws.getD 8 0) 0 16 * 2 ^ 32 : Nat)

/-- The unit of `modelY` in ppb, and in the 0.1 ppt of TB_FREQ_CORR 1 / 10,000 of it. -/
def yDen : Int := 2 ^ 149 * 4096 * 86400

/-- `modelY`'s value rounded to the nearest 0.1 ppt. -/
def yUnits (y : Int) : Int := (y * 10000 * 2 + yDen) / (yDen * 2)

/-- The present board temperature (R60, R61): the last valid one while BTEMP is invalid, and a free value when
none has been valid yet (log entry 5). -/
def presentT (s : State) : Int := s.tb.tLast.getD (toInt 16 s.free)

/-- Holdover stops being possible (R50). -/
def holdoverCheck (s : State) : State :=
  if s.get F.TB_STATUS_state = Tb.holdover && !holdoverPossible s then setTb s Tb.free else s

/-- The monitor of the fallback input of the time-base PLL (R80, R100). -/
def fbMonitor (s : State) : Nat :=
  let f := s.get F.CLK_TB_CFG_fb_src
  if f = 0 then 18 + s.get F.TB_SYNCE_CFG_lane / 8 else 1 + f

/-- A monitor reports QUALIFIED (R84). -/
def monQual (s : State) (m : Nat) : Bool := s.get (F.CLK_MON_STATUS_state m) = 2

/-- Hours learned (R59). -/
def OscModel.hours (m : OscModel) : Nat := m.secs / 3600

/-- The learned temperature span: the lowest and highest 1 °C bin (bin + 64). -/
def OscModel.span (m : OscModel) : Nat × Nat :=
  match m.bins with
  | [] => (64, 64)
  | b :: t => (b.1, (t.getLast?.getD b).1)

/-- The status registers follow the model of the oscillator in use (R77). -/
def modelStatus (s : State) : State :=
  let m := s.model (s.get F.TB_STATUS_tref_active)
  s.setAll [(F.TB_STATUS_model_valid, ofBool m.valid), (F.TB_STATUS_model_order, m.order),
    (F.TB_MODEL_STATUS_hours, satNat 16 m.hours),
    (F.TB_MODEL_STATUS_t_min, ofInt 8 ((m.span.1 : Int) - 64)),
    (F.TB_MODEL_STATUS_t_max, ofInt 8 ((m.span.2 : Int) - 64))]

/-- The input of order `o` (1 to 3 of R80) and whether its condition holds. -/
def pllOrder (s : State) : List (Nat × Bool) :=
  let sel := s.get F.TB_REF_PRIO_tref_sel
  [(sel, s.qual (4 + sel)),
   (1 - sel, s.qual (4 + (1 - sel)) && s.flag F.TB_REF_PRIO_tref_alt_en),
   (2, s.flag F.CLK_TB_CFG_fb_en && monQual s (fbMonitor s))]

/-- The best input the PLL may take (R80); 3 is hold. -/
def pllBest (s : State) : Nat :=
  match (pllOrder s).find? (fun p => p.2) with
  | some p => p.1
  | none => 3

/-- The present correction becomes the one from which HOLDOVER steers on: a move to the other oscillator
carries it across (R48, R80). -/
def holdRebase (s : State) : State :=
  if s.get F.TB_STATUS_state ≠ Tb.holdover then s
  else { s with tb := { s.tb with
    cEntry := toInt 32 (s.get F.TB_FREQ_CORR_corr), tEntry := presentT s
    tauEntry := s.get F.TB_HOLD_TIME_seconds } }

/-- The PLL takes input `i` (R80, R81): hold raises CLK_TB_HOLD; the oscillator in use follows. -/
def pllTake (s : State) (i : Nat) : State :=
  if s.get F.CLK_TB_STATUS_input = i then s
  else
    let s := s.set F.CLK_TB_STATUS_input i
    let s := s.set F.CLK_TB_STATUS_pll_lock (ofBool (i ≠ 3))
    let s := if i ≤ 1 then modelStatus ((holdRebase s).set F.TB_STATUS_tref_active i) else s
    let s := if i = 3 then raise s 1021 0x0E 5 0 else s
    holdoverCheck (setFreqSrc s)

/-- The PLL's input is judged after a qualification changed (R80): it moves down when its input is
lost, and in FREE or HOLDOVER a newly qualified input is taken at once (R44); from hold in ACQUIRING or
LOCKED it moves up by the wait-to-restore only. -/
def pllJudge (s : State) : State :=
  let i := s.get F.CLK_TB_STATUS_input
  let ok := i = 3 || (pllOrder s).any (fun p => p.1 = i && p.2)
  let st := s.get F.TB_STATUS_state
  if !ok || st = Tb.free || st = Tb.holdover then pllTake s (pllBest s) else s

/-- The model of oscillator `i` is replaced. -/
def setModel (s : State) (i : Nat) (m : OscModel) : State :=
  markDirty (modelStatus { s with tb := { s.tb with models := aset s.tb.models i m } }) (tbLine (1 + i))

/-- The model of oscillator `i` is read (R318, R320): one with a poisoned word is discarded and learned
again; the difference its event would name is a value the rules do not state. -/
def modelRead (s : State) (i : Nat) : State :=
  let hit : Nat → Bool := fun w => 288784 + 8 * i ≤ w && w < 288792 + 8 * i
  if s.fh.poisoned.any hit then
    let s := tablePoison s ((s.fh.poisoned.find? hit).getD 0) 1023
    let s := { s with fh := { s.fh with poisoned := s.fh.poisoned.filter (fun w => !hit w) } }
    raise (setModel s.useFree i OscModel.empty) 976 0x12 4 (s.free % 2 ^ 32)
  else s

/-- The model in use is read. -/
def modelUse (s : State) : State := modelRead s (s.get F.TB_STATUS_tref_active)

/-- The samples of the averaging window, which spans avg_window_s and ends at the last accepted measurement
(R57); a window outside R56's range acts as its nearest end. -/
def holdSamples (s : State) : List Int :=
  let w := max 60 (min 3600 (s.get F.TB_HOLD_CFG_avg_window_s)) * 983040000
  match s.tb.lastAcc with
  | none => []
  | some t => (s.tb.samples.filter (fun x => x.1 ≤ t && t < x.1 + w)).map Prod.snd

/-- Entry to HOLDOVER, or to FREE when holdover is not possible or the FP was never valid (R50,
R57): no time reference is in use from here, and the oscillator is steered from c_entry on (R58, R61). -/
def holdoverEntry (s : State) : State :=
  let s := s.set F.TB_STATUS_phase_ref 0
  let st := s.get F.TB_STATUS_state
  if st ≠ Tb.acquiring ∧ st ≠ Tb.locked then s
  else if s.flag F.TB_STATUS_fp_valid && holdoverPossible s then
    let l := holdSamples s
    let c := if l.length < 2 then toInt 32 (s.get F.TB_FREQ_CORR_corr) else meanOf l
    let t := presentT s
    let pe := (toInt 32 (s.get F.TB_PHASE_ERR_phase_err)).natAbs
    let s := { s with
      fresh := if s.tb.tLast.isNone then s.fresh + 1 else s.fresh
      tb := { s.tb with
        cEntry := c, te0 := ceilDiv pe 16, tEntry := t, tauEntry := 0, tSeenMin := t, tSeenMax := t
        btempLost := !s.flag F.TB_BTEMP_valid } }
    let s := if syncEInUse s then s else s.set F.TB_FREQ_CORR_corr (satInt 32 c)
    let s := ((s.set F.TB_Y0_y0 (stdErr l)).set F.TB_HOLD_TIME_seconds 0).set F.TB_STATUS_extrap 0
    let s := s.set F.TB_TE_EST_te_est_ns (satNat 32 (teEst s 0))
    setTb s Tb.holdover
  else setTb s Tb.free

/-- The record of time reference `r` (1 PTP, 2 PPS0, 3 PPS1). -/
def TimeBase.ref (t : TimeBase) (r : Nat) : TimeRef :=
  if r = 1 then t.ptp else if r = 2 then t.pps0 else t.pps1

/-- The record of time reference `r` is replaced. -/
def setRef (s : State) (r : Nat) (x : TimeRef) : State :=
  if r = 1 then { s with tb := { s.tb with ptp := x } }
  else if r = 2 then { s with tb := { s.tb with pps0 := x } }
  else { s with tb := { s.tb with pps1 := x } }

/-- A frequency within the pull range of ±10 ppm, in 0.1 ppt (R56). -/
def pullRange (x : Int) : Int := max (-100000000) (min 100000000 x)

/-- The count after a signed number of ticks. -/
def fpShift (n : Nat) (d : Int) : Nat := (((n : Int) + d) % (fpSpan : Int)).toNat

/-- Time reference `r` comes into use (R44, R50, R52): from FREE or HOLDOVER the state becomes
ACQUIRING, and while fp_valid = 0 the FP is set to the reference's time. A restored model that awaits its
check sets the starting frequency (R63): y at the present temperature and time, within the pull range. -/
def takeRef (s : State) (r : Nat) : State :=
  let s := s.set F.TB_STATUS_phase_ref r
  let st := s.get F.TB_STATUS_state
  if st = Tb.free ∨ st = Tb.holdover then
    let s := if s.flag F.TB_STATUS_fp_valid then s
      else { s with fp := fpShift s.fp (phaseTk (s.tb.ref r).lastOff), tb := { s.tb with exch := ⟨none, none, none⟩ } }
    let s := modelUse s
    let m := s.model (s.get F.TB_STATUS_tref_active)
    let s := if s.flag F.TB_STATUS_model_restored && m.unchecked && !s.flag F.TB_STATUS_fp_valid then
        let y := pullRange (yUnits (modelY m.words (presentT s) (modelAge s m.words)))
        let s := { s with tb := { s.tb with freqPart := y } }
        (s.set F.TB_FREQ_CORR_corr (ofInt 32 y)).useFree
      else s
    setTb s Tb.acquiring
  else s

/-- Synchronous Ethernet sets the frequency (R44): the frequency part of the correction is that of its loop. The
rules give the loop's bandwidths, not its arithmetic, so the part is a free value within the pull range (R56). -/
def syncETake (s : State) : State :=
  if syncEInUse s then
    let f := (s.free % 200000001 : Nat) - (100000000 : Int)
    let c := toInt 32 (s.get F.TB_FREQ_CORR_corr) - s.tb.freqPart + f
    ({ s with tb := { s.tb with freqPart := f } }.set F.TB_FREQ_CORR_corr (ofInt 32 (pullRange c))).useFree
  else s

/-- A reference qualifies (R44, R47): TB_REF_QUAL is raised; with no time reference in use the best
qualified one is taken at once, and synchronous Ethernet sets the frequency from then on. -/
def refQualified (s : State) (bit : Nat) : State :=
  if s.qual bit then s
  else
    let s := raise (setQual s bit true) (969 + bit) 2 2 0
    let s := setFreqSrc s
    let s := if bit = 3 then syncETake s else s
    if s.get F.TB_STATUS_phase_ref = 0 then
      match timeRefs s with
      | [] => s
      | r :: _ => takeRef s r
    else s

/-- A reference is lost (R47, R511): TB_REF_LOST with its reason; a time reference in use gives way
to the next qualified one without a transition, or to holdover; a lost oscillator gives way to the other one
first (R48, R50). -/
def refLost (s : State) (bit reason : Nat) : State :=
  if !s.qual bit then s
  else
    let s := raise (setQual s bit false) (969 + bit) 3 4 reason
    let s := setFreqSrc s
    let s := if bit ≤ 2 then
        setRef s (bit + 1) { s.tb.ref (bit + 1) with run := 0, offs := [], edgeSeen := false, lastEdge := none } else s
    let s := if 4 ≤ bit then pllJudge s else s
    let s := if s.get F.TB_STATUS_phase_ref = bit + 1 && bit ≤ 2 then
        (match timeRefs s with
          | [] => holdoverEntry s
          | r :: _ => s.set F.TB_STATUS_phase_ref r)
      else s
    holdoverCheck s

/-- The phase error stands beyond `k` times the lock threshold (R50, R56). -/
def phaseBeyond (s : State) (k : Nat) : Bool :=
  16 * k * s.get F.TB_LOCK_CFG_lock_thr_ns < (toInt 32 (s.get F.TB_PHASE_ERR_phase_err)).natAbs

/-- The lock criterion and the loss criterion follow the measured phase error (R50, R56): each remembers
since when it holds. -/
def lockFollow (s : State) : State :=
  let st := s.get F.TB_STATUS_state
  { s with tb := { s.tb with
    lockSince := if st = Tb.acquiring && !phaseBeyond s 1 then some (s.tb.lockSince.getD s.now) else none
    offSince := if st = Tb.locked && phaseBeyond s 4 then some (s.tb.offSince.getD s.now) else none } }

/-- The largest frequency offset that corrects phase, in 0.1 ppt (R56, R77). -/
def slewLimit (s : State) : Nat := 10000 * max 1 (s.get F.TB_LOOP_CFG_slew_ppb)

/-- The loop takes an accepted measurement of `off` sixteenths of a tick (R40, R44, R56): the correction is its
frequency part, which synchronous Ethernet's loop gives while that is in use and the time reference's otherwise,
within the pull range, and a part that corrects phase, within the slew limit. The rules give the loops' bandwidths
and limits, not their arithmetic, so both parts are free values within those limits (log entry 5). -/
def loopUpdate (s : State) (off : Int) : State :=
  let s := markDirty (s.set F.TB_PHASE_ERR_phase_err (satInt 32 (phaseNs16 off))) (tbLine 0)
  let f := (s.free % 200000001 : Nat) - (100000000 : Int)
  let p := (s.useFree.free % (2 * slewLimit s + 1) : Nat) - (slewLimit s : Int)
  let s := { s with tb := { s.tb with freqPart := f, lastAcc := some s.now } }
  lockFollow (s.set F.TB_FREQ_CORR_corr (ofInt 32 (pullRange (f + p)))).useFree.useFree

/-- A measurement beyond the step limit is rejected (R54). -/
def stepReject (s : State) (r : Nat) (off : Int) : State :=
  let s := s.bump F.TB_STEP_REJ_CNT_count 1
  let s := (s.set F.TB_STATUS_step_pending 1).set F.TB_STEP_PENDING_offset_ns (satInt 32 (phaseNs off))
  raise s (968 + r) 4 4 (satInt 32 (phaseNs off))

/-- A measurement is judged against the step limit (R54). -/
def beyondLimit (s : State) (off : Int) : Bool :=
  s.flag F.TB_STATUS_fp_valid && s.get F.TB_STEP_LIMIT_limit_ns * 49152 < off.natAbs * 3125

/-- Ticks in a second (R41). -/
def secTk : Nat := 983040000

/-- Ticks in 24 h. -/
def dayTk : Nat := 86400 * secTk

/-- A rejected measurement of reference `r`: when every measurement has been rejected for `limit`
ticks, the reference is lost with reason 2 (R47, R511). -/
def rejected (s : State) (r : Nat) (off : Int) (limit : Nat) : State :=
  let x := s.tb.ref r
  let since := x.rejSince.getD s.now
  let s := setRef (stepReject s r off) r { x with run := 0, offs := [], rejSince := some since }
  if since + limit ≤ s.now then refLost s (r - 1) 2 else s

/-- An accepted measurement of reference `r` with its run of seconds and its last offsets (R47), and the
loop's update when the reference is in use. -/
def accepted (s : State) (r : Nat) (off : Int) (run : Nat) (offs : List Int) : State :=
  let x := s.tb.ref r
  let s := setRef s r { x with run := run, offs := offs, lastOff := off, rejSince := none }
  if s.get F.TB_STATUS_phase_ref = r then loopUpdate s off else s

/-- PTP is enabled: its domain lies in 24 to 43 (R45, R77). -/
def ptpSet (s : State) : Bool :=
  s.flag F.TB_PTP_CFG_enable && 24 ≤ s.get F.TB_PTP_CFG_domain && s.get F.TB_PTP_CFG_domain ≤ 43

/-- PTP runs: it is enabled and the keeper is not in WARM (R407). -/
def ptpOn (s : State) : Bool := ptpSet s && !s.warm

/-- Lane `l` carries Ethernet (R237). -/
def ethLane (s : State) (l : Nat) : Bool := 1 ≤ s.get (F.LN_CFG_proto l) && s.get (F.LN_CFG_proto l) ≤ 5

/-- Lane `l` is an Ethernet lane with the engine sink, as a PTP port must be (R240). -/
def ptpLane (s : State) (l : Nat) : Bool := ethLane s l && !s.flag (F.LN_CFG_sink l)

/-- Eight consecutive exchanges lie within the step limit of each other (R47). -/
def offsAgree (s : State) (l : List Int) : Bool :=
  l.length = 8 && l.all (fun a => l.all (fun b => (a - b) * 3125 ≤ (s.get F.TB_STEP_LIMIT_limit_ns : Int) * 49152))

/-- Lane `l` is a master lane that is served: an engine-sink Ethernet lane among the first 32 set bits of TB_PTP_MASTER
(R45, R46, R240). -/
def ptpMasterLane (s : State) (l : Nat) : Bool :=
  ptpLane s l && bitAt (s.get (F.TB_PTP_MASTER_lanes (l / 32))) (l % 32) &&
    ((List.range l).filter (fun k => bitAt (s.get (F.TB_PTP_MASTER_lanes (k / 32))) (k % 32))).length < 32

/-- The frame position at lane `l`'s RX ball of a block that reaches the sink at `fp` (R46, R247, R267): its fixed
latency is taken off, and in free mode the `elastic` ticks it spent in the elastic buffer as well. -/
def rxBallOf (s : State) (l elastic fp : Nat) : Nat :=
  let e := if s.flag (F.LN_GRP_CFG_mode (l / 8)) then elastic else 0
  fpShift fp (-((s.get (F.LN_LAT_rx_base l) + e : Nat) : Int))

/-- The frame position at lane `l`'s RX ball of a block that reaches the sink now. -/
def rxBall (s : State) (l elastic : Nat) : Nat := rxBallOf s l elastic s.fp

/-- The frame position at lane `l`'s TX ball of a block that leaves the engine now (R46, R247). -/
def txBall (s : State) (l elastic : Nat) : Nat :=
  let e := if s.flag (F.LN_GRP_CFG_mode (l / 8)) then elastic else 0
  fpAdd s.fp (s.get (F.LN_LAT_tx_base l) + e)

/-- The offset of the reference against the FP that a finished exchange gives, in 1/16 tk to the nearest (R40, R45,
R46): half of (t1 − t2) + (t4 − t3), with the master's t1 and t4 in 2^-16 ns and this device's t2 and t3 at the
ball in 1/49,152 ns. -/
def ptpOffset (t1 t4 : Int) (t2 t3 : Nat) : Int :=
  let x := 3 * (t1 + t4) - 4 * ((t2 : Int) + t3)
  (2 * x + 25000) / 50000

/-- The exchange under way is replaced. -/
def setExch (s : State) (x : PtpExch) : State := { s with tb := { s.tb with exch := x } }

/-- A finished exchange gives a measurement of PTP (R47, R54). -/
def ptpMeasure (s : State) (off : Int) : State :=
  if beyondLimit s off then rejected s 1 off secTk
  else
    let s := accepted s 1 off 0 ((off :: s.tb.ptp.offs).take 8)
    if offsAgree s s.tb.ptp.offs && (prioList s).contains 1 then refQualified s 0 else s

/-- A PTP message is received (R45 to R47). Kinds: 0 Sync, 1 Follow_Up, 2 Delay_Resp, 3 Announce, 4 Delay_Req, 5
any other. `time` is the timestamp it carries with its correction, in 2^-16 ns: the Sync's own (of a one-step
Sync, not `twoStep`) or that of its Follow_Up, and the arrival that a Delay_Resp names. `selects` is the outcome of
the best-master selection for an Announce; its first bit crossed the ball at count `ball` and `frac` sixteenths. A
Sync starts an exchange and a Delay_Resp ends it (log entry 134). -/
def ptpMessageRx (s : State) (lane kind domain : Nat) (twoStep : Bool) (time : Int)
    (selects : Bool) (ball frac : Nat) : State :=
  if !ptpOn s || !ptpLane s lane || domain ≠ s.get F.TB_PTP_CFG_domain then s
  else if kind = 4 then
    if ptpMasterLane s lane && s.mode ≠ Mode.standby && s.mode ≠ Mode.load && s.mode ≠ Mode.safe then
      { s with tb := { s.tb with ptpSent := some ⟨lane, 2, fpPack ball, frac⟩ } }
    else s
  else if lane ≠ s.get F.TB_PTP_CFG_slave_lane then s
  else if kind = 3 then { s with tb := { s.tb with master := selects } }
  else if !s.tb.master then s
  else if kind = 0 then setExch s ⟨if twoStep then none else some time, some (ptpTime s ball frac), none⟩
  else if kind = 1 then setExch s { s.tb.exch with t1 := if s.tb.exch.t2.isSome then some time else none }
  else if kind = 2 then
    match s.tb.exch with
    | ⟨some t1, some t2, some t3⟩ => ptpMeasure (setExch s ⟨none, none, none⟩) (ptpOffset t1 time t2 t3)
    | _ => s
  else s

/-- PTP_MESSAGE_RX (R45 to R47, R51 to R54). -/
def execPtpMessageRx (lane kind domain : Nat) (twoStep : Bool) (time : Int) (m : PtpArrival)
    (s : State) : Res :=
  checked (.ptpMessageRx lane kind domain twoStep time m)
    (ptpMessageRx s lane kind domain twoStep time m.selects (rxBall s lane m.elastic) m.frac)

/-- PTP_MESSAGE_SEND (R45, R46): Sync and Announce leave served master lanes, Delay_Req the slave lane, where the
exchange under way keeps its time at the ball; nothing leaves in STANDBY's silent master ports (R385), in LOAD or in
SAFE. The message carries the frame position at which its first bit crosses the TX ball. -/
def execPtpMessageSend (lane : Nat) (m : PtpDue) (s : State) : Res :=
  checked (.ptpMessageSend lane m) <|
    let ok := ptpOn s && s.mode ≠ Mode.load && s.mode ≠ Mode.safe &&
      (if m.kind = 0 || m.kind = 3 then ptpMasterLane s lane && s.mode ≠ Mode.standby
       else m.kind = 4 && lane = s.get F.TB_PTP_CFG_slave_lane && ptpLane s lane && s.tb.master)
    let ball := txBall s lane m.elastic
    if ok then
      let x := if m.kind = 4 && s.tb.exch.t2.isSome then { s.tb.exch with t3 := some (ptpTime s ball m.frac) } else s.tb.exch
      { s with tb := { s.tb with ptpSent := some ⟨lane, m.kind, fpPack ball, m.frac⟩, exch := x } }
    else s

/-- PTP_SYNC_TIMEOUT (R47, R511 reason 1). -/
def execPtpSyncTimeout (s : State) : Res := checked .ptpSyncTimeout (refLost s 0 1)

/-- ANNOUNCE_RECEIPT_TIMEOUT (R47, R511 reason 1): the selected master is gone as well. -/
def execAnnounceReceiptTimeout (s : State) : Res :=
  checked .announceReceiptTimeout (refLost { s with tb := { s.tb with master := false } } 0 1)

/-- PPS_EDGE (R40, R47, R54): an edge on PPS_IN[n] with the offset of its second from the FP in 1/16 tk. A second
that brought an edge and no message breaks the run, and so does one that brought no edge: more than a second and a
half since the last edge (log entry 135). -/
def execPpsEdge (n : Nat) (offset : Int) (s : State) : Res :=
  checked (.ppsEdge n offset) <|
    let r := 2 + n
    if beyondLimit s offset then rejected s r offset (2 * secTk)
    else
      let x := s.tb.ref r
      let gap := x.lastEdge.any (fun t => 3 * secTk < 2 * (s.now - t))
      let run := if x.edgeSeen || gap then 0 else x.run
      let s := accepted s r offset run []
      setRef s r { s.tb.ref r with edgeSeen := true, lastEdge := some s.now }

/-- PPS_EDGE_MISSING (R47, R511 reason 1). -/
def execPpsEdgeMissing (n : Nat) (s : State) : Res :=
  checked (.ppsEdgeMissing n) <|
    let s := setRef s (2 + n) { s.tb.ref (2 + n) with run := 0, edgeSeen := false, lastEdge := none }
    refLost s (1 + n) 1

/-- TOD_MESSAGE_RX (R47): three consecutive seconds with an edge and an agreeing message qualify
the reference, and a message without an edge breaks the run; two consecutive seconds of disagreement raise TB_TOD_MISMATCH and lose it. -/
def execTodMessageRx (n : Nat) (agrees : Bool) (s : State) : Res :=
  checked (.todMessageRx n agrees) <|
    let r := 2 + n
    let x := s.tb.ref r
    if agrees then
      if x.edgeSeen then
        let s := setRef s r { x with run := min 3 (x.run + 1), edgeSeen := false, todBad := 0 }
        if x.run + 1 ≥ 3 && (prioList s).contains r then refQualified s (r - 1) else s
      else setRef s r { x with run := 0, todBad := 0 }
    else
      let s := setRef s r { x with run := 0, edgeSeen := false, todBad := x.todBad + 1 }
      if x.todBad + 1 = 2 then refLost (raise s (968 + r) 7 3 2) (r - 1) 3 else s

/-- The received quality level is at or above the configured minimum, or is not enforced (R47):
of the SSM codes the lower is the better, and 15 is DNU (log entry 12). -/
def qlOk (s : State) (ql : Nat) : Bool :=
  !s.flag F.TB_SYNCE_CFG_ql_enforce || (ql ≤ s.get F.TB_SYNCE_CFG_min_ql && ql ≠ 15)

/-- ESMC_RX (R47, R511 reason 4): a level below the enforced minimum loses the reference, and so does one
that becomes DNU, enforced or not. -/
def esmcRx (s : State) (ql : Nat) : State :=
  let dnu := ql = 15 && s.tb.ql ≠ 15
  let s := { s with tb := { s.tb with ql := ql } }
  if qlOk s ql && !dnu then s else refLost s 3 4

/-- ESMC_RX. -/
def execEsmcRx (ql : Nat) (s : State) : Res := checked (.esmcRx ql) (esmcRx s ql)

/-- SYNCE_QUALIFY_TIMER (R47, R511 reason 5): the lane has held CDR lock for 10 s; `inWindow` says that its
frequency lies within ±4.6 ppm; a qualified reference whose frequency has left the window is lost (log entry
12). CDR lock is a lane state past CDR (R254). -/
def execSyncEQualifyTimer (inWindow : Bool) (s : State) : Res :=
  checked (.syncEQualifyTimer inWindow) <|
    let lane := s.get F.TB_SYNCE_CFG_lane
    if !inWindow then refLost s 3 5
    else if s.flag F.TB_SYNCE_CFG_enable && (prioList s).contains 4 && qlOk s s.tb.ql
      && 5 ≤ s.get (F.LN_STATUS_state lane) then refQualified s 3 else s

/-- WAIT_TO_RESTORE_EXPIRY (R44, R80): a qualified reference replaces one of lower priority that is in use; 1 to 3
name a time reference, 4 synchronous Ethernet, 5 the PLL's better input. -/
def execWaitToRestoreExpiry (which : Nat) (s : State) : Res :=
  checked (.waitToRestoreExpiry which) <|
    if which = 5 then pllTake s (pllBest s)
    else if which = 4 then syncETake (setFreqSrc s)
    else
      let u := s.get F.TB_STATUS_phase_ref
      if u ≠ 0 && ((timeRefs s).takeWhile (· ≠ u)).contains which then s.set F.TB_STATUS_phase_ref which else s

/-! Triggers' next firings (R68, R70, R72). -/

/-- Data word `i` of an entry. -/
def TrgEntry.word (e : TrgEntry) (i : Nat) : Nat := e.data.getD i 0
/-- The first instance as a 64-bit FP. -/
def TrgEntry.fpWord (e : TrgEntry) : Nat := e.word 0 + e.word 1 * 2 ^ 32
/-- The period in tk; 0 is one-shot. -/
def TrgEntry.period (e : TrgEntry) : Nat := e.word 2 + bits (e.word 3) 0 8 * 2 ^ 32
def TrgEntry.enable (e : TrgEntry) : Bool := bitAt (e.word 3) 8
def TrgEntry.actRelease (e : TrgEntry) : Bool := bitAt (e.word 3) 9
def TrgEntry.actPin (e : TrgEntry) : Bool := bitAt (e.word 3) 10
def TrgEntry.actEvent (e : TrgEntry) : Bool := bitAt (e.word 3) 11
def TrgEntry.actCommit (e : TrgEntry) : Bool := bitAt (e.word 3) 12
def TrgEntry.wake (e : TrgEntry) : Bool := bitAt (e.word 3) 13
def TrgEntry.severity (e : TrgEntry) : Nat := bits (e.word 3) 14 3
def TrgEntry.cls (e : TrgEntry) : Nat := bits (e.word 3) 17 6
def TrgEntry.count (e : TrgEntry) : Nat := bits (e.word 3) 23 4 + 1
def TrgEntry.pin (e : TrgEntry) : Nat := bits (e.word 4) 0 7
def TrgEntry.polarity (e : TrgEntry) : Bool := bitAt (e.word 4) 7
def TrgEntry.width (e : TrgEntry) : Nat := bits (e.word 4) 8 24
def TrgEntry.arg (e : TrgEntry) : Nat := e.word 6 + e.word 7 * 2 ^ 32

/-- The entry with its enable bit cleared and nothing pending. -/
def TrgEntry.disabled (e : TrgEntry) : TrgEntry :=
  { data := e.data.set 3 (putBit (e.word 3) 8 false), next := none }

/-- The first instance at or after count `n`, counts taken as unsigned (R10); a one-shot's only instance is its fp. -/
def TrgEntry.firstFrom (e : TrgEntry) (n : Nat) : Option Nat :=
  let f := fpUnpack e.fpWord
  if n ≤ f then some f
  else if e.period = 0 then none
  else some ((f + ceilDiv (n - f) e.period * e.period) % fpSpan)

/-- Trigger `i`'s entry. -/
def State.trg (s : State) (i : Nat) : TrgEntry :=
  (aget s.tb.trgs i).getD ⟨[0, 0, 0, 0, 0, 0, 0, 0], none⟩

/-- Trigger `i`'s entry is replaced. -/
def setTrg (s : State) (i : Nat) (e : TrgEntry) : State :=
  { s with tb := { s.tb with trgs := aset s.tb.trgs i e } }

/-- An enabled entry takes its first firing at or after count `n`; a one-shot whose instant has
passed is disabled and raises TB_TRG_PAST (R70, R72). -/
def armTrg (s : State) (i n : Nat) : State :=
  let e := s.trg i
  if !e.enable then setTrg s i { e with next := none }
  else match e.firstFrom n with
    | some f => setTrg s i { e with next := some f }
    | none => raise (setTrg s i e.disabled) 977 0x21 3 i

/-- At the first LOCKED fp_valid becomes 1 and every enabled entry takes its next firing (R51,
R72). -/
def fpValidSet (s : State) : State :=
  if s.flag F.TB_STATUS_fp_valid then s
  else
    let s := markDirty (s.set F.TB_STATUS_fp_valid 1) (tbLine 0)
    (s.tb.trgs.map Prod.fst).foldl (fun t i => armTrg t i s.fp) s

/-! The oscillator model (R58 to R65). -/

/-- A restored or imported model is compared with the measured correction (R63): y at the present
temperature and time against TB_FREQ_CORR, and beyond 2 ppb it is discarded. -/
def modelCheck (s : State) : State :=
  let s := modelUse s
  let i := s.get F.TB_STATUS_tref_active
  let m := s.model i
  let y := modelY m.words (presentT s) (modelAge s m.words)
  let c := toInt 32 (s.get F.TB_FREQ_CORR_corr)
  let s := if s.tb.tLast.isNone then s.useFree else s
  if !m.unchecked then s
  else if 20000 * yDen.toNat < (y * 10000 - c * yDen).natAbs then
    raise (setModel s i OscModel.empty) 976 0x12 4 (satInt 32 ((yUnits y - c) / 10))
  else setModel s i { m with unchecked := false }

/-- LOCK_TIME_EXPIRY (R50, R51, R56, R63): the lock criteria have held for the lock time, and ACQUIRING
becomes LOCKED. `freqErr` is the magnitude of the frequency error over that time, in ppb. -/
def execLockTimeExpiry (freqErr : Nat) (s : State) : Res :=
  checked (.lockTimeExpiry freqErr) <|
    match s.tb.lockSince with
    | none => s
    | some t =>
      if s.get F.TB_STATUS_state = Tb.acquiring && s.get F.TB_STATUS_phase_ref ≠ 0
          && !phaseBeyond s 1 && freqErr ≤ 1 then
        let s := s.atNow (t + s.get F.TB_LOCK_CFG_lock_time_s * secTk)
        fpValidSet (modelCheck (setTb s Tb.locked))
      else s

/-- LOCK_LOSS_TIMEOUT (R50): the phase error has exceeded four times the lock threshold for 10 s. -/
def execLockLossTimeout (s : State) : Res :=
  checked .lockLossTimeout <|
    match s.tb.offSince with
    | none => s
    | some t =>
      if s.get F.TB_STATUS_state = Tb.locked && phaseBeyond s 4 then
        setTb (s.atNow (t + 10 * secTk)) Tb.acquiring
      else s

/-- LOOP_SECOND_SAMPLE (R57): the mean correction of the second that ends now; seconds without a time
reference are left out. The longest window of R56 and what lies after its end are kept. Parameters outside the ranges
of R56 (te_limit, the step limit, the lock values) act as written, only the averaging window is held to its range; the
rules do not say what such a value does (log entry 112). -/
def execLoopSecondSample (mean : Int) (s : State) : Res :=
  checked (.loopSecondSample mean) <|
    if s.get F.TB_STATUS_phase_ref = 0 then s
    else { s with tb := { s.tb with samples := ((s.now, mean) :: s.tb.samples).take 3700 } }

/-- TE_EST_EVAL (R66): each second of HOLDOVER the bound is evaluated; above te_limit the device
raises TB_TE_LIMIT and enters FREE. -/
def execTeEstEval (s : State) : Res :=
  checked .teEstEval <|
    if s.get F.TB_STATUS_state ≠ Tb.holdover then s
    else
      let s := s.bump F.TB_HOLD_TIME_seconds 1
      let te := satNat 32 (teEst s (s.get F.TB_HOLD_TIME_seconds))
      let s := s.set F.TB_TE_EST_te_est_ns te
      if s.get F.TB_HOLD_CFG_te_limit_ns < te then setTb (raise s 968 8 5 te) Tb.free else s

/-- STEP_ACCEPT (R55): ignored while step_pending = 0. -/
def execStepAccept (s : State) : Res :=
  checked .stepAccept <|
    if s.flag F.TB_STATUS_step_pending then { s with tb := { s.tb with stepAccepted := true } } else s

/-- The model in use learns (R59): the state is LOCKED, BTEMP is valid, and TICK runs from the selected
oscillator. -/
def modelLearns (s : State) : Bool :=
  s.get F.TB_STATUS_state = Tb.locked && s.flag F.TB_BTEMP_valid && s.get F.CLK_TB_STATUS_input ≤ 1

/-- MODEL_SAMPLE (R59): while LOCKED with a valid BTEMP the pair joins its 1 °C bin. -/
def execModelSample (s : State) : Res :=
  checked .modelSample <|
    let s := modelUse s
    if modelLearns s then
      let i := s.get F.TB_STATUS_tref_active
      let m := s.model i
      let b := (toInt 16 (s.get F.TB_BTEMP_temp) / 16 + 64).toNat
      let o := (aget m.bins b).getD (0, 0)
      let bins := aset m.bins b (o.1 + 1, o.2 + toInt 32 (s.get F.TB_FREQ_CORR_corr))
      setModel s i { m with bins := bins, secs := m.secs + 10 }
    else s

/-- The order that a learned span allows (R59). -/
def modelOrder (span : Nat) : Nat :=
  if 12 ≤ span then 3 else if 6 ≤ span then 2 else if 2 ≤ span then 1 else 0

/-- MODEL_REFIT (R59, R64): the fit's coefficients and residual are numbers the rules do not fix to
the bit, so words 1 to 5 and the residual are free values; the order, hours, span and the validity
follow the rules. -/
def execModelRefit (s : State) : Res :=
  checked .modelRefit <|
    let s := modelUse s
    let i := s.get F.TB_STATUS_tref_active
    let m := s.model i
    if !modelLearns s || m.bins = [] then s
    else
      let ord := modelOrder (m.span.2 - m.span.1)
      let fv := fun k => Config.freeValue (s.fresh + k) % 2 ^ 32
      let ws := [1 + i * 256 + ord * 512 + satNat 16 m.hours * 65536,
        fv 0, if 1 ≤ ord then fv 1 else 0, if 2 ≤ ord then fv 2 else 0, if 3 ≤ ord then fv 3 else 0,
        fv 4, fv 5 % 65536 + ofInt 8 ((m.span.1 : Int) - 64) * 65536
          + ofInt 8 ((m.span.2 : Int) - 64) * 2 ^ 24, fv 6, fv 7, 0, 0, 0, 0, 0, 0]
      let now := m.valid || 24 ≤ m.hours
      let s := { s with fresh := s.fresh + 8 }
      let s := setModel s i { m with order := ord, words := ws ++ [crc32c ws], valid := now }
      if now && !m.valid then raise s 976 0x11 3 i else s

/-- The temperature the model is evaluated at (R61): the nearest end of the learned range when T
lies more than 2 °C outside it. -/
def clampT (s : State) (t : Int) : Int :=
  let hi := toInt 8 (s.get F.TB_MODEL_STATUS_t_max) * 16
  let lo := toInt 8 (s.get F.TB_MODEL_STATUS_t_min) * 16
  if hi + 32 < t then hi else if t < lo - 32 then lo else t

/-- The holdover correction in 0.1 ppt at temperature `t` (R58): c_entry less the change of y since entry, both
temperatures held to the learned range (R61), rounded to the nearest unit; c_entry alone when the model is not
valid (R61) or still awaits its check (R63). -/
def holdCorr (s : State) (t : Int) : Int :=
  let m := s.model (s.get F.TB_STATUS_tref_active)
  if !m.usable then s.tb.cEntry
  else
    s.tb.cEntry - yUnits (modelY m.words (clampT s t) (s.get F.TB_HOLD_TIME_seconds)
      - modelY m.words (clampT s s.tb.tEntry) s.tb.tauEntry)

/-- In HOLDOVER from the oscillator the correction is applied at every BTEMP sample (R58, R61), at the last
valid temperature while BTEMP is invalid. -/
def holdoverCorrection (s : State) : State :=
  if s.get F.TB_STATUS_state ≠ Tb.holdover || syncEInUse s then s
  else
    let s := modelUse s
    let t := s.tb.tLast.getD s.tb.tEntry
    let c := clampT s t
    let s := { s with tb := { s.tb with tSeenMin := min s.tb.tSeenMin t, tSeenMax := max s.tb.tSeenMax t } }
    let s := if modelOk s && c ≠ t then
        let s' := s.set F.TB_STATUS_extrap 1
        if s.flag F.TB_STATUS_extrap then s' else raise s' 976 0x13 4 (ofInt 16 t)
      else s.set F.TB_STATUS_extrap 0
    markDirty (s.set F.TB_FREQ_CORR_corr (satInt 32 (holdCorr s t))) (tbLine 0)

/-- A reading of the board sensor in 1/16 °C (R60): format 0 left-aligned 12 bits, format 1 16 bits
of 1/128 °C rounded down. -/
def btempValue (fmt raw : Nat) : Int :=
  if fmt = 0 then toInt 16 raw / 16 else toInt 16 raw / 8

/-- A reading lies within −64 to +127 °C in its own units (R60). -/
def btempIn (fmt raw : Nat) : Bool :=
  if fmt = 0 then -1024 ≤ toInt 16 raw / 16 && toInt 16 raw / 16 ≤ 2032
  else fmt = 1 && -8192 ≤ toInt 16 raw && toInt 16 raw ≤ 16256

/-- BTEMP_READ (R60): four consecutive good reads make BTEMP valid, four failed ones invalid; each sample
applies the holdover correction. A disabled sensor is not read; what BTEMP's validity becomes then is not
stated, and the model leaves it as it was. Nor is it stated whether the formats 2 and 3 make BTEMP invalid at once
(R77): here each read in them counts as failed, so the fourth one does (log entry 96). -/
def execBtempRead (raw : Option Nat) (s : State) : Res :=
  checked (.btempRead raw) <|
    let fmt := s.get F.TB_BTEMP_CFG_format
    let good := match raw with
      | none => none
      | some r => if btempIn fmt r then some (btempValue fmt r) else none
    if !s.flag F.TB_BTEMP_CFG_enable then s
    else match good with
      | some t =>
        let s := { s with tb := { s.tb with btGood := min 4 (s.tb.btGood + 1), btBad := 0 } }
        let s := s.set F.TB_BTEMP_temp (ofInt 16 t)
        let s := if s.tb.btGood = 4 then
          (s.set F.TB_BTEMP_valid 1).set F.TB_STATUS_btemp_ok 1 else s
        let s := if s.flag F.TB_BTEMP_valid then { s with tb := { s.tb with tLast := some t } } else s
        holdoverCorrection s
      | none =>
        let s := { s with tb := { s.tb with btBad := min 4 (s.tb.btBad + 1), btGood := 0 } }
        let s := if s.tb.btBad = 4 && s.flag F.TB_BTEMP_valid then
            let s := { s with tb := { s.tb with btempLost := true } }
            raise ((s.set F.TB_BTEMP_valid 0).set F.TB_STATUS_btemp_ok 0) 975 0x10 4
              (ofInt 16 (s.tb.tLast.getD 0))
          else s
        holdoverCorrection s

/-- A snapshot goes to the ledger queue as an informational entry (R62, R437). -/
def snapEnqueue (s : State) (ws : List Nat) : State :=
  ledEnqueue s ⟨false, s.warm, 0, 0, ⟨s.fpStamp, 0, 0, 0, 0, 0⟩, ws, []⟩

/-- A snapshot that waits for the window gives way to a newer one (R62). -/
def snapDrop (s : State) : State :=
  ledCounts { s with led := { s.led with queue := s.led.queue.filter (fun e => e.payload = []) } }

/-- MODEL_SNAPSHOT (R62). -/
def execModelSnapshot (s : State) : Res :=
  checked .modelSnapshot <|
    let s := modelUse s
    let st := s.get F.TB_STATUS_state
    let m := s.model (s.get F.TB_STATUS_tref_active)
    if (st ≠ Tb.locked && st ≠ Tb.holdover) || !m.valid then s
    else if s.flag F.LED_STATUS_full then s.set F.TB_STATUS_snap_stopped 1
    else if s.flag F.LED_STATUS_window then snapEnqueue s m.words
    else raise (snapEnqueue (snapDrop s) m.words) 976 0x15 2 0

/-- MODEL_EXPORT (R65): the model's words are copied into the window. -/
def execModelExport (idx : Nat) (s : State) : Res :=
  checked (.modelExport idx) <|
    let s := modelRead s idx
    let m := s.model idx
    s.setAll ((List.range 16).map (fun k => (F.TB_MODEL_WIN_word k, m.words.getD k 0)))

/-- The window's words. -/
def modelWin (s : State) : List Nat := (List.range 16).map (fun k => s.get (F.TB_MODEL_WIN_word k))

/-- A model as a snapshot states it (R64). -/
def modelOfWords (ws : List Nat) : OscModel :=
  let w0 := ws.getD 0 0
  let hrs := bits w0 16 16
  let lo := (toInt 8 (bits (ws.getD 6 0) 16 8) + 64).toNat
  let hi := (toInt 8 (bits (ws.getD 6 0) 24 8) + 64).toNat
  ⟨24 ≤ hrs, bits w0 9 2, hrs * 3600,
    if lo = hi then [(lo, (0, 0))] else [(lo, (0, 0)), (hi, (0, 0))], ws, true⟩

/-- Oscillator `i` gets the model of a snapshot (R59, R63): one with 24 h or more is valid, with TB_MODEL_VALID where
the model was not. -/
def modelGiven (s : State) (i : Nat) (ws : List Nat) : State :=
  let m := modelOfWords ws
  let t := setModel s i m
  if m.valid && !(s.model i).valid then raise t 976 0x11 3 i else t

/-- A model of oscillator `idx` is imported from its words (R65): refused in HOLDOVER, on a wrong CRC or format; an
imported model is checked at the next LOCKED, or at once when LOCKED. Two points are the model's, since the rules leave
them open (log entry 113): the oscillator index that the words carry need not be that of the request, and of several
refusal reasons the CRC is reported first, then the format, then the state. -/
def modelImportWords (s : State) (idx : Nat) (ws : List Nat) : State :=
  if ws.getD 15 0 ≠ crc32c (ws.take 15) then raise s 976 0x14 3 1
  else if bits (ws.getD 0 0) 0 8 ≠ 1 then raise s 976 0x14 3 2
  else if s.get F.TB_STATUS_state = Tb.holdover then raise s 976 0x14 3 3
  else
    let s := modelGiven s idx ws
    if s.get F.TB_STATUS_state = Tb.locked && s.get F.TB_STATUS_tref_active = idx then modelCheck s else s

/-- MODEL_IMPORT (R65): the words of the window. -/
def execModelImport (idx : Nat) (s : State) : Res :=
  checked (.modelImport idx) (modelImportWords s idx (modelWin s))

/-- MODEL_DISCARD (R65). -/
def execModelDiscard (idx : Nat) (s : State) : Res :=
  checked (.modelDiscard idx) (setModel s idx OscModel.empty)

/-- The number of a requester's register copies (R510): 0 keeper, 1 register port, 2 management
port. -/
def reqNum : Requester → Nat
  | .keeper => 0
  | .regPort => 1
  | .mgmt => 2

/-- FP_CAPTURE (R43, R510): the reader's own TB_FP_HI takes the FP of this tick and its TB_FP_FRAC
takes 0. -/
def execFpCapture (who : Requester) (s : State) : Res :=
  checked (.fpCapture who) <|
    (s.set (F.TB_FP_HI_fp_hi.copy (reqNum who)) (fpPack s.fp / 2 ^ 32)).set
      (F.TB_FP_FRAC_frac.copy (reqNum who)) 0

/-! The outputs (R73, R75). -/

/-- The next count from `n` on that is `o` short of a multiple of `m`; counts start again at 0 when the epoch
wraps (R10). -/
def nextMult (n o m : Nat) : Nat :=
  let c := n + (m - (n + o) % m) % m
  if c < fpSpan then c else (m - o % m) % m

/-- PPS_OUT_PULSE (R73): at the next second boundary while fp_valid = 1 and enabled, in FREE only with
free_en; low in LOAD, SAFE and STANDBY (R345, R93, R385). The clock moves to the edge, which comes comp_ns
before the boundary, and the pulse lasts width_us. -/
def execPpsOutPulse (s : State) : Res :=
  checked .ppsOutPulse <|
    if !timeQuiet s && s.flag F.TB_PPS_CFG_pps_en
      && (s.get F.TB_STATUS_state ≠ Tb.free || s.flag F.TB_PPS_CFG_free_en) then
      let c := nsToTk (toInt 16 (s.get F.TB_PPS_CFG_comp_ns))
      let n := nextMult (fpShift s.fp c) (s.get F.TB_EPOCH_TK_o) secTk
      let s := s.atFp (fpShift n (-c))
      { s with tb := { s.tb with
        ppsEdge := some (n, s.now), todDue := true
        ppsUntil := some (s.now + usToTk (max 1 (s.get F.TB_PPS_CFG_width_us))) } }
    else s

/-- TOD_OUT's clock status (R73): 0 locked, 1 holdover in specification, 2 free-running. -/
def todStatus (s : State) : Nat :=
  let st := s.get F.TB_STATUS_state
  if st = Tb.locked then 0 else if st = Tb.free then 2 else 1

/-- TOD_OUT_SEND (R73): 1 ms after an edge of PPS_OUT, once for each, the message leaves that names the edge
and carries the clock status. -/
def execTodOutSend (s : State) : Res :=
  checked .todOutSend <|
    match s.tb.ppsEdge with
    | none => s
    | some (n, t) =>
      if s.tb.todDue && s.flag F.TB_PPS_CFG_tod_out_en && !timeQuiet s then
        let s := s.atNow (t + 983040)
        { s with tb := { s.tb with todSent := some (fpPack n * 4 + todStatus s), todDue := false } }
      else s

/-- SYSREF_ARM (R75): outputs in gapped mode are armed. -/
def execSysrefArm (mask : Nat) (s : State) : Res :=
  checked (.sysrefArm mask) <|
    let on := (List.range 4).filter (fun k => bitAt mask k && s.get (F.TB_SYSREF_CFG_mode k) = 2)
    { s with tb := { s.tb with sysrefArmed := on.foldl (fun l k => nins k l) s.tb.sysrefArmed } }

/-- SYSREF_GAPPED_START (R75): at the next frame boundary an armed output starts gap_count pulses. -/
def execSysrefGappedStart (k : Nat) (s : State) : Res :=
  checked (.sysrefGappedStart k) <|
    if s.tb.sysrefArmed.contains k && !timeQuiet s then
      let s := s.atFp (nextMult s.fp 0 frameTk)
      let g := s.get (F.TB_SYSREF_DLY_gap_count k)
      { s with tb := { s.tb with
        sysrefArmed := ndel s.tb.sysrefArmed k,
        sysrefBurst := aset s.tb.sysrefBurst k (s.fp, if g = 0 then 16 else g) } }
    else s

/-- SYSREF_OUT[k]'s pulses at count `n` without the fine delay (R75): a pulse is high for period / 2 ticks;
in continuous mode an edge comes at every tick congruent to the coarse delay, in gapped mode the pulses of a
burst follow the frame boundary it started at by that delay; R75 names the boundary only, and that the delay holds
there too is the model's choice (log entry 136). -/
def sysrefPulse (s : State) (k n : Nat) : Bool :=
  let per := s.get (F.TB_SYSREF_CFG_period_tk k)
  let d := s.get (F.TB_SYSREF_DLY_coarse_tk k)
  let mode := s.get (F.TB_SYSREF_CFG_mode k)
  if per = 0 then false
  else if mode = 1 then (n + frameTk - d % per) % per < per / 2
  else if mode = 2 then
    match aget s.tb.sysrefBurst k with
    | none => false
    | some (b, g) => b + d ≤ n && (n - (b + d)) / per < g && (n - (b + d)) % per < per / 2
  else false

/-- The level of SYSREF_OUT[k] in sixteenth `frac` of the present tick (R51, R75, R93): the fine delay moves
its edges by that many sixteenths. -/
def sysrefHigh (s : State) (k frac : Nat) : Bool :=
  !timeQuiet s &&
    sysrefPulse s k (if frac < s.get (F.TB_SYSREF_DLY_fine k) then fpShift s.fp (-1) else s.fp)

end Sys2Proof.Machine
end

