-- ==== Sys2Proof/Machine/Gates.lean ====
section
/-! DEFINITION. Lanes leaving UP (R257), gates (R95 to R98, R138), and the returns from DOZE and
DORMANT (R398, R401): the operations the scheduler, the lanes and the modes share. -/

namespace Sys2Proof.Machine

/-! Lanes. -/

/-- The codes of LN_STATUS.state (R254). -/
def Ln.disabled : Nat := 0
def Ln.idle : Nat := 1
def Ln.sigDetect : Nat := 2
def Ln.eqSelect : Nat := 3
def Ln.cdrLock : Nat := 4
def Ln.polarity : Nat := 5
def Ln.blockLock : Nat := 6
def Ln.laneOrder : Nat := 7
def Ln.deskew : Nat := 8
def Ln.off : Nat := 10


/-- Lane `l` is enabled with a protocol (R254). -/
def laneEnabled (s : State) (l : Nat) : Bool :=
  s.flag (F.LN_CTRL_enable l) && s.get (F.LN_CFG_proto l) != 0

/-- A lane's record. -/
def State.laneRun (s : State) (l : Nat) : LaneRun :=
  (aget s.lanes.lanes l).getD ⟨false, true, 8, false, none, none, 0, 0, [], none, 0, 0, 0, none, none, 0, 0, 0, []⟩

/-- A lane's record is replaced. -/
def setLaneRun (s : State) (l : Nat) (r : LaneRun) : State :=
  { s with lanes := { s.lanes with lanes := aset s.lanes.lanes l r } }

/-- A lane's receiver is in state `st` from now on (R254). -/
def laneState (s : State) (l st : Nat) : State :=
  setLaneRun (s.set (F.LN_STATUS_state l) st) l { s.laneRun l with since := s.now }

/-- Lane `l` leaves its state for `st` with the cause of R257: only a lane that was UP raises
LN_LINK_DOWN and counts. The synchronous Ethernet lane that loses CDR lock loses its reference with
reason 6 (R47, R511). -/
def laneLeave (s : State) (l cause st : Nat) : State :=
  let was := s.lane l
  let s := laneState s l st
  let s := setLaneRun s l { s.laneRun l with failed := false, rxQ := [] }
  let s := if was = Ln.up then
      let g := l / 8
      let s := s.set (F.LN_STATUS_link_up l) 0
      let s := s.set (F.LN_GRP_STATUS_up g) (putBit (s.get (F.LN_GRP_STATUS_up g)) (l % 8) false)
      let s := (s.bump (F.LN_LINKDOWN_CNT_count l) 1).set (F.LN_LINKDOWN_CNT_last_cause l) cause
      raise s (4 * l) 2 4 cause
    else s
  if l = s.get F.TB_SYNCE_CFG_lane && 5 ≤ was && was ≤ 9 && (st < 5 || st = 10) then refLost s 3 6
  else s

/-- The lanes of group `g`. -/
def groupLanes (g : Nat) : List Nat := (List.range 8).map (fun k => 8 * g + k)

/-- Every enabled lane of group `g` leaves for `st`. -/
def groupLeave (s : State) (g cause st : Nat) : State :=
  (groupLanes g).foldl (fun t l => if laneEnabled t l then laneLeave t l cause st else t) s

/-- The lanes of group `g` go to OFF (R257 cause 11, R262). -/
def groupLanesOff (s : State) (g : Nat) : State := groupLeave s g 11 Ln.off

/-- The lanes of group `g` that are OFF begin bring-up at IDLE (R262), which is over at once when the group PLL has
locked (R254). -/
def groupLanesOn (s : State) (g : Nat) : State :=
  let st := if s.flag (F.LN_GRP_STATUS_pll_lock g) then Ln.sigDetect else Ln.idle
  (groupLanes g).foldl (fun t l => if t.lane l = Ln.off then laneState t l st else t) s

/-- Lane `l`'s transmitter is in electrical idle (R258, R93). -/
def txIdle (s : State) (l : Nat) : Bool :=
  s.lane l ≤ Ln.idle || s.lane l = Ln.off || s.mode = Mode.load || s.mode = Mode.safe

/-! Bins. -/

/-- The kinds of FAB_BIN_STATUS (R130). -/
def Kind.static : Nat := 1
def Kind.scheduled : Nat := 2
def Kind.spare : Nat := 3

/-- The kind of physical bin `p`. -/
def binKind (s : State) (p : Nat) : Nat := s.get (F.FAB_BIN_STATUS_kind p)

/-- The record of physical bin `p`. -/
def State.bin (s : State) (p : Nat) : BinRun :=
  (aget s.bins p).getD
    ⟨none, 0, none, 0, 0, [], [], [], 0, none, [], 0, none, none, none, none, 0, 0, none, false, false, false, none, none,
      [], BinFab.zero⟩

/-- A bin's record is replaced. -/
def setBin (s : State) (p : Nat) (b : BinRun) : State := { s with bins := aset s.bins p b }

/-- The settings of image `id` (R118, R131). -/
def imageElems (s : State) (id : Nat) : List FabElem :=
  (s.cfg.elems.filter (fun e => e.1 / 32 = id)).flatMap (fun e => e.2)

/-- The settings that context `c` of physical bin `p` holds (R131, R132). -/
def ctxElems (s : State) (p c : Nat) : List FabElem :=
  match aget s.cfg.mem (8 * p + c) with
  | some id => imageElems s id
  | none => []

/-- The bin's registers take the initial values of context `c`, and what its port shows of the past is cleared
(R102, R128, R134, R154). -/
def loadInitial (s : State) (p c : Nat) : State :=
  setBin s p { s.bin p with fab := fabInit (ctxElems s p c), lines := [], line := 0, rdBeat := none }

/-- The codes of BIN_SEQ_STATUS.state (R137). The register holds SELECT for an item from its item
tick 1; a read shows SELECT, LOAD or RUN by the ticks that have passed. -/
def Seq.idle : Nat := 0
def Seq.select : Nat := 1
def Seq.run : Nat := 3
def Seq.ending : Nat := 4
def Seq.kill : Nat := 5
def Seq.off : Nat := 6

/-- The stored state of a bin's sequencer. -/
def State.seqSt (s : State) (p : Nat) : Nat := s.get (F.BIN_SEQ_STATUS_state p)

/-- No item runs and the bin is not OFF. -/
def binIdle (s : State) (p : Nat) : Bool :=
  s.seqSt p = Seq.idle || s.seqSt p = Seq.kill

/-- The state of slot `k` of bin `p` (R143): 0 FREE, 1 FILLING, 2 READY, 3 ACTIVE, 4 DRAINING. -/
def slotSt (s : State) (p k : Nat) : Nat :=
  s.get (if k = 0 then F.BIN_SEQ_STATUS_slot0 p else F.BIN_SEQ_STATUS_slot1 p)

/-- Slot `k` takes a state. -/
def setSlot (s : State) (p k st : Nat) : State :=
  s.set (if k = 0 then F.BIN_SEQ_STATUS_slot0 p else F.BIN_SEQ_STATUS_slot1 p) st

/-- The shelf of a physical bin. -/
def shelfOf (p : Nat) : Nat := if p < 132 then 0 else 1

/-- The requests of bin `p`'s FREE slots begin at the present tick (R171). -/
def askAgain (s : State) (p : Nat) : State := setBin s p { s.bin p with free0 := s.now, free1 := s.now }

/-- A static bin runs (R131, R137): it is not in reset, and its present context, start_ctx after a load or a reset,
holds an image. One without an image cannot be entered, and the bin stays IDLE (log entry 140). -/
def staticUp (s : State) (p : Nat) : Bool :=
  binKind s p = Kind.static && !(s.bin p).rst
    && (s.get (F.BIN_CTX_CFG_ctx_loaded p)).testBit (s.get (F.BIN_SEQ_STATUS_ctx p))

/-- The state a bin takes when nothing keeps it OFF (R137): a static bin runs, any other is IDLE. -/
def binAwake (s : State) (p : Nat) : State :=
  if s.flag (F.FAB_BIN_STATUS_held p) || (s.mode = Mode.dormant && !s.modes.shelvesUp) then s
  else if !s.flag (F.CLK_GATE_EN_open p) then s
  else if s.seqSt p ≠ Seq.off then s
  else (askAgain s p).set (F.BIN_SEQ_STATUS_state p)
    (if staticUp s p then Seq.run else Seq.idle)

/-! Gates. -/

/-- Lane group `g` is named by a shed entry that is in force (R226). -/
def groupShed (s : State) (g : Nat) : Bool :=
  (s.shedThm ++ s.shedCov).any (fun i => s.get (F.THM_SHE_kind i) = 2 && s.get (F.THM_SHE_id i) = g)

/-- Whether gate `g` should be open in the present mode (R95, R226). For LOAD and SAFE R95 names the gates of the
shelves, the Loft and the lane groups only; that those of the packet engines, the DMA channels and the auxiliary
PLLs are closed there too is the model's choice (log entry 137). -/
def gateWant (s : State) (g : Nat) : Bool :=
  let m := s.mode
  if m = Mode.load then 280 ≤ g && g ≤ 311
  else if m = Mode.safe then false
  else if 264 ≤ g && g ≤ 279 && groupShed s (g - 264) then false
  else if m = Mode.doze then s.flag (F.CLK_GATE_EN_sleep_en g) || (g = 279 && twPaired s)
  else if m = Mode.dormant && !s.modes.shelvesUp then
    if g ≤ 263 then false
    else if 280 ≤ g && g ≤ 311 then
      s.flag (F.CLK_GATE_EN_deep_en g) && s.get (F.LFT_GRP_STATUS_power (g - 280)) = 1
    else s.flag (F.CLK_GATE_EN_deep_en g)
  else s.flag (F.CLK_GATE_EN_run_en g)

/-- A scheduled bin's gate may be asked to close (R138). -/
def binCloseOk (s : State) (p : Nat) : Bool :=
  binIdle s p && (slotSt s p 0 != 1 && slotSt s p 0 != 2) && (slotSt s p 1 != 1 && slotSt s p 1 != 2)

/-- A DMA channel halts (R326). -/
def dmaHalt (s : State) (c cause addr : Nat) : State :=
  let s := s.setLoft { s.loft with dma := adel s.loft.dma c }
  let s := s.setAll [(F.LFT_DMA_STATUS_busy c, 0), (F.LFT_DMA_STATUS_halted c, 1),
    (F.LFT_DMA_STATUS_cause c, cause), (F.LFT_DMA_FAIL_ADDR_addr c, addr)]
  raise s 1016 0x13 4 (c + cause * 64)

/-- A reset of a part of the device begins: 0, 1 the shelves, 16 + g a lane group, 64 + p a bin (R405). -/
def rstBegin (s : State) (k : Nat) : State :=
  { s with modes := { s.modes with rstAt := aset s.modes.rstAt k s.now } }

/-- The reset of part `k` has lasted `d` ticks at least (R405). -/
def rstHeld (s : State) (k d : Nat) : State :=
  match aget s.modes.rstAt k with
  | some t => s.atNow (t + d)
  | none => s

/-- Every running transfer is cut short with cause 2 at its present unit (R97, R326, R327). -/
def dmaCut (s : State) : State :=
  s.loft.dma.foldl (fun t d =>
    dmaHalt t d.1 2 (d.2.src + (if d.2.srcTray then 512 else 64) * t.get (F.LFT_DMA_UNITS_DONE_units d.1))) s

/-- Gate `g` is closed (R97): a bin goes OFF, a lane group's lanes stop. -/
def closeGate (s : State) (g : Nat) : State :=
  let s := { s with clk := { s.clk with closing := ndel s.clk.closing g } }
  let s := s.set (F.CLK_GATE_EN_open g) 0
  if g ≤ 263 then s.set (F.BIN_SEQ_STATUS_state g) Seq.off
  else if g ≤ 279 then groupLanesOff s (g - 264)
  else if g ≤ 311 then s.set (F.LFT_GRP_STATUS_gated (g - 280)) 1
  else s

/-- Gate `g` is opened (R95). -/
def openGate (s : State) (g : Nat) : State :=
  let s := { s with clk := { s.clk with closing := ndel s.clk.closing g } }
  if s.flag (F.CLK_GATE_EN_open g) then s
  else
    let s := s.set (F.CLK_GATE_EN_open g) 1
    if g ≤ 263 then binAwake s g
    else if g ≤ 279 then groupLanesOn s (g - 264)
    else if g ≤ 311 then s.set (F.LFT_GRP_STATUS_gated (g - 280)) 0
    else s

/-- Gate `g` is asked to close (R97, R138): a scheduled bin's gate closes at once when the bin meets
R138 and waits otherwise; any other gate waits for its bus-idle indication. -/
def askClose (s : State) (g : Nat) : State :=
  if !s.flag (F.CLK_GATE_EN_open g) then s
  else if g ≤ 263 && binKind s g != Kind.static && binCloseOk s g then closeGate s g
  else { s with clk := { s.clk with closing := nins g s.clk.closing } }

/-- A bin's gate that waits to close does so once the bin meets R138. -/
def gateRecheck (s : State) (p : Nat) : State :=
  if s.clk.closing.contains p && binKind s p != Kind.static && binCloseOk s p then closeGate s p
  else s

/-- Gate `g` moves to the enable of the present mode (R95). -/
def gateFollow (s : State) (g : Nat) : State := if gateWant s g then openGate s g else askClose s g

/-- Every gate moves to the enable of the present mode (R95). -/
def gatesFollow (s : State) : State := (List.range 321).foldl gateFollow s

/-- The requests queued at the banks of group `g`, in bank order. -/
def groupReqs (s : State) (g : Nat) : List QReq :=
  (List.range 32).flatMap (fun k => (s.bankQ (32 * g + k)).stream ++ (s.bankQ (32 * g + k)).gen)

/-- The oldest of some requests; of several of one tick the first in the list. -/
def oldestReq : List QReq → Option QReq
  | [] => none
  | q :: t => match oldestReq t with
    | none => some q
    | some r => if q.at' ≤ r.at' then some q else some r

/-- Outstanding accesses of the block behind gate `g` complete with an error response (R97, R306,
R326). -/
def terminateAll (s : State) (g : Nat) : State :=
  if 280 ≤ g && g ≤ 311 then
    let h := g - 280
    let s := (groupReqs s h).foldl
      (fun t q => t.setLoft { t.loft with last := some ⟨q.req.owner, 1, 0⟩ }) s
    (List.range 32).foldl (fun t k => setBankQ t (32 * h + k) ⟨[], [], 0, (t.bankQ (32 * h + k)).next⟩) s
  else if g = 316 then
    dmaCut s
  else s

/-- Every gate that the mode does not keep open is closed at once, and the outstanding accesses of its block complete
with an error response (R94, R403). -/
def gatesForce (s : State) : State :=
  (List.range 321).foldl
    (fun t g => if gateWant t g then openGate t g
      else if t.flag (F.CLK_GATE_EN_open g) then closeGate (terminateAll t g) g else t) s

/-- Entry to SAFE closes the gates at once (R94, R95, R403). -/
def toSafe (s : State) (thermal : Bool) : State := gatesForce (enterSafe s thermal)

/-- A slot is released to FREE (R142): its valid bits are cleared. Its request begins, and with a slot that was FILLING
or READY that of the other (R171). -/
def slotFree (s : State) (p k : Nat) : State :=
  let base := (2 * p + k) * 1024
  let s := { s with trayValid := s.trayValid.filter (fun n => n / 1024 != 2 * p + k) }
  let s := { s with trays := s.trays.erase (fun a => a / 65536 = base / 1024) }
  let b := s.bin p
  let both := slotSt s p k = 1 || slotSt s p k = 2
  let b := { b with free0 := if both || k = 0 then s.now else b.free0, free1 := if both || k = 1 then s.now else b.free1 }
  gateRecheck (setSlot (setBin s p b) p k 0) p

/-- An Ethernet lane. -/
def isEthernet (s : State) (l : Nat) : Bool :=
  1 ≤ s.get (F.LN_CFG_proto l) && s.get (F.LN_CFG_proto l) ≤ 5

/-- The lanes of the port that lane `l` lies in (R237, R256): twin and single-lane protocols are
ports of one lane. -/
def portLanes (s : State) (l : Nat) : List Nat :=
  let p := s.get (F.LN_CFG_proto l)
  if p = 4 || p = 5 || p = 6 then
    let a := s.get (F.LN_PORT_first l)
    (List.range (s.get (F.LN_PORT_width_m1 l) + 1)).map (fun k => a + k)
  else [l]

/-- The lowest lane of the port that lane `l` lies in, by which the port is known (R268). -/
def lowLane (s : State) (l : Nat) : Nat := (portLanes s l).getD 0 l

/-! Returns to the run mode. -/

/-- The wake event and its time (R398, R401, R420). -/
def wakeEvent (s : State) (cause us : Nat) : State := raise s 1021 0x49 2 (cause + us % 65536 * 65536)

/-- The prior run mode (R397). -/
def priorMode (s : State) : Nat := if s.flag F.RST_MODE_prior then Mode.standby else Mode.active

/-- DOZE ends with a return to the prior run mode (R398). -/
def dozeEnd (s : State) (cause : Nat) : State :=
  wakeEvent (gatesFollow (setMode s (priorMode s))) cause 0

/-- A Loft group begins its wake (R312): every valid bit of a group that was OFF is cleared. -/
def groupWake (s : State) (g : Nat) : State :=
  let p := s.get (F.LFT_GRP_STATUS_power g)
  if (p = 0 || p = 2) && !s.modes.deadDies.contains 3 then s.set (F.LFT_GRP_STATUS_power g) 3 else s

/-- DORMANT begins to end (R401): the Loft groups start their wake. -/
def dormantWake (s : State) (cause : Nat) : State :=
  if s.modes.waking.isSome then s
  else
    let s := s.set F.RST_MODE_REQ_STATUS_busy 1
    let s := { s with modes := { s.modes with waking := some (cause, s.now), shelvesUp := false } }
    (List.range 32).foldl groupWake s

/-- The causes that end DORMANT are looked for: in DORMANT and during its entry (R401, R402). -/
def dormantSoon (s : State) : Bool := s.mode = Mode.dormant || s.flag F.RST_MODE_entering

/-- A wake cause (R398, R401, R402): 1 request, 2 trigger, 3 item, 4 lane up, 5 frame. During
DORMANT entry a cause that ends DORMANT is held. -/
def wake (s : State) (cause : Nat) : State :=
  if s.flag F.RST_MODE_entering then
    if s.modes.heldWake.isSome || cause = 3 then s
    else { s with modes := { s.modes with heldWake := some cause } }
  else if s.mode = Mode.doze && cause ≤ 3 then dozeEnd s cause
  else if s.mode = Mode.dormant && cause ≠ 3 then dormantWake s cause
  else s

end Sys2Proof.Machine
end

