-- ==== Sys2Proof/Machine/Requesters.lean ====
section
/-! DEFINITION. The requesters of registers (R407, R482, R486, R487, R489): the blocks of the map, when each requester
can ask, and the register port's rights. -/

namespace Sys2Proof.Machine

/-- The blocks of the map in order, first and last address. -/
def blocks : List (Nat × Nat) := [
  (0x000000, 0x00FFFF), (0x010000, 0x01FFFF), (0x020000, 0x02FFFF), (0x030000, 0x03FFFF),
  (0x040000, 0x04FFFF), (0x050000, 0x05FFFF), (0x100000, 0x1203FF), (0x200000, 0x20FFFF),
  (0x300000, 0x30FFFF), (0x400000, 0x4A0AFF), (0x500000, 0x50FFFF), (0x600000, 0x60FFFF),
  (0x700000, 0x70FFFF), (0x800000, 0x813FFF), (0x900000, 0x950FFF)]

/-- The number of the block that holds address `a`, none outside every block. -/
def blockOf (a : Nat) : Option Nat := blocks.findIdx? (fun b => b.1 ≤ a && a ≤ b.2)

/-- The right that EV_RP_PERM gives the port at `a` (R487): 0 none, 1 read, 2 and 3 read and write. -/
def portRight (s : State) (a : Nat) : Option Nat :=
  (blockOf a).map (fun b => bits (s.get F.EV_RP_PERM_perm) (2 * b) 2)

/-- The management port answers frames: it is not held by WARM or by a reset of the device (R407, R482). -/
def mgmtUp (s : State) : Bool := !s.warm && !s.modes.por && s.pins.porstN

/-- The keeper runs: neither WARM nor a reset of the device holds it (R405, R407). -/
def keeperUp (s : State) : Bool := !s.warm && !s.modes.por && s.pins.porstN

/-- The register port's bin sends requests: the port is enabled and its static bin runs (R486). -/
def regPortUp (s : State) : Bool :=
  let p := s.get (F.FAB_MAP_physical (s.get F.EV_RP_CFG_reg_bin))
  s.flag F.EV_RP_CFG_enable && !s.modes.por && binKind s p = Kind.static && s.seqSt p = Seq.run && !(s.bin p).rst
    && !s.flag (F.FAB_BIN_STATUS_held p)

/-- The requester can make an access to the register at `a` that needs right `need` (1 read, 2 write): it is not held
in reset, and the register port has the right (R407, R482, R486, R487). -/
def mayAsk (s : State) (who : Requester) (a need : Nat) : Bool :=
  match who with
  | .keeper => keeperUp s
  | .mgmt => mgmtUp s
  | .regPort => regPortUp s && (portRight s a).any (fun r => need ≤ r)

/-- An access by a requester: `f` is what it does. One held in reset makes none; a request of the register port beyond
its right has no effect and is counted (R487). -/
def asked (s : State) (who : Requester) (a need : Nat) (f : State → State) : State :=
  if mayAsk s who a need then f s
  else if who = .regPort && regPortUp s && (portRight s a).isSome then s.bump F.EV_RP_CNT_denied 1
  else s

end Sys2Proof.Machine
end

