-- ==== Sys2Proof/Machine/Sched.lean ====
section
/-! DEFINITION. The ready store and the order of its items: creation checks, sequence windows,
policing, late items, reissue (R158 to R182). -/

namespace Sys2Proof.Machine

/-! Classes and pools. -/

/-- The class's mode is DEADLINE (R158). -/
def isDeadline (s : State) (k : Nat) : Bool := !s.flag (F.SCH_CLASS_CFG_mode k)

/-- The class's late policy is DROP. -/
def isDrop (s : State) (k : Nat) : Bool := s.flag (F.SCH_CLASS_CFG_late k)

/-- The pool of a class. -/
def classPool (s : State) (k : Nat) : Nat := s.get (F.SCH_CLASS_CFG_pool k)

/-- The relative deadline D of a class. -/
def classD (s : State) (k : Nat) : Nat := s.get (F.SCH_CLASS_DEADLINE_d_tk k)

/-- The budget C of a class. -/
def classC (s : State) (k : Nat) : Nat := s.get (F.SCH_CLASS_BUDGET_c_tk k)

/-- Class `k` is named by a shed entry of `l`. -/
def shedNames (s : State) (l : List Nat) (k : Nat) : Bool :=
  l.any (fun i => s.get (F.THM_SHE_kind i) = 1 && s.get (F.THM_SHE_id i) = k)

/-- Class `k` is shed for any cause (R226, R358, R458). -/
def classShed (s : State) (k : Nat) : Bool :=
  shedNames s (s.shedThm ++ s.shedCov) k || s.cfg.failShed.contains k

/-- A pool holds logical bin `l` (R159). -/
def poolHas (s : State) (pool l : Nat) : Bool := bitAt (s.get (F.SCH_POOL_BINS_bins pool (l / 32))) (l % 32)

/-- The logical bins of a pool, ascending. -/
def poolBins (s : State) (pool : Nat) : List Nat := (List.range 256).filter (poolHas s pool)

/-- The physical bin of a logical bin (R117). -/
def physOf (s : State) (l : Nat) : Nat := s.get (F.FAB_MAP_physical l)

/-- The logical bin of a physical bin, 0x1FF for none. -/
def logOf (s : State) (p : Nat) : Nat := s.get (F.FAB_BIN_STATUS_logical p)

/-- The pool of a physical bin, 0x3F for none. -/
def poolOf (s : State) (p : Nat) : Nat := s.get (F.FAB_BIN_STATUS_pool p)

/-- A bin that counts as usable in its pool (R181): not retired, not out of dispatch and not being
substituted. -/
def binUsable (s : State) (p : Nat) : Bool :=
  !s.flag (F.FAB_BIN_STATUS_retired p) && !(s.bin p).outDisp && !(s.bin p).subst
    && binKind s p = Kind.scheduled

/-- The owner ID of a bin's hatch port and of its fills (R149): a static bin's own logical number,
else the lowest logical bin of its pool. -/
def binOwner (s : State) (p : Nat) : Nat :=
  if binKind s p = Kind.scheduled then
    ((poolBins s (poolOf s p)).head?).getD (logOf s p)
  else logOf s p

/-! The ready store (R168). -/

/-- The spawn records that wait to be handed on, in their HOLD entries (R147, R172). -/
def handed (s : State) : List HandOn := s.bins.flatMap (fun b => b.2.hand)

/-- Entries held from class `k`'s reservation, those of records that wait to be handed on among them. -/
def usedRes (s : State) (k : Nat) : Nat :=
  s.sch.items.foldl (fun n i => n + ofBool (i.entry = k) + (if i.cls = k then i.holdRes else 0)) 0
    + ((handed s).filter (fun h => h.entry = k)).length

/-- Shared entries held. -/
def usedShared (s : State) : Nat :=
  s.sch.items.foldl (fun n i => n + ofBool (i.entry = 64) + i.holdSh) 0
    + ((handed s).filter (fun h => h.entry = 64)).length

/-- Free entries of class `k`'s reservation. -/
def freeRes (s : State) (k : Nat) : Nat := s.get (F.SCH_CLASS_RES_res k) - usedRes s k

/-- Free shared entries (SCH_STATUS.shared_free). -/
def freeShared (s : State) : Nat := s.get F.SCH_SHARED_shared_size - usedShared s

/-- The entry a new item takes: its class, 64 for the shared part, none when no suitable one is
free (R168). Excess items take only from the shared part. -/
def takeEntry (s : State) (k : Nat) (excess : Bool) : Option Nat :=
  if !excess && 0 < freeRes s k then some k
  else if 0 < freeShared s then some 64
  else none

/-- The store's items are replaced. -/
def setItems (s : State) (l : List Item) : State := { s with sch := { s.sch with items := l } }

/-- The item of number `n`. -/
def findItem (s : State) (n : Nat) : Option Item := s.sch.items.find? (fun i => i.id = n)

/-- An item is replaced. -/
def setItem (s : State) (x : Item) : State :=
  setItems s (s.sch.items.map (fun i => if i.id = x.id then x else i))

/-- An item leaves the store; its entry and HOLD entries are free. -/
def dropItemEntry (s : State) (n : Nat) : State := setItems s (s.sch.items.filter (fun i => i.id != n))

/-- A conforming item of a DEADLINE class (R166, R167). -/
def conforming (s : State) (i : Item) : Bool := isDeadline s i.cls && !i.excess

/-! Sequence window and policing (R165, R166). -/

/-- What the sequence window answers. -/
inductive WinAns where
  | accept | dup | old
  deriving DecidableEq, Repr

/-- The window's map of class `k`. -/
def winMap (s : State) (k : Nat) : Nat := (aget s.sch.win k).getD 0

/-- The judgement of sequence `q` (R165). -/
def winJudge (s : State) (k q : Nat) : WinAns :=
  if s.flag (F.SCH_CLASS_STATE_win_empty k) then .accept
  else
    let d := (s.get (F.SCH_CLASS_WIN_TOP_h k) + 2 ^ 32 - q) % 2 ^ 32
    if d < 1024 then (if bitAt (winMap s k) d then .dup else .accept)
    else if d < 2 ^ 31 then .old
    else .accept

/-- The window after sequence `q` is accepted (R165). Bit d of the map stands for h − d. -/
def winAccept (s : State) (k q : Nat) : State :=
  let put := fun (t : State) (h m : Nat) =>
    let t := { t with sch := { t.sch with win := aset t.sch.win k (m % 2 ^ 1024) } }
    let t := (List.range 3).foldl (fun u i => markDirty u (classLine k i)) t
    (t.set (F.SCH_CLASS_WIN_TOP_h k) h).set (F.SCH_CLASS_STATE_win_empty k) 0
  if s.flag (F.SCH_CLASS_STATE_win_empty k) then put s q 1
  else
    let h := s.get (F.SCH_CLASS_WIN_TOP_h k)
    let d := (h + 2 ^ 32 - q) % 2 ^ 32
    if d < 1024 then put s h (putBit (winMap s k) d true)
    else
      let up := (q + 2 ^ 32 - h) % 2 ^ 32
      put s q (if up < 1024 then winMap s k * 2 ^ up + 1 else 1)

/-- The release at count `r` conforms to class `k`'s pattern (R166). -/
def polices (s : State) (k r : Nat) : Bool :=
  if !isDeadline s k then true
  else match aget s.sch.police k with
    | none => true
    | some (g, n) =>
      let t := fpAdd g (s.get (F.SCH_CLASS_PERIOD_t_tk k))
      r = t || fpAfter r t || (r = g && n < s.get (F.SCH_CLASS_CFG_n_m1 k) + 1)

/-- The policing state after a conforming release is accepted (R166). -/
def policeAccept (s : State) (k r : Nat) : State :=
  if !isDeadline s k then s
  else
    let v := match aget s.sch.police k with
      | some (g, n) => if r = g && n < s.get (F.SCH_CLASS_CFG_n_m1 k) + 1 then (g, n + 1) else (r, 1)
      | none => (r, 1)
    markDirty { s with sch := { s.sch with police := aset s.sch.police k v } } (classLine k 0)

/-! Creation (R162 to R168). -/

/-- A creation as its origin presents it: a supplied sequence, or none for the class's counter. -/
structure Creation where
  cls : Nat
  origin : Nat
  seq : Option Nat
  release : Nat
  inLen : Nat
  outLen : Nat
  inAddr : Nat
  outAddr : Nat
  arg : Nat
  deriving DecidableEq, Repr

/-- The origins mask of a class admits an origin code (R158, R184). -/
def originOk (s : State) (k origin : Nat) : Bool :=
  if origin = 4 then s.flag (F.SCH_CLASS_CFG_origin_rp k)
  else origin ≤ 3 && bitAt (s.get (F.SCH_CLASS_CFG_origins k)) origin

/-- A number of the class's sequence counter is handed out (R162). -/
def drawSeq (s : State) (k : Nat) : Nat × State :=
  let q := s.get (F.SCH_CLASS_SEQ_next k)
  (q, markDirty (s.set (F.SCH_CLASS_SEQ_next k) ((q + 1) % 2 ^ 32)) (classLine k 0))

/-- Steps 1 to 3 of R164: the result code of R182 of the first that fails, 0 for none, with its
count and event. -/
def createChecks (s : State) (c : Creation) : Nat × State :=
  let k := c.cls
  let d := k + c.origin * 256
  if !s.flag (F.SCH_CLASS_CFG_defined k) || !originOk s k c.origin then
    (2, countRaise s (F.SCH_CLASS_REFUSE_CNT_origin k) 1020 0x05 3 d)
  else if 1024 < c.inLen || 1024 < c.outLen || s.get (F.SCH_CLASS_INPUT_in_units k) < c.inLen then
    (3, countRaise s (F.SCH_CLASS_REFUSE_CNT_ref k) 1020 0x06 3 d)
  else if 2 ^ 23 < c.inAddr + c.inLen || 2 ^ 23 < c.outAddr + c.outLen then
    (4, countRaise s (F.SCH_CLASS_REFUSE_CNT_ref k) 1020 0x07 3 d)
  else (0, s)

/-- The item a creation makes, without its entry. -/
def newItem (s : State) (c : Creation) (q : Nat) (excess : Bool) (entry : Nat) (st : ItemSt)
    (parent : Option Nat) : Item :=
  ⟨s.sch.nextId, c.cls, c.origin, false, excess, c.release, fpAdd c.release (classD s c.cls), q,
    c.inLen, c.outLen, c.inAddr, c.outAddr, c.arg, entry, st, 0, 0, 0, 0, parent, false⟩

/-- An accepted item enters the store: counts, the window's and the policing state (R164, R167). -/
def acceptItem (s : State) (x : Item) : State :=
  let s := { s with sch := { s.sch with items := s.sch.items ++ [x], nextId := s.sch.nextId + 1 } }
  let s := s.bump (F.SCH_CLASS_REL_CNT_accepted x.cls) 1
  if x.excess then
    countRaise s (F.SCH_CLASS_REFUSE_CNT_rate_excess x.cls) 1020 0x04 4 (x.cls + x.seq % 65536 * 65536)
  else policeAccept s x.cls x.release

/-- In DOZE, the acceptance of a conforming DEADLINE item into a pool without an open bin ends the
mode when RST_WAKE_CFG.item = 1 (R398). -/
def itemWake (s : State) (x : Item) : State :=
  if s.mode = Mode.doze && s.flag F.RST_WAKE_CFG_item && conforming s x &&
    (poolBins s (classPool s x.cls)).all (fun l => !s.flag (F.CLK_GATE_EN_open (physOf s l))) then
    wake s 3
  else s

/-- ITEM_CREATE (R164): the result code of R182 and the state. In STANDBY, creations from triggers,
the fronthaul path and spawns are discarded before step 1 without drawing a number, and submissions
return result 2 (R385); a creation of a shed class is discarded before step 1 and counted (R226). -/
def itemCreate (s : State) (c : Creation) : Nat × State :=
  if s.mode = Mode.standby || s.twin.handoff then (2, s)
  else
    let r : Nat × State := match c.seq with
      | some q => (q % 2 ^ 32, s)
      | none => drawSeq s c.cls
    let q := r.1
    let s := r.2
    if classShed s c.cls then (2, s.bump (F.THM_SHED_CNT_count c.cls) 1)
    else
      let j := createChecks s c
      if j.1 ≠ 0 then j
      else
        let d := c.cls + c.origin * 256 + q % 65536 * 65536
        match winJudge s c.cls q with
        | .dup => (5, countRaise s (F.SCH_CLASS_DUP_CNT_dup c.cls) 1020 0x01 2 d)
        | .old => (6, countRaise s (F.SCH_CLASS_DUP_CNT_old c.cls) 1020 0x02 3 d)
        | .accept =>
          let excess := !polices s c.cls c.release
          match takeEntry s c.cls excess with
          | none => (7, countRaise s (F.SCH_CLASS_REFUSE_CNT_store_full c.cls) 1020 0x03 4
              (c.cls + c.origin * 256))
          | some e =>
            let x := newItem s c q excess e .waiting none
            (if excess then 1 else 0, itemWake (winAccept (acceptItem s x) c.cls q) x)

/-! Order (R170). -/

/-- Whether `a` comes before `b` in the pool's order (R170): conforming deadline items first, then
the earlier deadline, the lower class, the older sequence. -/
def before (s : State) (a b : Item) : Bool :=
  let ca := conforming s a
  let cb := conforming s b
  if ca != cb then ca
  else if a.deadline ≠ b.deadline then fpAfter b.deadline a.deadline
  else if a.cls ≠ b.cls then a.cls < b.cls
  else
    let d := (b.seq + 2 ^ 32 - a.seq) % 2 ^ 32
    0 < d && d < 2 ^ 31

/-- The first of some items in the order of R170. -/
def firstOf (s : State) : List Item → Option Item
  | [] => none
  | x :: t => match firstOf s t with
    | none => some x
    | some y => if before s y x then some y else some x

/-- An item is eligible (R170): WAITING, and released. -/
def eligible (s : State) (i : Item) : Bool := i.st = .waiting && !fpAfter i.release s.fp

/-- The pause timer of bin `p` runs, or the pause table stops the bin (R219). -/
def pauseRuns (s : State) (p : Nat) : Bool :=
  s.get (F.THM_PAUSE_pause_tk (s.get F.THM_STATUS_index)) = 0xFFFFFF ||
    (match (s.bin p).pause with
      | some t => s.now < t
      | none => false)

/-- The eligible items of pool `pool` that bin `p` may take (R171, R219, R356). -/
def takable (s : State) (p pool : Nat) : List Item :=
  s.sch.items.filter (fun i => eligible s i && classPool s i.cls = pool
    && !s.sch.heldKernels.contains (8 * logOf s p + s.get (F.SCH_CLASS_CFG_kernel i.cls))
    && (!pauseRuns s p || conforming s i)
    && !s.sch.decisions.any (fun d => d.item = i.id))

/-- Slot `k` of bin `p` may request a decision (R171, R398 to R400). -/
def mayRequest (s : State) (p k : Nat) : Bool :=
  slotSt s p k = 0 && slotSt s p (1 - k) != 1 && slotSt s p (1 - k) != 2
    && s.seqSt p != Seq.off && binUsable s p && !s.flag F.RST_MODE_entering
    && s.mode != Mode.dormant && s.mode != Mode.load && s.mode != Mode.safe

/-! Slots of items that leave. -/

/-- The fill of slot `k` of bin `p`. -/
def findFill (s : State) (p k : Nat) : Option Fill :=
  s.sch.fills.find? (fun f => f.bin = p && f.slot = k)

/-- The fills are replaced. -/
def setFills (s : State) (l : List Fill) : State := { s with sch := { s.sch with fills := l } }

/-- The slot of an item that leaves BOUND (R174, R177, R179): a READY slot is FREE at once, a
FILLING one once its outstanding beats have returned. -/
def unslot (s : State) (p k : Nat) : State :=
  if slotSt s p k = 2 then slotFree s p k
  else setFills s (s.sch.fills.map
    (fun f => if f.bin = p && f.slot = k then { f with gone := true } else f))

/-- A BOUND item returns to WAITING (R179): its HOLD entries are returned. -/
def unbind (s : State) (i : Item) : State :=
  unslot (setItem s { i with st := .waiting, holdRes := 0, holdSh := 0 }) i.bin i.slot

/-- A WAITING, BOUND or HOLD item is dropped (R174, R177, R226). -/
def dropItem (s : State) (i : Item) : State :=
  let s := dropItemEntry s i.id
  if i.st = .bound then unslot s i.bin i.slot else s

/-! Late items (R177, R178). -/

/-- The latest start LS of an item (R161). -/
def latestStart (s : State) (i : Item) : Nat :=
  (i.deadline + fpSpan - (classC s i.cls - 1)) % fpSpan

/-- The severity of SCH_LATE and SCH_LATE_DROP (R183). -/
def lateSev (s : State) (k : Nat) : Nat := if isDeadline s k then 5 else 3

/-- The data of an item event. -/
def itemData (i : Item) : Nat := i.cls + i.seq % 65536 * 65536

/-- A late drop is counted (R177, R178). -/
def countLateDrop (s : State) (i : Item) : State :=
  if i.stepLate then s
  else countRaise s (F.SCH_CLASS_LATE_CNT_late_drop i.cls) 1020 0x09 (lateSev s i.cls) (itemData i)

/-- A late end is counted (R177, R178). -/
def countLate (s : State) (i : Item) : State :=
  if i.stepLate || !fpAfter s.fp i.deadline then s
  else countRaise s (F.SCH_CLASS_LATE_CNT_late i.cls) 1020 0x08 (lateSev s i.cls) (itemData i)

/-- An item is late at count `n`: past its deadline, or for a WAITING or BOUND DROP item past its
latest start (R177). -/
def lateAt (s : State) (i : Item) (n : Nat) : Bool :=
  if isDrop s i.cls && (i.st = .waiting || i.st = .bound) then fpAfter n (latestStart s i)
  else fpAfter n i.deadline

/-- A forward step from count `n0` to the present FP marks and counts the items it made late, with
one SCH_STEP_LATE per class (R178). -/
def stepLate (s : State) (n0 : Nat) : State :=
  let hit := fun i => lateAt s i s.fp && !lateAt s i n0 && !i.stepLate
  let ids := (s.sch.items.filter hit).map (fun i => i.id)
  let classes := (List.range 64).filter
    (fun k => s.sch.items.any (fun i => i.cls = k && ids.contains i.id))
  let count := fun k => (s.sch.items.filter (fun i => i.cls = k && ids.contains i.id)).length
  let marked := setItems s (s.sch.items.map
    (fun i => if ids.contains i.id then { i with stepLate := true } else i))
  classes.foldl (fun t k =>
    raise (t.bump (F.SCH_CLASS_STEP_LATE_CNT_step_late k) (count k)) 1020 0x0A 4
      (k + min 65535 (count k) * 65536)) marked

/-- LATE_DROP_LS (R177): the FP passes the LS of a WAITING or BOUND DROP item `id`. -/
def execLateDropLs (id : Nat) (s : State) : Res :=
  checked (.lateDropLs id) <|
    match findItem s id with
    | none => s
    | some i =>
      if isDrop s i.cls && (i.st = .waiting || i.st = .bound) then
        let s := s.atFp (fpAdd (latestStart s i) 1)
        countLateDrop (dropItem s i) i
      else s

/-! Reissue (R180). -/

/-- An item killed with reason 2 (R180): a first time it returns to WAITING in its own entry with
reissue = 1; a second time it is discarded. -/
def reissue (s : State) (i : Item) : State :=
  let d := itemData i
  if i.reissue then
    countRaise (dropItemEntry s i.id) (F.SCH_CLASS_FAIL_CNT_reissue_fail i.cls) 1020 0x0F 4 (d + 256)
  else
    let s := setItem s { i with st := .waiting, reissue := true, holdRes := 0, holdSh := 0 }
    countRaise s (F.SCH_CLASS_REISSUE_CNT_reissued i.cls) 1020 0x0F 4 d

/-! Submission (R182). -/

/-- Data word `w` of requester `k`'s submission. -/
def subWord (s : State) (k w : Nat) : Nat := s.get ((F.SCH_SUBMIT_D_data w).copy k)

/-- SUBMIT_GO (R162, R182): the keeper or the register port submits the descriptor of its own data
registers; the management port has no copy. A go while busy is ignored. -/
def execSubmitGo (who : Requester) (autoSeq : Bool) (s : State) : Res :=
  checked (.submitGo who autoSeq) <| asked s who F.SCH_SUBMIT_CMD_go.addr 2 fun s =>
    let k := reqNum who
    if k = 2 || s.flag (F.SCH_SUBMIT_STATUS_busy.copy k) then s
    else
      let d := subWord s k
      let c : Creation := ⟨bits (d 3) 0 6, if k = 0 then 3 else 4, if autoSeq then none else some (d 2),
        s.fp, bits (d 3) 10 11, bits (d 3) 21 11, bits (d 4) 0 23, bits (d 5) 0 23,
        d 6 + d 7 * 2 ^ 32⟩
      let r := itemCreate s c
      r.2.set (F.SCH_SUBMIT_STATUS_result.copy k) r.1

end Sys2Proof.Machine
end

