-- ==== Sys2Proof/Machine/Bins.lean ====
section
/-! DEFINITION. The bins: decisions, fills, context select, ends and kills, trays, the bin port and
the hatch port, drains (R131 to R157, R171 to R177). -/

namespace Sys2Proof.Machine

/-! The item ticks. -/

/-- The item tick of the present tick. -/
def itemTick (s : State) (p : Nat) : Nat := s.now - (s.bin p).start + 1

/-- The item that runs in bin `p`, ENDING included. -/
def runItem (s : State) (p : Nat) : Option Item := (s.bin p).item.bind (findItem s)

/-- The bin executes control words (R137, R140, R152): a static bin that runs, or a scheduled bin whose
item runs, has not sampled DONE, and is within its budget at item tick 4 or the present one. -/
def wordOk (s : State) (p : Nat) : Bool :=
  if binKind s p = Kind.static then
    s.seqSt p = Seq.run && !(s.bin p).rst && !s.flag (F.FAB_BIN_STATUS_held p)
  else s.seqSt p = Seq.select && (s.bin p).item.isSome && max 4 (itemTick s p) ≤ (s.bin p).budget

/-- A control word of a scheduled bin acts no earlier than item tick 4 (R134): the clock is at that
tick at least (log entry 6). -/
def atWord (s : State) (p : Nat) : State :=
  if binKind s p = Kind.static then s else s.atNow ((s.bin p).start + 3)

/-- What the port's words have carried in the present tick. -/
def portUse (s : State) (p : Nat) : PortUse :=
  match (s.bin p).use with
  | some u => if u.at' = s.now then u else ⟨s.now, false, false, false, false, false, false⟩
  | none => ⟨s.now, false, false, false, false, false, false⟩

/-- A word acts in the present tick, or in the next when the words of this one already carry that use: a tick has one
control word and one hatch command word (R139, R140; log entry 107). It is marked with what it carries. A word that
would fall outside the item's budget does nothing (R152). -/
def onWord (s : State) (p : Nat) (busy : PortUse → Bool) (mark : PortUse → PortUse) (f : State → State) : State :=
  if !wordOk s p then s
  else
    let t := atWord s p
    let t := if busy (portUse t p) then t.later 1 else t
    if !wordOk t p then s else f (setBin t p { t.bin p with use := some (mark (portUse t p)) })

/-- The slot a control word uses (R140): the active slot in a scheduled bin. -/
def wordSlot (s : State) (p slot : Nat) : Nat :=
  if binKind s p = Kind.static then slot else s.get (F.BIN_SEQ_STATUS_active_slot p)

/-- An ignored use of the bin port is counted with its reason (R155). -/
def portIgnored (s : State) (p reason : Nat) : State :=
  let s := (s.bump (F.BIN_PORT_IGN_CNT_count p) 1).set (F.BIN_PORT_IGN_CNT_last_reason p) reason
  raiseOnce s (F.BIN_PORT_IGN_CNT_count p) (512 + p) 0x24 2 reason

/-! Decisions (R171, R172). -/

/-- The requests of a pool in the order it takes them (R171): oldest slot first, then the lower
logical bin, then the lower slot. Each is the age, the logical bin, the slot and the bin. -/
def poolRequests (s : State) (pool : Nat) : List (Nat × Nat × Nat × Nat) :=
  let ask := fun l =>
    let p := physOf s l
    let b := s.bin p
    [(b.free0, l, 0, p), (b.free1, l, 1, p)].filter (fun r => mayRequest s p r.2.2.1
      && !s.sch.decisions.any (fun d => d.bin = p && d.slot = r.2.2.1))
  (poolBins s pool).flatMap ask

/-- Whether request `a` is taken before request `b`. -/
def reqBefore (a b : Nat × Nat × Nat × Nat) : Bool :=
  if a.1 ≠ b.1 then a.1 < b.1 else if a.2.1 ≠ b.2.1 then a.2.1 < b.2.1 else a.2.2.1 < b.2.2.1

/-- Insertion of a request by age. -/
def reqInsert (r : Nat × Nat × Nat × Nat) : List (Nat × Nat × Nat × Nat) → List (Nat × Nat × Nat × Nat)
  | [] => [r]
  | x :: t => if reqBefore r x then r :: x :: t else x :: reqInsert r t

/-- The first request in age order whose bin can take an eligible item, with that item. -/
def firstRequest (s : State) (pool : Nat) : List (Nat × Nat × Nat × Nat) → Option (Nat × Nat × Item)
  | [] => none
  | r :: t => match firstOf s (takable s r.2.2.2 pool) with
    | some i => some (r.2.2.2, r.2.2.1, i)
    | none => firstRequest s pool t

/-- DECISION_START (R171): a pool starts at most one decision in a tick. -/
def execDecisionStart (pool : Nat) (s : State) : Res :=
  checked (.decisionStart pool) <|
    let s := if s.sch.decisions.any (fun d => d.at' = s.now && poolOf s d.bin = pool) then s.later 1 else s
    let rs := (poolRequests s pool).foldl (fun l r => reqInsert r l) []
    match firstRequest s pool rs with
    | none => s
    | some (p, k, i) =>
      { s with sch := { s.sch with decisions := s.sch.decisions ++ [⟨s.now, p, k, i.id⟩] } }

/-- The HOLD entries of a class reserved for one of its items (R172): from the reservation first,
then from the shared part; none when they cannot all be reserved. -/
def reserveHold (s : State) (k : Nat) : Option (Nat × Nat) :=
  let n := s.get (F.SCH_CLASS_CFG_max_succ k)
  let r := min n (freeRes s k)
  if n - r ≤ freeShared s then some (r, n - r) else none

/-- The item is bound to the slot (R172, R173): the slot is FILLING, or READY at once when there is
no input. -/
def bindItem (s : State) (p k : Nat) (i : Item) (h : Nat × Nat) : State :=
  let s := setItem s { i with st := .bound, bin := p, slot := k, holdRes := h.1, holdSh := h.2 }
  let s := s.bump (F.SCH_POOL_DISP_CNT_count (classPool s i.cls)) 1
  if i.inLen = 0 then setSlot s p k 2
  else setSlot (setFills s (s.sch.fills ++
    [⟨p, k, i.id, 0, 2 * i.inLen, 2 * i.inAddr, binOwner s p, false⟩])) p k 1

/-- The candidates of a decision are tried in the order of R170 until one can reserve its spawn
space (R172). -/
def tryBind (p k : Nat) : Nat → List Item → State → State
  | 0, _, s => s
  | n + 1, l, s => match firstOf s l with
    | none => s
    | some i => match reserveHold s i.cls with
      | some h => bindItem s p k i h
      | none =>
        let s := countRaise s (F.SCH_CLASS_REISSUE_CNT_spawn_wait i.cls) 1020 0x0E 3 i.cls
        tryBind p k n (l.filter (fun x => x.id != i.id)) s

/-- DECISION_BIND (R171, R172): the fourth tick of the decision for slot `slot` of bin `p`. -/
def execDecisionBind (p slot : Nat) (s : State) : Res :=
  checked (.decisionBind p slot) <|
    match s.sch.decisions.find? (fun d => d.bin = p && d.slot = slot) with
    | none => s
    | some d =>
      let s := s.atNow (d.at' + 3)
      let s := { s with sch := { s.sch with
        decisions := s.sch.decisions.filter (fun x => !(x.bin = p && x.slot = slot)) } }
      if !mayRequest s p slot then s
      else
        let pool := poolOf s p
        let rest := takable s p pool
        match findItem s d.item with
        | some i =>
          if i.st = .waiting then
            match reserveHold s i.cls with
            | some h => bindItem s p slot i h
            | none =>
              let s := countRaise s (F.SCH_CLASS_REISSUE_CNT_spawn_wait i.cls) 1020 0x0E 3 i.cls
              tryBind p slot rest.length (rest.filter (fun x => x.id != i.id)) s
          else tryBind p slot rest.length rest s
        | none => tryBind p slot rest.length rest s

/-! Trays (R142 to R145). -/

/-- The key of a tray slot. -/
def trayKey (p k : Nat) : Nat := 2 * p + k

/-- A line's valid bit. -/
def lineValid (s : State) (p k line : Nat) : Bool := s.trayValid.contains (trayKey p k * 1024 + line)

/-- The 512 bits of a tray line; a line that is not valid reads as zero (R142). -/
def readLine (s : State) (p k line : Nat) : Nat :=
  if lineValid s p k line then s.trays.readN (trayKey p k * 65536 + line * 64) 64 else 0

/-- A line is stored and valid. -/
def storeLine (s : State) (p k line v : Nat) : State :=
  { s with trays := s.trays.writeN (trayKey p k * 65536 + line * 64) v 64,
           trayValid := nins (trayKey p k * 1024 + line) s.trayValid }

/-- The words of `new` chosen by the 8-bit mask, the others of `old`. -/
def mergeWords (old new mask : Nat) : Nat :=
  ((List.range 8).map (fun i => (if mask.testBit i then bits new (64 * i) 64 else bits old (64 * i) 64)
    * 2 ^ (64 * i))).foldl (· + ·) 0

/-- A collision of the two sides of a tray (R145). -/
def trayCollision (s : State) (p k line : Nat) : State :=
  countRaise s (F.BIN_TRAY_COLL_CNT_count p) (512 + p) 0x23 3 (line + k * 1024)

/-- The contents of a line before the bin side's write of the present tick (R144). -/
def lineBefore (s : State) (p k line : Nat) : Nat :=
  match (s.bin p).binWrote with
  | some w => if w.at' = s.now && w.slot = k && w.line = line then w.old else readLine s p k line
  | none => readLine s p k line

/-- The line that sources 89 to 96 hold (R144): the newest of those read whose tick has come. What they hold before
any read, and after initial values are loaded, is 0 (log entry 142). -/
def lineShown (s : State) (p : Nat) : Nat :=
  (((s.bin p).lines.find? (fun x => x.1 ≤ s.now)).map (fun x => x.2)).getD 0

/-- TRAY_READ (R140, R144): the line that sources 89 to 96 hold 2 tk later; with a write of the same line in the same
word its old contents. -/
def execTrayRead (p slot line : Nat) (s : State) : Res :=
  checked (.trayRead p slot line) <| onWord s p (fun u => u.rd) (fun u => { u with rd := true }) fun s =>
    let v := lineBefore s p (wordSlot s p slot) line
    setBin s p { s.bin p with line := v, lines := (s.now + 2, v) :: (s.bin p).lines.take 2 }

/-- TRAY_WRITE (R140, R144 to R146): the bin side's masked write; where the other side wrote the same
line in this tick, that write is lost. A word that carries a spawn record or an event writes no line. -/
def execTrayWrite (p slot line mask data : Nat) (s : State) : Res :=
  checked (.trayWrite p slot line mask data) <| onWord s p (fun u => u.wr) (fun u => { u with wr := true }) fun s =>
    if (portUse s p).spawn || (portUse s p).event then s
    else
      let k := wordSlot s p slot
      let hit := match (s.bin p).dmaWrote with
        | some w => if w.at' = s.now && w.slot = k && w.line = line then some w else none
        | none => none
      let old := match hit with
        | some w => if w.oldValid then w.old else 0
        | none => readLine s p k line
      let rec0 : LineWrite := ⟨s.now, k, line, old, lineValid s p k line⟩
      let s := storeLine s p k line (mergeWords old data mask)
      let s := setBin s p { s.bin p with binWrote := some rec0, dmaWrote := none }
      if hit.isSome then trayCollision s p k line else s

/-! Ends and kills. -/

/-- The hatch commands outstanding (BIN_SEQ_STATUS.hatch_out, R150, R151). -/
def hatchOut (s : State) (p : Nat) : Nat := (s.bin p).hatch.length

/-- The die whose pass-through holds an entry at the present tick, if one does (R18, R22). -/
def passDie (s : State) (e : PassEntry) : Option Nat :=
  let d := s.now - e.at'
  if e.up then (if e.die + d ≤ e.last then some (e.die + d) else none)
  else if e.last + d ≤ e.die then some (e.die - d) else none

/-- The transfers that the pass-throughs of column `c` have taken and not yet delivered; both bins of the column
share them (R16, R22). -/
def passOf (s : State) (c : Nat) : List PassEntry :=
  (s.bin c).pass.filter (fun e => (passDie s e).isSome)

/-- The entries of a buffer: one per column, die, class and direction, of 8 entries (R22). -/
def passHeld (s : State) (p die : Nat) (cls : MsgClass) (up : Bool) : Nat :=
  ((passOf s (p % 132)).filter (fun e => e.cls = cls && e.up = up && passDie s e = some die)).length

/-- The die whose partition takes a transfer of bin `p` first (R18): its own shelf's toward the Loft, the Loft's
toward the bin. -/
def passIn (p : Nat) (up : Bool) : Nat := if up then 1 + shelfOf p else 3

/-- The credit of the requests' buffer at the bin's hatch port (R22, R150). -/
def passCredit (s : State) (p : Nat) : Nat := 8 - passHeld s p (passIn p true) .request true

/-- A transfer of bin `p` enters the pass-through of the first die on its way (R18, R22), in the next tick when the
buffer there has no entry free. Each die forwards it one tick later, so that every buffer has one free by then. -/
def passPut (s : State) (p : Nat) (cls : MsgClass) (up : Bool) (data : Nat) : State :=
  let s := if 8 ≤ passHeld s p (passIn p up) cls up then s.later 1 else s
  let e : PassEntry := ⟨passIn p up, if up then 3 else 1 + shelfOf p, cls, up, data, s.now⟩
  setBin s (p % 132) { s.bin (p % 132) with pass := passOf s (p % 132) ++ [e] }

/-- The hatch commands of a bin are replaced; hatch_out follows. -/
def setHatch (s : State) (p : Nat) (l : List HatchCmd) : State :=
  (setBin s p { s.bin p with hatch := l }).set (F.BIN_SEQ_STATUS_hatch_out p) l.length

/-- The generation toggles (R24, R151): the reads outstanding carry the old one, and the write beats
that no pass-through has accepted are gone. -/
def toggleGen (s : State) (p : Nat) : State :=
  let s := s.set (F.BIN_SEQ_STATUS_gen p) (1 - s.get (F.BIN_SEQ_STATUS_gen p))
  let s := setBin s p { s.bin p with wrEnd := 0 }
  setHatch s p (((s.bin p).hatch.filter (fun c => !c.wr)).map (fun c => { c with stale := true }))

/-- The run time of the item is added (BIN_RUN_TK). -/
def addRunTk (s : State) (p ticks : Nat) : State :=
  let v := s.get (F.BIN_RUN_TK_LO_ticks_lo p) + s.get (F.BIN_RUN_TK_HI_ticks_hi p) * 2 ^ 32 + ticks
  (s.set (F.BIN_RUN_TK_LO_ticks_lo p) v).set (F.BIN_RUN_TK_HI_ticks_hi p) (v / 2 ^ 32)

/-- At the end or kill of a best-effort or excess item the pause timer loads (R219). -/
def loadPause (s : State) (p : Nat) (i : Item) : State :=
  if conforming s i then s
  else
    let t := s.get (F.THM_PAUSE_pause_tk (s.get F.THM_STATUS_index))
    setBin s p { s.bin p with pause := some (s.now + t) }

/-- The energy estimate `nj` of a DEADLINE item that ended by DONE (R203). -/
def energyCheck (s : State) (k nj : Nat) : State :=
  if !isDeadline s k then s
  else
    let s := s.set (F.ADM_CLASS_EMEAS_nj k) (max (s.get (F.ADM_CLASS_EMEAS_nj k)) (satNat 32 nj))
    if 105 * s.get (F.SCH_CLASS_ENERGY_e_nj k) < 100 * nj then
      countRaise s (F.ADM_CLASS_EOVER_CNT_count k) 1019 0x0C 4
        (k + satNat 16 (nj / 1000) * 65536)
    else s

/-- The signed slack in ticks from the end FP to the deadline. -/
def slackOf (s : State) (i : Item) : Int :=
  if fpAfter s.fp i.deadline then -(fpGap i.deadline s.fp : Int) else (fpGap s.fp i.deadline : Int)

/-- The DONE counts of a class (R184); an end that a backward step puts before the release counts as 0. -/
def doneCounts (s : State) (i : Item) : State :=
  let s := s.bump (F.SCH_CLASS_DONE_CNT_done i.cls) 1
  let lat := if fpAfter i.release s.fp then 0 else satNat 32 (fpGap i.release s.fp)
  let s := s.set (F.SCH_CLASS_MAX_LAT_ticks i.cls) (max lat (s.get (F.SCH_CLASS_MAX_LAT_ticks i.cls)))
  let m := toInt 32 (s.get (F.SCH_CLASS_MIN_SLACK_ticks i.cls))
  s.set (F.SCH_CLASS_MIN_SLACK_ticks i.cls) (satInt 32 (min m (slackOf s i)))

/-- The records of the spawn buffer as they will be handed on (R147, R172): one a tick from tick `at'`, each with one
HOLD entry of its parent, the reservation's first. -/
def handOns (i : Item) (fp : Nat) : Nat → List Nat → Nat → List HandOn
  | _, [], _ => []
  | at', r :: t, res =>
    ⟨at', r, i.id, fp, i.outLen != 0, if 0 < res then i.cls else 64⟩ :: handOns i fp (at' + 1) t (res - 1)

/-- The end tick of a DONE (R137, R143, R147, R153, R175). -/
def endTick (s : State) (p : Nat) (i : Item) (nj : Nat) : State :=
  let b := s.bin p
  let s := addRunTk s p (s.now - b.start + 1)
  let s := s.bump (F.BIN_DONE_CNT_count p) 1
  let s := countLate (doneCounts (energyCheck s i.cls nj) i) i
  let hand := (s.bin p).hand ++ handOns i s.fp (s.now + 1) b.buf i.holdRes
  let s := setBin s p { s.bin p with item := none, buf := [], hand := hand, ended := some s.now }
  let s := s.set (F.BIN_SEQ_STATUS_state p) Seq.idle
  let s := dropItemEntry s i.id
  let s := loadPause s p i
  if i.outLen = 0 then slotFree s p i.slot
  else
    let d : Drain := ⟨i.id, i.cls, i.seq, p, i.slot, 0, 2 * i.outLen, 2 * i.outAddr, binOwner s p, false⟩
    gateRecheck (setSlot { s with sch := { s.sch with drains := s.sch.drains ++ [d] } } p i.slot 4) p

/-- ITEM_DONE (R133, R137, R150, R203): DONE is sampled in item tick `tick`, no earlier than 4 and
no later than the budget; the item ends, or enters ENDING while hatch commands are outstanding. `nj`
is the energy the power counters give the item. -/
def execItemDone (p tick nj : Nat) (s : State) : Res :=
  checked (.itemDone p tick nj) <|
    if binKind s p = Kind.static then (if wordOk s p then portIgnored s p 1 else s)
    else match runItem s p with
      | none => s
      | some i =>
        let t := max tick (itemTick s p)
        if s.seqSt p ≠ Seq.select || (s.bin p).budget < t then s
        else
          let s := s.atNow ((s.bin p).start + t - 1)
          if hatchOut s p = 0 then endTick s p i nj
          else s.set (F.BIN_SEQ_STATUS_state p) Seq.ending

/-- ITEM_ENDING_COMPLETE (R137, R150): no hatch command is outstanding any more. -/
def execItemEndingComplete (p nj : Nat) (s : State) : Res :=
  checked (.itemEndingComplete p nj) <|
    match runItem s p with
    | none => s
    | some i =>
      if s.seqSt p = Seq.ending && hatchOut s p = 0 && itemTick s p ≤ (s.bin p).budget then
        endTick s p i nj
      else s

/-- A kill (R152, R153): the slot is FREE and not drained, the spawn buffer is emptied, the
generation toggles, SCH_KILL is raised; an item killed with reason 2 is reissued (R179). -/
def killItem (s : State) (p : Nat) (i : Item) (reason : Nat) : State :=
  let b := s.bin p
  let s := addRunTk s p (s.now - b.start + 1)
  let s := (s.bump (F.BIN_KILL_CNT_count p) 1).setAll
    [(F.BIN_KILL_INFO_class p, i.cls), (F.BIN_KILL_INFO_reason p, reason), (F.BIN_KILL_SEQ_seq p, i.seq)]
  let s := raise s (512 + p) 0x20 4 (i.cls + reason * 256 + i.seq % 65536 * 65536)
  let s := setBin s p { s.bin p with item := none, buf := [], start := s.now, ended := some s.now }
  let s := toggleGen s p
  let s := s.set (F.BIN_SEQ_STATUS_state p) Seq.kill
  let s := loadPause s p i
  let s := slotFree s p i.slot
  if reason = 2 then reissue s i else dropItemEntry s i.id

/-- BUDGET_KILL (R152): the end tick has not come by item tick C; the kill falls in item tick
C + 1. -/
def execBudgetKill (p : Nat) (s : State) : Res :=
  checked (.budgetKill p) <|
    match runItem s p with
    | none => s
    | some i =>
      if s.seqSt p = Seq.select || s.seqSt p = Seq.ending then
        killItem (s.atNow ((s.bin p).start + (s.bin p).budget)) p i 1
      else s

/-- DEADLINE_PASS (R177): the FP passes the deadline of the running DROP item `id`, which the
scheduler ends. -/
def execDeadlinePass (id : Nat) (s : State) : Res :=
  checked (.deadlinePass id) <|
    match findItem s id with
    | none => s
    | some i =>
      if isDrop s i.cls && i.st = .run then
        let s := s.atFp (fpAdd i.deadline 1)
        countLateDrop (killItem s i.bin i 3) i
      else s

/-- PAUSE_TIMER_EXPIRY (R219): the bin's pause timer has reached 0. -/
def execPauseTimerExpiry (p : Nat) (s : State) : Res :=
  checked (.pauseTimerExpiry p) <|
    match (s.bin p).pause with
    | none => s
    | some t => let s := s.atNow t; setBin s p { s.bin p with pause := none }

/-! Context select (R133, R134). -/

/-- The descriptor words of sources 85 to 88 (R133, R160); reserved bits are 0. -/
def descWord (i : Item) (w : Nat) : Nat :=
  if w = 0 then fpPack i.release
  else if w = 1 then i.seq % 2 ^ 32 + 2 ^ 32 * (i.cls % 64) + 2 ^ 38 * (i.origin % 8) + 2 ^ 41 * ofBool i.reissue
    + 2 ^ 42 * (i.inLen % 2048) + 2 ^ 53 * (i.outLen % 2048)
  else if w = 2 then i.inAddr % 2 ^ 23 + 2 ^ 32 * (i.outAddr % 2 ^ 23)
  else i.arg % 2 ^ 64

/-- The budget left of an item, in ticks (R152). -/
def budgetLeft (s : State) (p : Nat) : Nat :=
  if (s.bin p).item.isSome then (s.bin p).budget + 1 - itemTick s p else 0

/-- The sequencer state as a read shows it (R137): OFF while the bin's gate is closed. -/
def seqView (s : State) (p : Nat) : Nat :=
  let st := s.seqSt p
  if !s.flag (F.CLK_GATE_EN_open p) then Seq.off
  else if st = Seq.select then min 3 (itemTick s p)
  else if st = Seq.kill then (if s.now = (s.bin p).start then Seq.kill else Seq.idle)
  else st

/-- The context that drives the bin in the present tick: a select acts in the tick after it (R132, R154). -/
def ctxNow (s : State) (p : Nat) : Nat :=
  match (s.bin p).was with
  | some (t, c) => if t = s.now then c else s.get (F.BIN_SEQ_STATUS_ctx p)
  | none => s.get (F.BIN_SEQ_STATUS_ctx p)

/-- The status word of source 97 (R141). -/
def statusWord (s : State) (p : Nat) : Nat :=
  let b := s.bin p
  let stat := binKind s p = Kind.static
  let a := s.get (F.BIN_SEQ_STATUS_active_slot p)
  let run := !stat && (runItem s p).isSome && 3 ≤ itemTick s p
  let n := s.get (F.BIN_ITEM_CLASS_spawns p)
  let full := (runItem s p).any (fun i => n = s.get (F.SCH_CLASS_CFG_max_succ i.cls))
  let ev := b.evLast.all (fun t => t + 64 ≤ s.now + 1)
  let rd := b.rdBeat.filter (fun x => x.at' = s.now)
  ofBool run + 2 * a + 4 * ofBool (slotSt s p (1 - a) = 2) + 8 * ctxNow s p + 64 * n
    + 512 * ofBool full + 1024 * ofBool ev + 2048 * hatchOut s p
    + (match rd with
      | some x => 2 ^ 15 + 2 ^ 16 * x.tag + 2 ^ 22 * ofBool x.err + 2 ^ 23 * ofBool x.last
      | none => 0)
    + (if stat then 0 else 2 ^ 32 * (budgetLeft s p % 2 ^ 32))

/-! Spawns and events (R146 to R148). -/

/-- SPAWN (R146): a record enters the spawn buffer, one in a tick, or is rejected beyond the class's maximum. -/
def execSpawn (p record : Nat) (s : State) : Res :=
  checked (.spawn p record) <|
    onWord s p (fun u => u.spawn || u.wr) (fun u => { u with spawn := true }) fun s =>
    if binKind s p = Kind.static then portIgnored s p 1
    else match runItem s p with
      | none => s
      | some i =>
        let b := s.bin p
        if b.buf.length < s.get (F.SCH_CLASS_CFG_max_succ i.cls) then
          (setBin s p { b with buf := b.buf ++ [record] }).set (F.BIN_ITEM_CLASS_spawns p)
            (b.buf.length + 1)
        else
          raise (s.bump (F.BIN_SPAWN_DROP_CNT_count p) 1) (512 + p) 0x21 3 (itemData i)

/-- USER_EVENT (R148): forwarded at once, or discarded within 64 tk of the last one. -/
def execUserEvent (p code sev data : Nat) (s : State) : Res :=
  checked (.userEvent p code sev data) <|
    onWord s p (fun u => u.event || u.wr) (fun u => { u with event := true }) fun s =>
      if (s.bin p).evLast.any (fun t => s.now < t + 64) then
        let s := s.bump (F.BIN_EV_DROP_CNT_count p) 1
        raiseOnce s (F.BIN_EV_DROP_CNT_count p) (512 + p) 0x22 2 (s.get (F.BIN_EV_DROP_CNT_count p))
      else
        let s := setBin s p { s.bin p with evLast := some s.now }
        raise s (512 + p) (128 + code) (min sev (s.get (F.BIN_CTX_CFG_ev_sev_max p))) data

/-- The fields of a spawn record (R146, R160). -/
def spawnCreation (r release : Nat) : Creation :=
  ⟨bits r 96 6, 2, none, release, bits r 106 11, bits r 117 11, bits r 128 23, bits r 160 23,
    bits r 192 64⟩

/-- SPAWN_HAND_ON (R147, R175, R176): the oldest record after an end tick is handed to the
scheduler, one a tick from the tick after it. It passes steps 1 to 3 and 5 of R164; a record that fails returns its
HOLD entry. An accepted record leaves its class's sequence window as it is (log entry 139). In STANDBY and during a
handoff it is discarded before step 1 (R385, R392). -/
def execSpawnHandOn (p : Nat) (s : State) : Res :=
  checked (.spawnHandOn p) <|
    match (s.bin p).hand with
    | [] => s
    | h :: rest =>
      let s := s.atNow h.at'
      let s := setBin s p { s.bin p with hand := rest }
      let c := spawnCreation h.record h.release
      if s.mode = Mode.standby || s.twin.handoff then s
      else
        let r := drawSeq s c.cls
        let s := r.2
        if classShed s c.cls then s.bump (F.THM_SHED_CNT_count c.cls) 1
        else
          let j := createChecks s c
          if j.1 ≠ 0 then j.2
          else
            let excess := !polices s c.cls c.release
            let hold := h.drains && s.sch.drains.any (fun d => d.item = h.parent)
            let x := newItem s c r.1 excess h.entry (if hold then .hold else .waiting)
              (if hold then some h.parent else none)
            itemWake (acceptItem s x) x

/-! The hatch port (R149 to R151). -/

/-- A hatch command is refused and counted (R150). -/
def hatchRefused (s : State) (p : Nat) : Bool :=
  8 ≤ hatchOut s p || s.now < (s.bin p).wrEnd

/-- A hatch command word (R149). -/
def hatchWord (wr : Bool) (beat beatsM1 tag : Nat) : Nat :=
  1 + 2 * ofBool wr + 4 * beat + 2 ^ 26 * beatsM1 + 2 ^ 30 * tag

/-- HATCH_READ (R149, R150). -/
def execHatchRead (p beat beatsM1 tag : Nat) (s : State) : Res :=
  checked (.hatchRead p beat beatsM1 tag) <|
    onWord s p (fun u => u.hatch) (fun u => { u with hatch := true }) fun s =>
      if hatchRefused s p then portIgnored s p 6
      else setHatch (passPut s p .request true (hatchWord false beat beatsM1 tag)) p
        ((s.bin p).hatch ++ [⟨false, beat, beatsM1 + 1, tag, 0, false, [], s.now, false, []⟩])

/-- HATCH_WRITE (R149, R150): the command with the beats it takes in this and the following ticks. -/
def execHatchWrite (p beat beatsM1 tag : Nat) (data : List Nat) (s : State) : Res :=
  checked (.hatchWrite p beat beatsM1 tag data) <|
    onWord s p (fun u => u.hatch) (fun u => { u with hatch := true }) fun s =>
      if hatchRefused s p then portIgnored s p 6
      else
        let own := (s.bin p).fab.sink 102 % 4 = 3
        let s := setBin s p { s.bin p with wrEnd := if beatsM1 = 0 then 0 else s.now + beatsM1 + 1 }
        setHatch s p ((s.bin p).hatch ++ [⟨true, beat, beatsM1 + 1, tag, 0, false, data, s.now, own, []⟩])

/-- The first command that satisfies `q` makes one beat; a command whose last beat is made leaves
the list. -/
def hatchStep (q : HatchCmd → Bool) : List HatchCmd → List HatchCmd
  | [] => []
  | c :: t =>
    if q c then (if c.done + 1 < c.beats then { c with done := c.done + 1 } :: t else t)
    else c :: hatchStep q t

/-- Beat `n` has not been made by command `c`. -/
def HatchCmd.waits (c : HatchCmd) (n : Nat) : Bool := c.beat + c.done ≤ n && n < c.beat + c.beats

/-- The commands issued before the first that satisfies `q`. -/
def hatchBefore (q : HatchCmd → Bool) (l : List HatchCmd) : List HatchCmd := l.takeWhile (fun c => !q c)

/-- A write of beat `n` overtakes the reads issued before it that still wait for that beat (R305): they keep what the
Loft answers now. -/
def readsKeep (s : State) (p n : Nat) : State :=
  let old := hatchBefore (fun x => x.wr) (s.bin p).hatch
  if !old.any (fun c => !c.wr && c.waits n) then s
  else
    let r := readBeat s (binOwner s p) n
    setHatch r.2 p (old.map (fun c =>
      if c.waits n && (aget c.got n).isNone then { c with got := c.got ++ [(n, r.1.status, r.1.data)] } else c)
      ++ (s.bin p).hatch.drop old.length)

/-- The pass-through accepts the next beat of the bin's oldest write, 2 tk after the tick that held it at the earliest
and with credit, and it then completes at the Loft; a beat that meets an error response writes nothing. Without credit
the beat waits for the next tick (R22, R150). -/
def acceptBeat (s : State) (p : Nat) : State :=
  match (s.bin p).hatch.find? (fun c => c.wr) with
  | none => s
  | some c =>
    let s := s.atNow (c.at' + c.done + 2)
    let s := if passCredit s p = 0 then s.later 1 else s
    let s := passPut s p .request true (c.data.getD c.done 0)
    let s := readsKeep s p (c.beat + c.done)
    let r := writeBeat s (binOwner s p) (c.beat + c.done) (c.data.getD c.done 0)
    setHatch r.2 p (hatchStep (fun x => x.wr) (r.2.bin p).hatch)

/-- HATCH_WRITE_ACCEPT (R22, R150, R305). -/
def execHatchWriteAccept (p : Nat) (s : State) : Res := checked (.hatchWriteAccept p) (acceptBeat s p)

/-- The writes of the bin that were issued before its oldest read and cover the read's next beat take effect first
(R305); `fuel` bounds the beats of the outstanding commands. -/
def writesFirst : Nat → State → Nat → State
  | 0, s, _ => s
  | fuel + 1, s, p =>
    let old := hatchBefore (fun x => !x.wr) (s.bin p).hatch
    match (s.bin p).hatch.find? (fun c => !c.wr) with
    | none => s
    | some c => if old.any (fun w => w.waits (c.beat + c.done)) then writesFirst fuel (acceptBeat s p) p else s

/-- HATCH_READ_BEAT (R98, R149 to R151, R305, R308, R320): the next beat of the oldest read returns, one in a tick; an
error or poisoned beat returns zero data with hatch_rd_err; a beat of an old generation, or for a bin whose gate has
closed, is discarded. -/
def execHatchReadBeat (p : Nat) (s : State) : Res :=
  checked (.hatchReadBeat p) <|
    match (s.bin p).hatch.find? (fun c => !c.wr) with
    | none => s
    | some c =>
      let s := writesFirst 128 s p
      let s := if (s.bin p).rdBeat.any (fun b => b.at' = s.now) then s.later 1 else s
      let r : BeatRead × State := match aget c.got (c.beat + c.done) with
        | some x => (⟨x.1, x.2⟩, s)
        | none => readBeat s (binOwner s p) (c.beat + c.done)
      let s := passPut (setHatch r.2 p (hatchStep (fun x => !x.wr) (r.2.bin p).hatch)) p .response false r.1.data
      if c.stale || !s.flag (F.CLK_GATE_EN_open p) then s
      else
        let ok := r.1.status = 0
        setBin s p { s.bin p with
          rdBeat := some ⟨s.now, if ok then r.1.data else 0, c.tag, !ok, c.done + 1 = c.beats⟩ }

/-! Fills and drains (R173 to R175). -/

/-- A 32-byte beat of a tray slot: the low or high half of a line. -/
def trayBeat (s : State) (p k n : Nat) : Nat := bits (readLine s p k (n / 2)) (256 * (n % 2)) 256

/-- A fill beat is stored; the line is valid once both its beats are (R173). -/
def storeBeat (s : State) (p k n data : Nat) : State :=
  let s := { s with trays := s.trays.writeN (trayKey p k * 65536 + n * 32) data 32 }
  if n % 2 = 1 then { s with trayValid := nins (trayKey p k * 1024 + n / 2) s.trayValid } else s

/-- A failed fill drops its item (R174). -/
def fillFail (s : State) (f : Fill) (poison : Bool) : State :=
  match findItem s f.item with
  | none => s
  | some i =>
    let s := dropItemEntry s i.id
    let d := i.cls + f.bin * 64 + i.seq % 65536 * 65536
    if poison then countRaise s (F.SCH_CLASS_FAIL_CNT_input_poison i.cls) 1020 0x0B 4 d
    else countRaise s (F.SCH_CLASS_FAIL_CNT_input_err i.cls) 1020 0x0C 4 d

/-- FILL_BEAT (R173, R174): the next beat of the fill returns; after the last the slot is READY, or
FREE when the item is gone. After a beat that fails, every remaining beat of the reference is still read, with what its
read counts, before the slot is FREE; the item's entry is freed at the failing beat (log entry 143). -/
def execFillBeat (p slot : Nat) (s : State) : Res :=
  checked (.fillBeat p slot) <|
    match findFill s p slot with
    | none => s
    | some f =>
      let r := readBeat s f.owner (f.beat + f.done)
      let s := if f.gone then r.2
        else if r.1.status = 0 then storeBeat r.2 p slot f.done r.1.data
        else fillFail r.2 f (r.1.status = 2)
      let s := passPut s p .response false r.1.data
      let f' := { f with done := f.done + 1, gone := f.gone || r.1.status != 0 }
      let others := s.sch.fills.filter (fun x => !(x.bin = p && x.slot = slot))
      if f'.done < f'.total then setFills s (others ++ [f'])
      else
        let s := setFills s others
        if f'.gone then slotFree s p slot else setSlot s p slot 2

/-- DRAIN_BEAT (R175): the next beat of the slot's drain leaves the tray for the Loft; after the
last the slot is FREE. -/
def execDrainBeat (p slot : Nat) (s : State) : Res :=
  checked (.drainBeat p slot) <|
    match s.sch.drains.find? (fun d => d.bin = p && d.slot = slot && d.sent < d.total) with
    | none => s
    | some d =>
      let v := trayBeat s p slot d.sent
      let w := writeBeat s d.owner (d.beat + d.sent) v
      let s := passPut w.2 p .request true v
      let d' := { d with sent := d.sent + 1, err := d.err || !w.1 }
      let s := { s with sch := { s.sch with
        drains := s.sch.drains.map (fun x => if x.item = d.item then d' else x) } }
      if d'.sent = d'.total then slotFree s p slot else s

/-- The Loft has acknowledged every beat of a drain (R175): its successors become WAITING, or are
discarded with their HOLD entries when a beat met an error response. -/
def drainAcked (s : State) (d : Drain) : State :=
  let s := { s with sch := { s.sch with drains := s.sch.drains.filter (fun x => x.item != d.item) } }
  if d.err then
    let s := setItems s (s.sch.items.filter (fun i => i.parent != some d.item))
    countRaise s (F.SCH_CLASS_FAIL_CNT_output_err d.cls) 1020 0x0D 4
      (d.cls + d.bin * 64 + d.seq % 65536 * 65536)
  else setItems s (s.sch.items.map (fun i =>
    if i.parent = some d.item then { i with parent := none, st := .waiting } else i))

/-- The drain of slot `slot` of bin `p` whose beats have all been sent and whose successors have
all been handed on. -/
def sentDrain (s : State) (p slot : Nat) : Option Drain :=
  s.sch.drains.find? (fun d => d.bin = p && d.slot = slot && d.sent = d.total
    && !(s.bin p).hand.any (fun h => h.parent = d.item))

/-! Resets and bins leaving a pool (R179). -/

/-- The running item of bin `p` is killed with reason 2. -/
def killRun (s : State) (p : Nat) : State :=
  match runItem s p with
  | some i => killItem s p i 2
  | none => s

/-- The bound items of bin `p` return to WAITING (R179). -/
def unbindAll (s : State) (p : Nat) : State :=
  (s.sch.items.filter (fun i => i.st = .bound && i.bin = p)).foldl unbind s

/-- A class is shed (R226): its WAITING and BOUND items are dropped and its successors in HOLD are
dropped; all are counted. -/
def shedClass (s : State) (k : Nat) : State :=
  let gone := s.sch.items.filter (fun i => i.cls = k && i.st != .run)
  gone.foldl (fun t i => (dropItem t i).bump (F.THM_SHED_CNT_count k) 1) s

end Sys2Proof.Machine
end

