-- ==== Sys2Proof/Machine/Admission.lean ====
section
/-! DEFINITION. Deadline admission (R185 to R206): the eight tests, their results, the run-time
refusals and the coverage of pools. -/

namespace Sys2Proof.Machine

/-- The unit of densities and bandwidths, 2^−32 (R189). -/
def uq : Nat := 2 ^ 32

/-- The free value that stands for a quotient by 0 in class `k`'s figures: the rules state no figure
for a class that test 1 fails (log entry 5). -/
def admFree (s : State) (k j : Nat) : Nat := Config.freeValue (s.fresh + 8 * k + j)

/-- The number of free values one run may use. -/
def admFreeUse : Nat := 512

/-- ⌈a / b⌉, or the free value when b is 0. -/
def admCeil (fv a b : Nat) : Nat := if b = 0 then fv else ceilDiv a b

/-- The defined classes, ascending. -/
def defined (s : State) : List Nat := (List.range 64).filter (fun k => s.flag (F.SCH_CLASS_CFG_defined k))

/-- The defined DEADLINE classes. -/
def deadlines (s : State) : List Nat := (defined s).filter (isDeadline s)

/-- The defined pools. -/
def pools (s : State) : List Nat := (List.range 32).filter (fun p => s.flag (F.SCH_POOL_CFG_defined p))

/-- The usable bins of a pool (R181, R186). -/
def usableCount (s : State) (pool : Nat) : Nat :=
  ((poolBins s pool).filter (fun l => binUsable s (physOf s l))).length

/-- A bin that a run counts (R186): usable, and not held OFF by its gate's enable or by a hold of its
domain. -/
def runUsable (s : State) (p : Nat) : Bool :=
  binUsable s p && s.flag (F.CLK_GATE_EN_run_en p) && !s.flag (F.FAB_BIN_STATUS_held p)

/-- m of a pool at a run (R186, R191). -/
def runCount (s : State) (pool : Nat) : Nat :=
  ((poolBins s pool).filter (fun l => runUsable s (physOf s l))).length

/-- m′ of a pool with `m` bins (R191). -/
def lessSpare (s : State) (pool m : Nat) : Nat := m - s.get (F.SCH_POOL_CFG_n_plus_1 pool)

/-- m′ of a pool at a run (R191). -/
def mPrime (s : State) (pool : Nat) : Nat := lessSpare s pool (runCount s pool)

/-- The free spare bins F_s (R193). -/
def freeSpares (s : State) : Nat :=
  ((List.range 264).filter (fun p => binKind s p = Kind.spare
    && !s.flag (F.FAB_BIN_STATUS_retired p))).length

/-- The period, the release count n and the input units of class `k`. -/
def classT (s : State) (k : Nat) : Nat := s.get (F.SCH_CLASS_PERIOD_t_tk k)
def classN (s : State) (k : Nat) : Nat := s.get (F.SCH_CLASS_CFG_n_m1 k) + 1
def classIn (s : State) (k : Nat) : Nat := s.get (F.SCH_CLASS_INPUT_in_units k)

/-- d_spawn (R192). -/
def dSpawn (s : State) : Nat :=
  ((defined s).filter (fun k => originOk s k 2)).foldl (fun m k => max m (classD s k)) 0

/-- need_k (R192). -/
def needOf (s : State) (k : Nat) : Nat :=
  let ms := s.get (F.SCH_CLASS_CFG_max_succ k)
  let x := if 0 < ms then dSpawn s else 0
  let q := if classT s k = 0 then admFree s k 0 else (classD s k + x) / classT s k
  classN s k * (q + 1) * (1 + ms)

/-- Σ res_k (R192). -/
def resSum (s : State) : Nat := (defined s).foldl (fun n k => n + s.get (F.SCH_CLASS_RES_res k)) 0

/-- F_k (R194). -/
def fillOf (s : State) (k : Nat) : Nat := if classIn s k = 0 then 5 else 5 + 120 + 4 * classIn s k

/-- u_k in 2^−32 (R195). -/
def densityU (s : State) (k : Nat) : Nat :=
  admCeil (admFree s k 1) (classC s k * uq) (min (classD s k) (classT s k))

/-- δ_k in 2^−32 (R195). -/
def densityOf (s : State) (k : Nat) : Nat := classN s k * densityU s k

/-- Σ δ_k and δ_max over some classes. -/
def densitySum (s : State) (ks : List Nat) : Nat := ks.foldl (fun n k => n + densityOf s k) 0
def densityMax (s : State) (ks : List Nat) : Nat := ks.foldl (fun n k => max n (densityU s k)) 0

/-- The right-hand side of R195 in 2^−32, 0 when m′ < 1. -/
def densityLimit (m dmax : Nat) : Nat := if m = 0 then 0 else m * uq - (m - 1) * dmax

/-- Test 6 for some classes on `m` bins (R195): with no bin to count it fails for any class. -/
def densityOk (s : State) (ks : List Nat) (m : Nat) : Bool :=
  ks = [] || (m ≠ 0 && densitySum s ks ≤ densityLimit m (densityMax s ks))

/-- The DEADLINE classes of a pool. -/
def poolClasses (s : State) (pool : Nat) : List Nat := (deadlines s).filter (fun k => classPool s k = pool)

/-- The owner ID of a pool: its lowest logical bin (R149). -/
def poolOwner (s : State) (pool : Nat) : Nat := ((poolBins s pool).head?).getD 1023

/-- g_p: the groups whose owner is the pool's owner ID, under a map of owners (R196). -/
def groupsOf (s : State) (owner : Nat → Nat) (pool : Nat) : Nat :=
  ((List.range 32).filter (fun g => owner g = poolOwner s pool)).length

/-- The prefetch demand of a pool in 2^−32 B/tk (R196). -/
def prefetchDemand (s : State) (pool : Nat) : Nat :=
  (poolClasses s pool).foldl
    (fun n k => n + (if classIn s k = 0 then 0
      else admCeil (admFree s k 2) (classN s k * 64 * classIn s k * uq) (classT s k))) 0

/-- 0.8 × S_p in 2^−32 B/tk, rounded down (R196). -/
def prefetchLimit (m g : Nat) : Nat := min (32 * m) (128 * g) * 4 * uq / 5

/-- P_k in µW (R189). -/
def powerOf (s : State) (k : Nat) : Nat :=
  admCeil (admFree s k 3) (983040 * classN s k * s.get (F.SCH_CLASS_ENERGY_e_nj k)) (classT s k)

/-- Σ P_k of some classes. -/
def powerSum (s : State) (ks : List Nat) : Nat := ks.foldl (fun n k => n + powerOf s k) 0

/-- The fuse entry at or above a junction temperature (R197): every 5 °C from −40 to 125 °C. -/
def pBaseIndex (tj : Int) : Nat := min 33 (((tj + 40 + 4) / 5).toNat)

/-- P_base at tj: the fused values of the four dies (R197, log entry 4). -/
def pBase (tj : Int) : Nat :=
  (List.range 4).foldl (fun n d => n + Config.fuse (1000 + 34 * d + pBaseIndex tj) % 2 ^ 30) 0

/-- ⌊0.95 × cap⌋ in µW (R189). -/
def powerLimit (cap : Nat) : Nat := cap * 95000

/-- P_total of the configuration (R197). -/
def pTotal (s : State) : Nat :=
  pBase s.adm.tj + s.adm.pLane + s.adm.pIo + s.adm.pStatic + powerSum s (deadlines s)

/-- A failure of a test: its code, reason, pool or class, and whether it is a class. -/
structure AdmFail where
  code : Nat
  reason : Nat
  place : Nat
  isClass : Bool
  deriving DecidableEq, Repr

/-- The first of some classes or pools that satisfies `p`, as a failure. -/
def firstFail (code reason : Nat) (isClass : Bool) (p : Nat → Bool) (l : List Nat) : List AdmFail :=
  ((l.find? p).map (fun k => (⟨code, reason, k, isClass⟩ : AdmFail))).toList

/-- Every failed test in the order of R190, each with its lowest reason and place. -/
def admFails (s : State) (owner : Nat → Nat) : List AdmFail :=
  let np1 := (pools s).filter (fun p => s.flag (F.SCH_POOL_CFG_n_plus_1 p))
  let crit := toInt 8 (s.get F.THM_THRESH_crit)
  let tj := s.adm.tj
  let one := fun (l : List AdmFail) => l.take 1
  firstFail 6 0 true (fun k => classC s k = 0 || classD s k = 0 || (isDeadline s k && classT s k = 0))
      (defined s)
  ++ firstFail 7 0 false (fun p => runCount s p = 0) (pools s)
  ++ one ((if 8192 < resSum s then [⟨5, 1, 0, false⟩] else [])
      ++ firstFail 5 2 true (fun k => s.get (F.SCH_CLASS_RES_res k) < needOf s k) (deadlines s))
  ++ one (firstFail 8 1 false (fun p => runCount s p < 2) np1
      ++ (if freeSpares s < np1.length then [⟨8, 2, 0xFF, false⟩] else []))
  ++ one (firstFail 2 1 true (fun k => min (classD s k) (classT s k) < classC s k) (deadlines s)
      ++ firstFail 2 2 true (fun k => classD s k < classC s k + fillOf s k) (deadlines s))
  ++ firstFail 1 0 false (fun p => !densityOk s (poolClasses s p) (mPrime s p)) (pools s)
  ++ firstFail 3 1 false
      (fun p => prefetchLimit (mPrime s p) (groupsOf s owner p) < prefetchDemand s p) (pools s)
  ++ one ((if tj < toInt 8 (s.get F.ID_GRADE_tj_min_c) || toInt 8 (s.get F.ID_GRADE_tj_max_c) < tj
        then [⟨4, 1, 0, false⟩] else [])
      ++ (if crit ≤ tj then [⟨4, 2, 0, false⟩] else [])
      ++ (if powerLimit s.adm.cap < pTotal s then [⟨4, 3, 0, false⟩] else [])
      ++ (if s.adm.cap < 600 || 1750 < s.adm.cap then [⟨4, 4, 0, false⟩] else []))

/-- 2^−32 to UQ16.16, rounded up for sums and down for limits (R206), cut to the register. -/
def uqUp (n : Nat) : Nat := satNat 32 (ceilDiv n 65536)
def uqDown (n : Nat) : Nat := satNat 32 (n / 65536)

/-- The figures of pool `p` at a run (R206), 0 for a pool that the configuration judged does not define.
The present usable count and covered are no figures of a run: R202 keeps them. -/
def poolResults (s : State) (owner : Nat → Nat) (p : Nat) : List (Fld × Nat) :=
  let on := s.flag (F.SCH_POOL_CFG_defined p)
  let fig := fun n => if on then n else 0
  let ks := poolClasses s p
  let m := mPrime s p
  let g := groupsOf s owner p
  [(F.ADM_POOL_BINS_m_used p, fig m),
   (F.ADM_POOL_BINS_n_plus_1 p, fig (s.get (F.SCH_POOL_CFG_n_plus_1 p))), (F.ADM_POOL_BINS_groups p, fig g),
   (F.ADM_POOL_DSUM_sum p, fig (uqUp (densitySum s ks))),
   (F.ADM_POOL_DLIMIT_limit p, fig (uqDown (densityLimit m (densityMax s ks)))),
   (F.ADM_POOL_DMAX_umax p, fig (uqUp (densityMax s ks))),
   (F.ADM_POOL_PF_demand p, fig (uqUp (prefetchDemand s p))),
   (F.ADM_POOL_PFLIM_limit p, fig (uqDown (prefetchLimit m g))),
   (F.ADM_POOL_PDL_uw p, fig (satNat 32 (powerSum s ks)))]

/-- The result registers of class `k` (R206): 0 for a BEST_EFFORT class. -/
def classResults (s : State) (k : Nat) : List (Fld × Nat) :=
  let on := s.flag (F.SCH_CLASS_CFG_defined k) && isDeadline s k
  [(F.ADM_CLASS_DENS_delta k, if on then uqUp (densityOf s k) else 0),
   (F.ADM_CLASS_FILL_f_tk k, if on then fillOf s k else 0),
   (F.ADM_CLASS_POWER_uw k, if on then satNat 32 (powerOf s k) else 0),
   (F.ADM_CLASS_RESMIN_need k, if on then satNat 14 (needOf s k) else 0)]

/-- The figures of a run on configuration `h` (R198, R206). ADM_CAP is none of them: it is the cap in force. -/
def admResults (h : State) (owner : Nat → Nat) (fails : List AdmFail) (kind : Nat) : List (Fld × Nat) :=
  let f := (fails.head?).getD ⟨0, 0, 0, false⟩
  let decl := h.adm.pLane + h.adm.pIo + h.adm.pStatic
  [(F.ADM_RESULT_pass, ofBool (fails = [])), (F.ADM_RESULT_in_force, 0), (F.ADM_RESULT_kind, kind),
   (F.ADM_RESULT_first_code, f.code), (F.ADM_RESULT_reason, f.reason),
   (F.ADM_RESULT_where, f.place), (F.ADM_RESULT_where_class, ofBool f.isClass),
   (F.ADM_FAIL_MAP_failed, fails.foldl (fun m x => putBit m (x.code - 1) true) 0),
   (F.ADM_TJ_tj_adm, ofInt 8 h.adm.tj), (F.ADM_TJ_tj_crit, h.get F.THM_THRESH_crit),
   (F.ADM_PBASE_uw, satNat 32 (pBase h.adm.tj)),
   (F.ADM_PDECL_uw, satNat 32 decl), (F.ADM_PDL_uw, satNat 32 (powerSum h (deadlines h))),
   (F.ADM_PTOTAL_uw, satNat 32 (pTotal h)), (F.ADM_PLIMIT_uw, satNat 32 (powerLimit h.adm.cap)),
   (F.ADM_STORE_REQ_need, satNat 14 ((deadlines h).foldl (fun n k => n + needOf h k) 0)),
   (F.ADM_STORE_REQ_res, satNat 14 (resSum h)), (F.ADM_SPARE_STATUS_free, freeSpares h),
   (F.ADM_SPARE_STATUS_np1_pools,
     ((pools h).filter (fun p => h.flag (F.SCH_POOL_CFG_n_plus_1 p))).length)]
  ++ (List.range 32).flatMap (poolResults h owner) ++ (List.range 64).flatMap (classResults h)

/-- An admission event (R198, R205): with the critical entry of a full load goes ADM_FAIL_MAP. -/
def admEvent (s : State) (f : AdmFail) (phase sev : Nat) (crit : Bool) : State :=
  raiseLed s crit (if crit then [s.get F.ADM_FAIL_MAP_failed] else []) 1019 f.code sev
    (f.place + f.reason * 256 + phase * 4096 + ofBool f.isClass * 65536)

/-- An admission run (R185, R190, R198, R199, R205): the configuration judged is `h`'s; the results
and the event go to `s`. Kind 0 is a full load and 1 a partial stream. The answer is true when every
test passes. -/
def admissionRun (s h : State) (owner : Nat → Nat) (kind : Nat) : Bool × State :=
  let fails := admFails h owner
  let zero := (deadlines h).any (fun k => classT h k = 0 || classD h k = 0)
  let s := s.setAll (admResults h owner fails kind)
  let s := if zero then { s with fresh := s.fresh + admFreeUse } else s
  match fails with
  | [] => (true, raise s 1019 0x09 3 ((deadlines h).length + kind * 4096))
  | f :: _ => (false, admEvent s f kind (if kind = 0 then 6 else 4) (kind = 0))

/-! Coverage (R181, R202). -/

/-- The DEADLINE classes of a pool that R202 counts: those not shed under R458. -/
def coverClasses (s : State) (pool : Nat) : List Nat :=
  (poolClasses s pool).filter (fun k => !shedNames s s.shedCov k)

/-- The recomputation of one pool (R202): its figures, covered, and the event on a change. -/
def coverageCheck (s : State) (pool : Nat) : State :=
  let m := usableCount s pool
  let ks := coverClasses s pool
  let ok := densityOk s ks m
  let was := s.flag (F.ADM_POOL_BINS_covered pool)
  let s := s.setAll [(F.ADM_POOL_BINS_usable pool, m), (F.ADM_POOL_BINS_covered pool, ofBool ok),
    (F.ADM_POOL_DLIMIT_limit pool, uqDown (densityLimit m (densityMax s ks)))]
  if was && !ok then raise s 1019 0x0A 5 (pool + m * 65536)
  else if !was && ok then raise s 1019 0x0B 3 (pool + m * 65536)
  else s

/-- DEGRADED holds with cause bit 4 while a pool is not covered (R202, R459). -/
def coverageMode (s : State) : State :=
  setDegraded s 4 ((pools s).any (fun p => !s.flag (F.ADM_POOL_BINS_covered p)))

/-- COVERAGE_RECOMPUTE (R202): one pool is recomputed, and DEGRADED follows. -/
def coverageRecompute (s : State) (pool : Nat) : State := coverageMode (coverageCheck s pool)

/-- Every pool is recomputed after a load or a commit has changed the bins and the classes (R186, R202); a
pool that is defined no more has no bins and no coverage. -/
def coverageAll (s : State) : State :=
  let s := (List.range 32).foldl (fun t p =>
    if t.flag (F.SCH_POOL_CFG_defined p) then coverageCheck t p
    else t.setAll [(F.ADM_POOL_BINS_usable p, 0), (F.ADM_POOL_BINS_covered p, 0)]) s
  coverageMode s

/-- A pool's usable count follows its bins (R181, R202): SCH_POOL_EMPTY is raised once when no bin
can take a decision, and an active twin may declare a fault (R388). -/
def poolRecount (s : State) (pool : Nat) : State :=
  if 31 < pool || !s.flag (F.SCH_POOL_CFG_defined pool) then s
  else
    let m := usableCount s pool
    if m = s.get (F.SCH_POOL_STATUS_usable pool) then s
    else
      let s := s.set (F.SCH_POOL_STATUS_usable pool) m
      let s := if m = 0 then
          if s.flag (F.SCH_POOL_STATUS_empty pool) then s
          else
            let t := raise (s.set (F.SCH_POOL_STATUS_empty pool) 1) 1020 0x10 6 pool
            if t.flag F.TW_CFG_fault_on_pool_empty then declareFault t 5 else t
        else s.set (F.SCH_POOL_STATUS_empty pool) 0
      coverageRecompute s pool

/-! Run-time refusals (R196, R200). -/

/-- A check made at run time (R196, R200): ADM_RESULT.kind says so; the verdict stays (log entry 59). -/
def runCheck (s : State) : State := s.set F.ADM_RESULT_kind 2

/-- A run-time refusal of admission (R200, R205): phase 2, severity 3. -/
def admRefuse (s : State) (code reason place : Nat) : State :=
  admEvent s ⟨code, reason, place, false⟩ 2 3 false

/-- The reason for which a cap is refused at run time, 0 for none (R200). -/
def capReason (s : State) (cap : Nat) : Nat :=
  if cap < 600 || 1750 < cap then 4
  else if cap < s.get F.THM_CAP_cap && powerLimit cap < pTotal s then 3
  else 0

/-- CAP_WRITE (R200): a cap of `cap` × 0.1 W is set, or refused. -/
def capWrite (s : State) (cap : Nat) : State :=
  let r := capReason s cap
  let s := runCheck s
  if r ≠ 0 then admRefuse s 4 r 0
  else
    let s := (s.set F.THM_CAP_cap cap).set F.ADM_CAP_cap cap
    { s with adm := { s.adm with cap := cap } }

/-- CAP_WRITE. -/
def execCapWrite (cap : Nat) (s : State) : Res := checked (.capWrite cap) (capWrite s cap)

/-- The pool that loses bank group `g` by a whole-group handover to `owner` and would then fail test
7 (R196). -/
def prefetchLoser (s : State) (g owner : Nat) : Option Nat :=
  let now := fun x => s.bankOwner (32 * x)
  let next := fun x => if x = g then owner else s.bankOwner (32 * x)
  (pools s).find? (fun p => now g = poolOwner s p && owner ≠ poolOwner s p
    && prefetchLimit (lessSpare s p (usableCount s p)) (groupsOf s next p) < prefetchDemand s p)

/-- A whole-group handover takes group `g` away from a pool's owner ID (R196). -/
def leavesPool (s : State) (g owner : Nat) : Bool :=
  (pools s).any (fun p => s.bankOwner (32 * g) = poolOwner s p && owner ≠ poolOwner s p)

/-- GROUP_HANDOVER (R309, R310, R196): rows 1 to 4 first, then the prefetch test. -/
def groupHandover (s : State) (h : Handover) : State :=
  let r := handoverReason s h
  if r ≠ 0 then handoverRefused s h r
  else
    let s := if leavesPool s h.index h.owner then runCheck s else s
    match prefetchLoser s h.index h.owner with
    | some p => admRefuse (handoverRefused s h 5) 3 2 p
    | none => handoverStart s h

/-- GROUP_HANDOVER. -/
def execGroupHandover (g owner : Nat) (clear : Bool) (s : State) : Res :=
  checked (.groupHandover g owner clear) (groupHandover s ⟨true, g, owner, clear, false, s.now⟩)

/-- A bank handover (R309, R310). -/
def bankHandover (s : State) (h : Handover) : State :=
  let r := handoverReason s h
  if r ≠ 0 then handoverRefused s h r else handoverStart s h

/-- BANK_HANDOVER. -/
def execBankHandover (b owner : Nat) (clear : Bool) (s : State) : Res :=
  checked (.bankHandover b owner clear) (bankHandover s ⟨false, b, owner, clear, false, s.now⟩)

end Sys2Proof.Machine
end

