-- ==== Sys2Proof/Machine/BinReset.lean ====
section
/-! DEFINITION. BIN resets (R24, R92, R128, R153, R154, R179, R405): what starts and ends one, and what
holds a bin in it. Clock recovery, configuration repair, commits and RST_CTRL share them. -/

namespace Sys2Proof.Machine

/-! Regional clocks (R88). A multiplexer of shelf s, tree t and output RC i + 1 has number
48 s + 3 t + i. -/

/-- The regional tree that serves physical bin `p`, as 16 · shelf + tree. -/
def treeOf (p : Nat) : Nat :=
  let q := p % 132
  16 * (p / 132) + (if q < 128 then q / 8 else q - 128)

/-- Static bin `p` clocks a tile from output RC `i` of its tree (R124). -/
def usesRc (s : State) (p i : Nat) : Bool :=
  binKind s p = Kind.static &&
    ((List.range 16).any (fun t => bits (s.get (F.FAB_TILE_CLK0_clk p)) (2 * t) 2 = i)
      || (List.range 16).any (fun t => bits (s.get (F.FAB_TILE_CLK1_clk p)) (2 * t) 2 = i))

/-- The static bins that depend on regional multiplexer `m` (R91). -/
def muxBins (s : State) (m : Nat) : List Nat :=
  (List.range 264).filter (fun p => treeOf p = m / 3 && usesRc s p (m % 3 + 1))

/-- The bin depends on a multiplexer held under R92. -/
def clockHeld (s : State) (p : Nat) : Bool :=
  s.clk.held.any (fun h => h.1 < 96 && (muxBins s h.1).contains p)

/-- A forced recovery switches a regional clock of bin `p` and holds it in reset (R91). -/
def clockForced (s : State) (p : Nat) : Bool :=
  s.clk.moves.any (fun x => x.forced && x.mux < 96 && (muxBins s x.mux).contains p)

/-! Configuration words (R360). The words of bin p are those from 98,816 · p: 12,096 for each context, then 2,048 of
route and clock configuration (log entry 33). -/

/-- The words of one bin and of the whole memory. -/
def cfgBinWords : Nat := 98816
def cfgWords : Nat := 26087424

/-- The physical bin, and the context or 8 for the route configuration, of a word. -/
def wordBin (w : Nat) : Nat := w / cfgBinWords
def wordCtx (w : Nat) : Nat := min 8 (w % cfgBinWords / 12096)

/-- Bin `p` enters context `c`: the words there that await repair hold the bin from now on (R362). -/
def repairMark (s : State) (p c : Nat) : State :=
  let hit := fun (r : ScrubWord) => wordBin r.word = p && wordCtx r.word = c
  if !s.cfg.repairs.any hit then s
  else { s with cfg := { s.cfg with
    repairs := s.cfg.repairs.map (fun r => if hit r then { r with holds := true } else r)
    heldRepair := if binKind s p = Kind.static then nins p s.cfg.heldRepair else s.cfg.heldRepair } }

/-- Something holds bin `p` in reset: a lost or forced clock, a word that awaits repair or cannot be repaired, a
commit, the reset or loss of its shelf, DORMANT (R91, R92, R356, R362, R400, R405, R411). -/
def binHeld (s : State) (p : Nat) : Bool :=
  s.modes.shelfRst.contains (shelfOf p) || s.modes.deadDies.contains (1 + shelfOf p)
  || (s.mode = Mode.dormant && !s.modes.shelvesUp) ||
  clockHeld s p || clockForced s p || s.cfg.heldRepair.contains p || s.cfg.heldFor.contains p || s.cfg.heldCommit.contains p

/-- The fields cleared by BIN return to their reset values (R13, R130, R157); a bin whose gate is closed
stays OFF, and `held` is 1 again while a hold of R92 lasts. A kill by the reset shows IDLE at once, not KILL (log entry
144). -/
def clearBinFields (s : State) (p : Nat) : State :=
  s.setAll [(F.FAB_BIN_STATUS_ctx p, 0), (F.FAB_BIN_STATUS_held p, ofBool (clockHeld s p)),
    (F.BIN_SEQ_STATUS_state p, if s.seqSt p = Seq.off then Seq.off else Seq.idle),
    (F.BIN_SEQ_STATUS_ctx p, 0), (F.BIN_SEQ_STATUS_active_slot p, 0), (F.BIN_ITEM_CLASS_class p, 0),
    (F.BIN_ITEM_CLASS_spawns p, 0), (F.BIN_ITEM_SEQ_seq p, 0), (F.BIN_ITEM_START_LO_fp_lo p, 0),
    (F.BIN_ITEM_START_HI_fp_hi p, 0), (F.BIN_BUDGET_LEFT_left p, 0)]

/-- Bin `p` holds the register port (R486). -/
def holdsRegPort (s : State) (p : Nat) : Bool :=
  s.flag F.EV_RP_CFG_enable && physOf s (s.get F.EV_RP_CFG_reg_bin) = p

/-- A BIN reset begins without its event: the running item is killed with reason 2, the generation
toggles once, the bin's registers take their initial values (R128, R151, R179), those of context 0 in a scheduled bin
(log entry 145). -/
def binResetQuiet (s : State) (p : Nat) : State :=
  let s := rstBegin s (64 + p)
  let s := if (runItem s p).isSome then killRun s p else toggleGen s p
  let s := clearBinFields s p
  let s := if holdsRegPort s p then s.set F.EV_RP_STATUS_outstanding 0 else s
  let s := setBin s p { s.bin p with rst := true, initAt := none, was := none, use := none, item := none }
  loadInitial s p (if binKind s p = Kind.static then s.get (F.BIN_CTX_CFG_start_ctx p) else 0)

/-- A BIN reset begins (R405, R420): causes 1 write, 2 clock, 3 repair, 4 commit. -/
def binResetStart (s : State) (p cause : Nat) : State :=
  binResetQuiet (raise s 1021 0x45 3 (p + cause * 512)) p

/-- A BIN reset is released unless something holds the bin: a static bin runs from start_ctx, any other
bin is IDLE, and a bin whose gate is closed stays OFF (R137, R154). -/
def binResetEnd (s : State) (p : Nat) : State :=
  let s := if (s.bin p).rst && binKind s p = Kind.static then repairMark s p (s.get (F.BIN_CTX_CFG_start_ctx p)) else s
  if !(s.bin p).rst || binHeld s p then s
  else
    let s := setBin s p { s.bin p with rst := false }
    let s := if binKind s p = Kind.static then
        let c := s.get (F.BIN_CTX_CFG_start_ctx p)
        loadInitial ((s.set (F.FAB_BIN_STATUS_ctx p) c).set (F.BIN_SEQ_STATUS_ctx p) c) p c
      else s
    if s.seqSt p = Seq.off then s
    else s.set (F.BIN_SEQ_STATUS_state p) (if staticUp s p then Seq.run else Seq.idle)

/-- FAB_BIN_STATUS.held follows the clock holds of bin `p` (R130); a held bin is OFF (R137). -/
def heldFollow (s : State) (p : Nat) : State :=
  let h := clockHeld s p
  let s := s.set (F.FAB_BIN_STATUS_held p) (ofBool h)
  if h then s.set (F.BIN_SEQ_STATUS_state p) Seq.off else binAwake s p

/-- A scheduled bin's running item is killed and its bound items return to WAITING (R179, the SHELF and
retirement rows). -/
def clearBinItems (s : State) (p : Nat) : State := unbindAll (killRun s p) p

/-- The static bins. -/
def staticBins (s : State) : List Nat := (List.range 264).filter (fun p => binKind s p = Kind.static)

/-- Shelf logic is switched off (R400 step 2, R409): static bins in reset, trays lost, scheduled slots FREE,
every bin OFF. -/
def shelvesOff (s : State) : State :=
  let s := (staticBins s).foldl binResetQuiet s
  let s := { s with trays := [], trayValid := [], mesh := ⟨[], []⟩, sch := { s.sch with fills := [] } }
  (List.range 264).foldl (fun t p =>
    let t := setSlot (setSlot t p 0 0) p 1 0
    let t := setBin t p { t.bin p with free0 := t.now, free1 := t.now, fab := BinFab.zero, lines := [], rdBeat := none }
    closeGate t p) s

/-- The shelves lose their power while they run (R228): every bin's item ends as by the SHELF row of R179, and
shelf logic is off. -/
def shelvesCut (s : State) : State :=
  shelvesOff ((List.range 264).foldl (fun t p => unbindAll (binResetQuiet t p) p) s)

end Sys2Proof.Machine
end

