-- ==== Sys2Proof/Machine/Thermal.lean ====
section
/-! DEFINITION. The thermal manager (R207 to R235), coverage shedding (R458) and the exhaustion of
spares (R457). -/

namespace Sys2Proof.Machine

/-! Spares (R457). -/

/-- SPR_EXHAUSTED (R457): kind 1 bins, 2 banks, 3 VCOs, 4 sensors, 5 ledger; DEGRADED bit 5. -/
def sprExhausted (s : State) (kind place : Nat) : State :=
  let s := raise (s.set F.SPR_STATUS_exhausted 1) 1022 0x24 6 (kind + place * 256)
  setDegraded s 5 true

/-! Sensors (R207, R208). -/

/-- The die of sensor `n`: 0 Cellar, 1 Shelf A, 2 Shelf B, 3 Loft. -/
def sensorDie (n : Nat) : Nat := if n < 16 then 0 else if n < 80 then 1 else if n < 144 then 2 else 3

/-- The region of sensor `n` within its die. -/
def sensorRegion (n : Nat) : Nat :=
  if n < 16 then n else if n < 80 then (n - 16) / 4 else if n < 144 then (n - 80) / 4 else n - 144

/-- The pairs that serve region `r` of die `d` (R207). -/
def regionPairs (d r : Nat) : List Nat :=
  if d = 0 then [r / 2] else if d = 1 then [8 + 2 * r, 9 + 2 * r]
  else if d = 2 then [40 + 2 * r, 41 + 2 * r] else [72 + r / 2]

/-- The sensors of a die. -/
def dieSensors (d : Nat) : List Nat := (List.range 160).filter (fun n => sensorDie n = d)

/-- A sensor has failed (R208). -/
def sensorFailed (s : State) (n : Nat) : Bool := s.flag (F.THM_SENSOR_failed n)

/-- The corrected reading of a sensor in 1/16 °C. -/
def sensorTemp (s : State) (n : Nat) : Int := toInt 16 (s.get (F.THM_SENSOR_temp n))

/-- A sensor gave a valid reading in the last sample. -/
def sensorValid (s : State) (n : Nat) : Bool := s.flag (F.THM_SENSOR_valid n) && !sensorFailed s n

/-- The thermal record is replaced. -/
def setThm (s : State) (t : Thermal) : State := { s with thm := t }

/-- A counter of a keyed list goes up by one or back to 0. -/
def tally (l : List (Nat × Nat)) (k : Nat) (on : Bool) : List (Nat × Nat) :=
  if on then aset l k ((aget l k).getD 0 + 1) else adel l k

/-- A sensor fails (R208, R213, R450): a substitution by its partner, and THM_PAIR_LOST when the
partner has failed too. Cause 1 invalid, 2 recalibration. -/
def sensorFail (s : State) (n cause : Nat) : State :=
  if sensorFailed s n then s
  else
    let s := (s.set (F.THM_SENSOR_failed n) 1).set (F.THM_SENSOR_valid n) 0
    let s := raiseCrit (s.bump F.SPR_SUB_CNT_sensors 1) true (808 + n) 0x13 5 cause
    if sensorFailed s (n / 2 * 2) && sensorFailed s (n / 2 * 2 + 1) then
      let j := n / 2
      let s := raise (s.bump F.SPR_STATUS_pairs_lost 1) (808 + 2 * j) 0x15 6 j
      sprExhausted s 4 j
    else s

/-- One reading of a sample (R208): a value outside −60 to +150 °C, or none, is invalid; the 10th
invalid sample in a row fails the sensor. -/
def takeReading (s : State) (n : Nat) (r : Option Int) : State :=
  if sensorFailed s n then s
  else
    let ok := r.any (fun t => -960 ≤ t && t ≤ 2400)
    let s := setThm s { s.thm with invalid := tally s.thm.invalid n (!ok) }
    if ok then
      let t := r.getD 0 + toInt 8 (s.get (F.THM_SENSOR_offset n))
      (s.set (F.THM_SENSOR_temp n) (satInt 16 t)).set (F.THM_SENSOR_valid n) 1
    else
      let s := s.set (F.THM_SENSOR_valid n) 0
      if 10 ≤ (aget s.thm.invalid n).getD 0 then sensorFail s n 1 else s

/-- The pair's reading (R208): the higher of its valid sensors; where neither is valid in this sample
but one has not failed, the last reading stands. -/
def pairTemp (s : State) (j : Nat) : Option Int :=
  let two := [2 * j, 2 * j + 1]
  let live := two.filter (sensorValid s)
  let use := if live = [] then two.filter (fun n => !sensorFailed s n) else live
  match use with
  | [] => none
  | a :: t => some (t.foldl (fun m n => max m (sensorTemp s n)) (sensorTemp s a))

/-- The disagreement of a pair (R208): more than 4 °C on a shelf, 10 °C in the Cellar or the Loft,
for 1 s. -/
def pairCheck (s : State) (j : Nat) : State :=
  let a := 2 * j
  if !sensorValid s a || !sensorValid s (a + 1) then setThm s { s.thm with disagree := tally s.thm.disagree j false }
  else
    let diff := (sensorTemp s a - sensorTemp s (a + 1)).natAbs
    let lim := if 8 ≤ j && j ≤ 71 then 64 else 160
    let s := setThm s { s.thm with disagree := tally s.thm.disagree j (lim < diff) }
    if lim < diff then
      if 10001 ≤ (aget s.thm.disagree j).getD 0 && !s.flag (F.THM_SENSOR_disagree a) then
        let s := (s.set (F.THM_SENSOR_disagree a) 1).set (F.THM_SENSOR_disagree (a + 1)) 1
        raise s (808 + a) 0x12 4 (satNat 16 diff)
      else s
    else (s.set (F.THM_SENSOR_disagree a) 0).set (F.THM_SENSOR_disagree (a + 1)) 0

/-! Regions and dies (R209, R211, R212, R214). -/

/-- Die `d` is suspect. -/
def dieSuspect (s : State) (d : Nat) : Bool := bitAt (s.get F.THM_STATUS_suspect) d

/-- The highest reading among the pairs of a region; none when all have both sensors failed. -/
def regionMeas (s : State) (d r : Nat) : Option Int :=
  match (regionPairs d r).filterMap (pairTemp s) with
  | [] => none
  | a :: t => some (t.foldl max a)

/-- T_est(d, r) in 1/16 °C as the registers hold it. -/
def estOf (s : State) (d r : Nat) : Int := toInt 16 (s.get (F.THM_EST_est (16 * d + r)))

/-- The 8 °C that R214 adds to a suspect die's estimate while the model is weak. -/
def weakAdd (s : State) (d : Nat) : Int :=
  if s.flag F.THM_STATUS_model_weak && dieSuspect s d then 128 else 0

/-- The temperature of region `r` of die `d` (R209). -/
def regionTemp (s : State) (d r : Nat) : Int :=
  if dieSuspect s d then estOf s d r + weakAdd s d
  else (regionMeas s d r).getD (estOf s d r)

/-- The region uses T_est (R209). -/
def usesEst (s : State) (d r : Nat) : Bool := dieSuspect s d || (regionMeas s d r).isNone

/-- The power of region `i % 16` of die `i / 16` in µW over one window of energies `e` (R207, R210): the bins of
its tree on a shelf, its two bank groups in the Loft; `cel` gives the Cellar's regions, whose share no counter
names (log entry 114). -/
def regionPower (e : List (Nat × Nat)) (cel : List Nat) (i : Nat) : Nat :=
  let d := i / 16
  let r := i % 16
  let own := fun k =>
    if d = 3 then k = 400 + 2 * r || k = 401 + 2 * r
    else k ≤ 263 && treeOf k = 16 * (d - 1) + r
  if d = 0 then cel.getD r 0 else 10 * (e.filter (fun p => own p.1)).foldl (fun n p => n + p.2) 0

/-- P_f of every region after a window (R211): a first-order lag with the time constant τ of the die. What
part of the difference one window takes is a free value of τ (log entry 114). -/
def lagPower (s : State) (x : ThermSample) : State :=
  setThm s { s.thm with filtered := (List.range 64).map (fun i =>
    let g := Config.lagGain (s.get (F.THM_MODEL_TAU_tau_us (i / 16))) % 65537
    (s.thm.filtered.getD i 0 * (65536 - g) + 65536 * regionPower x.energy x.power i * g) / 65536) }

/-- The estimates of one sample (R211): the adjacent regions' temperatures, of the present sample
where they rest on sensors and otherwise T_est of the previous sample; θ in 0.001 °C/W and the
filtered power in µW; the sum is rounded to the nearest 1/16 °C (log entry 13). -/
def estimate (s : State) (d r : Nat) : Int :=
  let lo : Int := if 0 < d then s.get (F.THM_MODEL_W_w_below d) * regionTemp s (d - 1) r else 0
  let hi : Int := if d < 3 then s.get (F.THM_MODEL_W_w_above d) * regionTemp s (d + 1) r else 0
  let th : Nat := s.get (F.THM_MODEL_THETA_theta (16 * d + r)) * (s.thm.filtered.getD (16 * d + r) 0 / 65536)
  let den : Int := 32768 * 1000000000
  ((lo + hi) * 1000000000 + (th : Int) * 16 * 32768 + den / 2) / den

/-- The largest T_est of a die. -/
def dieEst (s : State) (d : Nat) : Int :=
  (List.range 16).foldl (fun m r => max m (estOf s d r)) (estOf s d 0)

/-- The highest valid reading of a die, if any. -/
def dieMeas (s : State) (d : Nat) : Option Int :=
  match ((dieSensors d).filter (sensorValid s)).map (sensorTemp s) with
  | [] => none
  | a :: t => some (t.foldl max a)

/-- THM_DIE of die `d` (R235): the highest valid reading, a free value where no reading of the die is valid, and
the largest T_est. -/
def dieRegs (s : State) (d : Nat) : State :=
  let s := s.set (F.THM_DIE_est d) (satInt 16 (dieEst s d))
  match dieMeas s d with
  | some m => s.set (F.THM_DIE_meas d) (satInt 16 m)
  | none => (s.set (F.THM_DIE_meas d) s.free).useFree

/-- THM_SENSOR_SUSPECT (R212): the excess over 8 °C has lasted 10 ms. -/
def suspectCheck (s : State) (d : Nat) : State :=
  match dieMeas s d with
  | none => s
  | some m =>
    let e := dieEst s d
    let high := 128 < e - m
    let s := setThm s { s.thm with excess := tally s.thm.excess d high }
    if high && 101 ≤ (aget s.thm.excess d).getD 0 && !dieSuspect s d then
      let s := s.set F.THM_STATUS_suspect (putBit (s.get F.THM_STATUS_suspect) d true)
      let s := (dieSensors d).foldl (fun t n => t.set (F.THM_SENSOR_suspect n) 1) s
      let s := s.set F.THM_RECAL_pending (putBit (s.get F.THM_RECAL_pending) d true)
      raise s 1018 0x10 5 (d + satNat 8 ((e - m) / 16).toNat * 256)
    else s

/-- A suspect die that has been recalibrated is trusted again after 10 ms of agreement within 4 °C
(R213). -/
def trustCheck (s : State) (d : Nat) : State :=
  if !dieSuspect s d || bitAt (s.get F.THM_RECAL_pending) d then s
  else match dieMeas s d with
    | none => s
    | some m =>
      let ok := (dieEst s d - m).natAbs ≤ 64
      let s := setThm s { s.thm with agree := tally s.thm.agree d ok }
      if ok && 101 ≤ (aget s.thm.agree d).getD 0 then
        let s := s.set F.THM_STATUS_suspect (putBit (s.get F.THM_STATUS_suspect) d false)
        (dieSensors d).foldl (fun t n => t.set (F.THM_SENSOR_suspect n) 0) s
      else s

/-- Two or more suspect dies make the model weak (R214). -/
def weakCheck (s : State) : State :=
  let n := popCount 4 (s.get F.THM_STATUS_suspect)
  let was := s.flag F.THM_STATUS_model_weak
  if 2 ≤ n && !was then
    let s := setDegraded (s.set F.THM_STATUS_model_weak 1) 3 true
    raise s 1018 0x14 6 (s.get F.THM_STATUS_suspect)
  else if n < 2 && was then setDegraded (s.set F.THM_STATUS_model_weak 0) 3 false
  else s

/-- The hottest region of the stack: its temperature, die and region (R209). -/
def hottest (s : State) : Int × Nat × Nat :=
  ((List.range 64).map (fun i => (regionTemp s (i / 16) (i % 16), i / 16, i % 16))).foldl
    (fun m x => if m.1 < x.1 then x else m) (regionTemp s 0 0, 0, 0)

/-- The temperature of a die (R209). -/
def dieTemp (s : State) (d : Nat) : Int :=
  (List.range 16).foldl (fun m r => max m (regionTemp s d r)) (regionTemp s d 0)

/-- T_hot as the register holds it. -/
def tHot (s : State) : Int := toInt 16 (s.get F.THM_HOT_t_hot)

/-! Power (R210). -/

/-- The energy of the counters from `a` to `b`. -/
def energySum (e : List (Nat × Nat)) (a b : Nat) : Nat :=
  (e.filter (fun p => a ≤ p.1 && p.1 ≤ b)).foldl (fun n p => n + p.2) 0

/-- A number that has an energy counter (R210): 0 to 263 the bins, 300 to 315 the lane groups, 400 to 431 the Loft
bank groups, 500 the Cellar hard logic, 501 the user I/O. -/
def isCounter (n : Nat) : Bool :=
  n ≤ 263 || (300 ≤ n && n ≤ 315) || (400 ≤ n && n ≤ 431) || n = 500 || n = 501

/-- The energy counters and the powers of one window (R210): 1 nJ in 100 µs is 10 µW. -/
def takeEnergy (s : State) (window : List (Nat × Nat)) : State :=
  let e := window.filter (fun p => isCounter p.1)
  let s := e.foldl (fun t p =>
    if p.1 ≤ 263 then t.set (F.THM_EN_BIN_nj p.1) (t.get (F.THM_EN_BIN_nj p.1) + p.2)
    else if 300 ≤ p.1 && p.1 ≤ 315 then
      t.set (F.THM_EN_LGRP_nj (p.1 - 300)) (t.get (F.THM_EN_LGRP_nj (p.1 - 300)) + p.2)
    else if 400 ≤ p.1 && p.1 ≤ 431 then
      t.set (F.THM_EN_BGRP_nj (p.1 - 400)) (t.get (F.THM_EN_BGRP_nj (p.1 - 400)) + p.2)
    else t) s
  let s := setThm s { s.thm with
    enCel := (s.thm.enCel + energySum e 500 500) % 2 ^ 32, enIo := (s.thm.enIo + energySum e 501 501) % 2 ^ 32 }
  let w := fun a b => satNat 32 (10 * energySum e a b)
  let p := w 0 501
  let s := s.setAll [(F.THM_POWER_p_meas, p), (F.THM_POWER_LANE_uw, w 300 315),
    (F.THM_POWER_CEL_uw, w 500 500), (F.THM_POWER_SHA_uw, w 0 131), (F.THM_POWER_SHB_uw, w 132 263),
    (F.THM_POWER_LOFT_uw, w 400 431), (F.THM_POWER_IO_uw, w 501 501)]
  s.set F.THM_POWER_PEAK_uw (max p (s.get F.THM_POWER_PEAK_uw))

/-- P_meas exceeds the cap (R219, R224). -/
def overCap (s : State) : Bool := s.get F.THM_CAP_cap * 100000 < s.get F.THM_POWER_p_meas

/-! Level and headroom (R215 to R219). -/

/-- Threshold register `n` in 1/16 °C: 1 warning, 2 throttle, 3 critical, 4 shutdown. -/
def threshSet (s : State) (n : Nat) : Int :=
  16 * toInt 8 (s.get (if n = 1 then F.THM_THRESH_warn else if n = 2 then F.THM_THRESH_throttle
    else if n = 3 then F.THM_THRESH_crit else F.THM_THRESH_shut))

/-- Threshold `n` as it acts (R215): the configured value, and the grade's default while no configuration is
loaded. -/
def thresh (s : State) (n : Nat) : Int :=
  if s.get F.CFG_STATUS_load_state = 6 then threshSet s n
  else 16 * toInt 8 (if n = 1 then Rst.warn else if n = 2 then Rst.throttle else if n = 3 then Rst.crit else Rst.shut)

/-- The hysteresis in 1/16 °C. -/
def hyst (s : State) : Int := 16 * (max 1 (s.get F.THM_HYST_hyst_c) : Nat)

/-- The data of the level events (R234). -/
def hotData (s : State) : Nat := s.get F.THM_HOT_t_hot + s.get F.THM_HOT_die * 65536

/-- The headroom index (R218). -/
def headroom (s : State) : Nat :=
  let l := s.get F.THM_STATUS_level
  if l = 3 then 0
  else
    let hT := thresh s 2 - tHot s
    let hP : Int := (powerLimit (s.get F.THM_CAP_cap) : Int) - s.get F.THM_POWER_p_meas
    let st : Int := 16 * (max 1 (s.get F.THM_HEAD_CFG_step_t) : Nat)
    let sp : Int := 100000 * (max 1 (s.get F.THM_HEAD_CFG_step_p) : Nat)
    let iT : Nat := if 2 ≤ l then 0 else min 7 (max 0 (hT / st)).toNat
    min iT (min 7 (max 0 (hP / sp)).toNat)

/-- What THM_PRESHUT carries beside the FP (R230): the four die temperatures, P_meas, the index and the suspect
bits (log entry 115). -/
def preshutWords (s : State) : List Nat :=
  (List.range 4).map (fun d => satInt 16 (dieTemp s d))
    ++ [s.get F.THM_POWER_p_meas, headroom s, s.get F.THM_STATUS_suspect]

/-- THM_PRESHUT (R230): at most one entry per 10 s; it is due until its entry is written. -/
def preshut (s : State) : State :=
  if s.thm.preshutAt.any (fun t => s.now < t + 10 * secTk) then s
  else raiseLed (setThm s { s.thm with preshutAt := some s.now, preshutDue := true }) true (preshutWords s)
    1018 0x09 5 (hotData s)

/-- The level rises to `n`, with the event of each threshold reached, in ascending order (R216). -/
def riseTo (s : State) (n : Nat) : State :=
  let l := s.get F.THM_STATUS_level
  let s := if l < n then s.set F.THM_STATUS_level n else s
  let s := if l < 1 && 1 ≤ n then raise s 1018 0x01 4 (hotData s) else s
  if l < 2 && 2 ≤ n then preshut (raise s 1018 0x02 5 (hotData s)) else s

/-- The level to which `n` falls at T_hot `t` (R216). -/
def fallFrom (s : State) (t : Int) : Nat → Nat
  | 0 => 0
  | n + 1 => if t < thresh s (n + 1) - hyst s then fallFrom s t n else n + 1

/-- The highest of the first two thresholds that T_hot reaches. -/
def reached (s : State) (t : Int) : Nat :=
  if thresh s 2 ≤ t then 2 else if thresh s 1 ≤ t then 1 else 0

/-- The level below critical follows T_hot (R216). -/
def levelFollow (s : State) : State :=
  let t := tHot s
  let l := s.get F.THM_STATUS_level
  if l = 3 then s
  else if l < reached s t then riseTo s (reached s t)
  else
    let n := fallFrom s t l
    if n < l then raise (s.set F.THM_STATUS_level n) 1018 0x05 3 n else s

/-- After a sample every pause timer above the index's pause is cut to it (R219). -/
def cutPauses (s : State) : State :=
  let t := s.get (F.THM_PAUSE_pause_tk (s.get F.THM_STATUS_index))
  { s with bins := s.bins.map (fun p =>
      (p.1, { p.2 with pause := p.2.pause.map (fun e => min e (s.now + t)) })) }

/-- POWER_EXCESS_KILL (R219): every running best-effort and excess item is ended with reason 3 and
every bound one returns to WAITING. -/
def powerKill (s : State) : State :=
  let bad := s.sch.items.filter (fun i => !conforming s i)
  let s := (bad.filter (fun i => i.st = .run)).foldl (fun t i => killItem t i.bin i 3) s
  (bad.filter (fun i => i.st = .bound)).foldl unbind s

/-! Slowing the partner (R222, R223). -/

/-- Lane `l` sends PFC frames (R221): an Ethernet lane, the lowest of its port, with pfc_en. -/
def pfcSends (s : State) (l : Nat) : Bool :=
  isEthernet s l && (portLanes s l).head? = some l && s.flag (F.THM_PFC_LANE_pfc_en l)

/-- A PFC frame with `q` quanta for the be_prio priorities is sent on each lane that sends them (R222). -/
def pfcSend (s : State) (q : Nat) : State :=
  let sent := ((List.range 128).filter (pfcSends s)).map
    (fun l => (l, (⟨s.get (F.THM_PFC_LANE_be_prio l), q, s.now⟩ : PfcFrame)))
  setThm s { s.thm with pfcSent := sent }

/-- The slow-down episode follows the index (R222, R223). -/
def pfcFollow (s : State) : State :=
  let i := s.get F.THM_STATUS_index
  let on := s.flag F.THM_STATUS_pfc_on
  let low := i ≤ s.get F.THM_PFC_CFG_pfc_index
  if low && !on then
    let s := setThm (s.set F.THM_STATUS_pfc_on 1) { s.thm with pfcStart := s.now, pfcLanes := [] }
    let s := if s.get F.THM_PFC_CFG_grace_us = 0 then s.set F.THM_STATUS_enforce 1 else s
    raise (pfcSend s (s.get F.THM_PFC_QUANTA_quanta)) 1018 0x20 3 i
  else if !low && on then
    let s := (s.set F.THM_STATUS_pfc_on 0).set F.THM_STATUS_enforce 0
    raise (pfcSend s 0) 1018 0x21 2 (satNat 32 (tkToUs (s.now - s.thm.pfcStart)))
  else s

/-- The tick of the last PFC frames, that of the episode's start where no lane sends any. -/
def pfcTick (s : State) : Nat := ((s.thm.pfcSent.head?).map (fun f => f.2.sentAt)).getD s.thm.pfcStart

/-- PFC_REFRESH (R222): the frame is sent again refresh_us after the last. -/
def execPfcRefresh (s : State) : Res :=
  checked .pfcRefresh <|
    if s.flag F.THM_STATUS_pfc_on then
      let s := s.atNow (pfcTick s + usToTk (max 1 (s.get F.THM_PFC_CFG_refresh_us)))
      pfcSend s (s.get F.THM_PFC_QUANTA_quanta)
    else s

/-- PFC_GRACE_EXPIRY (R223): from here best-effort ingress frames are dropped. -/
def execPfcGraceExpiry (s : State) : Res :=
  checked .pfcGraceExpiry <|
    if s.flag F.THM_STATUS_pfc_on then
      (s.atNow (s.thm.pfcStart + usToTk (s.get F.THM_PFC_CFG_grace_us))).set F.THM_STATUS_enforce 1
    else s

/-! Critical: shedding and restoring (R224 to R227, R458). -/

/-- The shed entries before the first of kind none (R225). -/
def shedList (s : State) : List Nat :=
  (List.range 16).takeWhile (fun i => s.get (F.THM_SHE_kind i) = 1 || s.get (F.THM_SHE_kind i) = 2)

/-- THM_STATUS.shed_steps (R235). -/
def shedSteps (s : State) : State :=
  s.set F.THM_STATUS_shed_steps
    ((List.range 16).filter (fun i => s.shedThm.contains i || s.shedCov.contains i)).length

/-- The data of THM_SHED and THM_RESTORE (R234). -/
def shedData (s : State) (i : Nat) (cov : Bool) : Nat :=
  i + s.get (F.THM_SHE_kind i) * 32 + s.get (F.THM_SHE_id i) * 128 + ofBool cov * 8192

/-- Entry `i` is shed for a cause (R226, R458). -/
def shedEntry (s : State) (i : Nat) (cov : Bool) : State :=
  let id := s.get (F.THM_SHE_id i)
  let already := s.shedThm.contains i || s.shedCov.contains i
  let s := if cov then { s with shedCov := s.shedCov ++ [i] } else { s with shedThm := s.shedThm ++ [i] }
  let s := raise (shedSteps s) 1018 0x06 5 (shedData s i cov)
  if already then s
  else if s.get (F.THM_SHE_kind i) = 1 then shedClass s id
  else if s.flag (F.CLK_GATE_EN_open (264 + id)) then closeGate s (264 + id) else s

/-- Entry `i` is restored from a cause (R227, R458). -/
def restoreEntry (s : State) (i : Nat) (cov : Bool) : State :=
  let s := if cov then { s with shedCov := ndel s.shedCov i } else { s with shedThm := ndel s.shedThm i }
  let s := raise (shedSteps s) 1018 0x07 3 (shedData s i cov)
  if s.get (F.THM_SHE_kind i) = 2 && !s.shedThm.contains i && !s.shedCov.contains i then
    gateFollow s (264 + s.get (F.THM_SHE_id i))
  else s

/-- The instant of the next shed or restore step (R225, R227, R458): a shed interval after `last`, that of its kind. -/
def stepDue (s : State) (last : Option Nat) : State :=
  match last with
  | none => s
  | some t => s.atNow (t + usToTk (max 1 (s.get F.THM_SHED_INTERVAL_interval_us)))

/-- The next entry of the list that is not shed for the critical level is shed (R225). -/
def shedNext (s : State) : State :=
  match (shedList s).find? (fun i => !s.shedThm.contains i) with
  | some i => shedEntry (setThm s { s.thm with shedAt := tHot s, stepAt := some s.now }) i false
  | none => s

/-- THM_CRITICAL (R224, R227): the level is critical, the causes of DEGRADED are set, the index is
0 and a shed entry is shed. -/
def enterCritical (s : State) (thermal power again : Bool) : State :=
  let s := riseTo s 2
  let s := s.set F.THM_STATUS_level 3
  let s := if thermal then setDegraded (s.set F.THM_STATUS_deg_thm 1) 1 true else s
  let s := if power then setDegraded (s.set F.THM_STATUS_deg_cap 1) 2 true else s
  let s := raise (s.set F.THM_STATUS_index 0) 1018 0x03 6
    (hotData s + ofBool power * 2 ^ 18 + 2 ^ 19 + ofBool again * 2 ^ 20)
  shedNext (setThm s { s.thm with restoring := false, restoreOk := 0 })

/-- SHED_STEP (R225): the next entry is shed while the cause persists. -/
def execShedStep (s : State) : Res :=
  checked .shedStep <|
    let s := if s.get F.THM_STATUS_level = 3 then stepDue s s.thm.stepAt else s
    let thermal := s.flag F.THM_STATUS_deg_thm && s.thm.shedAt - 16 < tHot s
    let power := s.flag F.THM_STATUS_deg_cap && overCap s
    if s.get F.THM_STATUS_level = 3 && !s.thm.restoring && (thermal || power) then shedNext s else s

/-- The critical level ends after the last restore (R216, R227). -/
def leaveCritical (s : State) : State :=
  let n := fallFrom s (tHot s) 2
  let s := raise (s.set F.THM_STATUS_level n) 1018 0x05 3 n
  let s := raise s 1018 0x04 4 (hotData s)
  let s := setThm s { s.thm with restoring := false, restoreOk := 0 }
  let s := setDegraded (s.set F.THM_STATUS_deg_thm 0) 1 false
  setDegraded (s.set F.THM_STATUS_deg_cap 0) 2 false

/-- RESTORE_STEP (R227): once the condition has held for 100 ms, the entries are restored in reverse
order; after the last the level falls. -/
def execRestoreStep (s : State) : Res :=
  checked .restoreStep <|
    if s.get F.THM_STATUS_level = 3 && 1001 ≤ s.thm.restoreOk then
      let s := if s.thm.restoring then stepDue s s.thm.stepAt else s
      let s := setThm s { s.thm with restoring := true, stepAt := some s.now }
      match s.shedThm.getLast? with
      | none => leaveCritical s
      | some i =>
        let s := restoreEntry s i false
        if s.shedThm = [] then leaveCritical s else s
    else s

/-- The pools whose classes entry `i` names. -/
def entryInPool (s : State) (i pool : Nat) : Bool :=
  s.get (F.THM_SHE_kind i) = 1 && s.flag (F.SCH_CLASS_CFG_defined (s.get (F.THM_SHE_id i)))
    && classPool s (s.get (F.THM_SHE_id i)) = pool

/-- The pool's shed_cov bit follows the entries shed for coverage (R206). -/
def shedCovBit (s : State) (pool : Nat) : State :=
  s.set (F.ADM_POOL_BINS_shed_cov pool) (ofBool (s.shedCov.any (fun i => entryInPool s i pool)))

/-- COVER_SHED_STEP (R458): the next entry that names a class of an uncovered pool is shed, and
coverage is recomputed. -/
def execCoverShedStep (pool : Nat) (s : State) : Res :=
  checked (.coverShedStep pool) <|
    if !s.flag (F.SCH_POOL_CFG_defined pool) || s.flag (F.ADM_POOL_BINS_covered pool) then s
    else match (shedList s).find? (fun i => entryInPool s i pool && !s.shedCov.contains i) with
      | none => s
      | some i =>
        let s := stepDue s s.thm.stepCov
        let s := setThm s { s.thm with stepCov := some s.now }
        coverageRecompute (shedCovBit (shedEntry s i true) pool) pool

/-- COVER_RESTORE_STEP (R458): the last entry shed for the pool's coverage is restored when test 6
passes with its class counted again. -/
def execCoverRestoreStep (pool : Nat) (s : State) : Res :=
  checked (.coverRestoreStep pool) <|
    match (s.shedCov.filter (fun i => entryInPool s i pool)).getLast? with
    | none => s
    | some i =>
      let t := { s with shedCov := ndel s.shedCov i }
      if densityOk t (coverClasses t pool) (usableCount t pool) then
        let s := stepDue s s.thm.stepCov
        let s := setThm s { s.thm with stepCov := some s.now }
        coverageRecompute (shedCovBit (restoreEntry s i true) pool) pool
      else s

/-! Thresholds (R217). -/

/-- THRESH_WRITE (R200, R217): the three thresholds in °C, refused above the grade's defaults, out
of order, or with critical at or below tj_adm. -/
def execThreshWrite (warn throttle crit : Int) (s : State) : Res :=
  checked (.threshWrite warn throttle crit) <|
    let high := (Rst.warn : Int) < warn || (Rst.throttle : Int) < throttle || (Rst.crit : Int) < crit
    if high || !(warn ≤ throttle && throttle < crit && crit < toInt 8 (s.get F.THM_THRESH_shut)) then
      raise s 1018 0x32 3 0x20
    else if s.adm.given && crit ≤ s.adm.tj then admRefuse (runCheck s) 4 2 0
    else (runCheck s).setAll [(F.THM_THRESH_warn, ofInt 8 warn), (F.THM_THRESH_throttle, ofInt 8 throttle),
      (F.THM_THRESH_crit, ofInt 8 crit)]

/-! Hardware shutdown (R228, R229). -/

/-- The latched record's valid bit. -/
def latchValid (s : State) : Bool := bitAt (s.thm.latch.getD 3 0) 16

/-- The record is latched, or its trip count goes up (R229). -/
def latchTrip (s : State) (temp : Int) (die region sensor path : Nat) : State :=
  let l := s.thm.latch
  let w3 := l.getD 3 0
  if latchValid s then
    let n := min 255 (w3 % 256 + 1)
    setThm s { s.thm with latch := [l.getD 0 0, l.getD 1 0, l.getD 2 0, w3 / 256 * 256 + n] }
  else
    let fp := s.fpStamp
    let w2 := ofInt 16 temp + die * 2 ^ 16 + region * 2 ^ 18 + sensor * 2 ^ 22 + path * 2 ^ 30
      + ofBool s.thm.preshutDue * 2 ^ 31
    setThm s { s.thm with latch := [fp % 2 ^ 32, fp / 2 ^ 32, w2, 2 ^ 16] }

/-- Hardware shutdown (R228): outputs safe, THERM_N asserted, SAFE, the shelves, the Loft and the lanes off; a load
that runs ends. -/
def shutdown (s : State) (temp : Int) (die region sensor path : Nat) : State :=
  let s := latchTrip s temp die region sensor path
  let s := toSafe { s with cfg := { s.cfg with load := none } } true
  let s := (List.range 32).foldl groupOff (shelvesCut s)
  (List.range 16).foldl groupLanesOff s

/-- SHUTDOWN_COMPARATOR_TRIP (R208, R213, R228): the uncorrected temperature at the comparator of sensor `n` is
`temp`; the comparator of a valid sensor trips when the corrected temperature reaches the shutdown threshold. -/
def execShutdownComparatorTrip (n : Nat) (temp : Int) (s : State) : Res :=
  checked (.shutdownComparatorTrip n temp) <|
    let t := temp + toInt 8 (s.get (F.THM_SENSOR_offset n))
    if sensorValid s n && thresh s 4 ≤ t then shutdown s t (sensorDie n) (sensorRegion n) n 0 else s

/-- MODEL_SHUTDOWN (R228): a region that uses T_est reaches the shutdown threshold. -/
def modelShutdown (s : State) : State :=
  match (List.range 64).find?
      (fun i => usesEst s (i / 16) (i % 16) && thresh s 4 ≤ regionTemp s (i / 16) (i % 16)) with
  | none => s
  | some i => shutdown s (regionTemp s (i / 16) (i % 16)) (i / 16) (i % 16) 0xFF 1

/-! Windows (R232, R233). -/

/-- The first deferral of fuse programming since the window last held raises THM_WINDOW_DEFER (R233). -/
def fuseDeferral (s : State) : State :=
  if s.flag F.THM_WINDOW_fuse_ok || s.thm.fuseDeferred then s
  else raise { s with thm := { s.thm with fuseDeferred := true } } 1018 0x30 2 (2 + cellarTemp s * 65536)

/-- THM_SHUTDOWN_RECORD (R232): a valid latched record is written once the ledger window holds; it stays latched until
its entry is written. -/
def writeRecord (s : State) : State :=
  if !s.thm.latchDue || !s.flag F.LED_STATUS_window then s
  else if !latchValid s then setThm s { s.thm with latchDue := false }
  else
    raiseLed (setThm s { s.thm with latchDue := false }) true s.thm.latch 1018 0x08 7 (s.thm.latch.getD 2 0)

/-- An entry that has been written is no longer due (R230, R232): the record's words go to THM_LAST_SHUT and its
latch is cleared. -/
def thermWritten (s : State) (e : LedEntry) : State :=
  if e.record.source = 1018 && e.record.code = 0x09 then setThm s { s.thm with preshutDue := false }
  else if e.record.source = 1018 && e.record.code = 0x08 then
    (setThm s { s.thm with latch := [0, 0, 0, 0] }).setAll
      ((List.range 4).map (fun k => (F.THM_LAST_SHUT_word k, e.extra.getD k 0)))
  else s

/-- The scan of R441 once the ledger window holds after a POR or DEVICE reset: torn entries are
counted, and a sector whose erase was cut is erased again. -/
def ledScan (s : State) : State :=
  if !s.led.scanDue then s
  else
    let n := s.led.torn
    let e := s.led.tornErase
    let s := { s with led := { s.led with scanDue := false, torn := 0, tornErase := none } }
    let s := if s.led.erasing.isNone && e.isSome then
        let crit := e.any (fun k => s.led.critRing.contains k)
        { s with led := { s.led with erasing := e, eraseCrit := crit } }
      else s
    if n = 0 then s else raise (s.bump F.LED_TORN_CNT_torn n) 1023 0x62 3 n

/-- The windows of R233 after a sample; deferred ledger actions follow once the ledger window
holds. -/
def windows (s : State) : State :=
  let c := dieTemp s 0
  let b := toInt 16 (s.get F.TB_BTEMP_temp)
  let led := 0 ≤ c && c ≤ 1600
  let chg := s.flag F.TB_BTEMP_valid && 0 ≤ b && b ≤ 720
  let en := s.flag F.THM_WINDOW_charge_en
  let s := s.setAll [(F.THM_WINDOW_ledger_ok, ofBool led), (F.LED_STATUS_window, ofBool led),
    (F.THM_WINDOW_fuse_ok, ofBool (160 ≤ c && c ≤ 960)), (F.THM_WINDOW_charge_ok, ofBool chg),
    (F.THM_WINDOW_charging, ofBool (en && chg))]
  let s := if en && !chg && !s.thm.chargeDeferred then
      raise (setThm s { s.thm with chargeDeferred := true }) 1018 0x30 2
        (3 + s.get F.TB_BTEMP_temp * 65536)
    else if chg then setThm s { s.thm with chargeDeferred := false } else s
  let s := if s.flag F.THM_WINDOW_fuse_ok then setThm s { s.thm with fuseDeferred := false }
    else if s.sec.pending.isSome || s.sec.advances ≠ [] || s.sec.burn.any (fun b => b.held) then fuseDeferral s
    else s
  if led then
    let s := { s with led := { s.led with deferred := false } }
    ledKick (writeRecord (ledScan s))
  else if s.led.queue ≠ [] || (s.thm.latchDue && latchValid s) then ledDeferral s
  else s

/-- The band of T_hot (R459). -/
def lifeBand (t : Int) : Nat :=
  if t < 1120 then 0 else if t < 1440 then 1 else if t < 1600 then 2 else if t ≤ 1760 then 3 else 4

/-- Powered time is counted in the band of T_hot (R459): 36,000,000 samples are an hour. -/
def lifeCount (s : State) : State :=
  let b := lifeBand (tHot s)
  let n := s.thm.life.getD b 0 + 1
  let s := setThm s { s.thm with life := s.thm.life.set b n }
  s.set (F.SPR_LIFE_hours b) (n / 36000000)

/-- The critical level's entry, re-entry and restore condition at a sample (R224, R227). -/
def criticalFollow (s : State) : State :=
  let hot := thresh s 3 ≤ tHot s
  let pow := 101 ≤ s.thm.overCap
  let crit := s.get F.THM_STATUS_level = 3
  let good := tHot s < thresh s 3 - hyst s
    && s.get F.THM_POWER_p_meas ≤ powerLimit (s.get F.THM_CAP_cap)
  let s := setThm s { s.thm with restoreOk := if crit && good then s.thm.restoreOk + 1 else 0 }
  if !crit then (if hot || pow then enterCritical s hot pow false else s)
  else if s.thm.restoring then (if hot || pow then enterCritical s hot pow true else s)
  else
    let s := if hot && !s.flag F.THM_STATUS_deg_thm then
      setDegraded (s.set F.THM_STATUS_deg_thm 1) 1 true else s
    if pow && !s.flag F.THM_STATUS_deg_cap then
      setDegraded (s.set F.THM_STATUS_deg_cap 1) 2 true else s

/-- A sample of the averaging (R213): each valid sensor of an averaging die adds T_est of its region less its
uncorrected reading. -/
def recalSample (s : State) : State :=
  let ns := s.thm.averaging.flatMap (fun d => (dieSensors d).filter (sensorValid s))
  setThm s { s.thm with avg := ns.foldl (fun l n =>
    let a := (aget l n).getD (0, 0)
    let diff := estOf s (sensorDie n) (sensorRegion n)
      - (sensorTemp s n - toInt 8 (s.get (F.THM_SENSOR_offset n)))
    aset l n (a.1 + diff, a.2 + 1)) s.thm.avg }

/-- THERMAL_SAMPLE (R208 to R233): readings, estimates, suspicion, temperatures, power, level,
headroom, pauses, PFC, windows and the model's shutdown path, in this order. -/
def thermalSample (s : State) (x : ThermSample) : State :=
  let s := (List.range 160).foldl (fun t n => takeReading t n (x.readings.getD n none)) s
  let s := lagPower ((List.range 80).foldl pairCheck s) x
  let s := s.setAll ((List.range 64).map
    (fun i => (F.THM_EST_est i, satInt 16 (estimate s (i / 16) (i % 16)))))
  let s := recalSample s
  let s := (List.range 4).foldl (fun t d => trustCheck (suspectCheck t d) d) s
  let s := weakCheck s
  let s := (List.range 4).foldl dieRegs s
  let h := hottest s
  let s := s.setAll [(F.THM_HOT_t_hot, satInt 16 h.1), (F.THM_HOT_die, h.2.1), (F.THM_HOT_region, h.2.2)]
  let s := takeEnergy s x.energy
  let high := overCap s
  let s := setThm s { s.thm with overCap := if high then s.thm.overCap + 1 else 0 }
  let s := if high then powerKill (s.bump F.THM_CAP_EXC_CNT_samples 1) else s
  let s := criticalFollow (levelFollow s)
  let s := cutPauses (s.set F.THM_STATUS_index (headroom s))
  let s := pfcFollow s
  lifeCount (modelShutdown (windows s))

/-! Recalibration (R213). -/

/-- RECAL_START (R213): after 50 ms in DOZE the queued dies average. -/
def execRecalStart (s : State) : Res :=
  checked .recalStart <|
    if s.mode = Mode.doze then
      let ds := (List.range 4).filter (fun d => bitAt (s.get F.THM_RECAL_pending) d)
      let s := s.atNow (s.modes.since + usToTk 50000)
      setThm s { s.thm with averaging := ds, avg := [] }
    else s

/-- One sensor is recalibrated (R213): within 7.9 °C the mean of T_est less its reading is its offset, rounded either
way where it is no whole 1/16 °C (log entry 116); otherwise it fails. -/
def recalSensor (s : State) (n : Nat) : State :=
  match aget s.thm.avg n with
  | none => s
  | some (sum, k) =>
    let up : Int := if sum % (k : Int) = 0 then 0 else (s.free % 2 : Nat)
    let s := s.useFree
    if sum.natAbs * 10 ≤ 1264 * k then s.set (F.THM_SENSOR_offset n) (satInt 8 (sum / (k : Int) + up))
    else sensorFail s n 2

/-- A die's recalibration ends with THM_SENSOR_RECAL. -/
def recalDie (s : State) (d : Nat) : State :=
  let ns := (dieSensors d).filter (fun n => !sensorFailed s n)
  let s := ns.foldl recalSensor s
  let bad := (ns.filter (sensorFailed s)).length
  let s := s.set F.THM_RECAL_pending (putBit (s.get F.THM_RECAL_pending) d false)
  let s := s.set F.THM_RECAL_done (putBit (s.get F.THM_RECAL_done) d true)
  let s := setThm s { s.thm with agree := adel s.thm.agree d }
  raise s 1018 0x11 3 (d + bad * 256)

/-- RECAL_COMPLETE (R213) of die `d`: its 10 ms of averaging end, 60 ms after DOZE began. A recalibration that DOZE did
not outlast stays queued. -/
def execRecalComplete (d : Nat) (s : State) : Res :=
  checked (.recalComplete d) <|
    if s.mode = Mode.doze && s.thm.averaging.contains d then
      let s := recalDie (s.atNow (s.modes.since + usToTk 60000)) d
      setThm s { s.thm with
        averaging := s.thm.averaging.filter (· != d)
        avg := s.thm.avg.filter (fun x => !(dieSensors d).contains x.1) }
    else s

/-- THM_LIFE (R459, R461): once per 24 h the powered-hour bands are written as an informational entry, with the days
since the last one. -/
def execThmLife (s : State) : Res :=
  checked .thmLife <|
    let s := s.atNow (s.thm.lifeAt + dayTk)
    let days := satNat 3 ((s.now - s.thm.lifeAt) / dayTk)
    raiseLed (setThm s { s.thm with lifeAt := s.now }) false ((List.range 5).map (fun b => s.get (F.SPR_LIFE_hours b)))
      1018 0x16 5 days

/-- The powered hours of the newest such entry stand at a start (R459). -/
def lifeRestore (s : State) : State :=
  let e := ((s.led.stored.map (fun x => x.entry)).filter (fun e => e.record.source = 1018 && e.record.code = 0x16)).getLast?
  let hs := (List.range 5).map (fun b => (e.map (fun e => e.extra.getD b 0)).getD 0)
  (setThm s { s.thm with life := hs.map (· * 36000000) }).setAll ((List.range 5).map (fun b => (F.SPR_LIFE_hours b, hs.getD b 0)))

end Sys2Proof.Machine
end

