-- ==== Sys2Proof/Machine/Tables.lean ====
section
/-! DEFINITION. The fronthaul tables of the Cellar: flows, sections and numerology entries (R271 to
R274, R299). -/

namespace Sys2Proof.Machine

/-- Word `w` of flow `f`. -/
def flowW (s : State) (f w : Nat) : Nat := (aget s.fh.flow (16 * f + w)).getD 0

/-- Bits of word `w` of flow `f`. -/
def flowF (s : State) (f w lo n : Nat) : Nat := bits (flowW s f w) lo n

/-- A word of a table that holds no zero entries. -/
def putWord (l : List (Nat × Nat)) (k v : Nat) : List (Nat × Nat) :=
  if v % 2 ^ 32 = 0 then adel l k else aset l k (v % 2 ^ 32)

/-- The fronthaul record is replaced. -/
def setFh (s : State) (x : Fronthaul) : State := { s with fh := x }

/-- Word `w` of flow `f` is written. -/
def setFlowW (s : State) (f w v : Nat) : State :=
  let s := setFh s { s.fh with flow := putWord s.fh.flow (16 * f + w) v }
  if 13 ≤ w then markDirty s (flowLine f) else s

/-- `n` bits from `lo` of word `w` of flow `f` are written. -/
def setFlowF (s : State) (f w lo n v : Nat) : State :=
  let o := flowW s f w
  setFlowW s f w (o - bits o lo n * 2 ^ lo + v % 2 ^ n * 2 ^ lo)

/-- Word `w` of section entry `e`. -/
def secW (s : State) (e w : Nat) : Nat := (aget s.fh.sec (4 * e + w)).getD 0

/-- The word of the Cellar tables' store that holds word `w` of flow `f` (R318). -/
def flowStore (f w : Nat) : Nat := 8 * f + w / 2

/-- The word of the store that holds word `w` of section entry `e`. -/
def secStore (e w : Nat) : Nat := 131072 + 2 * e + w / 2

/-- A field of 6 bits for a number from 1 to 64: 64 stands as 0 (R271, R300, log entry 149). -/
def oneTo64 (c : Nat) : Nat := if c = 0 then 64 else c

/-- Numerology entry `k`: the symbols of a frame, of a slot, and the slots of a subframe (R271). -/
def numSym (s : State) (k : Nat) : Nat := bits ((aget s.fh.num k).getD 0) 0 11
def numPerSlot (s : State) (k : Nat) : Nat := oneTo64 (bits ((aget s.fh.num k).getD 0) 16 6)
def numSlots (s : State) (k : Nat) : Nat := oneTo64 (bits ((aget s.fh.num k).getD 0) 24 6)

/-- off[sym] of entry `k`. -/
def numOff (s : State) (k sym : Nat) : Nat := (aget s.fh.off (1280 * k + sym)).getD 0

/-- Word `w` of the Cellar tables' store (R318, log entry 47): flows from 0, sections from 131,072, numerology entries of
641 words from 262,144, triggers from 272,400 and oscillator models from 288,784, two 32-bit words in each. -/
def tableWord (s : State) (w : Nat) : Nat :=
  let pair := fun (f : Nat → Nat) (k : Nat) => f (2 * k) % 2 ^ 32 + f (2 * k + 1) % 2 ^ 32 * 2 ^ 32
  if w < 131072 then pair (fun i => (aget s.fh.flow i).getD 0) w
  else if w < 262144 then pair (fun i => (aget s.fh.sec i).getD 0) (w - 131072)
  else if w < 272400 then
    let k := (w - 262144) / 641
    pair (fun i => if i = 0 then (aget s.fh.num k).getD 0 else (aget s.fh.off (1280 * k + (i - 1))).getD 0)
      ((w - 262144) % 641)
  else if w < 288784 then
    let k := w - 272400
    pair (fun i => ((aget s.tb.trgs (k / 4)).map (fun e => e.data.getD i 0)).getD 0) (k % 4)
  else
    let k := w - 288784
    pair (fun i => ((aget s.tb.models (k / 8)).map (fun m => m.words.getD i 0)).getD 0) (k % 8)

/-- The first section entry and the number of entries of flow `f`. -/
def secFirst (s : State) (f : Nat) : Nat := flowF s f 1 16 16
def secCount (s : State) (f : Nat) : Nat := flowF s f 2 0 7

/-- The first poisoned word in the entries a flow uses. -/
def flowPoison (s : State) (f : Nat) : Option Nat :=
  s.fh.poisoned.find? (fun w => w / 8 = f
    || (131072 ≤ w && w < 262144 && secFirst s f ≤ (w - 131072) / 2
        && (w - 131072) / 2 < secFirst s f + secCount s f)
    || (262144 ≤ w && w < 272400 && (w - 262144) / 641 = flowF s f 0 11 4))

/-- A poisoned word in the entries a flow uses makes it act as enable = 0 (R320). -/
def flowPoisoned (s : State) (f : Nat) : Bool := (flowPoison s f).isSome

/-- Flow `f` is valid. -/
def flowValid (s : State) (f : Nat) : Bool := flowF s f 0 0 1 = 1

/-- Flow `f` is valid and enabled. -/
def flowOn (s : State) (f : Nat) : Bool :=
  flowValid s f && flowF s f 0 1 1 = 1 && !flowPoisoned s f

/-- Flow `f` is an egress flow. -/
def flowEgress (s : State) (f : Nat) : Bool := flowF s f 0 3 1 = 1

/-- The port, the numerology entry and the class of flow `f`. -/
def flowPort (s : State) (f : Nat) : Nat := flowF s f 0 4 7
def flowNum (s : State) (f : Nat) : Nat := flowF s f 0 11 4
def flowClass (s : State) (f : Nat) : Nat := flowF s f 0 23 6

/-- The symbol buffers of the ring, the output buffers (0 acts as 1). -/
def flowRing (s : State) (f : Nat) : Nat := max 1 (flowF s f 2 8 8)
def flowOutRing (s : State) (f : Nat) : Nat := max 1 (flowF s f 2 24 8)

/-- Words 3 to 5 of flow `f` as signed ticks. -/
def winOpen (s : State) (f : Nat) : Int := toInt 32 (flowW s f 3)
def winClose (s : State) (f : Nat) : Int := toInt 32 (flowW s f 4)
def flowOffset (s : State) (f : Nat) : Int := toInt 32 (flowW s f 5)

/-- The mantissa width of flow `f` (R273). -/
def flowM (s : State) (f : Nat) : Nat := let c := flowF s f 0 17 4; if c = 0 then 16 else c

/-- The buffer of count `n` as a 64-byte unit address (R275). -/
def bufUnit (s : State) (f n : Nat) : Nat :=
  flowF s f 6 0 23 + n % flowRing s f * flowF s f 7 0 11

/-- The flows that have a word in the table. -/
def flowList (s : State) : List Nat :=
  ((s.fh.flow.filter (fun p => p.1 % 16 = 0)).map (fun p => p.1 / 16)).filter (flowValid s)

/-- The owner ID under which the engines access a flow's ring (R277). -/
def flowOwner (s : State) (f : Nat) : Nat := poolOwner s (classPool s (flowClass s f))

/-- The entries of flow `f` are read for a message or a transmission (R320). -/
def flowFetch (s : State) (f : Nat) : State :=
  match flowPoison s f with
  | none => s
  | some w => tablePoison s w (flowOwner s f)

/-- A flow counter goes up, saturating at 32 bits (R299). -/
def flowCount (s : State) (f i n : Nat) : State :=
  let v := satNat 32 ((aget s.fh.cnt (16 * f + i)).getD 0 + n)
  setFh s { s.fh with cnt := putWord s.fh.cnt (16 * f + i) v }

/-- The section entry of a flow's section `i`: its number. -/
def secEntry (s : State) (f i : Nat) : Nat := secFirst s f + i

/-- Section `i` of flow `f` is expected for symbol `sym` (R274). -/
def secCovers (s : State) (f i sym : Nat) : Bool :=
  let e := secEntry s f i
  let a := bits (secW s e 1) 19 11
  secW s e 0 % 2 = 1 && a ≤ sym && sym < a + bits (secW s e 2) 0 11

/-- The sections of flow `f` that are expected for `sym`, as a map of bits. -/
def expectedMap (s : State) (f sym : Nat) : Nat :=
  (List.range (secCount s f)).foldl (fun m i => if secCovers s f i sym then putBit m i true else m) 0

/-- Lane `l` carries a flow context of a DEADLINE class (R261). -/
def laneDeadline (s : State) (l : Nat) : Bool :=
  (flowList s).any (fun f => (portLanes s (flowPort s f)).contains l && isDeadline s (flowClass s f))

/-- The engine of a lane. -/
def laneEngine (s : State) (l : Nat) : Nat := s.get (F.FH_LANE_CFG_engine l)

/-! Keeper SRAM and the Cellar tables as words (R318): 2 names the first, 3 the second. -/

/-- Word `w` of engine `e`'s store is poisoned already. -/
def bgPoisoned (s : State) (e w : Nat) : Bool :=
  if e = 2 then s.loft.bgPoison.contains (2, w) else s.fh.poisoned.contains w

/-- Word `w` of engine `e`'s store is poisoned. -/
def bgPoison (s : State) (e w : Nat) : State :=
  if e = 2 then s.setLoft { s.loft with bgPoison := (2, w) :: s.loft.bgPoison }
  else setFh s { s.fh with poisoned := nins w s.fh.poisoned }

/-- The data of word `w` of engine `e`'s store. -/
def bgData (s : State) (e w : Nat) : Nat := if e = 2 then (aget s.loft.sram w).getD 0 else tableWord s w

/-- What the code of R314 finds in word `w` of engine `e`'s store when the upsets `u` have struck it (R318): the stored
word holds the data and its check bits, or is poisoned. -/
def bgDecode (s : State) (e w : Nat) (u : Upset) : Decoded :=
  let bad := bgPoisoned s e w
  let d := if bad then 0 else bgData s e w
  let c := checkOf d w ^^^ (if bad then 0xFF else 0)
  decodeWord (d ^^^ (u.data % 2 ^ 64)) (c ^^^ (u.check % 256)) w

end Sys2Proof.Machine
end

