-- ==== Sys2Proof/Machine/Stream.lean ====
section
/-! DEFINITION. The bytes of a configuration stream (R333, R334, R336, R337, R431): the places of their fields, the
CRCs, AES-256-GCM of a segment, the hashes. Frames are lists of little-endian words. -/

namespace Sys2Proof

open Machine

namespace Machine

/-- The first `n` words of a list, which goes on with zeros. -/
def padWords (ws : List Nat) (n : Nat) : List Nat := (List.range n).map (fun i => ws.getD i 0 % 2 ^ 32)

/-- Byte `i` of little-endian words. -/
def wordByte (ws : List Nat) (i : Nat) : Nat := bits (ws.getD (i / 4) 0) (8 * (i % 4)) 8

/-- The little-endian number in bytes `i` to `i + n − 1`. -/
def leField (ws : List Nat) (i n : Nat) : Nat := (List.range n).foldr (fun k a => wordByte ws (i + k) + 256 * a) 0

/-- The `n` bytes of a number, least significant first. -/
def leBytes (n x : Nat) : List Nat := (List.range n).map (fun i => bits x (8 * i) 8)

/-- SHA-384 of little-endian words as bytes. -/
def shaWords (ws : List Nat) : Nat := Config.sha384 (ws.flatMap (leBytes 4))

/-! AES-256-GCM (R336). A block is a number whose most significant byte is the block's first. -/

/-- The bytes of a 32-bit word in the opposite order. -/
def bswap32 (x : Nat) : Nat := (leBytes 4 x).foldl (fun n b => n * 256 + b) 0

/-- The block of four little-endian words. -/
def wordsBlock (ws : List Nat) : Nat := (List.range 4).foldl (fun n i => n * 2 ^ 32 + bswap32 (ws.getD i 0)) 0

/-- Word `i` of a block. -/
def blockWord (x i : Nat) : Nat := bswap32 (bits x (96 - 32 * i) 32)

/-- The blocks of words. -/
def blocksOf (ws : List Nat) : List Nat :=
  (List.range (ceilDiv ws.length 4)).map (fun k => wordsBlock ((ws.drop (4 * k)).take 4))

/-- The counter block `n` of segment `j` under a nonce: the nonce in bytes 0 to 7, j in bytes 8 to 11. -/
def gcmCounter (nonce j n : Nat) : Nat :=
  wordsBlock [nonce % 2 ^ 32, nonce / 2 ^ 32, j % 2 ^ 32, bswap32 (n % 2 ^ 32)]

/-- One step of the product in GF(2^128). -/
def gfStep (v : Nat) : Nat := if v % 2 = 1 then (v / 2) ^^^ (0xE1 * 2 ^ 120) else v / 2

/-- The product of the low `n` bits of `x`, its most significant first, with `v`, added to `z`. -/
def gfMul : Nat → Nat → Nat → Nat → Nat
  | 0, _, _, z => z
  | n + 1, x, v, z => gfMul n x (gfStep v) (if x.testBit n then z ^^^ v else z)

/-- GHASH of blocks under the hash key `h`. -/
def ghash (h : Nat) (l : List Nat) : Nat := l.foldl (fun y b => gfMul 128 (y ^^^ b) h 0) 0

/-- The payload of the frame at place `p` of segment `j` as it is stored: its words under the key stream, of which each
frame takes 252 blocks. Decryption is the same operation. -/
def gcmCrypt (key nonce j p : Nat) (ws : List Nat) : List Nat :=
  (List.range 1008).map (fun i => (ws.getD i 0 % 2 ^ 32)
    ^^^ blockWord (Config.aes256 key (gcmCounter nonce j (2 + 252 * p + i / 4))) (i % 4))

end Machine

namespace Machine

/-! HKDF-SHA-384, AES-256-XTS and GMAC (R374, R377). Bytes are in order, numbers little-endian. -/

/-- The number whose bytes are `l`, least significant first. -/
def bytesLe (l : List Nat) : Nat := l.foldr (fun b n => b % 256 + 256 * n) 0

/-- The bytes of SHA-384 and of HMAC-SHA-384, whose block has 128 bytes. -/
def sha384Bytes (l : List Nat) : List Nat := leBytes 48 (Config.sha384 l)
def hmac384 (key msg : List Nat) : List Nat :=
  let pad := fun (c : Nat) => (List.range 128).map (fun i => key.getD i 0 ^^^ c)
  sha384Bytes (pad 0x5C ++ sha384Bytes (pad 0x36 ++ msg))

/-- 96 bytes of HKDF-SHA-384. -/
def hkdf384 (salt ikm info : List Nat) : List Nat :=
  let prk := hmac384 salt ikm
  let t1 := hmac384 prk (info ++ [1])
  t1 ++ hmac384 prk (t1 ++ info ++ [2])

/-- The 16 bytes of a block in the opposite order. -/
def blockRev (x : Nat) : Nat := (leBytes 16 x).foldl (fun n b => n * 256 + b) 0

/-- The tweak of the next block: the product with x, little-endian. -/
def tweakNext (t : Nat) : Nat := (2 * t % 2 ^ 128) ^^^ (if t.testBit 127 then 0x87 else 0)

/-- The tweak of block `j` under the second key of 64 bytes. -/
def tweakAt (keys : List Nat) (tweak : Nat) : Nat → Nat
  | 0 => blockRev (Config.aes256 (bytesLe ((keys.drop 32).take 32)) (blockRev tweak) % 2 ^ 128)
  | j + 1 => tweakNext (tweakAt keys tweak j)

/-- Four blocks of a data unit, each between its tweaks. -/
def xtsBlocks (keys : List Nat) (tweak d : Nat) (f : Nat → Nat) : Nat :=
  ((List.range 4).map (fun j =>
    let t := tweakAt keys tweak j
    (blockRev (f (blockRev (bits d (128 * j) 128 ^^^ t)) % 2 ^ 128) ^^^ t) * 2 ^ (128 * j))).foldl (· + ·) 0

/-- AES-256-XTS of 64 bytes, and its inverse. -/
def xtsEnc (keys : List Nat) (tweak d : Nat) : Nat :=
  xtsBlocks keys tweak d (Config.aes256 (bytesLe (keys.take 32)))
def xtsDec (keys : List Nat) (tweak c : Nat) : Nat :=
  xtsBlocks keys tweak c (Config.aes256Inv (bytesLe (keys.take 32)))

/-- A block of up to 16 bytes, the first most significant, then zeros. -/
def bytesBlock (l : List Nat) : Nat := (List.range 16).foldl (fun n i => n * 256 + l.getD i 0) 0

/-- The first 64 bits of the GMAC of `aad` under a key and a 12-byte IV, as 8 bytes. -/
def gmac64 (key : Nat) (iv aad : List Nat) : Nat :=
  let bs := (List.range (ceilDiv aad.length 16)).map (fun k => bytesBlock ((aad.drop (16 * k)).take 16))
  let t := ghash (Config.aes256 key 0) (bs ++ [8 * aad.length * 2 ^ 64]) ^^^ Config.aes256 key (bytesBlock (iv ++ [0, 0, 0, 1]))
  blockRev (t % 2 ^ 128) % 2 ^ 64

end Machine

/-! The header (R334). -/

def Header.magic (h : Header) : Nat := leField h.words 0 4
def Header.format (h : Header) : Nat := leField h.words 4 2
def Header.part (h : Header) : Nat := leField h.words 6 2
def Header.minRev (h : Header) : Nat := leField h.words 8 1
def Header.kind (h : Header) : Nat := leField h.words 9 1
def Header.keySrc (h : Header) : Nat := leField h.words 10 1
def Header.signer (h : Header) : Nat := leField h.words 11 1
def Header.version (h : Header) : Nat := leField h.words 12 4
def Header.frames (h : Header) : Nat := leField h.words 16 4
def Header.nonce (h : Header) : Nat := leField h.words 20 8
def Header.root (h : Header) : Nat := leField h.words 28 48
/-- The clock section (R335). -/
def Header.tref0 (h : Header) : Nat := leField h.words 76 6
def Header.tref1 (h : Header) : Nat := leField h.words 82 6
def Header.sel (h : Header) : Nat := leField h.words 88 1
def Header.fbSrc (h : Header) : Nat := leField h.words 89 1
/-- The bytes of the flash section (R335). -/
def Header.flash (h : Header) : List Nat := (List.range 32).map (fun i => wordByte h.words (108 + i))
/-- The region of a partial stream (R354), and the root that it applies to. -/
def Header.binMask (h : Header) : Nat := leField h.words 140 32
def Header.ctxMask (h : Header) : Nat := leField h.words 172 1
def Header.flags (h : Header) : Nat := leField h.words 173 1
def Header.baseRoot (h : Header) : Nat := leField h.words 204 48
/-- The words of signer_key and of the signature. -/
def Header.signerKey (h : Header) : List Nat := (padWords h.words 87).drop 63
def Header.sig (h : Header) : List Nat := (padWords h.words 1023).drop 999

/-- The header's magic and format are those of R334. -/
def Header.magicOk (h : Header) : Bool := h.magic = 0xF1C04128
def Header.formatOk (h : Header) : Bool := h.format = 2

/-- The CRC-32C over bytes 0 to 4,091 is the one stored. -/
def Header.crcOk (h : Header) : Bool := h.words.getD 1023 0 % 2 ^ 32 = crc32c (padWords h.words 1023)

/-- The signature over bytes 0 to 3,995 verifies with signer_key (R337). -/
def Header.sigOk (h : Header) : Bool := Config.ecdsaOk h.signerKey (shaWords (padWords h.words 999)) h.sig

/-- SHA-384 of signer_key (R337). -/
def Header.signerHash (h : Header) : Nat := shaWords h.signerKey

/-! The frames after it (R333, R336, R337). -/

def Frame.index (f : Frame) : Nat := leField f.head 0 4
def Frame.kind (f : Frame) : Nat := leField f.head 4 1
def Frame.addr (f : Frame) : Nat := leField f.head 8 8
/-- The tag field as a block; the field is 0. -/
def Frame.tag (f : Frame) : Nat := wordsBlock (padWords f.tail 4)
def Frame.tagZero (f : Frame) : Bool := padWords f.tail 4 = [0, 0, 0, 0]

/-- The 1,024 words of the frame at position `pos` of a stream as they are stored, under the stream key and nonce. -/
def Frame.stored (key nonce pos : Nat) (f : Frame) : List Nat :=
  padWords f.head 8 ++ gcmCrypt key nonce ((pos - 1) / 64) ((pos - 1) % 64) f.words ++ padWords f.tail 8

/-- The CRC-32C over bytes 0 to 4,091 is the one stored. -/
def Frame.crcOk (key nonce pos : Nat) (f : Frame) : Bool :=
  f.tail.getD 7 0 % 2 ^ 32 = crc32c ((f.stored key nonce pos).take 1023)

namespace Machine

/-- The frames of a segment whose first has position `pos`, as they are stored. -/
def segStored (key nonce pos : Nat) (fs : List Frame) : List (List Nat) :=
  (fs.zip (List.range fs.length)).map (fun x => x.1.stored key nonce (pos + x.2))

/-- The GCM tag of a segment whose first frame has position `pos` (R336): over bytes 0 to 31 of its frames, then over
their stored payloads, then the lengths of both in bits. -/
def segTag (key nonce pos : Nat) (fs : List Frame) : Nat :=
  let st := segStored key nonce pos fs
  let aad := st.flatMap (fun ws => blocksOf (ws.take 8))
  let ct := st.flatMap (fun ws => blocksOf ((ws.drop 8).take 1008))
  let n := fs.length
  ghash (Config.aes256 key 0) (aad ++ ct ++ [256 * n * 2 ^ 64 + 32256 * n])
    ^^^ Config.aes256 key (gcmCounter nonce ((pos - 1) / 64) 1)

/-- The tag of the segment's last frame verifies. -/
def segTagOk (key nonce pos : Nat) (fs : List Frame) : Bool :=
  fs.getLast?.any (fun f => f.tag = segTag key nonce pos fs % 2 ^ 128)

/-- h_j: SHA-384 of a segment's stored frames (R337). -/
def segHash (key nonce pos : Nat) (fs : List Frame) : Nat := shaWords (segStored key nonce pos fs).flatten

/-- The root hash over the segments' hashes in order (R337). -/
def rootOf (hs : List Nat) : Nat := Config.sha384 (hs.flatMap (leBytes 48)) % 2 ^ 384

end Machine

/-! The keeper firmware image (R431). -/

def Firmware.magic (f : Firmware) : Nat := leField f.head 0 4
def Firmware.version (f : Firmware) : Nat := leField f.head 4 4
def Firmware.length (f : Firmware) : Nat := leField f.head 8 4
def Firmware.index (f : Firmware) : Nat := leField f.head 16 1
def Firmware.pubKey (f : Firmware) : List Nat := (padWords f.head 52).drop 28
/-- The bytes of the body. -/
def Firmware.bytes (f : Firmware) : List Nat := (List.range f.length).map (fun i => f.body.getD i 0 % 256)

/-- The magic is right and the body has 4 to 1,048,576 bytes. -/
def Firmware.sizeOk (f : Firmware) : Bool := f.magic = 0xF1C04B50 && 4 ≤ f.length && f.length ≤ 1048576

/-- The hash of the signing key; whether the signature over bytes 0 to 415 verifies; whether the body has its hash. -/
def Firmware.keyHash (f : Firmware) : Nat := shaWords f.pubKey
def Firmware.sigOk (f : Firmware) : Bool :=
  Config.ecdsaOk f.pubKey (shaWords (padWords f.head 104)) ((padWords f.head 128).drop 104)
def Firmware.bodyOk (f : Firmware) : Bool := Config.sha384 f.bytes % 2 ^ 384 = leField f.head 64 48

/-- The measurement: SHA-384 over the header and body as stored. -/
def Firmware.hash (f : Firmware) : Nat := Config.sha384 ((padWords f.head 128).flatMap (leBytes 4) ++ f.bytes)

end Sys2Proof
end

