-- ==== Sys2Proof/Machine/TwinLink.lean ====
section
/-! DEFINITION. The twin link and pairing (R367 to R374): sending frames, HELLO, the steps up to the
key exchange. -/

namespace Sys2Proof.Machine

/-- The codes of TW_STATUS.state (R396). -/
def Tw.unpaired : Nat := 0
def Tw.pairing : Nat := 1
def Tw.sync : Nat := 2
def Tw.paired : Nat := 3
def Tw.alone : Nat := 4
def Tw.taking : Nat := 5

/-- The device takes part in twin operation: declared, loaded, not in SAFE. -/
def twOn (s : State) : Bool :=
  s.flag F.TW_CFG_enable && s.mode != Mode.load && s.mode != Mode.safe

/-- A frame is sent on an UP twin lane and waits for its acknowledgement (R368, R369): a HEARTBEAT
on the lowest lane, any other frame on the lanes in turn. -/
def twSend (s : State) (b : TwinBody) : State :=
  match twLanes s with
  | [] => s
  | l0 :: ls =>
    let n := ((aget s.twin.txSeq b.vc).getD 0 + 1) % 2 ^ 32
    twPut b s (if b.typ = 1 then l0 else (l0 :: ls).getD (n % (ls.length + 1)) l0)

/-- Pairing is at step `k`, whose time limit runs from now (R372). -/
def pairStep (s : State) (k : Nat) : State :=
  setTw (s.set F.TW_STATUS_pair_step k) { s.twin with tm := { s.twin.tm with step := s.now } }

/-- The words of a 384-bit register array as a number. -/
def words12 (s : State) (f : Nat → Fld) : Nat :=
  (List.range 12).foldl (fun n i => n + s.get (f i) * 2 ^ (32 * i)) 0

/-- The configuration hash of R372, held in SEC_MEAS_CFG. -/
def cfgHash (s : State) : Nat := words12 s F.SEC_MEAS_CFG_hash

/-- The configuration hash is measured anew: SHA-384 over CFG_ROOT and the roots of the commits since
load (R372). -/
def measureCfg (s : State) : State :=
  let h := shaWords (((List.range 12).map (fun i => s.get (F.CFG_ROOT_root i))) ++ s.twin.roots)
  s.setAll ((List.range 12).map (fun i => (F.SEC_MEAS_CFG_hash i, h / 2 ^ (32 * i) % 2 ^ 32)))

/-- The HELLO of this device (R372). -/
def helloOf (s : State) : TwinCtl :=
  .hello (cfgHash s) (words12 s F.SEC_MEAS_FW_hash) (s.get F.ID_UID_LO_uid_lo)
    (s.get F.ID_UID_HI_uid_hi) (ofBool s.twin.strap) (s.get F.TW_CFG_priority) s.mode
    (s.get F.TW_EPOCH_epoch)

/-- A pairing step fails (R372): pairing restarts after a wait. -/
def pairFail (s : State) (reason : Nat) : State :=
  let step := s.get F.TW_STATUS_pair_step
  let s := raise s 1000 0x01 5 (step + reason * 16)
  let s := setTw s { s.twin with
    fails := s.twin.fails + 1, waiting := true, hello := none
    tm := { s.twin.tm with fail := s.now } }
  let s := s.set F.TW_STATUS_pair_step 0
  s.set F.TW_STATUS_state (if s.mode = Mode.active then Tw.alone else Tw.unpaired)

/-- Step 2 judges the twin's HELLO; step 3 sends this side's key (R372). -/
def helloJudge (s : State) : State :=
  match s.twin.hello with
  | some (.hello h _ _ _ _ _ _ _) =>
    if s.get F.TW_STATUS_pair_step ≠ 2 then s
    else if h ≠ cfgHash s then pairFail (raise s 1000 0x02 5 0) 1
    else twSend (pairStep s 3) (.control (.key true))
  | _ => s

/-- Step 1 completes when a twin lane is UP and the sideband has shown an edge (R372). -/
def pairStep1 (s : State) : State :=
  if twOn s && s.get F.TW_STATUS_pair_step = 1 && twLanes s != [] && s.flag F.TW_STATUS_sideband_ok then
    helloJudge (twSend (pairStep s 2) (.control (helloOf s)))
  else s

/-- Pairing starts at step 1 (R372): the link's numbering starts afresh, and a declared fault is over (log
entry 21). -/
def pairStart (s : State) : State :=
  let s := setTw s { s.twin with
    waiting := false, faultSent := none, hello := none, txSeq := [], txq := [], rxHeld := [] }
  let s := pairStep s 1
  let s := s.set F.TW_STATUS_state (if s.mode = Mode.active then Tw.alone else Tw.pairing)
  pairStep1 s

end Sys2Proof.Machine
end

