-- ==== Sys2Proof/Machine/Lanes.lean ====
section
/-! DEFINITION. The serial lanes (R236 to R265): bring-up, link loss, loops and PRBS, blocks, FoM. -/

namespace Sys2Proof.Machine

/-- A JESD204C lane. -/
def isJesd (s : State) (l : Nat) : Bool := s.get (F.LN_CFG_proto l) = 6

/-- A lane of a 100G port. -/
def is100G (s : State) (l : Nat) : Bool :=
  s.get (F.LN_CFG_proto l) = 4 || s.get (F.LN_CFG_proto l) = 5

/-- A lane's bring-up step may complete: the lane is in state `st` and no failed step waits. -/
def inStep (s : State) (l st : Nat) : Bool := s.lane l = st && !(s.laneRun l).failed

/-- A lane's receiver moves to a state of the bring-up. -/
def toStep (s : State) (l st : Nat) : State := laneState s l st

/-- Lane `l` runs PAM4 (R237, R238): at 28.125 Gb/s exactly a raw lane follows LN_RATE.pam4. -/
def isPam4 (s : State) (l : Nat) : Bool :=
  let p := s.get (F.LN_CFG_proto l)
  let q := s.get (F.LN_RATE_rate_q l)
  p = 3 || p = 5 || (p = 7 && (112500 < q || (q = 112500 && s.flag (F.LN_RATE_pam4 l))))

/-- The FoM of an eye opening of `h` µV (R251): the nominal opening is 100 mV for NRZ and 33 mV an eye for PAM4; a
candidate that does not lock has no opening. -/
def fomOf (s : State) (l h : Nat) : Nat := min 255 (256 * h / (if isPam4 s l then 33000 else 100000))

/-- A designated wake group in DORMANT (R95). -/
def wakeGroup (s : State) (g : Nat) : Bool := s.flag (F.CLK_GATE_EN_deep_en (264 + g))

/-- LN_LINK_UP (R254): the lane is UP; in DORMANT, or during its entry, a lane of a wake group may end the
mode (R401, R402). -/
def laneUp (s : State) (l : Nat) : State :=
  let g := l / 8
  let s := (toStep s l Ln.up).set (F.LN_STATUS_link_up l) 1
  let s := s.set (F.LN_GRP_STATUS_up g) (putBit (s.get (F.LN_GRP_STATUS_up g)) (l % 8) true)
  let s := raise s (4 * l) 1 2 (s.get (F.LN_STATUS_fom l) + s.get (F.LN_STATUS_cand l) * 256)
  if s.flag F.RST_WAKE_CFG_lane_up && dormantSoon s && wakeGroup s g then wake s 4 else s

/-- The number of candidates of a lane (R250). -/
def candCount (s : State) (l : Nat) : Nat := s.get (F.LN_CFG_n_cand_m1 l) + 1

/-- SIGNAL_DETECT (R252, R254): the lane moves to EQ_SELECT; with eq_lock = 1 it skips the trial and
uses candidate 0. -/
def execSignalDetect (l : Nat) (s : State) : Res :=
  checked (.signalDetect l) <|
    if !inStep s l Ln.sigDetect then s
    else if s.flag (F.LN_CFG_eq_lock l) then (toStep s l Ln.cdrLock).set (F.LN_STATUS_cand l) 0
    else toStep s l Ln.eqSelect

/-- The index of the first largest element. -/
def argMax : List Nat → Nat → Nat → Nat × Nat
  | [], _, _ => (0, 0)
  | [x], i, _ => (i, x)
  | x :: t, i, n =>
    let r := argMax t (i + 1) n
    if r.2 ≤ x then (i, x) else r

/-- EQ_TRIAL_COMPLETE (R251 to R254), with each candidate's smallest eye opening in µV: every FoM is reported, and the
candidate with the highest is kept, the lower index between equal ones; a trial in which none opens an eye does not
complete the step. -/
def execEqTrialComplete (l : Nat) (eyes : List Nat) (s : State) : Res :=
  checked (.eqTrialComplete l eyes) <|
    let fs := (eyes.take (candCount s l)).map (fomOf s l)
    let r := argMax fs 0 0
    let w := fs.getD 0 0 + fs.getD 1 0 * 2 ^ 8 + fs.getD 2 0 * 2 ^ 16 + fs.getD 3 0 * 2 ^ 24
    if !inStep s l Ln.eqSelect then s
    else if r.2 = 0 then raise (s.set (F.LN_FOM_SEL_foms l) w) (4 * l + 1) 0x11 1 w
    else
      let floor := s.get (F.LN_FOM_CFG_floor l)
      let s := s.setAll [(F.LN_FOM_SEL_foms l, w), (F.LN_STATUS_cand l, r.1), (F.LN_STATUS_fom l, r.2),
        (F.LN_STATUS_fom_low l, ofBool (r.2 < floor))]
      let s := raise (toStep s l Ln.cdrLock) (4 * l + 1) 0x11 1 w
      let s := setLaneRun s l { s.laneRun l with lowArmed := floor ≤ r.2 }
      let s := { s with spr := { s.spr with
        fom := adel s.spr.fom l, fomSum := adel s.spr.fomSum l, last := adel s.spr.last (4096 + l) } }
      if r.2 < floor then raise s (4 * l + 1) 0x10 4 (r.2 + r.1 * 256) else s

/-- The candidate whose RX settings and TX taps the lane uses, none for the RX during the trial (R252): until the
trial has chosen, the transmitter uses those of candidate 0. -/
def eqInUse (s : State) (l : Nat) : Nat := if s.lane l ≤ Ln.eqSelect then 0 else s.get (F.LN_STATUS_cand l)

/-- The RX data of lane `l` is inverted (R255): as detected, or as pol_rx forces. -/
def rxInverts (s : State) (l : Nat) : Bool :=
  if s.flag (F.LN_CFG_pol_auto l) then s.flag (F.LN_STATUS_rx_inverted l) else s.flag (F.LN_CFG_pol_rx l)

/-- CDR_LOCK (R254, R255): with pol_auto = 0 the polarity of pol_rx is used and the step skipped. -/
def execCdrLock (l : Nat) (s : State) : Res :=
  checked (.cdrLock l) <|
    if !inStep s l Ln.cdrLock then s
    else if s.flag (F.LN_CFG_pol_auto l) then toStep s l Ln.polarity
    else toStep s l Ln.blockLock

/-- POLARITY_DETECT (R255). -/
def execPolarityDetect (l : Nat) (inverted : Bool) (s : State) : Res :=
  checked (.polarityDetect l inverted) <|
    if !inStep s l Ln.polarity then s
    else
      let s := (toStep s l Ln.blockLock).set (F.LN_STATUS_rx_inverted l) (ofBool inverted)
      if inverted then raise s (4 * l) 4 2 0 else s

/-- BLOCK_LOCK (R254): a 100G port's lane goes on to LANE_ORDER, any other to DESKEW. -/
def execBlockLock (l : Nat) (s : State) : Res :=
  checked (.blockLock l) <|
    if !inStep s l Ln.blockLock then s
    else toStep s l (if is100G s l then Ln.laneOrder else Ln.deskew)

/-- A bring-up step fails for some lanes (R254): LN_BRINGUP_FAIL and the wait of 10 ms. -/
def stepFail (s : State) (ls : List Nat) : State :=
  ls.foldl (fun t l =>
    let st := t.lane l
    let t := (t.bump (F.LN_BRINGUP_FAIL_CNT_count l) 1).set (F.LN_BRINGUP_FAIL_CNT_last_step l) st
    let t := setLaneRun t l { t.laneRun l with failed := true, since := t.now }
    raise t (4 * l) 3 3 st) s

/-- No position is claimed twice. -/
def distinct : List Nat → Bool
  | [] => true
  | x :: t => !t.contains x && distinct t

/-- LANE_ORDER_DETECT (R256): the positions of a 100G port's lanes, or the failure of the step for
the whole port. -/
def execLaneOrderDetect (l : Nat) (pos : List Nat) (s : State) : Res :=
  checked (.laneOrderDetect l pos) <|
    let ls := portLanes s l
    if !is100G s l || !ls.all (fun x => inStep s x Ln.laneOrder) then s
    else if pos.length ≠ ls.length || !distinct pos || pos.any (fun p => ls.length ≤ p) then stepFail s ls
    else
      (ls.zip pos).foldl (fun t x =>
        let o := x.1 - ls.getD 0 0
        let t := (toStep t x.1 Ln.deskew).set (F.LN_STATUS_pos x.1) x.2
        if x.2 ≠ o then raise t (4 * x.1) 5 2 (x.2 + o * 16) else t) s

/-- The skew limit S of a lane (R246). -/
def skewMax (s : State) (l : Nat) : Nat := max 16 (s.get (F.LN_FOM_CFG_skew_max_tk l))

/-- DESKEW (R254, R256, R372): every lane of the port is aligned within S, its elastic buffer is centred and it
goes UP, or the step fails for the port. -/
def execDeskew (l skew : Nat) (s : State) : Res :=
  checked (.deskew l skew) <|
    let ls := portLanes s l
    if !ls.all (fun x => inStep s x Ln.deskew) then s
    else
      let s := s.setAll (ls.map (fun x => (F.LN_SKEW_skew_tk x, skew)))
      if 1 < ls.length && skewMax s l < skew then
        stepFail (ls.foldl (fun t x => raise t (4 * x) 6 4 skew) s) ls
      else pairStep1 (ls.foldl (fun t x => laneUp (setLaneRun t x
        { t.laneRun x with fill := 8, blkNo := 0, sets := [] }) x) s)

/-- The limit of a bring-up step in ms (R254). -/
def stepLimit (s : State) (l st : Nat) : Nat :=
  if st = Ln.eqSelect then candCount s l * (1 + max 1 (s.get (F.LN_FOM_CFG_fom_ms l)))
  else if st = Ln.cdrLock then 1 else if st = Ln.polarity then 4 else 2

/-- BRINGUP_STEP_TIMEOUT (R254): the states from EQ_SELECT to DESKEW have a limit; LANE_ORDER and
DESKEW fail for the port. -/
def execBringupStepTimeout (l : Nat) (s : State) : Res :=
  checked (.bringupStepTimeout l) <|
    let st := s.lane l
    if 3 ≤ st && st ≤ 8 && inStep s l st then
      let s := s.atNow ((s.laneRun l).since + usToTk (1000 * stepLimit s l st))
      stepFail s (if 7 ≤ st then (portLanes s l).filter (fun x => inStep s x st) else [l])
    else s

/-- BRINGUP_RETRY (R254): 10 ms after the failure the lane starts again. -/
def execBringupRetry (l : Nat) (s : State) : Res :=
  checked (.bringupRetry l) <|
    if (s.laneRun l).failed then
      let s := s.atNow ((s.laneRun l).since + usToTk 10000)
      toStep (setLaneRun s l { s.laneRun l with failed := false }) l Ln.sigDetect
    else s

/-- The state at which a lane restarts for causes 1 to 6 (R257). -/
def lossRestart (cause : Nat) : Nat :=
  if cause = 1 then Ln.sigDetect else if cause = 2 then Ln.cdrLock else if cause ≤ 4 then Ln.blockLock
  else if cause = 5 then Ln.laneOrder else Ln.deskew

/-- The other lanes of a port wait at the port's restart state (R257). -/
def portWait (s : State) (l cause : Nat) : State :=
  let others := (portLanes s l).filter (fun x => x != l && s.lane x = Ln.up)
  others.foldl (fun t x => laneLeave t x cause (if is100G t x then Ln.laneOrder else Ln.deskew)) s

/-- LANE_LINK_LOSS (R257): causes 1 to 4 take the lane down and its port's other lanes wait; causes 5
and 6 take every lane of the port or link. -/
def execLaneLinkLoss (l cause : Nat) (s : State) : Res :=
  checked (.laneLinkLoss l cause) <|
    if s.lane l ≠ Ln.up then s
    else if cause = 5 && !is100G s l || cause = 6 && !isJesd s l then s
    else if 5 ≤ cause then
      (portLanes s l).foldl (fun t x => laneLeave t x cause (lossRestart cause)) s
    else portWait (laneLeave s l cause (lossRestart cause)) l cause

/-! The group PLL and its VCOs (R448). -/

/-- LN_VCO_SPARE (R448): a worn first VCO is replaced at the group's passage through IDLE; a worn
second VCO has no spare. -/
def vcoPassage (s : State) (g : Nat) : State :=
  match aget s.lanes.worn g with
  | none => s
  | some c =>
    let s := { s with lanes := { s.lanes with worn := adel s.lanes.worn g } }
    if s.get (F.LN_GRP_STATUS_up g) ≠ 0 then
      { s with lanes := { s.lanes with worn := aset s.lanes.worn g c } }
    else if s.flag (F.LN_GRP_STATUS_vco g) then s
    else
      let s := (s.set (F.LN_GRP_STATUS_vco g) 1).bump F.SPR_STATUS_vco_used 1
      raiseCrit (s.bump F.SPR_SUB_CNT_vco 1) true (32 * g) 0x0A 5 c

/-- The VCO in use is found worn (R448, R457): 1 tuning, 2 unlocks. -/
def vcoWorn (s : State) (g c : Nat) : State :=
  if (aget s.lanes.worn g).isSome then s
  else
    let s := { s with lanes := { s.lanes with worn := aset s.lanes.worn g c } }
    if s.flag (F.LN_GRP_STATUS_vco g) then sprExhausted s 3 g else s

/-- GROUP_PLL_LOCK (R254, R258, R448): the lanes of the group that are in IDLE move on; `outside`
says that the tuning word lies outside the middle 80 % of its range. Lanes whose gate is closed are OFF. -/
def execGroupPllLock (g : Nat) (outside : Bool) (s : State) : Res :=
  checked (.groupPllLock g outside) <|
    if s.flag (F.LN_GRP_STATUS_held g) || s.modes.lgrpRst.contains g then s
    else
      let s := { s with lanes := { s.lanes with lockAt := aset s.lanes.lockAt g (s.now, s.fp) } }
      let s := (vcoPassage s g).set (F.LN_GRP_STATUS_pll_lock g) 1
      let s := if outside then vcoWorn s g 1 else s
      (groupLanes g).foldl (fun t l => if t.lane l = Ln.idle then toStep t l Ln.sigDetect else t) s

/-- GROUP_PLL_UNLOCK (R257, R448). -/
def execGroupPllUnlock (g : Nat) (s : State) : Res :=
  checked (.groupPllUnlock g) <|
    if !s.flag (F.LN_GRP_STATUS_pll_lock g) then s
    else
      let s := (s.set (F.LN_GRP_STATUS_pll_lock g) 0).bump (F.LN_GRP_UNLOCK_CNT_count g) 1
      let s := raise s (32 * g) 7 5 (s.get (F.LN_GRP_STATUS_vco g))
      let s := (groupLanes g).foldl (fun t l =>
        if laneEnabled t l && t.lane l ≠ Ln.off then laneLeave t l 7 Ln.idle else t) s
      let recent := (((aget s.lanes.unlocks g).getD []).filter (fun t => s.now < t + dayTk)) ++ [s.now]
      let s := { s with lanes := { s.lanes with unlocks := aset s.lanes.unlocks g recent } }
      let s := if max 1 (s.get F.SPR_CFG2_vco_unlocks) ≤ recent.length then vcoWorn s g 2 else s
      vcoPassage s g

/-! Control writes (R257 to R261). -/

/-- The state a lane that may run takes: OFF while its gate is closed or its group held, IDLE while
the PLL is not locked. -/
def laneStart (s : State) (l : Nat) : Nat :=
  let g := l / 8
  if !s.flag (F.CLK_GATE_EN_open (264 + g)) || s.flag (F.LN_GRP_STATUS_held g) then Ln.off
  else if s.flag (F.LN_GRP_STATUS_pll_lock g) then Ln.sigDetect else Ln.idle

/-- A write of LN_CTRL.enable (R257). -/
def laneEnable (s : State) (l : Nat) (en : Bool) : State :=
  if !en then portWait ((laneLeave s l 8 Ln.disabled).set (F.LN_CTRL_enable l) 0) l 8
  else
    let s := s.set (F.LN_CTRL_enable l) 1
    if s.lane l = Ln.disabled && laneEnabled s l then toStep s l (laneStart s l) else s

/-- LANE_ENABLE_WRITE. -/
def execLaneEnableWrite (l : Nat) (en : Bool) (s : State) : Res :=
  checked (.laneEnableWrite l en) (laneEnable s l en)

/-- The lane's receiver runs: it is past IDLE and not OFF. -/
def laneRuns (s : State) (l : Nat) : Bool := 2 ≤ s.lane l && s.lane l ≤ 9

/-- A write of LN_CTRL.restart (R257). -/
def laneRestart (s : State) (l : Nat) : State :=
  if laneRuns s l then portWait (laneLeave s l 9 Ln.sigDetect) l 9 else s

/-- LANE_RESTART. -/
def execLaneRestart (l : Nat) (s : State) : Res := checked (.laneRestart l) (laneRestart s l)

/-- The reason for which a loop or PRBS write is refused, 0 for none (R261). -/
def loopRefusal (s : State) (l : Nat) : Nat :=
  if laneDeadline s l then 1
  else if s.get (F.LN_CFG_proto l) = 8 then 2
  else if (s.flag F.TB_PTP_CFG_enable && s.get F.TB_PTP_CFG_slave_lane = l)
    || (s.flag F.TB_SYNCE_CFG_enable && s.get F.TB_SYNCE_CFG_lane = l) then 3
  else 0

/-- LN_LOOP (R259). -/
def loopEvent (s : State) (l : Nat) : State :=
  raise s (4 * l) 0x30 3 (s.get (F.LN_CTRL_loop l) + s.get (F.LN_CTRL_prbs_gen l) * 4)

/-- A loop or PRBS change takes the lane down with cause 12. -/
def loopRestart (s : State) (l st : Nat) : State :=
  if laneRuns s l then portWait (laneLeave s l 12 st) l 12 else s

/-- A write of LN_CTRL.loop and loop_tx_drive (R259, R261). -/
def loopSelect (s : State) (l loop : Nat) (drive : Bool) : State :=
  let old := s.get (F.LN_CTRL_loop l)
  let r := loopRefusal s l
  if loop ≠ 0 && r ≠ 0 then raise s (4 * l) 0x31 3 r
  else
    let s := s.set (F.LN_CTRL_loop_tx_drive l) (ofBool drive)
    if loop = old then s
    else
      let s := (s.set (F.LN_CTRL_loop l) loop).set (F.LN_STATUS_loop_active l) (ofBool (loop != 0))
      let s := if loop = 0 then loopRestart s l Ln.sigDetect
        else if loop = 1 then loopRestart s l Ln.cdrLock
        else if loop = 2 then loopRestart s l Ln.blockLock else s
      loopEvent s l

/-- LOOP_SELECT. -/
def execLoopSelect (l loop : Nat) (drive : Bool) (s : State) : Res :=
  checked (.loopSelect l loop drive) (loopSelect s l loop drive)

/-- A write of LN_CTRL.prbs_gen (R260, R261). -/
def prbsGen (s : State) (l gen : Nat) : State :=
  let old := s.get (F.LN_CTRL_prbs_gen l)
  let r := loopRefusal s l
  if gen ≠ 0 && r ≠ 0 then raise s (4 * l) 0x31 3 r
  else if gen = old then s
  else
    let s := s.set (F.LN_CTRL_prbs_gen l) gen
    loopEvent (if gen = 0 || old = 0 then loopRestart s l Ln.blockLock else s) l

/-- PRBS_GEN_SELECT. -/
def execPrbsGenSelect (l gen : Nat) (s : State) : Res := checked (.prbsGenSelect l gen) (prbsGen s l gen)

/-- A write of LN_CTRL.prbs_chk (R260): the checker starts unlocked. -/
def prbsChk (s : State) (l chk : Nat) : State :=
  if chk = s.get (F.LN_CTRL_prbs_chk l) then s
  else setLaneRun ((s.set (F.LN_CTRL_prbs_chk l) chk).set (F.LN_STATUS_prbs_locked l) 0) l
    { s.laneRun l with prbsRun := 0 }

/-- PRBS_CHK_SELECT. -/
def execPrbsChkSelect (l chk : Nat) (s : State) : Res := checked (.prbsChkSelect l chk) (prbsChk s l chk)

/-! Blocks (R243 to R249). -/

/-- The FEC terms F_rx and F_tx (R246). -/
def fecTerms (s : State) (l : Nat) : Nat × Nat :=
  let f := s.get (F.LN_CFG_fec l)
  if f = 0 then (0, 0)
  else if is100G s l then (80, 16)
  else if f = 1 then (232, 24) else (128, 16)

/-- B + F + S of a lane (R246, LN_LAT). What a JESD204C lane receives goes to a bin, whatever sends on it (R237). -/
def latBase (s : State) (l : Nat) : Nat × Nat :=
  let bin := s.flag (F.LN_CFG_sink l)
  let f := fecTerms s l
  let sk := if 1 < (portLanes s l).length || isJesd s l then skewMax s l else 0
  ((if bin || isJesd s l then 36 else 24) + f.1 + sk, (if bin then 30 else 20) + f.2)

/-- The group of lane `l` runs in free mode (R242). -/
def freeMode (s : State) (l : Nat) : Bool := s.flag (F.LN_GRP_CFG_mode (l / 8))

/-- The lane and FEC counts a block brings, and the remote fault of an engine-sink Ethernet lane (R240, R263,
R264). -/
def blockCounts (s : State) (l : Nat) (b : RxBlock) : State :=
  let s := if b.header = 0 || b.header = 3 then s.bump (F.LN_HDR_ERR_CNT_count l) 1 else s
  let s := s.bump (F.LN_FEC_CORR_CNT_count l) b.fecCorr
  let s := if b.fecBad = 0 then s
    else
      let t := s.bump (F.LN_FEC_UNCORR_CNT_count l) b.fecBad
      raiseOnce t (F.LN_FEC_UNCORR_CNT_count l) (4 * l) 8 3 (t.get (F.LN_FEC_UNCORR_CNT_count l))
  let s := if isJesd s l && b.crcBad then
      let t := s.bump (F.LN_CRC_ERR_CNT_count l) 1
      raiseOnce t (F.LN_CRC_ERR_CNT_count l) (4 * l) 9 3 (t.get (F.LN_CRC_ERR_CNT_count l))
    else s
  if isEthernet s l && !s.flag (F.LN_CFG_sink l) then s.set (F.LN_STATUS_remote_fault l) (ofBool b.remoteFault) else s

/-- A received block is errored (R239, R248): an invalid header, an uncorrectable block, or a low-power-idle block of an
engine-sink Ethernet lane. -/
def errored (s : State) (l : Nat) (b : RxBlock) : Bool :=
  b.header = 0 || b.header = 3 || b.fecBad != 0 || (b.lpi && isEthernet s l && !s.flag (F.LN_CFG_sink l))

/-- The fields of the RX bundle that a delivered block fills (R248). -/
def rxBundle (s : State) (l : Nat) (b : RxBlock) (lat : Nat) : Nat :=
  b.payload % 2 ^ 64 + b.header * 2 ^ 64 + 2 ^ 66 + ofBool (errored s l b) * 2 ^ 67 + b.frac % 16 * 2 ^ 68
    + ofBool b.embStart * 2 ^ 73 + ofBool b.crcBad * 2 ^ 74 + lat % 1024 * 2 ^ 76

/-- The ball tick from which the latency of the next block of lane `l` counts (R246): on a port or link of several lanes
the earliest among the blocks of its set. -/
def setTick (s : State) (l : Nat) : Nat :=
  if (portLanes s l).length ≤ 1 then s.now
  else (aget (s.laneRun (lowLane s l)).sets (s.laneRun l).blkNo).getD s.now

/-- The ball tick of the block set is kept at the port's lowest lane, of the last 256 sets. -/
def setKeep (s : State) (l : Nat) : State :=
  if (portLanes s l).length ≤ 1 then s
  else
    let r := s.laneRun (lowLane s l)
    setLaneRun s (lowLane s l) { r with
      sets := ((s.laneRun l).blkNo, setTick s l) :: (r.sets.filter (fun x => x.1 ≠ (s.laneRun l).blkNo)).take 255 }

/-- A block is delivered (R243, R246): the sink holds it `lat` ticks after the reference tick of its set, and `wait`
ticks later where another block goes before it. -/
def deliver (s : State) (l : Nat) (b : RxBlock) (lat wait : Nat) : State :=
  let v := rxBundle s l b (lat + wait)
  let at' := setTick s l + lat + wait
  let s := setKeep s l
  let r := s.laneRun l
  setLaneRun (s.set (F.LN_LAT_rx_last l) (lat + wait)) l
    { r with lastRx := some v, rxQ := r.rxQ.filter (fun x => s.now ≤ x.1) ++ [(at', v)], blkNo := r.blkNo + 1 }

/-- The RX bundle of lane `l` in the present tick (R248). Where no block is valid, what the rules do not state of it is a
free value (log entry 119). -/
def laneBundle (s : State) (l : Nat) : Nat :=
  let r := s.laneRun l
  let v := match r.rxQ.find? (fun x => x.1 = s.now) with
    | some x => x.2
    | none =>
      let f := Config.rxRest l s.now
      f % 2 ^ 64 + bits f 64 4 * 2 ^ 68 + bits f 68 2 * 2 ^ 73
  let take := match r.takeAt with
    | some (t, n) => if t = s.now then 2 ^ 75 + n % 1024 * 2 ^ 86 else 0
    | none => 0
  v + ofBool (s.flag (F.LN_STATUS_link_up l)) * 2 ^ 72 + take

/-- A control block of Ethernet (R244, R245, R249): type 0x1E with eight equal codes of 7 bits, 0 for idle and 0x1E for
error, with the control header (log entry 119). -/
def ethControl (error : Bool) : Nat :=
  0x1E + (if error then (List.range 8).foldl (fun n i => n + 0x1E * 2 ^ (8 + 7 * i)) 0 else 0) + 2 * 2 ^ 64

/-- The fill block of a lane, header 0b10 (R264). -/
def fillBlock (s : State) (l : Nat) : Nat :=
  s.get (F.LN_FILL_LO_fill l) + s.get (F.LN_FILL_HI_fill l) * 2 ^ 32 + 2 * 2 ^ 64

/-! What a lane sends (R241, R249, R258 to R260). -/

/-- The block sent on an underrun (R249): `k` is 1 an idle control block, 2 an error control block, 3 the fill block,
4 a zero payload with a data header. -/
def underrunBlock (s : State) (l k : Nat) : Nat :=
  if k = 1 then ethControl false else if k = 2 then ethControl true else if k = 3 then fillBlock s l else 2 ^ 64

/-- The scrambler 1 + x^39 + x^58 over `n` bits of `v`, first bit first (R241): its state and what it sends. -/
def scramble : Nat → Nat → Nat → Nat × Nat
  | 0, st, _ => (st, 0)
  | n + 1, st, v =>
    let o := (v % 2 + bits st 38 1 + bits st 57 1) % 2
    let r := scramble n ((2 * st + o) % 2 ^ 58) (v / 2)
    (r.1, o + 2 * r.2)

/-- The descrambler of the same polynomial: its state is the last 58 bits received. -/
def descramble : Nat → Nat → Nat → Nat × Nat
  | 0, st, _ => (st, 0)
  | n + 1, st, v =>
    let o := (v % 2 + bits st 38 1 + bits st 57 1) % 2
    let r := descramble n ((2 * st + v % 2) % 2 ^ 58) (v / 2)
    (r.1, o + 2 * r.2)

/-- The 64 payload bits of lane `l` are scrambled: always but on a raw lane with scr_en = 0 (R241, R249). -/
def scrambled (s : State) (l : Nat) : Bool := s.get (F.LN_CFG_proto l) ≠ 7 || s.flag (F.LN_CFG_scr_en l)

/-- The length and the feedback tap of the PRBS patterns 1 to 3 (R260, log entry 119). -/
def prbsTaps (gen : Nat) : Nat × Nat := if gen = 1 then (7, 6) else if gen = 2 then (15, 14) else (31, 28)

/-- The next bit of a PRBS from state `st`. -/
def prbsBit (len tap st : Nat) : Nat := (bits st (len - 1) 1 + bits st (tap - 1) 1) % 2

/-- `n` bits of a PRBS from state `st`, first bit first. -/
def prbsBits (len tap : Nat) : Nat → Nat → Nat × Nat
  | 0, st => (st, 0)
  | n + 1, st =>
    let o := prbsBit len tap st
    let r := prbsBits len tap n ((2 * st + o) % 2 ^ len)
    (r.1, o + 2 * r.2)

/-- The checker over `n` received bits of `v`, first bit first (R260): its generator's state, the error-free bits up to
the 64 of its lock, and the bit errors counted once it has locked. Until then its generator follows what it
receives. -/
def prbsWatch (len tap : Nat) : Nat → Nat × Nat × Nat → Nat → Nat × Nat × Nat
  | 0, x, _ => x
  | n + 1, (st, run, errs), v =>
    let o := prbsBit len tap st
    prbsWatch len tap n
      (if 64 ≤ run then ((2 * st + o) % 2 ^ len, run, errs + ofBool (o ≠ v % 2))
       else ((2 * st + v % 2) % 2 ^ len, if o = v % 2 then run + 1 else 0, errs)) (v / 2)

/-- A block's 66 bits in the order of the wire, the header's two first (R248), and the block of such bits. -/
def wireOrder (v : Nat) : Nat := bits v 64 2 + 4 * (v % 2 ^ 64)
def fromWire (v : Nat) : Nat := v / 4 % 2 ^ 64 + v % 4 * 2 ^ 64

/-- The LEMC period of a JESD204C lane in ticks, when it is whole (R241). -/
def lemc (s : State) (l : Nat) : Option Nat :=
  let n := 2112 * (s.get (F.LN_JESD_CFG_e_m1 l) + 1) * 393216
  let d := 100 * s.get (F.LN_RATE_rate_q l)
  if d = 0 || n % d ≠ 0 then none else some (n / d)

/-- The ticks from the last LEMC boundary of lane `l` to frame position `fp` (R75, R241): the boundaries lie on the edge
grid of the SYSREF output that the link names, and whole periods from it. -/
def lemcPhase (s : State) (l fp : Nat) : Option Nat :=
  (lemc s l).map (fun n => if n = 0 then 0
    else (fp + n - s.get (F.TB_SYSREF_DLY_coarse_tk (s.get (F.LN_JESD_CFG_sysref l))) % n) % n)

/-- The number in its extended multiblock of the block whose first bit crosses the TX ball at `fp` (R241): an extended
multiblock has 32 · E blocks and begins at an LEMC boundary. -/
def embBlock (s : State) (l fp : Nat) : Option Nat :=
  match lemc s l, lemcPhase s l fp with
  | some n, some d => if n = 0 then none else some (32 * (s.get (F.LN_JESD_CFG_e_m1 l) + 1) * d / n)
  | _, _ => none

/-- The 66 bits that leave the PCS of lane `l` for block `v` whose first bit crosses the TX ball at `fp`: scrambled, but
for a raw lane with scr_en = 0 (R241, R249), a JESD204C block with its bit of the sync header stream; the PRBS in place
of it while a generator runs (R260). -/
def sendBlock (s : State) (l v fp : Nat) (r : LaneRun) : LaneRun :=
  let gen := s.get (F.LN_CTRL_prbs_gen l)
  if gen ≠ 0 then
    let (n, k) := prbsTaps gen
    let x := prbsBits n k 66 (if r.prbs % 2 ^ n = 0 then 2 ^ n - 1 else r.prbs % 2 ^ n)
    { r with prbs := x.1, line := some (fromWire x.2) }
  else if !scrambled s l then { r with line := some v }
  else
    let x := scramble 64 r.scr (v % 2 ^ 64)
    let h := if isJesd s l then (if Config.syncBit l fp then 1 else 2) else v / 2 ^ 64
    { r with scr := x.1, line := some (x.2 + h * 2 ^ 64), emb := if isJesd s l then embBlock s l fp else none }

/-- All 66 bits of a block are inverted when `on`. -/
def invert66 (on : Bool) (v : Nat) : Nat := if on then 2 ^ 66 - 1 - v % 2 ^ 66 else v % 2 ^ 66

/-- The 66 bits that the serializer of lane `l` last sent (R255): pol_tx always sets their polarity. -/
def txWire (s : State) (l : Nat) : Option Nat :=
  (s.laneRun l).line.map (invert66 (s.flag (F.LN_CFG_pol_tx l)))

/-! What a lane receives (R243 to R248, R255, R259, R260). -/

/-- The 66 bits that the PCS of lane `l` takes for a received block (R255, R259): those of the ball, in loop 1 those that
the serializer sent, with the polarity set right; in loop 2 those that left the lane's own PCS. -/
def rxWord (s : State) (l : Nat) (b : RxBlock) : Nat :=
  let ball := b.payload % 2 ^ 64 + b.header % 4 * 2 ^ 64
  match s.get (F.LN_CTRL_loop l), (s.laneRun l).line with
  | 1, some _ => invert66 (rxInverts s l) ((txWire s l).getD ball)
  | 2, some v => v
  | _, _ => invert66 (rxInverts s l) ball

/-- The PRBS checker at the PCS compares every received word and locks after 64 error-free bits (R260). -/
def prbsCount (s : State) (l w : Nat) : State :=
  if s.get (F.LN_CTRL_prbs_chk l) = 0 then s
  else
    let r := s.laneRun l
    let n := prbsTaps (s.get (F.LN_CTRL_prbs_chk l))
    let x := prbsWatch n.1 n.2 66 (r.chk, if s.flag (F.LN_STATUS_prbs_locked l) then 64 else r.prbsRun, 0) (wireOrder w)
    let s := setLaneRun s l { r with chk := x.1, prbsRun := x.2.1 }
    (s.bump (F.LN_PRBS_ERR_CNT_count l) x.2.2).set (F.LN_STATUS_prbs_locked l) (ofBool (64 ≤ x.2.1))

/-- The receiver of lane `l` takes a block's bits (R241, R248): the block with its payload descrambled, and the lane's
descrambler and PRBS checker after it. A looped block brings no FEC fault. -/
def rxTake (s : State) (l : Nat) (b : RxBlock) : RxBlock × State :=
  let w := rxWord s l b
  let s := prbsCount s l w
  let x := descramble 64 (s.laneRun l).descr (w % 2 ^ 64)
  let looped := s.get (F.LN_CTRL_loop l) = 1 || s.get (F.LN_CTRL_loop l) = 2
  ({ b with payload := if scrambled s l then x.2 else w % 2 ^ 64, header := w / 2 ^ 64 % 4,
            fecBad := if looped then 0 else b.fecBad },
    setLaneRun s l { s.laneRun l with descr := x.1 })

/-- A block that the elastic buffer may delete or copy (R244): an Ethernet idle control block, or a raw lane's fill
block. -/
def deletable (s : State) (l : Nat) (b : RxBlock) : Bool :=
  b.payload + b.header * 2 ^ 64 = (if isEthernet s l then ethControl false else fillBlock s l)
    && (isEthernet s l || s.get (F.LN_CFG_proto l) = 7)

/-- A block slot at the lane's line rate in ticks, rounded up (R243). -/
def slotTicks (s : State) (l : Nat) : Nat := ceilDiv 25952256 (100 * max 1 (s.get (F.LN_RATE_rate_q l)))

/-- The block that an empty elastic buffer inserts (R245). -/
def emptyBlock (s : State) (l : Nat) (b : RxBlock) : RxBlock :=
  let v := if isEthernet s l then ethControl true else fillBlock s l
  { b with payload := v % 2 ^ 64, header := v / 2 ^ 64 % 4, fecBad := 0 }

/-- The elastic buffer of a free-mode lane takes block `b` (R244, R245): the PCS has taken `b.taken` blocks since the
block before, and the fill is what is left. -/
def elasticTake (s : State) (l : Nat) (b : RxBlock) (lat : Nat) : State :=
  let n := (s.laneRun l).fill - b.taken
  let put := fun (s : State) (k : Nat) => setLaneRun s l { s.laneRun l with fill := k }
  if 12 < n && deletable s l b then put (s.bump (F.LN_RM_DEL_CNT_count l) 1) n
  else if 16 ≤ n then
    let s := s.bump (F.LN_EB_ERR_CNT_ovf l) 1
    put (raiseOnce s (F.LN_EB_ERR_CNT_ovf l) (4 * l + 2) 0x20 3 0) n
  else if n = 0 then
    let s := s.bump (F.LN_EB_ERR_CNT_unf l) 1
    let s := raiseOnce s (F.LN_EB_ERR_CNT_unf l) (4 * l + 2) 0x20 3 1
    deliver (deliver (put s 1) l (emptyBlock s l b) lat 0) l b lat (slotTicks s l)
  else if n < 4 && deletable s l b then
    deliver (deliver (put (s.bump (F.LN_RM_INS_CNT_count l) 1) (n + 2)) l b lat 0) l b lat (slotTicks s l)
  else deliver (put s (n + 1)) l b lat 0

/-- LANE_BLOCK_RX (R243 to R248, R255, R259, R260): in locked mode the block is released at B + F + S; in free mode it
passes the elastic buffer. Data flows only while the lane is UP; the receiver runs in every state of the bring-up. -/
def execLaneBlockRx (l : Nat) (b : RxBlock) (s : State) : Res :=
  checked (.laneBlockRx l b) <|
    if !laneRuns s l then s
    else
      let x := rxTake s l b
      if s.lane l ≠ Ln.up then x.2
      else
        let s := blockCounts x.2 l x.1
        let base := s.get (F.LN_LAT_rx_base l)
        if freeMode s l then elasticTake s l x.1 (base + b.residence) else deliver s l x.1 base 0

/-- The link layer of a JESD204C lane has started: an LEMC boundary has passed since its group's PLL locked (R258). -/
def linkStarted (s : State) (l : Nat) : Bool :=
  match aget s.lanes.lockAt (l / 8), lemc s l with
  | some (t, f), some n => t + (n - (lemcPhase s l f).getD 0) ≤ s.now
  | _, _ => false

/-- What the TX ball of lane `l` carries (R93, R258 to R260, R385): an engine-sink Ethernet lane sends idle control blocks
and no frames in STANDBY. -/
def txOut (s : State) (l : Nat) : LaneOut :=
  let loop := s.get (F.LN_CTRL_loop l)
  if txIdle s l then .electricalIdle
  else if (loop = 1 || loop = 2) && !s.flag (F.LN_CTRL_loop_tx_drive l) then .electricalIdle
  else if loop = 3 then .received
  else if s.get (F.LN_CTRL_prbs_gen l) ≠ 0 then .prbs
  else if s.flag (F.LN_CFG_sink l) then .blocks
  else if isJesd s l then (if linkStarted s l then .linkLayer else .electricalIdle)
  else if s.mode = Mode.standby && isEthernet s l then .idles
  else if s.lane l ≠ Ln.up then .remoteFault
  else if s.flag (F.LN_STATUS_remote_fault l) then .idles
  else .frames

/-- The bin to which lane `l` is attached (R123). -/
def laneBin (s : State) (l : Nat) : Option Nat :=
  (List.range 132).find? (fun p => s.flag (F.FAB_BIN_STATUS_lane_att p) && s.get (F.FAB_LANE_lane p) = l)

/-- The bundle that lane `l` takes (R123, R249, R262): the TX sinks of the attached bin, which are 0 where its image has
none; 0 from a bin in reset or held, and where no bin is attached. -/
def txBundle (s : State) (l : Nat) : Nat :=
  match laneBin s l with
  | some p =>
    if (s.bin p).rst || s.flag (F.FAB_BIN_STATUS_held p) then 0
    else (s.bin p).fab.sink 80 + 2 ^ 64 * ((s.bin p).fab.sink 81 % 2 ^ 32)
  | none => 0

/-- The block that an engine-sink lane sends in a slot (R240, R258, R385), from the engine's output register `v`, laid out
as a TX bundle: remote fault while the receiver is not UP, idle blocks in STANDBY and under remote fault; on JESD204C
zero samples where the engine gives none. -/
def engineBlock (s : State) (l v : Nat) : Nat :=
  let given := bitAt v 66 && s.mode ≠ Mode.standby
  if isJesd s l then (if given then v % 2 ^ 66 else 2 ^ 64)
  else if isEthernet s l && s.mode ≠ Mode.standby && s.lane l ≠ Ln.up then Config.remoteFault % 2 ^ 66
  else if given && !(isEthernet s l && s.flag (F.LN_STATUS_remote_fault l)) then v % 2 ^ 66
  else ethControl false

/-- LANE_TX_TAKE (R243, R249, R255, R259, R385): the lane takes the bundle of its bin, or the block of its engine, or
sends an underrun block; loop 3 ignores both. `x.frame` says that the block taken is a start or data block of an open
frame, and `x.residence` is the e_tx of free mode; `bundle` is the engine's output register. -/
def execLaneTxTake (l bundle : Nat) (x : TxTake) (s : State) : Res :=
  checked (.laneTxTake l bundle x) <|
    if !laneRuns s l || s.get (F.LN_CTRL_loop l) = 3 then s
    else
      let lat := s.get (F.LN_LAT_tx_base l) + (if freeMode s l then x.residence else 0)
      let ball := fpAdd s.fp lat
      let r := { s.laneRun l with takeAt := some (s.now, lat), ballAt := s.now + lat }
      let standby := s.mode = Mode.standby
      if !s.flag (F.LN_CFG_sink l) then
        let v := engineBlock s l bundle
        setLaneRun s l (sendBlock s l v ball { r with lastTx := some v })
      else
        let v := txBundle s l
        if bitAt v 66 && !standby then
          setLaneRun s l (sendBlock s l (v % 2 ^ 66) ball { r with lastTx := some (v % 2 ^ 66), frameOpen := x.frame })
        else
          let k := if isEthernet s l then (if r.frameOpen then 2 else 1) else if isJesd s l then 4 else 3
          let v := underrunBlock s l k
          let s := setLaneRun s l (sendBlock s l v ball { r with lastTx := some v })
          if standby || k = 1 then s
          else
            let s := s.bump (F.LN_TX_UNDERRUN_CNT_count l) 1
            raiseOnce s (F.LN_TX_UNDERRUN_CNT_count l) (4 * l + 2) 0x21 3
              (s.get (F.LN_TX_UNDERRUN_CNT_count l))

/-- FOM_WINDOW (R251, R253), with the smallest eye opening of the window in µV: while UP its FoM is recorded; LN_FOM_LOW
is raised when it first falls below the floor, and again only after a window at floor + 8 or above. -/
def execFomWindow (l eye : Nat) (s : State) : Res :=
  checked (.fomWindow l eye) <|
    if s.lane l ≠ Ln.up then s
    else
      let fom := fomOf s l eye
      let floor := s.get (F.LN_FOM_CFG_floor l)
      let s := s.setAll [(F.LN_STATUS_fom l, fom), (F.LN_STATUS_fom_low l, ofBool (fom < floor)),
        (F.LN_FOM_MIN_fom l, min fom (s.get (F.LN_FOM_MIN_fom l)))]
      let acc := (aget s.spr.fomSum l).getD (0, 0)
      let s := { s with spr := { s.spr with fomSum := aset s.spr.fomSum l (acc.1 + fom, acc.2 + 1) } }
      let r := s.laneRun l
      if fom < floor && r.lowArmed then
        raise (setLaneRun s l { r with lowArmed := false }) (4 * l + 1) 0x10 4
          (fom + s.get (F.LN_STATUS_cand l) * 256 + 1024)
      else if floor + 8 ≤ fom then setLaneRun s l { r with lowArmed := true }
      else s

end Sys2Proof.Machine
end

