-- ==== Sys2Proof/Machine/Clocks.lean ====
section
/-! DEFINITION. Clocks (R78 to R100): sources and multiplexers, forced recovery, holds, lost sources,
gates, and the hatch contention of R126. The monitors' checks are in Monitors. -/

namespace Sys2Proof.Machine

/-! Multiplexers. 0 to 95 are the regional outputs (BinReset), 96 to 99 RCLK_OUT, 100 to 115 the lane
groups' references, 116 to 119 the auxiliary PLLs' references (log entry 24). -/

/-- The code of the source multiplexer `m` is set to: a regional output's src, TB_RCLK_CFG.src, a lane
group's ref_sel + 4 · rec_grp, CLK_AUX_CFG.ref. -/
def muxSrc (s : State) (m : Nat) : Nat :=
  if m < 96 then
    let t := m / 3
    s.get (if m % 3 = 0 then F.CLK_RC_STATUS_rc1_src t else if m % 3 = 1 then F.CLK_RC_STATUS_rc2_src t
      else F.CLK_RC_STATUS_rc3_src t)
  else (aget s.clk.inUse m).getD 0

/-- The source in use changes. -/
def setMuxSrc (s : State) (m src : Nat) : State :=
  if m < 96 then
    let t := m / 3
    s.set (if m % 3 = 0 then F.CLK_RC_STATUS_rc1_src t else if m % 3 = 1 then F.CLK_RC_STATUS_rc2_src t
      else F.CLK_RC_STATUS_rc3_src t) src
  else { s with clk := { s.clk with inUse := aset s.clk.inUse m src } }

/-- The monitor of source code `c` at multiplexer `m`; 63 for a code that names no clock. -/
def muxMon (m c : Nat) : Nat :=
  if m < 96 then (if c = 0 then 34 else if c ≤ 16 then 17 + c else if c ≤ 20 then 20 + c else 63)
  else if m < 100 then
    (if c = 1 then 34 else if 2 ≤ c && c ≤ 17 then 16 + c else if c = 18 then 0 else if c = 19 then 1
      else 63)
  else if m < 116 then
    (if c % 4 = 0 then 2 + (m - 100) else if c % 4 = 1 then 34 else if c % 4 = 2 then 18 + c / 4 else 63)
  else if c = 0 then 34 else if c = 1 then 0 else if c = 2 then 1 else if c ≤ 18 then c - 1 else 63

/-- A bit of CLK_RC_STATUS.switch_busy or held follows. -/
def rcBit (s : State) (m : Nat) (f : Nat → Fld) (b : Bool) : State :=
  if m < 96 then s.set (f (m / 3)) (putBit (s.get (f (m / 3))) (m % 3) b) else s

/-- The move of multiplexer `m` in progress. -/
def findMove (s : State) (m : Nat) : Option MuxMove := s.clk.moves.find? (fun x => x.mux = m)

/-- A multiplexer's move is dropped. -/
def dropMove (s : State) (m : Nat) : State :=
  rcBit { s with clk := { s.clk with moves := s.clk.moves.filter (fun x => x.mux != m) } } m
    F.CLK_RC_STATUS_switch_busy false

/-- A clock event of multiplexer `m` is raised at its sources (R99): each affected bin, the lane group's lowest lane, or 1021. An event of a regional output that no bin uses is raised at 1021 with its plain code: the
rule names a source for each affected bin only (log entry 101). -/
def muxRaise (s : State) (m code sev data : Nat) : State :=
  if m < 96 then
    let ps := muxBins s m
    if ps = [] then raise s 1021 code sev data
    else ps.foldl (fun t p => raise t (512 + p) (0x60 + code) sev data) s
  else if 100 ≤ m && m < 116 then raise s (32 * (m - 100)) (0x60 + code) sev data
  else raise s 1021 code sev data

/-! LGRP resets (R262, R405). -/

/-- An LGRP reset of group `g` begins (R13, R262, R405): causes 1 write, 2 clock. It ends loops and PRBS, with LN_LOOP
(R259). -/
def lgrpResetStart (s : State) (g cause : Nat) : State :=
  let s := raise s 1021 0x46 3 (g + cause * 16)
  let s := (groupLanes g).foldl (fun t l =>
    let off := t.lane l = Ln.off || t.lane l = Ln.disabled
    let loop := t.flag (F.LN_STATUS_loop_active l) || t.get (F.LN_CTRL_prbs_gen l) ≠ 0
    let t := if off then t else laneLeave t l 10 Ln.idle
    let t := if loop then raise t (4 * l) 0x30 3 0 else t
    t.setAll [(F.LN_CTRL_loop l, 0), (F.LN_CTRL_loop_tx_drive l, 0), (F.LN_CTRL_prbs_gen l, 0),
      (F.LN_CTRL_prbs_chk l, 0), (F.LN_STATUS_link_up l, 0), (F.LN_STATUS_rx_inverted l, 0),
      (F.LN_STATUS_cand l, 0), (F.LN_STATUS_fom l, 0), (F.LN_STATUS_fom_low l, 0),
      (F.LN_STATUS_pos l, 0), (F.LN_STATUS_loop_active l, 0), (F.LN_STATUS_prbs_locked l, 0),
      (F.LN_STATUS_remote_fault l, 0), (F.LN_FOM_SEL_foms l, 0), (F.LN_LAT_rx_last l, 0),
      (F.LN_SKEW_skew_tk l, 0), (F.SPR_FOM_baseline l, 0), (F.SPR_FOM_hourly l, 0),
      (F.SPR_FOM_trend l, 0)]) s
  let s := s.setAll [(F.LN_GRP_STATUS_pll_lock g, 0), (F.LN_GRP_STATUS_up g, 0)]
  rstBegin { s with modes := { s.modes with lgrpRst := nins g s.modes.lgrpRst } } (16 + g)

/-- An LGRP reset is released (R262, R405, R448): the group passes through IDLE and bring-up starts. A
group held under R92, or whose reference a forced recovery still switches (R91), stays in reset. -/
def lgrpResetEnd (s : State) (g : Nat) : State :=
  if !s.modes.lgrpRst.contains g || s.flag (F.LN_GRP_STATUS_held g)
    || s.clk.moves.any (fun x => x.forced && x.mux = 100 + g) then s
  else
    let s := { s with modes := { s.modes with lgrpRst := ndel s.modes.lgrpRst g } }
    let s := vcoPassage s g
    if s.flag (F.CLK_GATE_EN_open (264 + g)) then groupLanesOn s g else s

/-! Switching (R91). -/

/-- The domain of multiplexer `m` enters the reset of a forced recovery (R91, R93). -/
def domainReset (s : State) (m : Nat) : State :=
  if m < 96 then (muxBins s m).foldl (fun t p => binResetStart t p 2) s
  else if 100 ≤ m && m < 116 then lgrpResetStart s (m - 100) 2
  else s

/-- A hold of multiplexer `m`'s domain under R92 ends. -/
def holdEnd (s : State) (m : Nat) : State :=
  let s := { s with clk := { s.clk with held := adel s.clk.held m } }
  let s := rcBit s m F.CLK_RC_STATUS_held false
  if m < 96 then (muxBins s m).foldl heldFollow s
  else if 100 ≤ m && m < 116 then s.set (F.LN_GRP_STATUS_held (m - 100)) 0
  else s

/-- A recovery is forced: the domain is reset and the multiplexer takes the new clock (R91, cycles 0 to
2), which ends a hold of the domain. -/
def forceMove (s : State) (x : MuxMove) : State :=
  let s := domainReset (if (aget s.clk.held x.mux).isSome then holdEnd s x.mux else s) x.mux
  let s := { s with clk := { s.clk with
    moves := s.clk.moves.filter (fun y => y.mux != x.mux) ++ [{ x with forced := true }],
    divs := aset s.clk.divs x.mux x.div } }
  rcBit (setMuxSrc s x.mux x.src) x.mux F.CLK_RC_STATUS_switch_busy true

/-- A switch begins (R91); one away from a source that is already LOST is recovered at once. A setting that
names the source and divider in use drops a switch that waits; during a forced recovery, whose domain is in
reset, the multiplexer takes the new setting at once. -/
def startMove (s : State) (m src div : Nat) : State :=
  let old := muxSrc s m
  let x : MuxMove := ⟨m, src, div, old, false⟩
  if (findMove s m).any (fun y => y.forced) then
    setMuxSrc { s with clk := { s.clk with divs := aset s.clk.divs m div } } m src
  else if old = src && (aget s.clk.divs m).getD 0 = div then dropMove s m
  else if muxMon m old < 43 && s.get (F.CLK_MON_STATUS_state (muxMon m old)) = 0 then forceMove s x
  else
    let s := { s with clk := { s.clk with moves := s.clk.moves.filter (fun y => y.mux != m) ++ [x] } }
    rcBit s m F.CLK_RC_STATUS_switch_busy true

/-- MUX_SWITCH_COMPLETE (R91). -/
def execMuxSwitchComplete (m : Nat) (s : State) : Res :=
  checked (.muxSwitchComplete m) <|
    match findMove s m with
    | none => s
    | some x =>
      if x.forced then s
      else
        let s := { s with clk := { s.clk with divs := aset s.clk.divs m x.div } }
        dropMove (setMuxSrc s m x.src) m

/-- SWITCH_WATCHDOG_EXPIRY (R91, R92): the AON watchdog recovers a switch that has not completed; there
is no watchdog while AON is not qualified. -/
def execSwitchWatchdogExpiry (m : Nat) (s : State) : Res :=
  checked (.switchWatchdogExpiry m) <|
    match findMove s m with
    | none => s
    | some x => if x.forced || !monQual s 42 then s else forceMove s x

/-- SWITCH_RECOVERY_RELEASE (R91): the domain runs again. -/
def execSwitchRecoveryRelease (m : Nat) (s : State) : Res :=
  checked (.switchRecoveryRelease m) <|
    match findMove s m with
    | none => s
    | some x =>
      if !x.forced then s
      else
        let s := dropMove s m
        let s := if m < 96 then (muxBins s m).foldl binResetEnd s
          else if 100 ≤ m && m < 116 then lgrpResetEnd s (m - 100) else s
        (muxRaise s m 4 5 (m + x.old * 256)).bump F.CLK_SWITCH_FORCED_CNT_count 1

/-! Lost and requalified sources (R92, R94). -/

/-- A domain is held until monitor `mon` qualifies (R92). -/
def holdDomain (s : State) (m mon : Nat) : State :=
  let s := { s with clk := { s.clk with held := aset s.clk.held m mon } }
  let s := rcBit s m F.CLK_RC_STATUS_held true
  if m < 96 then (muxBins s m).foldl heldFollow s
  else if 100 ≤ m && m < 116 then
    (groupLeave s (m - 100) 11 Ln.off).set (F.LN_GRP_STATUS_held (m - 100)) 1
  else s

/-- The gates of the domain that were closing are treated as closed (R94). -/
def domainGates (s : State) (m : Nat) : State :=
  let gs := if m < 96 then muxBins s m else if 100 ≤ m && m < 116 then [164 + m] else []
  gs.foldl (fun t g => if t.clk.closing.contains g then closeGate t g else t) s

/-- The fallback source code of multiplexer `m`, none when none is configured (R86, R100). -/
def muxFallback (s : State) (m : Nat) : Option Nat :=
  if m < 96 then
    let c := s.get (F.CLK_RC_CFG_fb_src (m / 3) (m % 3))
    if c = 31 then none else some c
  else if 100 ≤ m && m < 116 then
    let g := m - 100
    let c := s.get (F.CLK_LGRP_CFG_fb_sel g)
    if c = 3 then none
    else some (c + (if c = 2 then 4 * s.get (F.CLK_LGRP_CFG_fb_rec_grp g) else 0))
  else none

/-- The domain of multiplexer `m` without a fallback runs from the new clock of the switch `x` that was in progress, by
a forced recovery (R91, R94); where there is none it is held until monitor `mon` qualifies (R92). -/
def forcedOrHeld (s : State) (m mon old : Nat) (x : Option MuxMove) : State :=
  match x with
  | some x => forceMove s { x with old := old }
  | none => holdDomain s m mon

/-- The source `mon` of multiplexer `m`, or of the switch it makes, is lost (R92, R94): the switch is abandoned
and the multiplexer forced to the new clock, the domain is forced safe, then switched to its fallback, or by the
forced switch to a new clock that is QUALIFIED, or held. A domain that is held already stays so. -/
def sourceFail (s : State) (m mon : Nat) : State :=
  if (aget s.clk.held m).isSome then s
  else
    let next := findMove s m
    let old := muxSrc s m
    let s := domainGates (dropMove s m) m
    let s := match next with
      | some x => setMuxSrc s m x.src
      | none => s
    let good := next.any (fun x => monQual s (muxMon m x.src))
    let d := if 100 ≤ m && m < 116 then m - 100 else m
    let s := if m < 96 && muxBins s m = [] then s else muxRaise s m 7 4 (d + mon * 256)
    match muxFallback s m with
    | some c =>
      if monQual s (muxMon m c) then forceMove s ⟨m, c, (aget s.clk.divs m).getD 0, old, false⟩
      else forcedOrHeld s m mon old (next.filter (fun _ => good))
    | none => forcedOrHeld s m mon old (next.filter (fun _ => good))

/-- The multiplexers that run from monitor `mon` or switch to it (R92, R94): regional outputs, lane group
references and RCLK_OUT; an auxiliary PLL's loss shows at its own monitor (R87). -/
def muxesOf (s : State) (mon : Nat) : List Nat :=
  (List.range 116).filter (fun m => muxMon m (muxSrc s m) = mon
    || (findMove s m).any (fun x => muxMon m x.src = mon))

/-- The domains held for monitor `mon` are reset and released when it qualifies (R92). -/
def requalify (s : State) (mon : Nat) : State :=
  let ms := (s.clk.held.filter (fun h => h.2 = mon)).map Prod.fst
  ms.foldl (fun t m => domainReset (holdEnd t m) m) s

/-! Writes of the clock registers (R86, R87, R90, R96). -/

/-- RC_CFG_WRITE (R90): output RC i + 1 of tree `t` takes a source, a divider and a fallback. -/
def rcCfgWrite (s : State) (t i src div fb : Nat) : State :=
  let m := 3 * t + i
  let off := 0x704 + 16 * t + 4 * i
  if (findMove s m).isSome then muxRaise s m 6 3 off
  else if div = 7 || 20 < src || (20 < fb && fb ≠ 31) then muxRaise s m 6 3 off
  else if !monQual s (muxMon m src) then muxRaise s m 5 3 off
  else
    let s := s.setAll [(F.CLK_RC_CFG_src t i, src), (F.CLK_RC_CFG_div t i, div),
      (F.CLK_RC_CFG_fb_src t i, fb)]
    startMove s m src div

/-- RC_CFG_WRITE. -/
def execRcCfgWrite (t i src div fb : Nat) (s : State) : Res :=
  checked (.rcCfgWrite t i src div fb) (rcCfgWrite s t i src div fb)

/-- A write of CLK_LGRP_CFG (R86): a ref_sel of 3 is refused, and a new reference is a switch under
R91. -/
def lgrpCfgWrite (s : State) (g sel rec fb fbRec : Nat) : State :=
  if sel = 3 then raise s (32 * g) 0x66 3 (0x900 + 4 * g)
  else
    let s := s.setAll [(F.CLK_LGRP_CFG_ref_sel g, sel), (F.CLK_LGRP_CFG_rec_grp g, rec),
      (F.CLK_LGRP_CFG_fb_sel g, fb), (F.CLK_LGRP_CFG_fb_rec_grp g, fbRec)]
    startMove s (100 + g) (sel + (if sel = 2 then 4 * rec else 0)) 0

/-- A write of CLK_AUX_CFG (R87): an out_freq outside 10 MHz to 983.04 MHz or a reserved ref is
refused. -/
def auxCfgWrite (s : State) (k freq ref : Nat) (en : Bool) : State :=
  if freq < 160000 || 15728640 < freq || 18 < ref then raise s 1021 6 3 (0x610 + 4 * k)
  else
    let s := s.setAll [(F.CLK_AUX_CFG_out_freq k, freq), (F.CLK_AUX_CFG_ref k, ref),
      (F.CLK_AUX_CFG_enable k, ofBool en)]
    startMove s (116 + k) ref 0

/-- A write of TB_RCLK_CFG (R74). -/
def rclkCfgWrite (s : State) (k src div : Nat) : State :=
  startMove (s.setAll [(F.TB_RCLK_CFG_src k, src), (F.TB_RCLK_CFG_div k, div)]) (96 + k) src div

/-- RCLK_OUT[k] runs (R74, R91, R93): its source names a clock that is qualified, no forced recovery holds the
pin low, and outputs are not forced safe. -/
def rclkRuns (s : State) (k : Nat) : Bool :=
  (findMove s (96 + k)).all (fun x => !x.forced) && monQual s (muxMon (96 + k) (muxSrc s (96 + k))) && !s.pins.outputsSafe

/-- Lane group or engine `g` (a gate number) carries a flow of a DEADLINE class (R96). -/
def gateDeadline (s : State) (g : Nat) : Bool :=
  (flowList s).any (fun f => flowValid s f && isDeadline s (flowClass s f) &&
    (if g ≤ 279 then flowPort s f / 8 = g - 264 else laneEngine s (flowPort s f) = g - 312))

/-- The gate belongs to a block that admission counts (R96). -/
def gateCounted (s : State) (g : Nat) : Bool :=
  if g ≤ 263 then poolOf s g ≠ 63
  else if g ≤ 279 || (312 ≤ g && g ≤ 315) then gateDeadline s g else false

/-- A gate's event source and code (R99). -/
def gateRaise (s : State) (g code sev data : Nat) : State :=
  if g ≤ 263 then raise s (512 + g) (0x60 + code) sev data
  else if g ≤ 279 then raise s (32 * (g - 264)) (0x60 + code) sev data
  else raise s 1021 code sev data

/-- A stream that writes run_en = 0 for a block that admission counts has that value refused (R96). -/
def gatesCounted (s : State) : State :=
  (List.range 316).foldl (fun t g =>
    if !t.flag (F.CLK_GATE_EN_run_en g) && gateCounted t g then
      gateRaise (t.set (F.CLK_GATE_EN_run_en g) 1) g 9 3 g
    else t) s

/-- GATE_EN_WRITE (R95, R96). -/
def gateEnWrite (s : State) (g : Nat) (run sleep deep : Bool) : State :=
  if !run && gateCounted s g then gateRaise s g 9 3 g
  else
    gateFollow (s.setAll [(F.CLK_GATE_EN_run_en g, ofBool run), (F.CLK_GATE_EN_sleep_en g, ofBool sleep),
      (F.CLK_GATE_EN_deep_en g, ofBool deep)]) g

/-- GATE_EN_WRITE. -/
def execGateEnWrite (g : Nat) (run sleep deep : Bool) (s : State) : Res :=
  checked (.gateEnWrite g run sleep deep) (gateEnWrite s g run sleep deep)

/-- Gate `g` waits for its block's bus: it was asked to close, and it is no scheduled bin's (R138). -/
def busWaits (s : State) (g : Nat) : Bool :=
  s.clk.closing.contains g && !(g ≤ 263 && binKind s g != Kind.static)

/-- GATE_BUS_IDLE (R97): the gate closes; a scheduled bin's closes once it meets R138. The bus of the DMA channels is
not idle while a transfer runs. -/
def execGateBusIdle (g : Nat) (s : State) : Res :=
  checked (.gateBusIdle g) <|
    if g = 316 && s.loft.dma ≠ [] then s
    else if busWaits s g then closeGate s g else if g ≤ 263 then gateRecheck s g else s

/-- GATE_CLOSE_TIMEOUT (R97): 256 cycles pass without bus idle. `requester` is that of the oldest
terminated access; at a Loft group the oldest queued request names it. -/
def execGateCloseTimeout (g requester : Nat) (s : State) : Res :=
  checked (.gateCloseTimeout g requester) <|
    if !busWaits s g then s
    else
      let who := if 280 ≤ g && g ≤ 311 then
          match oldestReq (groupReqs s (g - 280)) with
          | some q => q.req.owner
          | none => requester
        else requester
      let s := closeGate (terminateAll s g) g
      let s := gateRaise s g 8 4 (g + who * 65536)
      (s.setAll [(F.CLK_GATE_TERM_INFO_gate, g), (F.CLK_GATE_TERM_INFO_requester, who)]).bump
        F.CLK_GATE_TERM_CNT_count 1

/-! Hatch contention (R126). -/

/-- Wire `w` of column `c` is disabled. -/
def wireOff (s : State) (c w : Nat) : Bool := bitAt (s.get (F.FAB_HATCH_CONT_disabled c (w / 32))) (w % 32)

/-- The disabled bit of a wire. -/
def setWireOff (s : State) (c w : Nat) (b : Bool) : State :=
  s.set (F.FAB_HATCH_CONT_disabled c (w / 32))
    (putBit (s.get (F.FAB_HATCH_CONT_disabled c (w / 32))) (w % 32) b)

/-- Physical bin `p`'s logical bin lies in the region of the last commit. -/
def inLastRegion (s : State) (p : Nat) : Bool := logOf s p < 256 && bitAt s.cfg.lastMask (logOf s p)

/-- HATCH_CONTENTION (R126): both ends drive wire `w` of column `c`; a wire already disabled is driven by
neither. -/
def execHatchContention (c w : Nat) (s : State) : Res :=
  checked (.hatchContention c w) <|
    if wireOff s c w then s
    else
      let s := (setWireOff s c w true).set (F.FAB_HATCH_CONT_INFO_last_wire c) w
      let s := (s.bump (F.FAB_HATCH_CONT_CNT_count c) 1).bump (F.FAB_CONT_CNT_count c) 1
      let s := { s with cfg := { s.cfg with wireSeen := s.cfg.wireSeen.filter (fun x => x / 2 != 192 * c + w) } }
      raise s (512 + c) 0x10 5 (w + ofBool (inLastRegion s c || inLastRegion s (132 + c)) * 256)

end Sys2Proof.Machine
end

