-- ==== Sys2Proof/Machine/Events.lean ====
section
/-! DEFINITION. The event unit's destinations (R477 to R480): the ring with its two acknowledge indexes, the
user event port. MG_ALERT_N follows the ring (`settle`); the input queue and the ledger's share of R477 are in Ops. -/

namespace Sys2Proof.Machine

/-- Word 2 of a record (R475). -/
def EvRec.word2 (r : EvRec) : Nat :=
  r.source % 2 ^ 10 + r.code % 2 ^ 8 * 2 ^ 10 + r.sev % 8 * 2 ^ 18 + r.seq % 2 ^ 11 * 2 ^ 21

/-- The four words of a record (R475). -/
def EvRec.words (r : EvRec) : List Nat := [r.fp % 2 ^ 32, r.fp / 2 ^ 32 % 2 ^ 32, r.word2, r.data % 2 ^ 32]

/-- The source of a record is masked (R490). -/
def evMasked (s : State) (r : EvRec) : Bool := bitAt (s.get (F.EV_SRC_MASK_mask (r.source / 32))) (r.source % 32)

/-- The newest record is written into the ring; in a full ring it overwrites the oldest, and the acknowledge
indexes that pointed at it move on (R478). -/
def ringPut (s : State) (r : EvRec) : State :=
  let i := s.get F.EV_WR_index
  let u := s.get F.EV_STATUS_unacked
  let s := s.setAll ((List.range 4).map (fun k => (F.EV_RING_word (4 * i + k), r.words.getD k 0)))
  let s := s.set F.EV_WR_index ((i + 1) % 4096)
  let s := if u < 4096 then s.set F.EV_STATUS_unacked (u + 1)
    else (s.set F.EV_ACK_index ((s.get F.EV_ACK_index + 1) % 4096)).bump F.EV_CNT_overrun 1
  if s.ev.kpUnacked < 4096 then { s with ev := { s.ev with kpUnacked := s.ev.kpUnacked + 1 } }
  else s.set F.EV_KP_ACK_index ((s.get F.EV_KP_ACK_index + 1) % 4096)

/-- A record enters the user event port's FIFO of 256, or is counted as dropped (R480). -/
def portPut (s : State) (r : EvRec) : State :=
  if s.ev.port.length < 256 then
    { s with ev := { s.ev with port := s.ev.port ++ [r] } }.set F.EV_PORT_STATUS_count (s.ev.port.length + 1)
  else s.bump F.EV_PORT_CNT_dropped 1

/-- The unit takes the oldest record of its queue, one in a KEEP cycle of 2 tk, and sends it to the ring, the port
and the alert (R476, R477). -/
def evDispatch (s : State) : State :=
  if !s.ev.running || s.warm then s
  else match s.ev.inq with
    | [] => s
    | r :: rest =>
      let s := s.atNow s.ev.next
      let s := { s with ev := { s.ev with inq := rest, next := s.now / 2 * 2 + 2 } }
      if evMasked s r then s
      else
        let s := if s.get F.EV_CFG_ring_sev ≤ r.sev then ringPut s r else s
        if s.get F.EV_CFG_port_sev ≤ r.sev then portPut s r else s

/-- EVENT_DISPATCH. -/
def execEventDispatch (s : State) : Res := checked .eventDispatch (evDispatch s)

/-- The records that a write of `v` acknowledges, none where it is refused (R478): `index` and `count` are the
reader's present index and its count of unacknowledged records. -/
def ackCount (s : State) (index count v : Nat) : Option Nat :=
  if v = s.get F.EV_WR_index then some count
  else
    let n := (v + 4096 - index) % 4096
    if n < count then some n else none

/-- A write of EV_ACK, and whether it is refused (R478). -/
def evAck (s : State) (v : Nat) : State × Bool :=
  match ackCount s (s.get F.EV_ACK_index) (s.get F.EV_STATUS_unacked) v with
  | none => (s, true)
  | some n =>
    ((s.set F.EV_STATUS_unacked (s.get F.EV_STATUS_unacked - n)).set F.EV_ACK_index v, false)

/-- A write of EV_KP_ACK; a refused one is ignored (R478). -/
def evKpAck (s : State) (v : Nat) : State :=
  match ackCount s (s.get F.EV_KP_ACK_index) s.ev.kpUnacked v with
  | none => s
  | some n => { s with ev := { s.ev with kpUnacked := s.ev.kpUnacked - n } }.set F.EV_KP_ACK_index v

/-- EV_KP_ACK_WRITE. -/
def execEvKpAckWrite (v : Nat) (s : State) : Res :=
  checked (.evKpAckWrite v) (if keeperUp s then evKpAck s v else s)

/-- The management port sends `l`, status bytes with their data. -/
def mgmtSend (s : State) (l : List (Nat × Nat)) : State := { s with ports := { s.ports with mgmt := l } }

/-- EV_ACK_WRITE (R478, R483): a management-port write of EV_ACK, answered with status 0x00, or 0x03 where
it is refused. -/
def execEvAckWrite (v : Nat) (s : State) : Res :=
  checked (.evAckWrite v) <|
    if !mgmtUp s then mgmtSend s []
    else
      let r := evAck s v
      mgmtSend r.1 [(if r.2 then 3 else 0, 0)]

/-- A write of EV_PORT_POP.pop (R480): an empty FIFO clears data_valid and leaves the data registers. -/
def evPop (s : State) : State :=
  match s.ev.port with
  | [] => s.set F.EV_PORT_STATUS_data_valid 0
  | r :: rest =>
    let s := { s with ev := { s.ev with port := rest } }
    let s := s.setAll ((List.range 4).map (fun k => (F.EV_PORT_DATA_word k, r.words.getD k 0)))
    s.setAll [(F.EV_PORT_STATUS_count, rest.length), (F.EV_PORT_STATUS_data_valid, 1)]

/-- EV_PORT_POP. -/
def execEvPortPop (s : State) : Res := checked .evPortPop (evPop s)

end Sys2Proof.Machine
end

