-- ==== Sys2Proof/Machine/Ledger.lean ====
section
/-! DEFINITION. The ledger (R437 to R441): appends, erases and the retirement of sectors. What joins its
queue is in Ops; what R441 scans is in Thermal's windows. -/

namespace Sys2Proof.Machine

/-- The ledger record is replaced. -/
def setLed (s : State) (l : Ledger) : State := { s with led := l }

/-- The words of a stored entry (R437): its head, the record with the further words of its rule or the snapshot, the
words that the rule leaves open, and the CRC-32C over all of them. -/
def ledImage (e : LedEntry) : List Nat :=
  let l := [0xA5 + ofBool e.crit * 2 ^ 8 + (e.slots - 1) * 2 ^ 10 + ofBool e.warm * 2 ^ 12 + e.boot % 2 ^ 16 * 2 ^ 16,
    e.seq % 2 ^ 32] ++ (if e.payload = [] then e.record.words ++ e.extra else e.payload)
  let l := (List.range (8 * e.slots - 1)).map (fun i => l.getD i (Config.ledFill e.seq i % 2 ^ 32))
  l ++ [crc32c l]

/-- The ring of a kind of entry. -/
def Ledger.ring (l : Ledger) (crit : Bool) : List Nat := if crit then l.critRing else l.genRing

/-- A ring with its first sector open and `used` slots in it. -/
def Ledger.setRing (l : Ledger) (crit : Bool) (ring : List Nat) (used : Nat) : Ledger :=
  if crit then { l with critRing := ring, critUsed := used } else { l with genRing := ring, genUsed := used }

/-- The append in progress ends (R439): the entry stands in the open sector of its ring, and its kind is
counted. -/
def appendDone (s : State) : State :=
  match s.led.appending with
  | none => s
  | some e =>
    let l := s.led
    let used := if e.crit then l.critUsed else l.genUsed
    let sector := ((l.ring e.crit).head?).getD 0
    let l := { l with appending := none, stored := l.stored ++ [LedSlot.mk sector used e] }
    let s := thermWritten (setLed s (l.setRing e.crit (l.ring e.crit) (used + e.slots))) e
    s.bump (if e.crit then F.LED_COUNT_CRIT_entries else F.LED_COUNT_INFO_entries) 1

/-- LEDGER_APPEND_COMPLETE (R439, R440). -/
def execLedgerAppendComplete (s : State) : Res :=
  checked .ledgerAppendComplete <| if s.led.appending.isSome then ledKick (appendDone s) else s

/-- The erase count at which a sector is retired (R439). -/
def eraseLimit : Nat := 100000

/-- The lowest free spare sector (R437, R439). -/
def freeSpareSector (s : State) : Option Nat :=
  (List.range 64).find? (fun k => s.get (F.LED_ERASE_role k) = 1)

/-- A sector at its erase limit is retired (R439, R457): the lowest free spare takes its ring position,
or LEDGER_FULL is set; the general area then stops, the critical ring is one shorter. -/
def retireSector (s : State) (n : Nat) (crit : Bool) : State :=
  let s := (s.set (F.LED_ERASE_role n) 3).bump F.LED_STATUS_retired 1
  let rest := (s.led.ring crit).filter (fun k => k != n)
  match freeSpareSector s with
  | some k =>
    let s := s.setAll [(F.LED_ERASE_role k, if crit then 2 else 0),
      (F.LED_STATUS_spares, s.get F.LED_STATUS_spares - 1)]
    let s := setLed s (s.led.setRing crit (k :: rest) 0)
    raiseCrit s true 1023 0x60 5 (n + k * 64)
  | none =>
    let s := setLed s (s.led.setRing crit rest 127)
    let s := raiseCrit s true 1023 0x60 5 (n + 63 * 64)
    let s := s.setAll [(F.LED_STATUS_full, 1), (F.TB_STATUS_snap_stopped, 1)]
    let s := raise s 1023 0x61 6 (ofBool crit)
    let s := if crit then s else s.set F.LED_STATUS_info_stopped 1
    sprExhausted s 5 0

/-- LEDGER_ERASE_COMPLETE (R439): the sector's entries are gone and its erase counts. -/
def eraseDone (s : State) : State :=
  match s.led.erasing with
  | none => s
  | some n =>
    let crit := s.led.eraseCrit
    let l := s.led
    let l := { l with erasing := none, stored := l.stored.filter (fun x => x.sector != n) }
    let s := setLed s (if (l.ring crit).head? = some n then l.setRing crit (l.ring crit) 0 else l)
    let s := s.bump (F.LED_ERASE_erases n) 1
    if eraseLimit ≤ s.get (F.LED_ERASE_erases n) then retireSector s n crit else s

/-- LEDGER_ERASE_COMPLETE. -/
def execLedgerEraseComplete (s : State) : Res :=
  checked .ledgerEraseComplete <| if s.led.erasing.isSome then ledKick (eraseDone s) else s

end Sys2Proof.Machine
end

