-- ==== Sys2Proof/Machine/Security.lean ====
section
/-! DEFINITION. The security partition (R422 to R436): life cycle, owner commands, fuse programming,
debug access, attestation. -/

namespace Sys2Proof.Machine

/-- The security record is replaced. -/
def setSec (s : State) (x : Sec) : State := { s with sec := x }

/-- The codes of SEC_LC.state (R422). -/
def Lc.maker : Nat := 0
def Lc.owned : Nat := 1
def Lc.field : Nat := 2
def Lc.ret : Nat := 3

/-- The life-cycle state. -/
def State.lc (s : State) : Nat := s.get F.SEC_LC_state

/-- A pending return (R422, R429). -/
def returnPending (s : State) : Bool := s.flag F.SEC_LC_return_begun && s.lc ≠ Lc.ret

/-- A fresh command nonce is drawn (R426). -/
def newNonce (s : State) : State :=
  let n := s.sec.draws
  let s := s.setAll ((List.range 8).map (fun i => (F.SEC_CMD_NONCE_nonce i, Config.draw n i % 2 ^ 32)))
  setSec s { s.sec with draws := n + 1 }

/-! Command buffers (R426). A port has number 1 (register port) or 2 (management port). -/

/-- Word `w` of port `k`'s command buffer. -/
def bufWord (s : State) (k w : Nat) : Nat := s.get ((F.SEC_CMD_DATA_data w).copy k)

/-- Byte `i` of port `k`'s command buffer. -/
def bufByte (s : State) (k i : Nat) : Nat := bits (bufWord s k (i / 4)) (8 * (i % 4)) 8

/-- `n` bytes from byte `i`, the first least significant. -/
def bufBytes (s : State) (k i : Nat) : Nat → Nat
  | 0 => 0
  | n + 1 => bufByte s k i + 256 * bufBytes s k (i + 1) n

/-- The hash of the signer key of a command: bytes 44 to 139. -/
def signerHash (s : State) (k : Nat) : Nat :=
  shaWords ((List.range 24).map (fun i => bufWord s k (11 + i)))

/-- The signature of a command (R426, R427): over bytes 0 to 415, with the signer's key. -/
def cmdSigOk (s : State) (k : Nat) : Bool :=
  let ws := fun (i n : Nat) => (List.range n).map (fun j => bufWord s k (i + j))
  Config.ecdsaOk (ws 11 24) (shaWords (ws 0 104)) (ws 104 24)

/-- The bytes `i` to `i + n − 1` of a command. -/
def bufList (s : State) (k i n : Nat) : List Nat := (List.range n).map (fun j => bufByte s k (i + j))

/-- The stream key that a SET_STREAM_KEY unwraps under the ECDH secret of the transport key and the payload's ephemeral
key (R426): AES-256-GCM under the key that HKDF-SHA-384 derives with "FS4T-key" and the slot as info, the first 12 bytes
of the nonce being the IV; none when the tag fails. -/
def unwrapKey (s : State) (k secret : Nat) : Option Nat :=
  let key := bytesLe ((hkdf384 [] (leBytes 48 secret)
    [0x46, 0x53, 0x34, 0x54, 0x2D, 0x6B, 0x65, 0x79, bufByte s k 140]).take 32)
  let iv := bufList s k 12 12
  let stream := fun (n : Nat) => Config.aes256 key (bytesBlock (iv ++ [0, 0, 0, n])) % 2 ^ 128
  let c := [bytesBlock (bufList s k 237 16), bytesBlock (bufList s k 253 16)]
  let tag := ghash (Config.aes256 key 0) (c ++ [256]) ^^^ stream 1
  if bytesBlock (bufList s k 269 16) ≠ tag % 2 ^ 128 then none
  else some (blockRev (c.getD 0 0 ^^^ stream 2) + blockRev (c.getD 1 0 ^^^ stream 3) * 2 ^ 128)

/-- The slot a payload names. -/
def cmdSlot (s : State) (k : Nat) : Nat := bufByte s k 140

/-- Opcode `op` is allowed in the present state at port `k` (R425, R426, R487). -/
def opAllowed (s : State) (k op : Nat) : Bool :=
  let st := s.lc
  if op = 1 then st = Lc.maker
  else if op = 2 then st = Lc.owned
  else if op = 10 then st = Lc.maker || st = Lc.ret
  else if op = 9 && (returnPending s || (k = 1 && st = Lc.field)) then false
  else st = Lc.owned || st = Lc.field

/-- Owner slot `i` is programmed; revoked. -/
def ownerProg (s : State) (i : Nat) : Bool := bitAt (s.get F.SEC_LC_owner_prog) i
def ownerRev (s : State) (i : Nat) : Bool := bitAt (s.get F.SEC_LC_owner_rev) i
def keyProg (s : State) (i : Nat) : Bool := bitAt (s.get F.SEC_LC_key_prog) i
def keyRev (s : State) (i : Nat) : Bool := bitAt (s.get F.SEC_LC_key_rev) i

/-- The signer check of R427. -/
def signerOk (s : State) (k op : Nat) : Bool :=
  let sg := bufByte s k 2
  if op = 10 then signerHash s k = Config.romHash 1
  else if s.lc = Lc.maker then sg = 0
  else sg < 4 && ownerProg s sg && !ownerRev s sg && aget s.sec.owners sg = some (signerHash s k)

/-- The slot check of R427. -/
def slotOk (s : State) (k op : Nat) : Bool :=
  let n := cmdSlot s k
  if op = 1 then !ownerProg s 0 && (List.range 4).all (fun i => i = 0 || !bitAt n i || !ownerProg s i)
  else if op = 4 then n < 4 && !ownerProg s n
  else if op = 5 then n < 4 && ownerProg s n && !ownerRev s n
  else if op = 6 then n = 4 || (n < 4 && !keyProg s n)
  else if op = 7 then n < 4 && keyProg s n && !keyRev s n
  else if op = 10 then !s.flag F.SEC_LC_fw_key0_rev
  else true

/-- REVOKE_OWNER_KEY would leave no unrevoked slot, or names the signer's own (R427). -/
def revokeBad (s : State) (k : Nat) : Bool :=
  let n := cmdSlot s k
  n = bufByte s k 2 || !(List.range 4).any (fun i => i ≠ n && ownerProg s i && !ownerRev s i)

/-- The command burns fuses (R428). -/
def burnsFuses (s : State) (k op : Nat) : Bool :=
  !(op = 8 || op = 9 || (op = 6 && cmdSlot s k = 4))

/-- The checks of R427 in their order: the reason of the first that fails, 0 for none. `secret` is the ECDH secret of a
SET_STREAM_KEY. -/
def cmdReason (s : State) (k op secret : Nat) : Nat :=
  if bufWord s k 1 ≠ s.get F.ID_UID_LO_uid_lo || bufWord s k 2 ≠ s.get F.ID_UID_HI_uid_hi then 3
  else if (List.range 8).any (fun i => bufWord s k (3 + i) ≠ s.get (F.SEC_CMD_NONCE_nonce i)) then 4
  else if !opAllowed s k op then 5
  else if !signerOk s k op then 2
  else if !cmdSigOk s k then 1
  else if !slotOk s k op then 6
  else if op = 5 && revokeBad s k then 7
  else if op = 6 && (unwrapKey s k secret).isNone then 8
  else if burnsFuses s k op && (s.sec.pending.isSome || s.sec.burn.isSome) then 5
  else 0

/-- The event data's port bit: 0 management, 1 register (R442). -/
def portBit (k : Nat) : Nat := if k = 1 then 16 else 0

/-- SEC_CMD_STATUS of port `k` after a command ends. -/
def cmdStatus (s : State) (k op reason : Nat) (ok : Bool) : State :=
  s.setAll [(F.SEC_CMD_STATUS_busy.copy k, 0), (F.SEC_CMD_STATUS_accepted.copy k, ofBool ok),
    (F.SEC_CMD_STATUS_reason.copy k, reason), (F.SEC_CMD_STATUS_opcode.copy k, op)]

/-- A command is refused (R427). -/
def cmdRefuse (s : State) (k op reason : Nat) : State :=
  raise (cmdStatus s k op reason false) 1023 0x48 4 (op % 16 + portBit k + reason * 256)

/-- A command has taken effect (R442). -/
def cmdDone (s : State) (k op : Nat) : State :=
  raise ((cmdStatus s k op 0 true).set (F.SEC_CMD_STATUS_pending.copy k) 0) 1023 0x46 3 (op + portBit k)

/-! Fuses (R428, R429). The bits are numbered by this model: 0 to 3 the life-cycle field, 4 the revoke
bit of firmware key 0, 16 and 64 on the steps of c_fw and c_st, 128 + 512 i on owner slot i (384 hash
bits, programmed, revoked), 4,096 + 512 i on stream key slot i (256 key bits, programmed, revoked) (log
entry 26). -/

/-- The set bits of `v` among `n`, from fuse `base`. -/
def onesFrom (base n v : Nat) : List Nat := ((List.range n).filter (fun i => v.testBit i)).map (base + ·)

/-- The bits that program owner slot `i` with a hash. -/
def ownerBits (i h : Nat) : List Nat := onesFrom (128 + 512 * i) 384 h ++ [128 + 512 * i + 384]

/-- The bits that revoke stream key slot `i`: every key bit that is 0, and the revoke bit (R424). -/
def revokeKeyBits (s : State) (i : Nat) : List Nat :=
  let k := (aget s.sec.keys i).getD 0
  ((List.range 256).filter (fun b => !k.testBit b)).map (4096 + 512 * i + ·) ++ [4096 + 512 * i + 257]

/-- The bits a run burns, those already burned left out. -/
def burnBits (s : State) (b : Burn) : List Nat :=
  let a := fun n => b.args.getD n 0
  let l :=
    if b.op = 1 then (List.range (b.args.length / 2)).flatMap (fun i => ownerBits (a (2 * i)) (a (2 * i + 1)))
      ++ [0]
    else if b.op = 2 then [1]
    else if b.op = 3 then
      (if b.phase = 1 then [3] else if b.phase = 2 then [] else if b.phase = 3 then (List.range 4).flatMap (revokeKeyBits s)
        else [0, 1, 2])
    else if b.op = 4 then ownerBits (a 0) (a 1)
    else if b.op = 5 then [128 + 512 * a 0 + 385]
    else if b.op = 6 then onesFrom (4096 + 512 * a 0) 256 (a 1) ++ [4096 + 512 * a 0 + 256]
    else if b.op = 7 then revokeKeyBits s (a 0)
    else if b.op = 10 then [4]
    else
      let base := if b.op = 11 then 16 else 64
      ((List.range 48).filter (fun i => i < a 0)).map (base + ·)
  l.filter (fun x => !s.sec.fuses.contains x)

/-- The life cycle moves (R423). -/
def lcChange (s : State) (n : Nat) : State :=
  let o := s.lc
  raiseCrit (s.set F.SEC_LC_state n) true 1023 0x47 6 (n + o * 4)

/-- A bit of a field of SEC_LC is set. -/
def setBitOf (s : State) (f : Fld) (i : Nat) : State := s.set f (putBit (s.get f) i true)

/-- An owner slot is programmed. -/
def putOwner (s : State) (i h : Nat) : State :=
  setSec (setBitOf s F.SEC_LC_owner_prog i) { s.sec with owners := aset s.sec.owners i h }

/-- The battery-backed key is erased. -/
def eraseBb (s : State) : State :=
  (setSec s { s.sec with bbKey := none }).set F.SEC_LC_key_valid 0

/-- Step 3 of TO_RETURN (R429): of the groups `gs` that are still to be cleared, each without an earlier handover goes
to the loader with clear; the answer is those that have to wait. -/
def returnClear (s : State) (gs : List Nat) : List Nat × State :=
  gs.foldl (fun r g =>
    let h : Handover := ⟨true, g, 338, true, false, r.2.now⟩
    if h.banks.any (fun b => bankBusy r.2 b) then (r.1 ++ [g], r.2) else (r.1, handoverStart r.2 h)) ([], s)

/-- Step 4 of TO_RETURN (R429): every sector in general use is erased. -/
def returnErase (s : State) : State :=
  let gen := (List.range 64).filter (fun k => s.get (F.LED_ERASE_role k) = 0)
  gen.foldl (fun t k =>
    let was := t.led
    let t := eraseDone (setLed t { t.led with erasing := some k, eraseCrit := false })
    setLed t { t.led with erasing := was.erasing, eraseCrit := was.eraseCrit, genUsed := 0 }) s

/-- Every key slot is revoked (R429 step 5). -/
def returnRevoke (s : State) : State :=
  let s := s.set F.SEC_LC_key_rev 15
  setSec s { s.sec with keys := (List.range 4).map (fun i => (i, 2 ^ 256 - 1)) }

/-- The advance of an anti-rollback counter ends (R433, R434). -/
def arbDone (s : State) (c n : Nat) : State :=
  let s := s.set (if c = 0 then F.SEC_ARB_c_fw else F.SEC_ARB_c_st) n
  let s := raise s 1023 0x4A 5 (c + n * 256)
  let last := if c = 0 then F.SEC_ARB_last_fw else F.SEC_ARB_last_st
  if n = 48 && !s.flag last then raise (s.set last 1) 1023 0x4B 5 c else s

/-- The device leaves MAKER for an owner: retirements of bins end (R451). -/
def retireClear (s : State) : State :=
  ((List.range 264).filter (fun p => s.flag (F.FAB_BIN_STATUS_retired p))).foldl (fun t p =>
    t.setAll [(F.FAB_BIN_STATUS_retired p, 0), (F.SPR_BIN_WEAR_state p, 0), (F.SPR_BIN_WEAR_cause p, 0)])
    (s.set F.SPR_STATUS_bins_retired 0)

/-- What a completed run of phase `b.phase` does; a further phase of TO_RETURN goes on (R423 to R430). -/
def burnEffect (s : State) (b : Burn) : State :=
  let a := fun n => b.args.getD n 0
  if b.op = 1 then
    let s := (List.range (b.args.length / 2)).foldl (fun t i => putOwner t (a (2 * i)) (a (2 * i + 1))) s
    cmdDone (lcChange (retireClear s) Lc.owned) b.port 1
  else if b.op = 2 then cmdDone (lcChange s Lc.field) b.port 2
  else if b.op = 4 then cmdDone (putOwner s (a 0) (a 1)) b.port 4
  else if b.op = 5 then cmdDone (setBitOf s F.SEC_LC_owner_rev (a 0)) b.port 5
  else if b.op = 6 then
    let s := setSec s { s.sec with keys := aset s.sec.keys (a 0) (a 1) }
    cmdDone (setBitOf s F.SEC_LC_key_prog (a 0)) b.port 6
  else if b.op = 7 then
    let s := setSec s { s.sec with keys := aset s.sec.keys (a 0) (2 ^ 256 - 1) }
    cmdDone (setBitOf s F.SEC_LC_key_rev (a 0)) b.port 7
  else if b.op = 10 then
    raiseCrit (cmdDone (s.set F.SEC_LC_fw_key0_rev 1) b.port 10) true 1023 0x52 6 (portBit b.port / 16)
  else if b.op = 11 then arbDone s 0 (a 0)
  else if b.op = 12 then arbDone s 1 (a 0)
  else s

/-- A run burns what its phase has left to burn. -/
def burnGo (s : State) (b : Burn) : State :=
  setSec s { s.sec with burn := some { b with bits := burnBits s b, tries := 0 } }

/-- The last steps of TO_RETURN (R429): phase 3 the key slots, phase 4 the RETURN bits; then SAFE. -/
def returnEnd (s : State) (b : Burn) : State :=
  if burnBits s b ≠ [] then burnGo s b
  else
    let s := if b.phase = 3 then returnRevoke s else s
    let x := { b with phase := 4 }
    if burnBits s x ≠ [] then burnGo s x
    else
      let s := toSafe (lcChange (setSec s { s.sec with burn := none }) Lc.ret) false
      if b.port = 0 then s else cmdDone s b.port 3

/-- TO_RETURN after return_begun (R429): the battery-backed key; then phase 2, which holds the run until every group
that has not failed is cleared; then the general sectors and the rest. -/
def returnGo (s : State) (b : Burn) : State :=
  let good := (List.range 32).filter (fun g => !s.flag (F.LFT_GRP_STATUS_failed g))
  let s := if b.phase = 1 then eraseBb (s.set F.SEC_LC_return_begun 1) else s
  if 2 < b.phase then returnEnd s b
  else
    let r := returnClear s (if b.phase = 1 then good else b.args)
    if r.1 ≠ [] || r.2.loft.handovers ≠ [] then
      setSec r.2 { r.2.sec with burn := some { b with phase := 2, args := r.1, bits := [], tries := 0, held := true } }
    else returnEnd (returnErase r.2) { b with phase := 3 }

/-- A run burns its next bits, or takes effect when nothing is left to burn; TO_RETURN has four phases (R429). -/
def burnStart (s : State) (b : Burn) : State :=
  if burnBits s b ≠ [] then burnGo s b
  else if b.op = 3 then returnGo s b
  else burnEffect (setSec s { s.sec with burn := none }) b

/-- The windows a run needs (R428, R429). -/
def fuseReady (s : State) (op : Nat) (vfuse : Bool) : Bool :=
  vfuse && s.flag F.THM_WINDOW_fuse_ok && (op ≠ 3 || s.flag F.LED_STATUS_window)

/-- A deferred fuse action finds VFUSE absent (R29): SEC_VFUSE_ABSENT once for each request, with its opcode, 0 for
the device's own (log entry 117). -/
def vfuseAbsent (s : State) (op : Nat) : State :=
  if s.sec.told then s
  else raise (setSec s { s.sec with told := true }) 1023 0x44 4 (if op ≤ 10 then op else 0)

/-- The deferred actions of fuse programming in the order of their requests (R233): the pending command, or an
advance of an anti-rollback counter. -/
def fuseNext (s : State) : Option Burn :=
  match s.sec.pending, s.sec.advances with
  | some b, [] => some b
  | some b, (c, n) :: _ => some (if s.sec.cmdFirst then b else ⟨11 + c, 0, [n], 1, [], 0, false, false⟩)
  | none, (c, n) :: _ => some ⟨11 + c, 0, [n], 1, [], 0, false, false⟩
  | none, [] => none

/-- The first deferred action `b` starts. -/
def fuseTake (s : State) (b : Burn) : State :=
  if b.op ≤ 10 then
    let s := setSec s { s.sec with pending := none, told := false }
    burnStart (s.setAll [(F.SEC_CMD_STATUS_pending.copy b.port, 0), (F.SEC_CMD_STATUS_busy.copy b.port, 1)]) b
  else burnStart (setSec s { s.sec with advances := s.sec.advances.tail, told := false }) b

/-- The first deferred action of fuse programming is performed once its conditions hold (R29, R233, R428). -/
def fuseServe (s : State) (vfuse : Bool) : State :=
  match fuseNext s with
  | none => s
  | some b => if fuseReady s b.op vfuse then fuseTake s b else if vfuse then s else vfuseAbsent s b.op

/-- A verified fuse command starts, or is held as pending (R428, R29); behind an action deferred earlier it waits for
that one (R233). -/
def fuseCommand (s : State) (b : Burn) (vfuse : Bool) : State :=
  let hold := setSec s { s.sec with pending := some b, cmdFirst := s.sec.advances = [] }
  let hold := hold.setAll [(F.SEC_CMD_STATUS_opcode.copy b.port, b.op), (F.SEC_CMD_STATUS_reason.copy b.port, 0)]
  if fuseReady s b.op vfuse then
    if s.sec.advances = [] then burnStart (s.set (F.SEC_CMD_STATUS_busy.copy b.port) 1) b
    else fuseServe (hold.set (F.SEC_CMD_STATUS_busy.copy b.port) 1) vfuse
  else
    let s := fuseDeferral (hold.setAll [(F.SEC_CMD_STATUS_pending.copy b.port, 1),
      (F.SEC_CMD_STATUS_busy.copy b.port, 0)])
    let out := !(s.flag F.THM_WINDOW_fuse_ok && (b.op ≠ 3 || s.flag F.LED_STATUS_window))
    let s := if vfuse then s
      else raise (setSec s { s.sec with told := s.sec.cmdFirst || s.sec.told }) 1023 0x44 4 b.op
    raise s 1023 0x49 3 (b.op + (ofBool (!vfuse) + 2 * ofBool out) * 16)

/-- Any open debug unlock closes (R425): causes 1 lock, 2 end of LOAD, 3 reset. IDCODE and BYPASS stay. -/
def closeDebug (s : State) (cause : Nat) : State :=
  if s.flag F.SEC_DBG_STATUS_open then
    raise (setSec (s.setAll [(F.SEC_DBG_STATUS_open, 0), (F.SEC_DBG_STATUS_mask, 0)])
      { s.sec with jtag := s.sec.jtag.filter (· ≤ 1) }) 1023 0x4D 3 cause
  else s

/-- The operands of a fuse command, taken from its buffer (R426). PROVISION fills slot 0 with the signer's
hash and the masked slots with the hashes in their order (log entry 27). -/
def cmdArgs (s : State) (k op secret : Nat) : List Nat :=
  let n := cmdSlot s k
  if op = 1 then
    let ss := [1, 2, 3].filter (fun i => bitAt n i)
    [0, signerHash s k] ++ (List.range ss.length).flatMap (fun i => [ss.getD i 0, bufBytes s k (141 + 48 * i) 48])
  else if op = 4 then [n, bufBytes s k 141 48]
  else if op = 6 then [n, (unwrapKey s k secret).getD 0 % 2 ^ 256]
  else [n]

/-- An owner command (R426 to R430): a go at port `who` whose buffer carries opcode `op`; its verification takes `tk`
ticks. The keeper has no buffer, and a go while busy is ignored. -/
def ownerCommand (s : State) (who : Requester) (op tk secret : Nat) (vfuse : Bool) : State :=
  let k := reqNum who
  if k = 0 || s.flag (F.SEC_CMD_STATUS_busy.copy k) || bufBytes s k 0 2 ≠ op then s
  else
    let s := s.later tk
    let r := cmdReason s k op secret
    let args := cmdArgs s k op secret
    let burns := burnsFuses s k op
    let s := newNonce s
    if r ≠ 0 then cmdRefuse s k op r
    else if burns then fuseCommand s ⟨op, k, args, 1, [], 0, false, false⟩ vfuse
    else if op = 8 then cmdDone (eraseBb s) k 8
    else if op = 9 then
      let m := args.getD 0 0 % 8
      let s := s.setAll [(F.SEC_DBG_STATUS_open, 1), (F.SEC_DBG_STATUS_mask, m)]
      cmdDone (raiseCrit s true 1023 0x4C 5 m) k 9
    else
      let s := setSec s { s.sec with bbKey := some (args.getD 1 0) }
      cmdDone (s.set F.SEC_LC_key_valid 1) k 6

/-- An owner command that its requester can make (R426, R487). -/
def ownerAsk (s : State) (who : Requester) (op tk secret : Nat) (vfuse : Bool) : State :=
  asked s who F.SEC_CMD_GO_go.addr 2 (ownerCommand · who op tk secret vfuse)

/-- PROVISION (R426, opcode 1). -/
def execProvision (who : Requester) (tk : Nat) (vfuse : Bool) (s : State) : Res :=
  checked (.provision who tk vfuse) (ownerAsk s who 1 tk 0 vfuse)

/-- TO_FIELD (R423, opcode 2). -/
def execToField (who : Requester) (tk : Nat) (vfuse : Bool) (s : State) : Res :=
  checked (.toField who tk vfuse) (ownerAsk s who 2 tk 0 vfuse)

/-- TO_RETURN (R429, opcode 3). -/
def execToReturn (who : Requester) (tk : Nat) (vfuse : Bool) (s : State) : Res :=
  checked (.toReturn who tk vfuse) (ownerAsk s who 3 tk 0 vfuse)

/-- ADD_OWNER_KEY (R426, opcode 4). -/
def execAddOwnerKey (who : Requester) (tk : Nat) (vfuse : Bool) (s : State) : Res :=
  checked (.addOwnerKey who tk vfuse) (ownerAsk s who 4 tk 0 vfuse)

/-- REVOKE_OWNER_KEY (R427, opcode 5). -/
def execRevokeOwnerKey (who : Requester) (tk : Nat) (vfuse : Bool) (s : State) : Res :=
  checked (.revokeOwnerKey who tk vfuse) (ownerAsk s who 5 tk 0 vfuse)

/-- SET_STREAM_KEY (R426, opcode 6): `secret` is the ECDH secret of the transport key and the payload's ephemeral key. -/
def execSetStreamKey (who : Requester) (tk secret : Nat) (vfuse : Bool) (s : State) : Res :=
  checked (.setStreamKey who tk secret vfuse) (ownerAsk s who 6 tk secret vfuse)

/-- REVOKE_STREAM_KEY (R424, opcode 7). -/
def execRevokeStreamKey (who : Requester) (tk : Nat) (vfuse : Bool) (s : State) : Res :=
  checked (.revokeStreamKey who tk vfuse) (ownerAsk s who 7 tk 0 vfuse)

/-- ERASE_BBRAM_KEY (R428, opcode 8). -/
def execEraseBbramKey (who : Requester) (tk : Nat) (s : State) : Res :=
  checked (.eraseBbramKey who tk) (ownerAsk s who 8 tk 0 true)

/-- DEBUG_UNLOCK (R425, opcode 9). -/
def execDebugUnlock (who : Requester) (tk : Nat) (s : State) : Res :=
  checked (.debugUnlock who tk) (ownerAsk s who 9 tk 0 true)

/-- FW_KEY_REVOKE (R430, opcode 10). -/
def execFwKeyRevoke (who : Requester) (tk : Nat) (vfuse : Bool) (s : State) : Res :=
  checked (.fwKeyRevoke who tk vfuse) (ownerAsk s who 10 tk 0 vfuse)

/-- SEC_CMD_UNKNOWN_OPCODE (R427): reason 9, and the nonce is consumed. -/
def execSecCmdUnknownOpcode (who : Requester) (s : State) : Res :=
  checked (.secCmdUnknownOpcode who) <| asked s who F.SEC_CMD_GO_go.addr 2 fun s =>
    let k := reqNum who
    let op := bufBytes s k 0 2
    if k = 0 || s.flag (F.SEC_CMD_STATUS_busy.copy k) || (1 ≤ op && op ≤ 10) then s
    else cmdRefuse (newNonce s) k (op % 16) 9

/-- A run goes on with its next bit (R428, R429): it burns while VFUSE and the windows hold, and waits for them
otherwise (R29, R233). A bit that has begun completes. -/
def burnNext (s : State) (b : Burn) (vfuse : Bool) : State :=
  let more := burnBits s b ≠ [] || b.op = 3
  if !more || fuseReady s b.op vfuse then burnStart s { b with held := false }
  else
    let s := fuseDeferral (setSec s { s.sec with burn := some { b with bits := burnBits s b, tries := 0, held := true } })
    if vfuse then s else vfuseAbsent s b.op

/-- The bit that a reset cut stands (R429): its run ends, and takes effect where all its bits then stand. -/
def cutDone (s : State) (b : Burn) (x : Nat) : State :=
  let s := setSec s { s.sec with burn := none, fuses := nins x s.sec.fuses }
  if burnBits s b ≠ [] then s
  else if b.op ≠ 3 then burnEffect s b
  else if b.phase = 1 then s.set F.SEC_LC_return_begun 1
  else if b.phase = 3 then returnRevoke s
  else lcChange s Lc.ret

/-- FUSE_BURN_COMPLETE (R429): the bit reads at its margin, or is burned again up to 3 times; then
SEC_FUSE_FAIL refuses the command with reason 6. `vfuse` says that VFUSE is within tolerance for what follows. -/
def execFuseBurnComplete (e : BurnEnd) (s : State) : Res :=
  checked (.fuseBurnComplete e) <|
    match s.sec.burn with
    | none => s
    | some b => match b.bits with
      | [] => s
      | x :: _ =>
        if b.held then s
        else if e.ok then
          if b.cut then cutDone s b x
          else burnNext (setSec s { s.sec with fuses := nins x s.sec.fuses }) b e.vfuse
        else if b.tries < 3 then
          let again := { b with tries := b.tries + 1 }
          if fuseReady s b.op e.vfuse then setSec s { s.sec with burn := some again }
          else
            let s := fuseDeferral (setSec s { s.sec with burn := some { again with held := true } })
            if e.vfuse then s else vfuseAbsent s b.op
        else
          let s := raiseCrit (setSec s { s.sec with burn := none }) true 1023 0x45 6 x
          if b.port = 0 then s else cmdRefuse s b.port b.op 6

/-- FUSE_COMMAND_RESUME (R428, R433): a run that waits goes on, and otherwise the first deferred action is performed,
once VFUSE and the windows hold. -/
def execFuseCommandResume (vfuse : Bool) (s : State) : Res :=
  checked (.fuseCommandResume vfuse) <|
    match s.sec.burn with
    | none => fuseServe s vfuse
    | some b =>
      if !b.held then s
      else if !fuseReady s b.op vfuse then (if vfuse then s else vfuseAbsent s b.op)
      else
        let s := setSec s { s.sec with told := false }
        if b.cut || 0 < b.tries then setSec s { s.sec with burn := some { b with held := false } }
        else burnStart s { b with held := false }

/-- RETURN_RESUME (R29, R429): a pending return resumes at step 2. -/
def execReturnResume (vfuse : Bool) (s : State) : Res :=
  checked (.returnResume vfuse) <|
    if returnPending s && s.sec.burn.isNone then
      if fuseReady s 3 vfuse then
        burnStart (setSec s { s.sec with fuses := nins 3 s.sec.fuses, told := false }) ⟨3, 0, [], 1, [], 0, false, false⟩
      else if vfuse then s else vfuseAbsent s 3
    else s

/-- DEBUG_LOCK (R425). -/
def execDebugLock (s : State) : Res := checked .debugLock (closeDebug s 1)

/-- A JTAG instruction of kind `n` is available (R425): 0 IDCODE, 1 BYPASS, 2 boundary scan, 3 keeper
debug, 4 readback, 5 maker test. -/
def jtagAllowed (s : State) (n : Nat) : Bool :=
  let st := s.lc
  let bit := fun i => s.flag F.SEC_DBG_STATUS_open && bitAt (s.get F.SEC_DBG_STATUS_mask) i
  if n ≤ 1 then true
  else if st = Lc.maker || st = Lc.ret then true
  else if st = Lc.owned then n ≠ 5 && bit (n - 2)
  else n = 2 && bit 0 && (s.mode = Mode.load || s.mode = Mode.safe)

/-- JTAG_INSTRUCTION (R425). -/
def execJtagInstruction (n : Nat) (s : State) : Res :=
  checked (.jtagInstruction n) <|
    if jtagAllowed s n then setSec s { s.sec with jtag := some n } else s

/-! Attestation (R435, R436, R438). -/

/-- ATTEST_GO (R435): a go while busy is ignored; the keeper has no copy. -/
def execAttestGo (who : Requester) (s : State) : Res :=
  checked (.attestGo who) <| asked s who F.SEC_ATT_CMD_go.addr 2 fun s =>
    let k := reqNum who
    if k = 0 then s else s.set (F.SEC_ATT_STATUS_busy.copy k) 1

/-- The critical hash (R438): over the critical entries as they are stored, in sequence order. -/
def critHash (s : State) : Nat :=
  shaWords ((s.led.stored.filter (fun x => x.entry.crit)).flatMap (fun x => ledImage x.entry))

/-- Twelve words of an array as a number. -/
def reportHash (s : State) (f : Nat → Fld) : Nat := words12 s f

/-- Bytes 0 to 415 of the report as one number (R436). -/
def reportBody (s : State) (k : Nat) : Nat :=
  let nonce := (List.range 8).foldl
    (fun n i => n + s.get ((F.SEC_ATT_NONCE_nonce i).copy k) * 2 ^ (32 * i)) 0
  let pub := shaWords ((List.range 24).map (fun i => s.get (F.SEC_ATT_PUB_key i)))
  let pid := if twPaired s then s.get F.TW_PAIR_ID_LO_id + s.get F.TW_PAIR_ID_HI_id * 2 ^ 32 else 0
  let l : List (Nat × Nat) := [
    (0, 1), (2, 512), (4, s.get F.ID_UID_LO_uid_lo + s.get F.ID_UID_HI_uid_hi * 2 ^ 32),
    (12, s.get F.ID_PART_part_code), (14, s.get F.ID_PART_stack_rev), (15, s.get F.ID_GRADE_grade),
    (16, nonce), (48, s.fpStamp), (56, reportHash s F.SEC_MEAS_FW_hash), (104, reportHash s F.CFG_ROOT_root),
    (152, reportHash s F.SEC_MEAS_CFG_hash), (200, s.lc),
    (201, s.get F.SEC_LC_owner_prog + s.get F.SEC_LC_owner_rev * 16),
    (202, s.get F.SEC_LC_key_prog + s.get F.SEC_LC_key_rev * 16),
    (203, ofBool (s.flag F.SEC_LC_key_valid) + 2 * s.get F.RST_HEALTH_degraded
      + 4 * s.get F.LED_STATUS_full + 8 * ofBool (twPaired s) + 16 * s.get F.SEC_DBG_STATUS_open
      + 32 * s.get F.SEC_LC_return_begun),
    (204, s.sec.fwVersion), (208, s.get F.CFG_STREAM_VER_version), (212, s.get F.SEC_ARB_c_fw),
    (213, s.get F.SEC_ARB_c_st), (214, s.mode), (215, s.get F.TB_STATUS_state), (216, pid),
    (224, s.get F.LED_COUNT_CRIT_entries), (228, s.get F.LED_COUNT_INFO_entries),
    (232, s.get F.LED_STATUS_spares), (233, s.get F.LED_STATUS_retired), (234, s.get F.LED_TORN_CNT_torn),
    (236, s.get F.LED_LOST_lost), (240, critHash s % 2 ^ 384), (288, pub % 2 ^ 384)]
  l.foldl (fun n p => n + p.2 * 2 ^ (8 * p.1)) 0

/-- ATTEST_COMPLETE (R436): the report with its signature, and busy clears. -/
def execAttestComplete (who : Requester) (s : State) : Res :=
  checked (.attestComplete who) <|
    let k := reqNum who
    if !s.flag (F.SEC_ATT_STATUS_busy.copy k) then s
    else
      let b := reportBody s k
      let sig := Config.attSign ((List.range 104).map (fun i => bits b (32 * i) 32)) % 2 ^ 768
      let r := b + sig * 2 ^ (8 * 416)
      let s := s.setAll ((List.range 128).map (fun i => ((F.SEC_ATT_REPORT_report i).copy k, bits r (32 * i) 32)))
      raise (s.set (F.SEC_ATT_STATUS_busy.copy k) 0) 1023 0x51 1 (portBit k / 16)

end Sys2Proof.Machine
end

