-- ==== Sys2Proof/Machine/Spares.lean ====
section
/-! DEFINITION. Spares and wear (R444 to R458): canaries, retirement, live substitution, banks, FoM. -/

namespace Sys2Proof.Machine

/-- The spares record is replaced. -/
def setSpr (s : State) (x : Spr) : State := { s with spr := x }

/-! Bins (R445, R451, R452). -/

/-- A spare bin that can take a logical bin (R452): not retired and not in use. -/
def spareFree (s : State) (p : Nat) : Bool :=
  binKind s p = Kind.spare && !s.flag (F.FAB_BIN_STATUS_retired p) && logOf s p = 0x1FF

/-- SPR_STATUS.bins_free follows. -/
def freeFollow (s : State) : State :=
  s.set F.SPR_STATUS_bins_free (((List.range 264).filter (spareFree s)).length)

/-- The spare for physical bin `p` (R452): the lowest free one on its shelf, then on the other. -/
def pickSpare (s : State) (p : Nat) : Option Nat :=
  let own := if shelfOf p = 0 then [128, 129, 130, 131] else [260, 261, 262, 263]
  let other := if shelfOf p = 0 then [260, 261, 262, 263] else [128, 129, 130, 131]
  (own ++ other).find? (spareFree s)

/-- A commit holds back the pool of logical bin `l` (R454). -/
def commitBlocks (s : State) (l : Nat) : Bool :=
  s.get F.CFG_PR_STATUS_state = 3 &&
    (match s.cfg.stage with
      | some x => x.affected.any (fun k => poolOf s (physOf s (k / 8)) = poolOf s (physOf s l))
      | none => false)

/-- SPR_STATUS.copying follows (R462). -/
def copyFollow (s : State) : State :=
  s.set F.SPR_STATUS_copying (ofBool (s.spr.sub.isSome || s.flag F.SPR_BANK_COPY_busy))

/-- Whether waiting substitution `a` goes before `b` (R454): the earlier, then the lower logical bin. -/
def subBefore (a b : Nat × Nat × Nat) : Bool := a.1 < b.1 || (a.1 = b.1 && a.2.1 ≤ b.2.1)

/-- The first of the waiting substitutions. -/
def firstSub : List (Nat × Nat × Nat) → Option (Nat × Nat × Nat)
  | [] => none
  | x :: t => match firstSub t with
    | none => some x
    | some y => if subBefore x y then some x else some y

/-- The next substitution begins when none runs (R452, R454, R457); one that finds no spare ends. -/
def subStart (n : Nat) (s : State) : State :=
  match n with
  | 0 => s
  | n + 1 =>
    if s.spr.sub.isSome then s
    else match firstSub (s.spr.subWait.filter (fun w => !commitBlocks s w.2.1)) with
      | none => s
      | some w =>
        let s := setSpr s { s.spr with subWait := s.spr.subWait.filter (fun x => x != w) }
        match pickSpare s w.2.2 with
        | some q => copyFollow (setSpr s { s.spr with sub := some ⟨w.2.1, w.2.2, q, s.now, false⟩ })
        | none => subStart n (sprExhausted s 1 w.2.1)

/-- Waiting substitutions begin. -/
def subGo (s : State) : State := subStart (s.spr.subWait.length + 1) s

/-- Physical bin `p` is retired (R451): a scheduled bin leaves dispatch and is substituted live (R452); a
static one keeps running. None is retired while the shelves are off (R454). -/
def retireBin (s : State) (p cause : Nat) : State :=
  if s.flag (F.FAB_BIN_STATUS_retired p) || (s.mode = Mode.dormant && !s.modes.shelvesUp) then s
  else
    let l := logOf s p
    let sched := binKind s p = Kind.scheduled
    let s := (s.set (F.FAB_BIN_STATUS_retired p) 1).bump F.SPR_STATUS_bins_retired 1
    let s := s.setAll [(F.SPR_BIN_WEAR_state p, if binKind s p = Kind.static then 2 else 3),
      (F.SPR_BIN_WEAR_cause p, cause)]
    let s := raiseCrit s true (512 + p) 0x14 6 (cause + l * 8)
    let s := freeFollow s
    if sched && l < 256 then
      let s := poolRecount (clearBinItems s p) (poolOf s p)
      subGo (setSpr s { s.spr with subWait := s.spr.subWait ++ [(s.now, l, p)] })
    else s

/-- A static bin is held until the next load (R362, R404 bit 9, R445). -/
def holdForGood (s : State) (p : Nat) : State :=
  if s.cfg.heldFor.contains p then s
  else
    let s := { s with cfg := { s.cfg with heldFor := nins p s.cfg.heldFor } }
    let s := (s.set (F.SPR_BIN_WEAR_state p) 3).bump F.CFG_SCRUB_STATE_unrepaired 1
    setDegraded (binResetStart s p 3) 9 true

/-- A monitor's next measurement: `gap` ticks after its last one, kept under `key`. -/
def measured (s : State) (key gap : Nat) : State :=
  let s := match aget s.spr.last key with
    | some t => s.atNow (t + gap)
    | none => s
  setSpr s { s.spr with last := aset s.spr.last key s.now }

/-- CANARY_MEASURE (R445): the slack of bin `p` in 1/256 tk, every 100 ms; spares are measured at start only. -/
def canary (s : State) (p slack : Nat) : State :=
  let k := binKind s p
  if (k ≠ Kind.static && k ≠ Kind.scheduled) || s.mode = Mode.dormant || s.mode = Mode.load then s
  else
    let s := measured s p (usToTk 100000)
    let ms := (slack :: (aget s.spr.canary p).getD []).take 16
    let mean := meanOpen s (ms.foldl (· + ·) 0) ms.length
    let m := mean.1
    let s := mean.2
    let s := setSpr s { s.spr with canary := aset s.spr.canary p ms }
    let s := s.setAll [(F.FAB_CANARY_margin p, m),
      (F.SPR_BIN_WEAR_margin_min p, min m (s.get (F.SPR_BIN_WEAR_margin_min p)))]
    let s := if m < s.get F.SPR_CFG_canary_warn && !s.spr.warned.contains p then
        let t := setSpr s { s.spr with warned := nins p s.spr.warned }
        let t := if t.get (F.SPR_BIN_WEAR_state p) = 0 then t.set (F.SPR_BIN_WEAR_state p) 1 else t
        raise t (512 + p) 0x13 4 m
      else s
    let s := if m < s.get F.SPR_CFG_canary_retire then retireBin s p 1 else s
    if m < s.get F.SPR_CFG_canary_fail && k = Kind.static then holdForGood s p else s

/-- CANARY_MEASURE. -/
def execCanaryMeasure (p slack : Nat) (s : State) : Res :=
  checked (.canaryMeasure p slack) (canary s p slack)

/-- Ticks of the preparation of a spare (R452). -/
def prepTk : Nat := 19661

/-- Ticks of one context image (R342). -/
def imageTk : Nat := 12096

/-- BIN_SUBSTITUTION_PREP (R452): the clock is at the end of the preparation. -/
def execBinSubstitutionPrep (s : State) : Res :=
  checked .binSubstitutionPrep <|
    match s.spr.sub with
    | none => s
    | some x =>
      if x.prep then s
      else setSpr (s.atNow (x.start + prepTk)) { s.spr with sub := some { x with prep := true } }

/-- The bin whose images the spare takes (R452): the lowest usable logical bin of the pool; for want of one the images
come from the further sources of R361, which hold those of the retired bin. -/
def subSource (s : State) (x : SubRun) : Nat :=
  let ls := (poolBins s (poolOf s x.old)).filter (fun l => l ≠ x.log && binUsable s (physOf s l))
  match ls with
  | l :: _ => physOf s l
  | [] => x.old

/-- Configuration memory of one bin is copied to another, whose words are then without error. -/
def copyMem (s : State) (p q : Nat) : State :=
  let m := (s.cfg.mem.filter (fun e => e.1 / 8 = p)).map (fun e => (8 * q + e.1 % 8, e.2))
  let kept := s.cfg.mem.filter (fun e => e.1 / 8 != q)
  { s with cfg := { s.cfg with
    mem := m.foldl (fun l e => aset l e.1 e.2) kept
    struck := s.cfg.struck.filter (fun x => wordBin x.1 != q)
    repairs := s.cfg.repairs.filter (fun r => wordBin r.word != q)
    lostWords := s.cfg.lostWords.filter (fun w => wordBin w != q) } }

/-- A logical bin moves to a physical one with its settings and the images of bin `src` (R117, R130, R157, R452). -/
def moveBin (s : State) (l p q src : Nat) : State :=
  let s := s.setAll [(F.FAB_MAP_physical l, q), (F.FAB_MAP_moved l, ofBool (q ≠ Rst.mapDefault l)),
    (F.FAB_BIN_STATUS_kind q, binKind s p), (F.FAB_BIN_STATUS_logical q, l),
    (F.FAB_BIN_STATUS_pool q, poolOf s p), (F.BIN_CTX_CFG_start_ctx q, s.get (F.BIN_CTX_CFG_start_ctx p)),
    (F.BIN_CTX_CFG_ev_sev_max q, s.get (F.BIN_CTX_CFG_ev_sev_max p)),
    (F.BIN_CTX_CFG_ctx_loaded q, s.get (F.BIN_CTX_CFG_ctx_loaded src)),
    (F.FAB_BIN_STATUS_logical p, 0x1FF), (F.FAB_BIN_STATUS_pool p, 0x3F),
    (F.CLK_GATE_EN_run_en q, s.get (F.CLK_GATE_EN_run_en p)),
    (F.CLK_GATE_EN_sleep_en q, s.get (F.CLK_GATE_EN_sleep_en p)),
    (F.CLK_GATE_EN_deep_en q, s.get (F.CLK_GATE_EN_deep_en p))]
  copyMem s src q

/-- BIN_SUBSTITUTION_COMPLETE (R452): after k images the map moves and the spare joins its pool. -/
def subComplete (s : State) : State :=
  match s.spr.sub with
  | none => s
  | some x =>
    if !x.prep then s
    else
      let src := subSource s x
      let k := popCount 8 (s.get (F.BIN_CTX_CFG_ctx_loaded src))
      let pool := poolOf s x.old
      let s := s.atNow (x.start + prepTk + k * imageTk)
      let s := moveBin s x.log x.old x.spare src
      let s := setBin s x.spare { s.bin x.spare with free0 := s.now, free1 := s.now, rst := false }
      let s := s.set (F.BIN_SEQ_STATUS_state x.spare)
        (if s.flag (F.CLK_GATE_EN_open x.spare) then Seq.idle else Seq.off)
      let s := gateFollow s x.spare
      let s := freeFollow (s.bump F.SPR_SUB_CNT_bins 1)
      let s := setSpr s { s.spr with sub := none }
      let s := poolRecount s pool
      let s := raiseCrit s true (512 + x.spare) 0x15 5 (x.log + x.old * 256)
      subGo (copyFollow s)

/-- BIN_SUBSTITUTION_COMPLETE. -/
def execBinSubstitutionComplete (s : State) : Res := checked .binSubstitutionComplete (subComplete s)

/-! Hatch wires (R446). -/

/-- The lowest margin of segment `g` of column `c`. -/
def hatchMargin (c g : Nat) : Fld :=
  if g = 0 then F.SPR_HATCH_m_s0 c else if g = 1 then F.SPR_HATCH_m_s1 c else F.SPR_HATCH_m_s2 c

/-- HATCH_CANARY_MEASURE (R446), every 1 s: the margin of a segment of column `c`, with its weakest wire; below
canary_retire the wire is marked for the next start. -/
def execHatchCanaryMeasure (c seg margin group wire : Nat) (s : State) : Res :=
  checked (.hatchCanaryMeasure c seg margin group wire) <|
    let s := measured s (1024 + 3 * c + seg) (usToTk 1000000)
    let s := s.set (hatchMargin c seg) (min margin (s.get (hatchMargin c seg)))
    if margin < s.get F.SPR_CFG_canary_retire && (aget s.spr.wires (3 * c + seg)).isNone then
      let s := setSpr s { s.spr with wires := aset s.spr.wires (3 * c + seg) (32 * group + wire) }
      raise (s.set (F.SPR_HATCH_pend c) 1) (512 + c) 0x16 4
        (seg + group * 4 + wire * 128 + margin * 4096)
    else s

/-! Banks (R447, R455). -/

/-- The next permitted live copy begins when none runs (R455). -/
def bankCopyStart (s : State) : State :=
  if s.flag F.SPR_BANK_COPY_busy then s
  else match s.spr.worn.find? (fun b => bitAt (s.get F.SPR_BANK_PERMIT_permit) (b / 32)
      && s.get (F.LFT_GRP_STATUS_spare_for (b / 32)) = 0x3F
      && s.get (F.LFT_GRP_STATUS_power (b / 32)) = 1) with
    | none => s
    | some b => copyFollow (s.setAll [(F.SPR_BANK_COPY_busy, 1), (F.SPR_BANK_COPY_group, b / 32),
        (F.SPR_BANK_COPY_bank, b % 32), (F.SPR_BANK_COPY_rows_done, 0)])

/-- An hour of what runs since tick `since` ends, at the earliest an hour after the last one kept under `key`. -/
def hourEnd (s : State) (key since : Nat) : State :=
  let s := s.atNow (max since ((aget s.spr.last key).getD 0) + usToTk 3600000000)
  setSpr s { s.spr with last := aset s.spr.last key s.now }

/-- BANK_CE_HOUR (R447, R457): an hour of ON time of bank `b` ends. -/
def execBankCeHour (b : Nat) (s : State) : Res :=
  checked (.bankCeHour b) <|
    if s.get (F.LFT_GRP_STATUS_power (b / 32)) ≠ 1 then s
    else
      let s := hourEnd s (2048 + b) 0
      let n := (s.spr.ce.filter (fun w => wLBank w = b)).length
      let high := max 1 (s.get F.SPR_CFG2_ce_thr) < n
      let twice := high && s.spr.ceHigh.contains b && !s.spr.worn.contains b
      let s := setSpr s { s.spr with
        ce := s.spr.ce.filter (fun w => wLBank w != b),
        ceHigh := if high then nins b s.spr.ceHigh else ndel s.spr.ceHigh b }
      if !twice then s
      else
        let g := b / 32
        let s := setSpr s { s.spr with worn := s.spr.worn ++ [b] }
        let s := s.set F.SPR_BANK_PEND_pending (putBit (s.get F.SPR_BANK_PEND_pending) g true)
        let s := raiseCrit s true (776 + g) 8 5 (b % 32 + min n 65535 * 32)
        if s.get (F.LFT_GRP_STATUS_spare_for g) ≠ 0x3F then sprExhausted s 2 g else bankCopyStart s

/-- BANK_PERMIT_WRITE (R455). -/
def execBankPermitWrite (mask : Nat) (s : State) : Res :=
  checked (.bankPermitWrite mask) (bankCopyStart (s.set F.SPR_BANK_PERMIT_permit mask))

/-- A word moves to the spare (R315, R455): its valid copies are voted and repaired; it is corrected, or poisoned when
it cannot be. -/
def copyWord (s : State) (w : Nat) : State :=
  let s := voteRepair s w
  if !vote (s.loft.validAt w) then s else
  match decodeWord (s.loft.dataAt w) (s.loft.checkAt w) w with
  | .clean _ => s
  | .corrected d => s.setLoft (s.loft.store w d)
  | .poisoned => s.setLoft (s.loft.poison w)
  | .uncorrectable => s.setLoft (s.loft.poison w)

/-- BANK_COPY_COMPLETE (R455): the spare serves the logical bank. -/
def execBankCopyComplete (s : State) : Res :=
  checked .bankCopyComplete <|
    if !s.flag F.SPR_BANK_COPY_busy then s
    else
      let g := s.get F.SPR_BANK_COPY_group
      let b := 32 * g + s.get F.SPR_BANK_COPY_bank
      let ws := (s.loft.valid.map Prod.fst).filter (fun w => wLBank w = b)
      let s := ws.foldl copyWord s
      let s := s.setAll [(F.SPR_BANK_COPY_busy, 0), (F.SPR_BANK_COPY_rows_done, 65535)]
      bankCopyStart (copyFollow (spareOnClear s [b]))

/-! Lanes (R449). -/

/-- FOM_HOUR (R449): an hour of lane `l` UP ends; its mean is that of the hour's windows, and `idle` where none of them
ended in it (log entry 116). -/
def execFomHour (l idle : Nat) (s : State) : Res :=
  checked (.fomHour l idle) <|
    if s.lane l ≠ Ln.up then s
    else
      let s := hourEnd s (4096 + l) (s.laneRun l).since
      let acc := (aget s.spr.fomSum l).getD (0, 0)
      let s := setSpr s { s.spr with fomSum := adel s.spr.fomSum l }
      let m := if acc.2 = 0 then (idle, s) else meanOpen s acc.1 acc.2
      let mean := m.1 % 256
      let s := m.2.set (F.SPR_FOM_hourly l) mean
      match aget s.spr.fom l with
      | none =>
        (setSpr s { s.spr with fom := aset s.spr.fom l (0, false) }).set (F.SPR_FOM_baseline l) mean
      | some (n, raised) =>
        let base := s.get (F.SPR_FOM_baseline l)
        let n' := if mean + s.get F.SPR_CFG2_fom_drop ≤ base then n + 1 else 0
        let fire := 24 ≤ n' && !raised
        let s := setSpr s { s.spr with fom := aset s.spr.fom l (n', raised || fire) }
        if fire then raise (s.set (F.SPR_FOM_trend l) 1) (4 * l + 1) 0x12 4 (base + mean * 256) else s

end Sys2Proof.Machine
end

