-- ==== Sys2Proof/Machine/BinMap.lean ====
section
/-! DEFINITION. The bin map, routes and shelf records of a stream (R115 to R126, R342, R453). -/

namespace Sys2Proof.Machine

/-- The configuration record is replaced. -/
def setCfg (s : State) (x : Cfg) : State := { s with cfg := x }

/-! Routes (R112 to R115). Physical bin p of a shelf stands in row p / 12, position p mod 12; N leads to
row − 1 (log entry 28). -/

/-- The legs of a path between two bins of a shelf, as (direction, hops): along the row, along the
column. -/
def legs (a b : Nat) : (Nat × Nat) × (Nat × Nat) :=
  let ra := a % 132 / 12
  let rb := b % 132 / 12
  let ca := a % 12
  let cb := b % 12
  ((if ca ≤ cb then (1, cb - ca) else (3, ca - cb)), (if ra ≤ rb then (2, rb - ra) else (0, ra - rb)))

/-- The neighbour of bin `p` in direction `d`. -/
def neighbour (p d : Nat) : Nat := if d = 0 then p - 12 else if d = 1 then p + 1 else if d = 2 then p + 12 else p - 1

/-- The hops of `n` steps from `p` in direction `d`, and the bin they reach. -/
def walk : Nat → Nat → Nat → List (Nat × Nat) × Nat
  | p, _, 0 => ([], p)
  | p, d, n + 1 => let r := walk (neighbour p d) d n; ((p, d) :: r.1, r.2)

/-- The hops of two legs in order. -/
def walk2 (p : Nat) (x y : Nat × Nat) : List (Nat × Nat) :=
  let r := walk p x.1 x.2
  r.1 ++ (walk r.2 y.1 y.2).1

/-- The lowest free channel of each hop, as (bin, 4d + k). -/
def takeChannels (used : List (Nat × Nat)) : List (Nat × Nat) → Option (List (Nat × Nat))
  | [] => some []
  | (p, d) :: t =>
    match (List.range 4).find? (fun k => !used.contains (p, 4 * d + k)) with
    | none => none
    | some k => (takeChannels ((p, 4 * d + k) :: used) t).map (fun l => (p, 4 * d + k) :: l)

/-- A route's plan on the present map, or the reason against it: 1 pad, 2 no channel (R115). -/
def planRoute (s : State) (used : List (Nat × Nat)) (src dst delay hatch : Nat) : Except Nat RoutePlan :=
  let a := physOf s src
  let b := physOf s dst
  let cross := shelfOf a ≠ shelfOf b
  let l := legs a b
  let h := l.1.2 + l.2.2 + (if cross then 1 else 0)
  let word : List (Nat × Nat) := if cross then [(1000 + b % 132, hatch)] else []
  if delay < 1 || 31 < delay || delay < h || 15 < delay - h then .error 1
  else if cross && (2 < hatch || word.any used.contains) then .error 2
  else match takeChannels used (walk2 a l.1 l.2) with
    | some cs => .ok ⟨src, dst, delay, hatch, cs ++ word, delay - h⟩
    | none => match takeChannels used (walk2 a l.2 l.1) with
      | some cs => .ok ⟨src, dst, delay, hatch, cs ++ word, delay - h⟩
      | none => .error 2

/-- The routes of a stream's shelf records. -/
def routesOf (l : List ShelfRec) : List (Nat × Nat × Nat × Nat) :=
  l.filterMap (fun r => match r with | .route a b d h => some (a, b, d, h) | _ => none)

/-- The routes planned in their order; those with an end that `skip` names are left out. -/
def planAll (s : State) (skip : Nat → Bool) :
    List (Nat × Nat × Nat × Nat) → List RoutePlan → Except Nat (List RoutePlan)
  | [], acc => .ok acc
  | (a, b, d, h) :: t, acc =>
    if skip a || skip b then planAll s skip t acc
    else match planRoute s (acc.flatMap (fun r => r.hops)) a b d h with
      | .error e => .error e
      | .ok r => planAll s skip t (acc ++ [r])

/-- FAB_CORR_USE follows the plans (R130): the first hop is sourced by its bin, the others pass. -/
def corrUse (s : State) (ps : List RoutePlan) : State :=
  ps.foldl (fun t r => match r.hops.filter (fun h => h.1 < 264) with
    | [] => t
    | (p, c) :: rest =>
      let t := t.set (F.FAB_CORR_USE_out_used p) (putBit (t.get (F.FAB_CORR_USE_out_used p)) c true)
      rest.foldl (fun u h =>
        u.set (F.FAB_CORR_USE_pass_used h.1) (putBit (u.get (F.FAB_CORR_USE_pass_used h.1)) h.2 true)) t) s

/-! The map (R117, R120, R453). -/

/-- The substitutions of bins that the ledger records, as (logical, spare), the latest last (R456). -/
def ledSubs (s : State) : List (Nat × Nat) :=
  (s.led.stored.filter (fun x => x.entry.record.code = 0x15 && 512 ≤ x.entry.record.source
      && x.entry.record.source < 776 && x.entry.payload = [])).map
    (fun x => (x.entry.record.data % 256, x.entry.record.source - 512))

/-- Physical bin `p` is out of use. -/
def isRetired (s : State) (p : Nat) : Bool := s.flag (F.FAB_BIN_STATUS_retired p)

/-- Logical bin `l` stands at physical bin `p`. -/
def putMap (s : State) (l p : Nat) : State :=
  s.setAll [(F.FAB_MAP_physical l, p), (F.FAB_MAP_moved l, ofBool (p ≠ Rst.mapDefault l))]

/-- The default map with the recorded substitutions whose spares are usable (R453 step 1); the spares that
are not taken have kind spare. -/
def mapBase (s : State) : State :=
  let subs := ledSubs s
  let s := (List.range 256).foldl (fun t l =>
    match (subs.reverse.find? (fun x => x.1 = l && !isRetired t x.2)) with
    | some x => putMap t l x.2
    | none => putMap t l (Rst.mapDefault l)) s
  let s := (List.range 256).foldl (fun t l => t.set (F.FAB_BIN_STATUS_logical (physOf t l)) l) s
  [128, 129, 130, 131, 260, 261, 262, 263].foldl
    (fun t p => if logOf t p = 0x1FF then t.set (F.FAB_BIN_STATUS_kind p) Kind.spare else t) s

/-- The record of logical bin `l`: kind, pool, start_ctx, ev_sev_max. -/
def binRec (rs : List ShelfRec) (l : Nat) : Option (Nat × Nat × Nat × Nat) :=
  rs.findSome? (fun r => match r with | .bin x k p c v => if x = l then some (k, p, c, v) else none | _ => none)

/-- The tile clocks of logical bin `l`. -/
def clkRec (rs : List ShelfRec) (l : Nat) : Nat × Nat :=
  (rs.findSome? (fun r => match r with | .clocks x a b => if x = l then some (a, b) else none | _ => none)).getD (0, 0)

/-- The lane attached to logical bin `l`. -/
def laneRec (rs : List ShelfRec) (l : Nat) : Option Nat :=
  rs.findSome? (fun r => match r with | .lane x n => if x = l then some n else none | _ => none)

/-- The kind of logical bin `l` in a stream. -/
def recKind (rs : List ShelfRec) (l : Nat) : Nat := ((binRec rs l).map (fun x => x.1)).getD 0

/-- The clock rule of R89 for logical bin `l` at spare `q`. -/
def clockFits (s : State) (rs : List ShelfRec) (l q : Nat) : Bool :=
  let c := clkRec rs l
  let t := treeOf (physOf s l)
  (List.range 3).all (fun i =>
    !((List.range 16).any (fun k => bits c.1 (2 * k) 2 = i + 1 || bits c.2 (2 * k) 2 = i + 1))
    || (s.get (F.CLK_RC_CFG_src t i) = s.get (F.CLK_RC_CFG_src (treeOf q) i)
      && s.get (F.CLK_RC_CFG_div t i) = s.get (F.CLK_RC_CFG_div (treeOf q) i)))

/-- Logical bin `l` still stands at a retired bin. -/
def unplaced (s : State) (l : Nat) : Bool := isRetired s (physOf s l)

/-- Why static bin `l` cannot stand at spare `q` (R120): 0 none, 1 pad, 2 no channel, 3 clock. -/
def spareReason (s : State) (rs : List ShelfRec) (l q : Nat) : Nat :=
  if !clockFits s rs l q then 3
  else
    let t := putMap s l q
    match planAll t (unplaced t) (routesOf rs) [] with
    | .ok _ => 0
    | .error e => e

/-- A logical bin takes a spare at a load, with its critical entry (R452, R456). -/
def placeAt (s : State) (l q : Nat) : State :=
  let old := physOf s l
  let s := (s.set (F.FAB_BIN_STATUS_logical old) 0x1FF).set (F.FAB_BIN_STATUS_logical q) l
  let s := (putMap s l q).set (F.FAB_BIN_STATUS_kind q) 0
  raiseCrit (s.bump F.SPR_SUB_CNT_bins 1) true (512 + q) 0x15 5 (l + old * 256)

/-- The spares that may take logical bin `l` (R120): its own shelf's, then the other's unless a lane is
attached. -/
def spareList (s : State) (rs : List ShelfRec) (l : Nat) : List Nat :=
  let a := [128, 129, 130, 131]
  let b := [260, 261, 262, 263]
  let own := if shelfOf (physOf s l) = 0 then a else b
  let other := if shelfOf (physOf s l) = 0 then b else a
  (own ++ (if (laneRec rs l).isSome then [] else other)).filter (spareFree s)

/-- A column failed and its bin finds no spare (R404 bit 10). -/
def columnLost (s : State) (p : Nat) : State :=
  if s.get (F.SPR_BIN_WEAR_cause p) = 3 then setDegraded s 10 true else s

/-- A retired static bin is moved, or stays unplaced and is held (R120, R453). The reason reported is that
of the first spare tried; 4 when only the lane keeps it from a spare; where no spare is free the rules
state none. -/
def placeStatic (rs : List ShelfRec) (s : State) (l : Nat) : State :=
  let cs := spareList s rs l
  match cs.find? (fun q => spareReason s rs l q = 0) with
  | some q => placeAt s l q
  | none =>
    let p := physOf s l
    let other := (if shelfOf p = 0 then [260, 261, 262, 263] else [128, 129, 130, 131]).any (spareFree s)
    let lane := (laneRec rs l).isSome && other
    let r := match cs with
      | q :: _ => spareReason s rs l q
      | [] => if lane then 4 else s.free % 4
    let s := if cs = [] && !lane then s.useFree else s
    let s := columnLost (sprExhausted (raise s (512 + p) 0x12 5 (l + r * 256)) 1 l) p
    let s := { s with cfg := { s.cfg with heldFor := nins p s.cfg.heldFor } }
    setBin s p { s.bin p with rst := true }

/-- A retired scheduled bin takes the lowest free spare, or is absent from its pool (R453). -/
def placeSched (s : State) (l : Nat) : State :=
  match pickSpare s (physOf s l) with
  | some q => placeAt s l q
  | none => columnLost (sprExhausted s 1 l) (physOf s l)

/-- The map of a load (R453): static bins first, then scheduled ones, in ascending logical order. -/
def buildMap (s : State) (rs : List ShelfRec) : State :=
  let s := mapBase s
  let lost := fun (t : State) (k : Nat) =>
    (List.range 256).filter (fun l => unplaced t l && recKind rs l = k)
  let s := (lost s Kind.static).foldl (placeStatic rs) s
  (lost s Kind.scheduled).foldl placeSched s

/-! Shelf records (R342). -/

/-- The logical bin a record names first. -/
def shelfBin : ShelfRec → Nat
  | .bin l _ _ _ _ => l
  | .clocks l _ _ => l
  | .lane l _ => l
  | .route a _ _ _ => a
  | .enables l _ _ => l

/-- No element occurs twice. -/
def noRepeat {α : Type} [DecidableEq α] : List α → Bool
  | [] => true
  | x :: t => !t.contains x && noRepeat t

/-- A record breaks a rule of its own (R88, R121 to R124, R159), given the kinds of the logical bins. -/
def shelfBad (s : State) (kind : Nat → Nat) (r : ShelfRec) : Bool :=
  255 < shelfBin r || (match r with
    | .bin _ k p c v => !((k = 1 && p = 63) || (k = 2 && p < 32 && s.flag (F.SCH_POOL_CFG_defined p)))
        || 7 < c || 7 < v
    | .clocks l a b => kind l ≠ 1 && !(a = 0 && b = 0)
    | .lane l n => kind l ≠ 1 || 127 < n || shelfOf (physOf s l) ≠ 0
        || (s.flag F.EV_RP_CFG_enable && s.get F.EV_RP_CFG_reg_bin = l)
    | .route a b _ _ => kind a ≠ 1 || 255 < b || kind b ≠ 1
    | .enables l c m => kind l ≠ 1 || 7 < c || 2 ^ 192 ≤ m)

/-- Two records name one thing: a bin, a bin's clocks, a bin's or a lane's attachment, a context's
enables. -/
def shelfTwice (rs : List ShelfRec) : Bool :=
  !(noRepeat (rs.filterMap (fun r => match r with | .bin l _ _ _ _ => some l | _ => none))
    && noRepeat (rs.filterMap (fun r => match r with | .clocks l _ _ => some l | _ => none))
    && noRepeat (rs.filterMap (fun r => match r with | .lane l _ => some l | _ => none))
    && noRepeat (rs.filterMap (fun r => match r with | .lane _ n => some n | _ => none))
    && noRepeat (rs.filterMap (fun r => match r with | .enables l c _ => some (8 * l + c) | _ => none)))

/-- A context of one shelf's bin and a context of the other's enable one wire of a column (R125). -/
def contention (s : State) (en : List (Nat × Nat)) : Bool :=
  en.any (fun a => en.any (fun b =>
    let p := physOf s (a.1 / 8)
    let q := physOf s (b.1 / 8)
    shelfOf p = 0 && shelfOf q = 1 && p = q - 132 && (a.2 &&& b.2) ≠ 0))

/-- A bin's enables name a wire that a route drives from the other end of its column (R113, R125; log entry 109). -/
def routeContention (s : State) (en : List (Nat × Nat)) (ps : List RoutePlan) : Bool :=
  ps.any (fun r => match r.hops.getLast? with
    | some h => 1000 ≤ h.1 && en.any (fun a =>
        let p := physOf s (a.1 / 8)
        p % 132 = h.1 - 1000 && shelfOf p = shelfOf (physOf s r.dst) && bits a.2 (64 * h.2) 64 ≠ 0)
    | none => false)

/-- The settings of logical bin `l` reach its physical bin (R342). -/
def putBin (rs : List ShelfRec) (s : State) (l : Nat) : State :=
  let p := physOf s l
  match binRec rs l with
  | none => s
  | some (k, pool, c, v) =>
    let ck := clkRec rs l
    let s := s.setAll [(F.FAB_BIN_STATUS_kind p, k), (F.FAB_BIN_STATUS_pool p, pool),
      (F.BIN_CTX_CFG_start_ctx p, c), (F.BIN_CTX_CFG_ev_sev_max p, v),
      (F.FAB_TILE_CLK0_clk p, ck.1), (F.FAB_TILE_CLK1_clk p, ck.2)]
    let s := match laneRec rs l with
      | some n => s.setAll [(F.FAB_BIN_STATUS_lane_att p, 1), (F.FAB_LANE_lane p, n)]
      | none => s
    if k = 2 then
      s.set (F.SCH_POOL_BINS_bins pool (l / 32)) (putBit (s.get (F.SCH_POOL_BINS_bins pool (l / 32))) (l % 32) true)
    else s

/-- A pool's bins as the Cellar records set them lie in it by the shelf records too (R159). -/
def poolsAgree (s : State) (rs : List ShelfRec) : Bool :=
  (List.range 32).all (fun p => (List.range 256).all (fun l =>
    !poolHas s p l || (binRec rs l).any (fun x => x.1 = 2 && x.2.1 = p)))

/-- The hatch-wire enables of a stream by 8 · logical bin + context. -/
def enablesOf (rs : List ShelfRec) : List (Nat × Nat) :=
  rs.filterMap (fun r => match r with | .enables l c m => some (8 * l + c, m) | _ => none)

/-- The driver rule over what is in force (R125): no two drivers of a hatch wire. -/
def enablesClash (s : State) : Bool := contention s s.cfg.enables || routeContention s s.cfg.enables s.cfg.routes

/-- The shelf records of a full stream take effect: the map, the bins' settings, the routes (R115, R342,
R453). An error is the code and the reason of the refusal. The driver rule and the pools are judged over the whole
stream (R346 step 4). -/
def shelfApply (s : State) (rs : List ShelfRec) : Except (Nat × Nat) State :=
  if rs.any (shelfBad s (recKind rs)) || shelfTwice rs then .error (4, 3)
  else
    let s := buildMap s rs
    match planAll s (unplaced s) (routesOf rs) [] with
      | .error _ => .error (4, 3)
      | .ok ps =>
        let s := (List.range 256).foldl (putBin rs) s
        let s := corrUse s ps
        .ok (setCfg s { s.cfg with routes := ps, enables := enablesOf rs })

end Sys2Proof.Machine
end

