-- ==== Sys2Proof/Machine/CfgMem.lean ====
section
/-! DEFINITION. Configuration memory (R314, R360 to R362): what its words hold, with their check bits and errors, and what
a word that awaits repair does to its bin. -/

namespace Sys2Proof.Machine

/-- The logical bins that a shelf record names. -/
def recBins : ShelfRec → List Nat
  | .route a b _ _ => [a, b]
  | r => [shelfBin r]

/-- The 64-bit word `i` of a payload. -/
def payload64 (ws : List Nat) (i : Nat) : Nat :=
  ws.getD (2 * i) 0 % 2 ^ 32 + ws.getD (2 * i + 1) 0 % 2 ^ 32 * 2 ^ 32

/-- The data written to configuration word `w`: word by word the 24 frames of the context's image, or the route and clock
configuration that the shelf records of the bin say (R333, R342, R360). -/
def cfgData (s : State) (w : Nat) : Nat :=
  let p := wordBin w
  let o := w % cfgBinWords
  if wordCtx w < 8 then
    match aget s.cfg.mem (8 * p + wordCtx w) with
    | some img => payload64 ((aget s.cfg.image (32 * img + o % 12096 / 504)).getD []) (o % 504)
    | none => 0
  else Config.shelfWord (s.cfg.seen.shelf.filter (fun r => (recBins r).contains (logOf s p))) (o - 96768) % 2 ^ 64

/-- The errors with which word `w` stands: the data bits and the check bits that are inverted. -/
def struckAt (s : State) (w : Nat) : Nat × Nat :=
  ((s.cfg.struck.find? (fun x => x.1 = w)).map Prod.snd).getD (0, 0)

/-- Word `w` stands with the errors `m`, or with none. -/
def setStruck (s : State) (w : Nat) (m : Nat × Nat) : State :=
  let l := s.cfg.struck.filter (fun x => x.1 != w)
  setCfg s { s.cfg with struck := if m = (0, 0) then l else (w, m) :: l }

/-- What the code of R314, folded with the word's own address, finds in configuration word `w` (R360). -/
def cfgDecode (s : State) (w : Nat) : Decoded :=
  let m := struckAt s w
  decodeWord (cfgData s w ^^^ m.1) (checkOf (cfgData s w) w ^^^ m.2) w

/-- The data of word `w` corrected where it can be. -/
def cfgRead (s : State) (w : Nat) : Nat :=
  match cfgDecode s w with
  | .corrected d => d
  | _ => cfgData s w ^^^ (struckAt s w).1

/-- Word `w` is written with the data `d` and its check bits. -/
def cfgStore (s : State) (w d : Nat) : State := setStruck s w (d ^^^ cfgData s w, checkOf d w ^^^ checkOf (cfgData s w) w)

/-! Words that await repair (R362). -/

/-- The word lies in what its bin runs: the running context or the route configuration. -/
def wordInUse (s : State) (w : Nat) : Bool :=
  let p := wordBin w
  wordCtx w = 8
    || (wordCtx w = s.get (F.FAB_BIN_STATUS_ctx p)
      && (binKind s p = Kind.static || (binKind s p = Kind.scheduled && (runItem s p).isSome)))

/-- A word that awaits repair holds bin `p`. -/
def repairHolds (s : State) (p : Nat) : Bool := s.cfg.repairs.any (fun r => wordBin r.word = p && r.holds)

/-- A word in what bin `p` runs awaits repair: a scheduled bin leaves dispatch, a static one is held. -/
def wordHold (s : State) (p : Nat) : State :=
  if binKind s p = Kind.scheduled then
    if (s.bin p).outDisp then s
    else
      let s := setBin s p { s.bin p with outDisp := true }
      poolRecount (clearBinItems s p) (poolOf s p)
  else if binKind s p = Kind.static && !s.cfg.heldRepair.contains p then
    binResetStart (setCfg s { s.cfg with heldRepair := nins p s.cfg.heldRepair }) p 3
  else s

/-- Bin `p` has entered context `c`, where a word may await repair. -/
def repairEnter (s : State) (p c : Nat) : State :=
  if s.cfg.repairs.any (fun r => wordBin r.word = p && wordCtx r.word = c) then repairMark (wordHold s p) p c else s

/-- No word holds bin `p` any more: it returns to dispatch or leaves reset. -/
def wordRelease (s : State) (p : Nat) : State :=
  if repairHolds s p then s
  else if binKind s p = Kind.static then
    binResetEnd (setCfg s { s.cfg with heldRepair := ndel s.cfg.heldRepair p }) p
  else if (s.bin p).outDisp then
    poolRecount (askAgain (setBin s p { s.bin p with outDisp := false }) p) (poolOf s p)
  else s

/-- The words for which `f` holds have been written anew: none of them has an error or awaits repair. -/
def wordsFresh (s : State) (f : Nat → Bool) : State :=
  let ps := (s.cfg.repairs.filter (fun r => f r.word)).map (fun r => wordBin r.word)
  let s := setCfg s { s.cfg with
    struck := s.cfg.struck.filter (fun x => !f x.1)
    repairs := s.cfg.repairs.filter (fun r => !f r.word)
    lostWords := s.cfg.lostWords.filter (fun w => !f w) }
  ps.foldl wordRelease s

end Sys2Proof.Machine
end

