-- ==== Sys2Proof/Machine/Contexts.lean ====
section
/-! DEFINITION. The selection of contexts (R133, R134, R137, R154, R155, R177). -/

namespace Sys2Proof.Machine

/-- The item bound to slot `k` of bin `p`. -/
def boundItem (s : State) (p k : Nat) : Option Item :=
  s.sch.items.find? (fun i => i.st = .bound && i.bin = p && i.slot = k)

/-- CONTEXT_SELECT (R133, R134, R137, R177): the READY slot becomes ACTIVE, the kernel's context is
selected, the budget loads and the bin takes the context's initial values, at the earliest in the tick after the
previous item's end or kill. A DROP item whose LS has passed is dropped instead. A word of the context that awaits repair
takes the bin out of dispatch at once (R362). -/
def execContextSelect (p : Nat) (s : State) : Res :=
  checked (.contextSelect p) <|
    let k := if slotSt s p 0 = 2 then 0 else 1
    if binKind s p ≠ Kind.scheduled || !binIdle s p || slotSt s p k ≠ 2 || (s.bin p).rst then s
    else match boundItem s p k with
      | none => s
      | some i =>
        let s := match (s.bin p).ended with
          | some t => s.atNow (t + 1)
          | none => s
        if isDrop s i.cls && fpAfter s.fp (latestStart s i) then countLateDrop (dropItem s i) i
        else
          let ctx := s.get (F.SCH_CLASS_CFG_kernel i.cls)
          let fp := fpPack s.fp
          let s := setItem s { i with st := .run }
          let c := classC s i.cls
          let s := setBin s p
            { s.bin p with item := some i.id, start := s.now, startFp := s.fp, budget := c, buf := [] }
          let s := askAgain (loadInitial (setSlot s p k 3) p ctx) p
          let s := s.setAll [(F.BIN_SEQ_STATUS_state p, Seq.select), (F.BIN_SEQ_STATUS_ctx p, ctx),
            (F.FAB_BIN_STATUS_ctx p, ctx), (F.BIN_SEQ_STATUS_active_slot p, k),
            (F.BIN_ITEM_CLASS_class p, i.cls), (F.BIN_ITEM_CLASS_spawns p, 0),
            (F.BIN_ITEM_SEQ_seq p, i.seq), (F.BIN_ITEM_START_LO_fp_lo p, fp),
            (F.BIN_ITEM_START_HI_fp_hi p, fp / 2 ^ 32)]
          repairEnter s p ctx

/-- Initial values that a select with ctx_init loads, where their tick has passed without one of the fabric (R154). -/
def initLate (s : State) (p : Nat) : State :=
  match (s.bin p).initAt with
  | some t => if t + 1 < s.now then setBin s p { s.bin p with initAt := none, fab := fabInit (ctxElems s p (s.get (F.BIN_SEQ_STATUS_ctx p))) }
    else s
  | none => s

/-- CONTEXT_SELECT_STATIC (R154, R155): a static bin's control word selects context `ctx`. The context drives the bin
from the next tick; with `init` its initial values are loaded in that tick. A select of a context with no image in the
tick after a ctx_init select counts under reason 3 (log entry 141). A word of the context that awaits repair holds the
bin (R362). -/
def execContextSelectStatic (p ctx : Nat) (init : Bool) (s : State) : Res :=
  checked (.contextSelectStatic p ctx init) <|
    onWord s p (fun u => u.sel) (fun u => { u with sel := true }) fun s =>
    let s := initLate s p
    if binKind s p ≠ Kind.static then portIgnored s p 2
    else if !bitAt (s.get (F.BIN_CTX_CFG_ctx_loaded p)) ctx then portIgnored s p 3
    else if (s.bin p).initAt.any (fun t => s.now ≤ t + 1) then portIgnored s p 4
    else
      let s := setBin s p { s.bin p with was := some (s.now, s.get (F.BIN_SEQ_STATUS_ctx p)) }
      let s := if init then setBin s p { s.bin p with initAt := some s.now } else s
      repairEnter (((s.set (F.BIN_SEQ_STATUS_ctx p) ctx).set (F.FAB_BIN_STATUS_ctx p) ctx).bump
        (F.BIN_CTX_SEL_CNT_count p) 1) p ctx

end Sys2Proof.Machine
end

