-- ==== Sys2Proof/Machine/RegMap.lean ====
section
/-! DEFINITION. The register rows by address (R489): which fields a register holds. -/

namespace Sys2Proof.Machine

/-- Row `r` has a field at register address `a`. -/
def RegRow.hits (r : RegRow) (a : Nat) : Bool :=
  let o := a - r.base
  r.base ≤ a && (match r.dims with
    | [] => o = 0
    | [(x, n)] => o % x = 0 && o / x < n
    | (x, n) :: (y, m) :: _ => o / x < n && o % x % y = 0 && o % x / y < m)

/-- The rows of the fields of the register at `a`. -/
def rowsAt (a : Nat) : List RegRow := regRows.filter (fun r => r.hits a)

/-- The field of row `r` at register address `a`. -/
def RegRow.fld (r : RegRow) (a : Nat) : Fld := r.at' (a - r.base)

/-- The value a written word gives to a field. -/
def Fld.of (f : Fld) (v : Nat) : Nat := bits v f.lo f.width

/-- The bits of a word that no field of `rows` holds. -/
def reservedOf (rows : List RegRow) (a v : Nat) : Nat :=
  rows.foldl (fun n r => n - (r.fld a).of v * 2 ^ (r.fld a).lo) (v % 2 ^ 32)

/-- Requester bit `k` (1 keeper, 2 register port, 4 management port, 8 the configuration) may write row `r`. -/
def RegRow.may (r : RegRow) (k : Nat) : Bool := r.writers / k % 2 = 1

/-- The fields that satisfy `p` return to their reset values; a copy of a register (R510) follows its row. -/
def resetRows (s : State) (p : RegRow → Bool) : State :=
  let rows := regRows.filter p
  { s with flds := s.flds.filter (fun e =>
      !rows.any (fun r => r.hits (e.1 / 32 % 2 ^ 32) && (r.fld (e.1 / 32 % 2 ^ 32)).lo = e.1 % 32)) }

end Sys2Proof.Machine
end

