-- ==== Sys2Proof/Machine/Records.lean ====
section
/-! DEFINITION. Cellar records of a stream (R341, R69, R188, R271): their parsing, the rules a record breaks
by itself, and what each sets. An error is the code and the reason of the refusal. -/

namespace Sys2Proof.Machine

/-- A Cellar record (R341). -/
structure CRec where
  typ : Nat
  target : Nat
  words : List Nat
  deriving DecidableEq, Repr

/-- The records of a Cellar payload of which `cap` words are left; none when a record crosses the frame,
has a header byte that is not 0, or a type above 9 (log entry 29). -/
def cellarRecs : Nat → Nat → List Nat → Option (List CRec)
  | 0, _, _ => some []
  | _, _, [] => some []
  | n + 1, cap, w0 :: rest =>
    let typ := bits w0 0 8
    let cnt := bits w0 16 16
    if typ = 0 then some []
    else if bits w0 8 8 ≠ 0 || 9 < typ || cap < cnt + 2 then none
    else
      let body := rest.drop 1
      let ws := (body ++ List.replicate (cnt - body.length) 0).take cnt
      (cellarRecs n (cap - cnt - 2) (body.drop cnt)).map
        (fun l => ⟨typ, rest.headD 0 % 2 ^ 32, ws.map (· % 2 ^ 32)⟩ :: l)

/-- What a stream has brought is replaced. -/
def setSeen (s : State) (x : StreamSeen) : State := setCfg s { s.cfg with seen := x }

/-! Register runs. -/

/-- The fields of R335 that no record may write: CLK_MON_FREQ of monitors 0 and 1, and the read-only ones
of monitors 34 to 42. -/
def freqClosed (a : Nat) : Bool :=
  (0x20300 ≤ a && a < 0x20310) || (0x20300 + 8 * 34 ≤ a && a < 0x20300 + 8 * 43)

/-- The period that a SYSREF output takes is one R75 allows. -/
def sysrefPeriodOk (per : Nat) : Bool := 64 ≤ per && 9830400 % per = 0

/-- The output k whose TB_SYSREF_CFG or TB_SYSREF_DLY a word at `a` would set against R75. A coarse delay of 0 is
accepted while the period is still 0, below which no delay lies (log entry 103). -/
def sysrefBad (s : State) (a v : Nat) : Option Nat :=
  (List.range 4).find? (fun k =>
    ((F.TB_SYSREF_CFG_mode k).addr = a && (!sysrefPeriodOk ((F.TB_SYSREF_CFG_period_tk k).of v)
      || (F.TB_SYSREF_CFG_period_tk k).of v ≤ s.get (F.TB_SYSREF_DLY_coarse_tk k)))
    || ((F.TB_SYSREF_DLY_coarse_tk k).addr = a
      && max 1 (s.get (F.TB_SYSREF_CFG_period_tk k)) ≤ (F.TB_SYSREF_DLY_coarse_tk k).of v))

/-- A word that a clock register refuses with CLK_CFG_REFUSED (R84, R86, R87, R90). -/
def clkRefused (a v : Nat) : Bool :=
  (0x20200 ≤ a && a < 0x202AC && (bits v 0 6 = (a - 0x20200) / 4 || bits v 0 6 = 42))
  || (0x20610 ≤ a && a < 0x20620
    && (bits v 0 25 < 160000 || 15728640 < bits v 0 25 || 18 < bits v 26 5))
  || (0x20700 ≤ a && a < 0x20900 && a % 16 ≠ 0
    && (bits v 5 3 = 7 || 20 < bits v 0 5 || (20 < bits v 8 5 && bits v 8 5 ≠ 31)))
  || (0x20900 ≤ a && a < 0x20940 && bits v 0 2 = 3)

/-- CLK_CFG_REFUSED of the register at `a` at its source (R99): a lane group's lowest lane for CLK_LGRP_CFG and
for the monitors of LREF and of recovered clocks, 1021 otherwise. -/
def clkRefuse (s : State) (a : Nat) : State :=
  let m := (a - 0x20200) / 4
  if 0x20900 ≤ a && a < 0x20940 then raise s (32 * ((a - 0x20900) / 4)) 0x66 3 (a % 65536)
  else if 0x20200 ≤ a && a < 0x202AC && 2 ≤ m && m ≤ 33 then
    raise s (32 * ((m - 2) % 16)) 0x66 3 (a % 65536)
  else raise s 1021 6 3 (a % 65536)

/-- One register of a run: every field that the configuration sets takes its value; a value for any other
field refuses the stream (R335, R341, log entry 29). A setting that its own register refuses leaves the
register as it was (R75, R87, R90); an epoch offset of a second or more loads as 0 (R42). -/
def runWord (s : State) (a v : Nat) : Except (Nat × Nat) State :=
  let rows := rowsAt a
  let mine := rows.filter (fun r => r.may 8)
  let other := rows.filter (fun r => !r.may 8)
  if mine = [] || freqClosed a then .error (4, 2)
  else if other.any (fun r => (r.fld a).of v ≠
      (if r.acc = .rw then s.get (r.fld a) else 0)) then .error (4, 2)
  else if clkRefused a v then .ok (clkRefuse s a)
  else if a = F.TB_EPOCH_TK_o.addr && secTk ≤ F.TB_EPOCH_TK_o.of v then
    .ok (raise (s.set F.TB_EPOCH_TK_o 0) 968 6 3 (a % 65536))
  else if a = (F.TB_TRG_DATA_data 0).addr && !fpLegal v then .ok (raise s 968 6 3 (a % 65536))
  else match sysrefBad s a v with
    | some k => .ok (raise s 978 0x30 3 k)
    | none =>
      let s := mine.foldl (fun t r => t.set (r.fld a) ((r.fld a).of v)) s
      .ok { s with adm := { s.adm with cap := s.get F.THM_CAP_cap } }

/-- A run from address `a` (R341). -/
def runWords (a : Nat) : List Nat → State → Except (Nat × Nat) State
  | [], s => .ok s
  | v :: t, s =>
    match runWord s a v with
    | .error e => .error e
    | .ok s' => runWords (a + 4) t s'

/-! Triggers (R69, R512). -/

/-- A UIO pin's role (R341): 0 user logic, 1 trigger output, 2 unused. -/
def uioRole (s : State) (pin : Nat) : Nat := ((aget s.cfg.uio pin).getD 4) % 4

/-- The case of R69 for which entry `i` may not take `d`: 6, 0x22, 0x23 or 0x24; 0 for none. -/
def trgRefusal (s : State) (i : Nat) (d : List Nat) : Nat :=
  let e : TrgEntry := ⟨d, none⟩
  let clash := s.tb.trgs.any (fun x => x.1 ≠ i && x.2.enable && x.2.actPin && x.2.pin = e.pin
    && (x.2.polarity ≠ e.polarity || (x.2.width = 0) ≠ (e.width = 0)))
  if !fpLegal e.fpWord then 6
  else if e.period ≠ 0 && (e.period < 64 || e.period ≤ e.width) then 0x22
  else if e.actPin && (95 < e.pin || uioRole s e.pin ≠ 1 || clash) then 0x23
  else if e.actRelease && !s.flag (F.SCH_CLASS_CFG_defined e.cls) then 0x24
  else 0

/-! What a record sets. -/

/-- Words written from key `k` of a table that holds no zero entries. -/
def putWords (l : List (Nat × Nat)) (k : Nat) : List Nat → List (Nat × Nat)
  | [] => l
  | w :: t => putWords (putWord l k w) (k + 1) t

/-- The words of a type-2 record with words 13 to 15 of every flow 0 (R273). -/
def flowClean (ws : List Nat) : List Nat :=
  (List.range ws.length).map (fun i => if 13 ≤ i % 16 then 0 else ws.getD i 0)

/-- Strictly rising numbers below a frame's ticks (R271). -/
def risingOff : Nat → List Nat → Bool
  | _, [] => true
  | lo, x :: t => lo ≤ x && x < frameTk && risingOff (x + 1) t

/-- A UIO setting word is legal (R341). -/
def uioOk (w : Nat) : Bool := bits w 0 2 ≠ 3 && bits w 2 2 ≠ 3 && bits w 4 2 ≠ 3 && w < 64

/-- A record that its frame, number `fr`, carries takes effect (R188, R271, R273, R274, R341). -/
def recWrite (fr : Nat) (s : State) (r : CRec) : Except (Nat × Nat) State :=
  let bad : Except (Nat × Nat) State := .error (4, 3)
  let n := r.words.length
  let w := fun i => r.words.getD i 0
  let seen := s.cfg.seen
  if r.typ = 1 then runWords r.target r.words s
  else if r.typ = 2 then
    if n % 16 ≠ 0 || 16384 < r.target + n / 16 then bad
    else .ok (setFh s { s.fh with flow := putWords s.fh.flow (16 * r.target) (flowClean r.words) })
  else if r.typ = 3 then
    if n % 4 ≠ 0 || 65536 < r.target + n / 4 then bad
    else .ok (setFh s { s.fh with sec := putWords s.fh.sec (4 * r.target) r.words })
  else if r.typ = 4 then
    let syms := bits (w 0) 0 11
    let offs := r.words.drop 1
    if 15 < r.target || syms < 1 || 1280 < syms || offs.length ≠ syms || !risingOff 0 offs then bad
    else .ok (setFh s { s.fh with num := aset s.fh.num r.target (w 0),
                                  off := putWords s.fh.off (1280 * r.target) offs })
  else if r.typ = 5 then
    if n % 8 ≠ 0 || 4096 < r.target + n / 8 then bad
    else .ok ((List.range (n / 8)).foldl (fun t i =>
      let t := setTrg t (r.target + i) ⟨(r.words.drop (8 * i)).take 8, none⟩
      setSeen t { t.cfg.seen with trgs := t.cfg.seen.trgs ++ [(r.target + i, fr)] }) s)
  else if r.typ = 6 then
    if n ≠ 5 || seen.adms ≠ 0 then bad
    else
      let cap := if bits (w 1) 0 11 = 0 then 1600 else bits (w 1) 0 11
      let s := s.set F.THM_CAP_cap cap
      let s := { s with adm := ⟨toInt 8 (w 0), cap, w 2, w 3, w 4, true⟩ }
      .ok (setSeen s { seen with adms := 1 })
  else if r.typ = 7 then
    if n ≠ 32 || r.words.any (338 < ·) then bad
    else .ok (setCfg s { s.cfg with owners := r.words })
  else if r.typ = 8 then
    if n ≠ 8 || seen.secrets ≠ 0 then bad
    else .ok (setCfg s { s.cfg with secret := r.words, seen := { seen with secrets := 1 } })
  else
    let ps := (List.range n).map (fun i => r.target + i)
    if 96 < r.target + n || ps.any seen.pins.contains || !r.words.all uioOk then bad
    else
      let u := (List.range n).foldl (fun l i => aset l (r.target + i) (w i)) s.cfg.uio
      .ok (setCfg s { s.cfg with uio := u, seen := { seen with pins := seen.pins ++ ps } })

/-- The records of one frame take effect in order. -/
def recsWrite (fr : Nat) : List CRec → State → Except (Nat × Nat) State
  | [], s => .ok s
  | r :: t, s =>
    match recWrite fr s r with
    | .error e => .error e
    | .ok s' => recsWrite fr t s'

/-- What a partial stream's records may hold (R354): types 1 and 6, type 1 only the class and pool registers
and THM_CAP. -/
def partialRec (r : CRec) : Bool :=
  r.typ = 6 || (r.typ = 1 && (r.target = F.THM_CAP_cap.addr && r.words.length = 1
    || (0x41000 ≤ r.target && r.target + 4 * r.words.length ≤ 0x43800)))

end Sys2Proof.Machine
end

