-- ==== Sys2Proof/Machine/Checks.lean ====
section
/-! DEFINITION. The loader's checks over a whole stream (R346 step 4): lanes, fronthaul tables, pools and
kernels, and the settings that chapters bind to each other. Every one refuses with CFG_ADDR reason 3. -/

namespace Sys2Proof.Machine

/-! Lanes (R237 to R242, R250, R367). -/

/-- The line rate a protocol allows, in 0.25 Mb/s (R237, R238). -/
def rateOk (proto rate : Nat) (pam4 : Bool) : Bool :=
  if proto = 1 then rate = 41250
  else if proto = 2 || proto = 4 || proto = 8 then rate = 103125
  else if proto = 3 || proto = 5 then rate = 212500
  else if proto = 6 then 5000 ≤ rate && rate ≤ 130000 && !pam4
  else if pam4 then 112500 ≤ rate && rate ≤ 225000
  else 5000 ≤ rate && rate ≤ 112500

/-- The FEC a protocol allows (R237); a twin lane runs RS(528,514) (R367), and a lane that is off may name any but 3. -/
def fecOk (proto fec : Nat) : Bool :=
  if proto = 2 || proto = 4 then fec ≤ 1
  else if proto = 3 || proto = 5 then fec = 2
  else if proto = 8 then fec = 1
  else if proto = 0 then fec ≤ 2
  else fec = 0

/-- The sink a protocol allows: 0 engine, 1 bin (R237). -/
def sinkOk (proto : Nat) (bin : Bool) : Bool :=
  if proto = 4 || proto = 5 then !bin else if proto = 7 then bin else true

/-- The lanes a port of a protocol has (R237); those of the twin link are named by TW_CFG.lane_mask (R367). -/
def widthOk (proto w : Nat) : Bool :=
  if proto = 4 then w = 4 else if proto = 5 then w = 2 else if proto = 6 then 1 ≤ w && w ≤ 8
  else if proto = 0 || proto = 8 then true else w = 1

/-- Lane `l`'s settings break a rule. -/
def laneBad (s : State) (l : Nat) : Bool :=
  let p := s.get (F.LN_CFG_proto l)
  let g := l / 8
  let ports := portLanes s l
  let same := ports.all (fun m => s.get (F.LN_CFG_proto m) = p && m / 8 = g && m < 128
    && s.get (F.LN_RATE_rate_q m) = s.get (F.LN_RATE_rate_q l)
    && s.get (F.LN_PORT_first m) = s.get (F.LN_PORT_first l)
    && s.get (F.LN_PORT_width_m1 m) = s.get (F.LN_PORT_width_m1 l))
  let multi := p = 4 || p = 5 || p = 6
  let abs := fun (n : Nat) => (toInt 6 n).natAbs
  let taps := (List.range (candCount s l)).any (fun c => 63 < abs (s.get (F.LN_EQ_TX_c_m2 l c))
    + abs (s.get (F.LN_EQ_TX_c_m1 l c)) + s.get (F.LN_EQ_TX_c_0 l c) + abs (s.get (F.LN_EQ_TX_c_p1 l c)))
  let period := s.get (F.TB_SYSREF_CFG_period_tk (s.get (F.LN_JESD_CFG_sysref l)))
  if taps || !fecOk p (s.get (F.LN_CFG_fec l)) then true
  else if p = 0 then false
  else 8 < p || !rateOk p (s.get (F.LN_RATE_rate_q l)) (s.flag (F.LN_RATE_pam4 l))
    || !sinkOk p (s.flag (F.LN_CFG_sink l)) || !widthOk p (s.get (F.LN_PORT_width_m1 l) + 1)
    || (multi && !(same && ports.contains l))
    || (p = 6 && (freeMode s l || (match lemc s l with
      | none => true
      | some t => t = 0 || period = 0 || period % t ≠ 0)))

/-- The clock choices of lane group `g` do not agree with its mode (R242). A group with no active lane whose settings
all hold their reset values is not judged: its default mode is locked and its default reference LREF (log entry 148). -/
def groupBad (s : State) (g : Nat) : Bool :=
  let sel := s.get (F.CLK_LGRP_CFG_ref_sel g)
  let fb := s.get (F.CLK_LGRP_CFG_fb_sel g)
  let used := freeMode s (8 * g) || sel ≠ 0 || fb ≠ 3 || (groupLanes g).any (fun l => s.get (F.LN_CFG_proto l) ≠ 0)
  used && (if freeMode s (8 * g) then sel = 3 else !(sel = 1 && fb = 3))

/-- The twin lanes break R367. -/
def twinLanesBad (s : State) : Bool :=
  let m := s.get F.TW_CFG_lane_mask
  let n := popCount 8 m
  (s.flag F.TW_CFG_enable && (!(n = 2 || n = 4)
    || (List.range 8).any (fun k => bitAt m k && s.get (F.LN_CFG_proto (120 + k)) ≠ 8)))
  || (List.range 128).any (fun l => s.get (F.LN_CFG_proto l) = 8
    && !(s.flag F.TW_CFG_enable && 120 ≤ l && bitAt m (l - 120)))

/-! Fronthaul tables (R266, R271 to R276, R294). -/

/-- The nominal data rate of a lane's port in Gb/s (R266). -/
def portGb (s : State) (l : Nat) : Nat :=
  let p := s.get (F.LN_CFG_proto l)
  if p = 1 then 10 else if p = 2 then 25 else if p = 3 then 50 else if p = 4 || p = 5 then 100 else 0

/-- Lane `l` is the lowest lane of an engine-sink Ethernet port. -/
def isPort (s : State) (l : Nat) : Bool :=
  1 ≤ s.get (F.LN_CFG_proto l) && s.get (F.LN_CFG_proto l) ≤ 5 && !s.flag (F.LN_CFG_sink l)
    && (portLanes s l).head? = some l

/-- The assignment of ports to engines breaks R266. -/
def enginesBad (s : State) : Bool :=
  let ports := (List.range 128).filter (isPort s)
  ports.any (fun l => (portLanes s l).any (fun m => laneEngine s m ≠ laneEngine s l))
  || (List.range 4).any (fun e =>
    100 < (ports.filter (fun l => laneEngine s l = e)).foldl (fun n l => n + portGb s l) 0)

/-- The slice length of section entry `e` of flow `f` in 64-byte units (R276). -/
def sliceUnits (s : State) (f e : Nat) : Nat :=
  let per := if flowF s f 0 16 1 = 1 && flowF s f 0 21 1 = 1 then 1 + 3 * flowM s f else 48
  ceilDiv (bits (secW s e 1) 10 9 * per) 64

/-- The valid section entries of flow `f`. -/
def flowSecs (s : State) (f : Nat) : List Nat :=
  ((List.range (secCount s f)).map (secEntry s f)).filter (fun e => secW s e 0 % 2 = 1)

/-- The loader's derived word of every section of a valid flow (R274). -/
def deriveSlices (s : State) : State :=
  (flowList s).foldl (fun t f => (flowSecs t f).foldl (fun u e =>
    setFh u { u.fh with sec := putWord u.fh.sec (4 * e + 3) (sliceUnits u f e % 2048) }) t) s

/-- Some pair of `l` in its order satisfies `p`. -/
def somePair {α : Type} (p : α → α → Bool) : List α → Bool
  | [] => false
  | x :: t => t.any (p x) || somePair p t

/-- Two ranges of a start and a length meet. -/
def meets (a m b n : Nat) : Bool := a < b + n && b < a + m

/-- Flow `f`'s own fields or sections break a rule of R266, R273, R274 or R276. -/
def flowBad (s : State) (f : Nat) : Bool :=
  let m := flowF s f 0 17 4
  let jesd := flowF s f 0 29 1 = 1
  let cnt := secCount s f
  let es := flowSecs s f
  let k := flowClass s f
  let far := fun (x : Int) => x < -4915200 || 4915200 < x
  let num := flowNum s f
  let p := flowPort s f
  (1 ≤ m && m ≤ 6) || !s.flag (F.SCH_CLASS_CFG_defined k)
  || (if jesd then !(isJesd s p && !(portLanes s p).any (fun l => s.flag (F.LN_CFG_sink l)) && s.get (F.LN_PORT_first p) = p && flowEgress s f && flowF s f 0 21 1 = 0)
      else !isPort s p)
  || cnt < 1 || 64 < cnt || 65536 < secFirst s f + cnt
  || flowF s f 7 0 11 < 2 || 1024 < flowF s f 7 0 11 || numSym s num = 0
  || far (winOpen s f) || far (winClose s f) || (flowEgress s f && far (flowOffset s f)) || winClose s f < winOpen s f
  || (!flowEgress s f && classIn s k < flowF s f 7 0 11)
  || es.any (fun e => bits (secW s e 0) 1 14 ≠ f || bits (secW s e 1) 10 9 = 0
      || bits (secW s e 2) 0 11 = 0 || numSym s num < bits (secW s e 1) 19 11 + bits (secW s e 2) 0 11
      || (!flowEgress s f && bits (secW s e 2) 16 11 = 0)
      || flowF s f 7 0 11 < bits (secW s e 2) 16 11 + sliceUnits s f e)
  || somePair (fun a b => meets (bits (secW s a 2) 16 11) (sliceUnits s f a)
      (bits (secW s b 2) 16 11) (sliceUnits s f b)) es

/-- Two flows break a rule between them (R274, R276). -/
def flowsClash (s : State) (f g : Nat) : Bool :=
  meets (secFirst s f) (secCount s f) (secFirst s g) (secCount s g)
  || meets (flowF s f 6 0 23) (flowRing s f * flowF s f 7 0 11) (flowF s g 6 0 23)
      (flowRing s g * flowF s g 7 0 11)
  || (flowPort s f = flowPort s g && flowF s f 1 0 16 = flowF s g 1 0 16)
  || (flowClass s f = flowClass s g && (flowF s f 2 16 4 ≠ flowF s g 2 16 4
      || flowF s f 2 20 4 = flowF s g 2 20 4))

/-- The ticks a symbol of egress flow `f` occupies on its port (R294, log entry 30): each expected section
is one frame with its preamble and gap; a C-plane section's content is its slice (R293). -/
def slotTk (s : State) (f sym : Nat) : Nat :=
  let head := 14 + (if flowF s f 10 31 1 = 1 then 4 else 0) + 4 + 4 + 4
  let head4 := head + 4 + (if flowF s f 0 15 1 = 1 then 2 else 0)
  let per := if flowF s f 0 21 1 = 1 then 1 + 3 * flowM s f else 48
  let body := fun i => if flowF s f 0 2 1 = 1 then head + 64 * sliceUnits s f (secEntry s f i)
    else head4 + bits (secW s (secEntry s f i) 1) 10 9 * per
  let bytes := ((List.range (secCount s f)).filter (fun i => secCovers s f i sym)).foldl
    (fun n i => n + max 64 (body i + 4) + 20) 0
  if portGb s (flowPort s f) = 0 then 0
  else ceilDiv (bytes * 8 * 98304) (100000 * portGb s (flowPort s f))

/-- The slots of egress flow `f` in a frame, as (start within the frame, ticks); a symbol with no section has none. -/
def slotsOf (s : State) (f : Nat) : List (Nat × Nat) :=
  ((List.range (numSym s (flowNum s f))).map (fun sym =>
    ((((numOff s (flowNum s f) sym : Int) + flowOffset s f) % (frameTk : Int)).toNat, slotTk s f sym))).filter
    (fun x => x.2 != 0)

/-- The slots of two egress flows on one port overlap (R294). -/
def slotsClash (s : State) (f g : Nat) : Bool :=
  let eg := fun x => flowEgress s x && flowF s x 0 29 1 = 0
  eg f && eg g && flowPort s f = flowPort s g
    && (slotsOf s f).any (fun a => (slotsOf s g).any (fun b =>
      meets a.1 a.2 b.1 b.2 || meets (a.1 + frameTk) a.2 b.1 b.2 || meets a.1 a.2 (b.1 + frameTk) b.2))

/-- The fronthaul tables break a rule. -/
def fronthaulBad (s : State) : Bool :=
  let fs := flowList s
  enginesBad s || fs.any (flowBad s) || somePair (flowsClash s) fs || somePair (slotsClash s) fs

/-! Classes, pools and images (R119, R122, R158, R159). -/

/-- The contexts that the classes of a pool use. -/
def poolKernels (s : State) (pool : Nat) : List Nat :=
  (List.range 8).filter (fun c => (defined s).any (fun k =>
    classPool s k = pool && s.get (F.SCH_CLASS_CFG_kernel k) = c))

/-- The image in context `c` of logical bin `l`. -/
def imageAt (s : State) (l c : Nat) : Option Nat := aget s.cfg.mem (8 * physOf s l + c)

/-- A class's fields or its pool break R159 or R184. -/
def classesBad (s : State) : Bool :=
  (defined s).any (fun k => 4 < s.get (F.SCH_CLASS_CFG_max_succ k) || 1024 < classIn s k
    || !s.flag (F.SCH_POOL_CFG_defined (classPool s k)))

/-- Images `a` and `b` are the same: the same words, a shorter list going on with zeros, and the same settings
(R119). -/
def sameImage (s : State) (a b : Nat) : Bool :=
  a = b || (List.range 24).all (fun n =>
    let x := (aget s.cfg.image (32 * a + n)).getD []
    let y := (aget s.cfg.image (32 * b + n)).getD []
    (List.range (max x.length y.length)).all (fun i => x.getD i 0 = y.getD i 0)
      && (aget s.cfg.elems (32 * a + n)).getD [] = (aget s.cfg.elems (32 * b + n)).getD [])

/-- The contexts `x` and `y` hold the same image or both hold none. -/
def sameCtx (s : State) : Option Nat → Option Nat → Bool
  | some a, some b => sameImage s a b
  | none, none => true
  | _, _ => false

/-- The bins of a pool lack a kernel, or hold different images in one (R119, R159). -/
def poolImagesBad (s : State) (pool : Nat) : Bool :=
  (poolKernels s pool).any (fun c =>
    match poolBins s pool with
    | [] => false
    | l :: t => (imageAt s l c).isNone || t.any (fun m => !sameCtx s (imageAt s m c) (imageAt s l c)))

/-- A target of the replication list breaks R122 or names an image the stream does not carry (R342). -/
def targetsBad (s : State) (seen : StreamSeen) : Bool :=
  seen.targets.any (fun t => seen.image / 32 ≤ t.2
    || (binKind s (physOf s (t.1 / 8)) = Kind.scheduled && seen.fabric.contains t.2))

/-! The settings of other chapters. -/

/-- A best-effort priority mask names a priority of a DEADLINE flow, or a twin lane has pfc_en (R221). -/
def pfcBad (s : State) : Bool :=
  (List.range 128).any (fun l =>
    (s.flag (F.THM_PFC_LANE_pfc_en l) && s.get (F.LN_CFG_proto l) = 8)
    || (flowList s).any (fun f => flowPort s f = l && !flowEgress s f && isDeadline s (flowClass s f)
      && bitAt (s.get (F.THM_PFC_LANE_be_prio l)) (flowF s f 10 28 3)))

/-- The rules of R215, R225, R313, R330, R375, R376, R462, R486 and R512 are broken. -/
def settingsBad (s : State) : Bool :=
  let groups := (List.range 32).filter (fun g => s.flag (F.LFT_GRP_CFG_mirror_src g))
  let rp := physOf s (s.get F.EV_RP_CFG_reg_bin)
  !(threshSet s 1 ≤ threshSet s 2 && threshSet s 2 < threshSet s 3 && threshSet s 3 < threshSet s 4)
  || (List.range 16).any (fun i => s.get (F.THM_SHE_kind i) = 2 && 15 < s.get (F.THM_SHE_id i))
  || (List.range 32).any (fun g => s.get (F.LFT_GRP_CFG_dorm_mode g) = 3)
  || (List.range 64).any (fun c => s.get (F.LFT_DMA_CFG_ctl c) = 3)
  || 8 < groups.length || s.get F.TW_META_meta_count < ceilDiv groups.length 4
  || !(s.get F.SPR_CFG_canary_retire < s.get F.SPR_CFG_canary_warn
      && s.get F.SPR_CFG_canary_fail < s.get F.SPR_CFG_canary_retire)
  || (s.flag F.EV_RP_CFG_enable && !(binKind s rp = Kind.static && shelfOf rp = 0
      && !s.flag (F.FAB_BIN_STATUS_lane_att rp)))
  || (s.flag F.CFG_PR_CFG_enable
      && !(binKind s (physOf s (s.get F.CFG_PR_CFG_rw_bin)) = Kind.static
        && (s.cfg.owners.getD (s.get F.CFG_PR_CFG_stage_group) 338) = 338))

/-- The threshold values above the grade's defaults are set to them, with THM_THRESH_CLAMP (R215). -/
def threshClamp (s : State) : State :=
  [(0, F.THM_THRESH_warn, Rst.warn), (1, F.THM_THRESH_throttle, Rst.throttle),
    (2, F.THM_THRESH_crit, Rst.crit), (3, F.THM_THRESH_shut, Rst.shut)].foldl
    (fun t p => if (p.2.2 : Int) < toInt 8 (t.get p.2.1) then raise (t.set p.2.1 p.2.2) 1018 0x31 3 p.1
      else t) s

/-- The checks over a whole stream (R346 step 4); `full` for a full stream. The answer is true when a
rule is broken. -/
def streamBad (s : State) (full : Bool) : Bool :=
  classesBad s || (List.range 32).any (poolImagesBad s) || targetsBad s s.cfg.seen
  || (full && ((List.range 128).any (laneBad s) || (List.range 16).any (groupBad s) || twinLanesBad s || fronthaulBad s || pfcBad s
    || settingsBad s || s.cfg.seen.adms ≠ 1
    || s.cfg.seen.secrets ≠ (if s.flag F.TW_CFG_enable then 1 else 0)))

/-- The first trigger entry that R69 refuses, with the frame that carries it (R512). -/
def trgBadFrame (s : State) : Option Nat :=
  (s.cfg.seen.trgs.find? (fun x => trgRefusal s x.1 (s.trg x.1).data ≠ 0)).map (fun x => x.2)

end Sys2Proof.Machine
end

