-- ==== Sys2Proof/Machine/Twin.lean ====
section
/-! DEFINITION. The twin (R366 to R396): lines and their protection, mirroring, READY, keys,
heartbeats, detection, takeover and requests. -/

namespace Sys2Proof.Machine

/-! Lines (R375, R376). -/

/-- The groups marked mirror_src, ascending. -/
def mirrorGroups (s : State) : List Nat :=
  (List.range 32).filter (fun g => s.flag (F.LFT_GRP_CFG_mirror_src g))

/-- The number of lines that are mirrored. -/
def lineTotal (s : State) : Nat := 8451 + 262144 * (mirrorGroups s).length

/-- The mirror address of the line of index `i` in ascending order. -/
def lineAddr (s : State) (i : Nat) : Nat :=
  if i < 256 then i
  else if i < 8448 then 2 ^ 28 + (i - 256)
  else if i < 8451 then 2 * 2 ^ 28 + (i - 8448)
  else 3 * 2 ^ 28 + (mirrorGroups s).getD ((i - 8451) / 262144) 0 * 2 ^ 18 + (i - 8451) % 262144

/-- A mirror address within the regions of R375. -/
def lineLegal (s : State) (a : Nat) : Bool :=
  let r := a / 2 ^ 28
  let x := a % 2 ^ 28
  if r = 0 then x < 256 else if r = 1 then x < 8192 else if r = 2 then x < 3
  else r = 3 && x < 2 ^ 23 && s.flag (F.LFT_GRP_CFG_mirror_src (x / 2 ^ 18))

/-- The first Loft word of a region 3 line. -/
def lineWord (a : Nat) : Nat := a / 2 ^ 18 % 32 * 2 ^ 21 + a % 2 ^ 18 * 8

/-- The first metadata word of a region 3 line (R376): 4 MiB for each of up to 4 groups in each meta
group. -/
def metaWord (s : State) (a : Nat) : Nat :=
  let i := ((mirrorGroups s).takeWhile (fun g => g != a / 2 ^ 18 % 32)).length
  let m := if i < 4 then s.get F.TW_META_meta0 else s.get F.TW_META_meta1
  m * 2 ^ 21 + i % 4 * 2 ^ 19 + a % 2 ^ 18 * 2

/-- A Loft word as the mirror engine finds it in its own store: none when poisoned or uncorrectable. -/
def loftWord (s : State) (w : Nat) : Option Nat :=
  if !vote (s.loft.validAt w) then some 0
  else match decodeWord (s.loft.dataAt w) (s.loft.checkAt w) w with
    | .clean d => some d
    | .corrected d => some d
    | _ => none

/-- Eight words as one number, none when any is missing. -/
def joinWords (l : List (Option Nat)) : Option Nat :=
  if l.any Option.isNone then none
  else some (((List.range 8).map (fun i => ((l.getD i none).getD 0) * 2 ^ (64 * i))).foldl (· + ·) 0)

/-- A stored line: its ciphertext and metadata words; a line never received has key ID 0. An
uncorrectable word reads as such a line (R381). -/
def lineGet (s : State) (a : Nat) : TwinLine :=
  if a / 2 ^ 28 = 3 then
    let m := metaWord s a
    match joinWords ((List.range 8).map (fun i => loftWord s (lineWord a + i))),
      loftWord s m, loftWord s (m + 1) with
    | some d, some t, some i => ⟨d, t, i⟩
    | _, _, _ => ⟨0, 0, 0⟩
  else (aget s.twin.mirror a).getD ⟨0, 0, 0⟩

/-- The metadata's version, session, key ID and flags (R376). -/
def TwinLine.version (l : TwinLine) : Nat := bits l.info 0 32
def TwinLine.session (l : TwinLine) : Nat := bits l.info 32 16
def TwinLine.key (l : TwinLine) : Nat := bits l.info 48 8
def TwinLine.stale (l : TwinLine) : Bool := bitAt l.info 56 || l.key = 0

/-- The metadata word of a version, session, key ID and STALE flag. -/
def infoOf (v ses key : Nat) (stale : Bool) : Nat :=
  v % 2 ^ 32 + ses % 2 ^ 16 * 2 ^ 32 + key % 256 * 2 ^ 48 + ofBool stale * 2 ^ 56

/-- A line is stored; TW_STALE follows (R376, R381). -/
def linePut (s : State) (a : Nat) (l : TwinLine) : State :=
  let was := (lineGet s a).stale
  let s := if a / 2 ^ 28 = 3 then
      let m := metaWord s a
      let f := (List.range 8).foldl (fun (x : Loft) i => x.store (lineWord a + i) (bits l.data (64 * i) 64))
        s.loft
      s.setLoft ((f.store m l.tag).store (m + 1) l.info)
    else setTw s { s.twin with mirror := aset s.twin.mirror a l }
  let n := s.get F.TW_STALE_lines
  s.set F.TW_STALE_lines (if l.stale then (if was then n else n + 1) else (if was then n - 1 else n))

/-- The region 3 line whose ciphertext or metadata word `w` of the standby's own store holds (R376). -/
def storedLine (s : State) (w : Nat) : Option Nat :=
  let g := wGroup w
  let gs := mirrorGroups s
  let n := s.get F.TW_META_meta_count
  if s.flag F.TW_STATUS_role || s.twin.owners = [] then none
  else if gs.contains g then some (loftLine w)
  else
    let k := w / 2 ^ 19 % 4 + (if 0 < n && g = s.get F.TW_META_meta0 then 0
      else if 1 < n && g = s.get F.TW_META_meta1 then 4 else 8)
    (gs[k]?).map (fun h => 3 * 2 ^ 28 + h * 2 ^ 18 + w / 2 % 2 ^ 18)

/-- TW_STALE follows a change of word `w` of the standby's store from state `was` (R381): a line with an uncorrectable
word is STALE. -/
def staleFollow (was s : State) (w : Nat) : State :=
  match storedLine s w with
  | none => s
  | some a =>
    let n := s.get F.TW_STALE_lines + ofBool (lineGet s a).stale - ofBool (lineGet was a).stale
    s.set F.TW_STALE_lines n

/-- The groups that hold the lines' metadata (R376). -/
def metaGroups (s : State) : List Nat :=
  [s.get F.TW_META_meta0, s.get F.TW_META_meta1].take (s.get F.TW_META_meta_count)

/-- The 32 banks of each group. -/
def banksOf (gs : List Nat) : List Nat := gs.flatMap (fun g => (List.range 32).map (fun k => 32 * g + k))

/-- The standby's store starts empty: every line is STALE (R382). -/
def linesClear (s : State) : State :=
  let s := clearBanks s (banksOf (metaGroups s))
  (setTw s { s.twin with mirror := [] }).setAll
    [(F.TW_STALE_lines, lineTotal s), (F.TW_BULK_percent, 0), (F.TW_BULK_done, 0)]

/-! The content of regions 0 to 2 (log entry 22 gives the places within a line). -/

/-- Line `i` of class `k`. -/
def classPack (s : State) (k i : Nat) : Nat :=
  if i = 0 then
    let p := (aget s.sch.police k).getD (0, 0)
    s.get (F.SCH_CLASS_SEQ_next k) + s.get (F.SCH_CLASS_WIN_TOP_h k) * 2 ^ 32
      + s.get (F.SCH_CLASS_STATE_win_empty k) * 2 ^ 64
      + ofBool (aget s.sch.police k).isSome * 2 ^ 65 + p.2 % 256 * 2 ^ 72
      + s.get (F.SCH_CLASS_TPL_RING_pos k) * 2 ^ 80 + p.1 * 2 ^ 128
  else if i = 1 then winMap s k % 2 ^ 512
  else if i = 2 then winMap s k / 2 ^ 512
  else 0

/-- Class `k` takes the state of its lines. -/
def classUnpack (s : State) (k d0 d1 d2 : Nat) : State :=
  let s := s.setAll [(F.SCH_CLASS_SEQ_next k, bits d0 0 32), (F.SCH_CLASS_WIN_TOP_h k, bits d0 32 32),
    (F.SCH_CLASS_STATE_win_empty k, bits d0 64 1), (F.SCH_CLASS_TPL_RING_pos k, bits d0 80 8)]
  let pol := if bitAt d0 65 then aset s.sch.police k (bits d0 128 65, bits d0 72 8)
    else adel s.sch.police k
  { s with sch := { s.sch with
    police := pol, win := aset s.sch.win k (d1 % 2 ^ 512 + d2 % 2 ^ 512 * 2 ^ 512) } }

/-- Class `k` is reinitialised (R390): window empty, policing and q cleared. -/
def classStale (s : State) (k : Nat) : State :=
  let s := s.setAll [(F.SCH_CLASS_WIN_TOP_h k, 0), (F.SCH_CLASS_STATE_win_empty k, 1),
    (F.SCH_CLASS_TPL_RING_pos k, 0)]
  { s with sch := { s.sch with police := adel s.sch.police k, win := adel s.sch.win k } }

/-- The last IDs accepted on flow `f`. -/
def flowIds (s : State) (f : Nat) : List Nat := (aget s.fh.ids f).getD []

/-- The ID `b` before the one expected on flow `f`. -/
def idBack (s : State) (f b : Nat) : Nat := (flowF s f 13 0 8 + 256 - b) % 256

/-- The 32 bytes of flow `f`. -/
def flowPack (s : State) (f : Nat) : Nat :=
  let m := (List.range 64).foldl
    (fun n i => n + ofBool ((flowIds s f).contains (idBack s f (i + 1))) * 2 ^ i) 0
  let q := ((aget s.fh.quarEnd f).getD 0) - s.now
  flowW s f 13 + flowW s f 14 * 2 ^ 32 + flowW s f 15 * 2 ^ 64 + m * 2 ^ 96 + q % 2 ^ 96 * 2 ^ 160

/-- Flow `f` takes the state of its 32 bytes; no symbol is open (R390). -/
def flowUnpack (s : State) (f d : Nat) : State :=
  let s := setFlowW (setFlowW (setFlowW s f 13 (bits d 0 32)) f 14 (bits d 32 32)) f 15 (bits d 64 32)
  let s := setFlowF s f 13 10 4 0
  let ids := ((List.range 64).filter (fun i => bitAt d (96 + i))).map (fun i => idBack s f (i + 1))
  let s := setFh s { s.fh with ids := if ids = [] then adel s.fh.ids f else aset s.fh.ids f ids }
  let q := if flowF s f 13 9 1 = 1 then aset s.fh.quarEnd f (s.now + bits d 160 96)
    else adel s.fh.quarEnd f
  setFh s { s.fh with quarEnd := q }

/-- A flow with a STALE line takes its load values (R390). -/
def flowStale (s : State) (f : Nat) : State :=
  let s := setFlowW (setFlowW (setFlowW s f 13 0) f 14 0) f 15 0
  setFh s { s.fh with ids := adel s.fh.ids f, quarEnd := adel s.fh.quarEnd f }

/-- Line `i` of the time base: 0 its state, 1 and 2 the models. -/
def tbPack (s : State) (i : Nat) : Nat :=
  if i = 0 then
    s.get F.TB_FREQ_CORR_corr + s.get F.TB_PHASE_ERR_phase_err * 2 ^ 32
      + s.get F.TB_STATUS_state * 2 ^ 64 + s.get F.TB_STATUS_fp_valid * 2 ^ 66
  else
    let ws := (s.model (i - 1)).words
    (List.range 16).foldl (fun n k => n + ws.getD k 0 * 2 ^ (32 * k)) 0

/-- The model words of a line. -/
def wordsOf (d : Nat) : List Nat := (List.range 16).map (fun k => bits d (32 * k) 32)

/-- The words of a region 3 line are read under owner ID 337 with the counts of R320. -/
def readLoftLine (s : State) (a : Nat) : Option Nat × State :=
  let r := (List.range 8).foldl (fun (x : List (Option Nat) × State) i =>
    let y := readWord x.2 (lineWord a + i) 337
    (x.1 ++ [y.1], y.2)) ([], s)
  (joinWords r.1, r.2)

/-- The content of a line in the active. -/
def lineRead (s : State) (a : Nat) : Option Nat × State :=
  let x := a % 2 ^ 28
  let r := a / 2 ^ 28
  if r = 0 then (some (classPack s (x / 4) (x % 4)), s)
  else if r = 1 then (some (flowPack s (2 * x) + flowPack s (2 * x + 1) * 2 ^ 256), s)
  else if r = 2 then (some (tbPack s x), s)
  else readLoftLine s a

/-! The protection of a line (R374, R377). -/

/-- The keys of session `ses` and key ID `k` (R374): the 96 bytes of HKDF-SHA-384 with pair_psk as salt, the session's
ECDH secret, and "FS4T-twin", the session and the ID as info. -/
def twKeys (s : State) (ses k : Nat) : List Nat :=
  hkdf384 (s.cfg.secret.flatMap (leBytes 4)) (leBytes 48 (Config.ecdhSecret s.twin.pairN ses))
    ([0x46, 0x53, 0x34, 0x54, 0x2D, 0x74, 0x77, 0x69, 0x6E] ++ leBytes 2 ses ++ [k % 256])

/-- The tweak of a line: its mirror address in bytes 0 to 3 and the key ID in byte 4. -/
def lineTweak (a k : Nat) : Nat := a % 2 ^ 32 + k % 256 * 2 ^ 32

/-- The ciphertext of a line. -/
def lineEnc (s : State) (ses k a d : Nat) : Nat := xtsEnc (twKeys s ses k) (lineTweak a k) d

/-- The tag of a ciphertext: GMAC under the IV of address, version, session and ID, over the ciphertext, the address and
the version, its first 64 bits. -/
def tagOf (s : State) (ses k a v c : Nat) : Nat :=
  gmac64 (bytesLe ((twKeys s ses k).drop 64)) (leBytes 4 a ++ leBytes 4 v ++ leBytes 2 ses ++ [k % 256, 0])
    (leBytes 64 c ++ leBytes 4 a ++ leBytes 4 v)

/-! Sending lines (R378, R383). -/

/-- The key ID and the session in use. -/
def twKey (s : State) : Nat := s.get F.TW_STATUS_key_id
def twSes (s : State) : Nat := s.get F.TW_EPOCH_session

/-- The last version of a key ID: 2^32 − 2^16 (R383). -/
def lastVersion : Nat := 2 ^ 32 - 2 ^ 16

/-- The next session's keys are asked for (R384). -/
def keyAsk (s : State) : State :=
  twSend (setTw s { s.twin with tm := { s.twin.tm with rekey := s.now } }) (.control (.key true))

/-- A rotation starts (R383, R384): later records use the next key ID; beyond ID 15 that is ID 1 of
the next session, once it is agreed. -/
def startRot (s : State) (forced : Bool) : State :=
  let k := twKey s
  if s.twin.rot.isSome || (k = 15 && !s.twin.agreed) then s
  else
    let ses := if k = 15 then (twSes s + 1) % 2 ^ 16 else twSes s
    let id := if k = 15 then 1 else k + 1
    let s := setTw s { s.twin with
      rot := some (twSes s, k), rotFlushed := false, keys := s.twin.keys ++ [(ses, id)]
      agreed := s.twin.agreed && k != 15 }
    let s := raise ((s.set F.TW_STATUS_key_id id).set F.TW_EPOCH_session ses) 1004 0x40 3
      (id + ofBool forced * 16)
    let s := if k = 15 then raise s 1004 0x42 3 ses else s
    if id = 15 then keyAsk s else s

/-- The blocks of 16 bytes in which two lines differ, as a mask. -/
def blockDiff (a b : Nat) : Nat :=
  (List.range 4).foldl (fun m i => m + ofBool (bits a (128 * i) 128 != bits b (128 * i) 128) * 2 ^ i) 0

/-- The blocks of `d` that `mask` names, packed in block order. -/
def packBlocks (mask d : Nat) : Nat :=
  let bs := ((List.range 4).filter (fun i => bitAt mask i)).map (fun i => bits d (128 * i) 128)
  (bs.foldr (fun b n => b + n * 2 ^ 128) 0)

/-- The line with the blocks of a delta in place (R380). -/
def mergeBlocks (old mask data : Nat) : Nat :=
  (List.range 4).foldl (fun n i =>
    n + (if bitAt mask i then bits data (128 * popCount i mask) 128 else bits old (128 * i) 128)
      * 2 ^ (128 * i)) 0

/-- The next version of a line under the key in use: records continue after the last one sent or, in
a device that was the standby, stored under that key. -/
def nextVersion (s : State) (a : Nat) : Nat :=
  match aget s.twin.sent a with
  | some x => if x.key = twKey s && x.session = twSes s then x.version + 1 else 1
  | none =>
    let l := lineGet s a
    if l.key = twKey s && l.session = twSes s then l.version + 1 else 1

/-- The line is no longer dirty. -/
def undirty (s : State) (a : Nat) : State :=
  setTw s { s.twin with dirty := s.twin.dirty.filter (fun p => p.1 != a), stalled := ndel s.twin.stalled a }

/-- One line is read, encrypted and sent (R377, R378). A poisoned line sends a STALE mark and stays
dirty. -/
def lineSend (s : State) (a : Nat) : State :=
  let r := lineRead s a
  let s := r.2
  let k := twKey s
  let ses := twSes s
  let v := nextVersion s a
  match r.1 with
  | none =>
    let s := twSend s (.mirror [⟨a, v, k, 2, 0, 0, 0⟩])
    let s := markDirty s a
    let s := setTw s { s.twin with
      stalled := nins a s.twin.stalled, sent := aset s.twin.sent a ⟨k, ses, v, 0, false⟩ }
    raiseOnce s F.TW_CNT_TAG_line_req 1003 0x32 3 a
  | some d =>
    let old := (aget s.twin.sent a).getD ⟨0, 0, 0, 0, false⟩
    let diff := blockDiff old.data d
    let delta := old.full && old.key = k && old.session = ses && diff != 0 && diff != 15
    let c := lineEnc s ses k a d
    let tag := tagOf s ses k a v c
    let rec' : TwinRec := if delta then ⟨a, v, k, 1, diff, tag, packBlocks diff c⟩ else ⟨a, v, k, 0, 0, tag, c⟩
    let s := undirty (twSend s (.mirror [rec'])) a
    let s := setTw s { s.twin with sent := aset s.twin.sent a ⟨k, ses, v, d, true⟩ }
    if lastVersion ≤ v then startRot s true else s

/-- The oldest dirty line to send: regions 0 to 2 before region 3 (R378). -/
def dirtyPick (s : State) : Option Nat :=
  let ok := s.twin.dirty.filter (fun p => !s.twin.stalled.contains p.1 || (lineRead s p.1).1.isSome)
  match ok.find? (fun p => p.1 / 2 ^ 28 != 3) with
  | some p => some p.1
  | none => (ok.head?).map Prod.fst

/-- The next line of the bulk pass at or after index `i`: a rotation's pass leaves out the lines
already sent under the new ID (R382, R383). -/
def bulkNext (s : State) (i : Nat) : Option Nat :=
  (List.range' i (lineTotal s - i)).find? (fun j =>
    s.twin.rot.isNone || (match aget s.twin.sent (lineAddr s j) with
      | some x => !(x.key = twKey s && x.session = twSes s)
      | none => true))

/-- One line of the bulk pass is sent; TW_BULK follows. -/
def bulkSend (s : State) (i : Nat) : State :=
  match bulkNext s i with
  | none => (setTw s { s.twin with bulk := none }).setAll [(F.TW_BULK_percent, 100), (F.TW_BULK_done, 1)]
  | some j =>
    let a := lineAddr s j
    let old := aget s.twin.sent a
    let s := setTw s { s.twin with
      bulk := some (j + 1)
      sent := match old with
        | some x => aset s.twin.sent a { x with full := false }
        | none => s.twin.sent }
    lineSend (s.set F.TW_BULK_percent ((j + 1) * 100 / lineTotal s)) a

/-- A line of the bulk pass waits for its share of the link (R369, R382): a lane carries a full record of 88 bytes in
28.46 tk, and the pass takes at most bulk_share percent of the lanes that are UP. -/
def bulkPace (s : State) : State :=
  let p := s.get F.TW_CFG2_bulk_share
  let share := if 10 ≤ p && p ≤ 90 then p else 50
  let t := max (100 * s.now) s.twin.tm.bulk
  let s := s.atNow (ceilDiv t 100)
  setTw s { s.twin with tm := { s.twin.tm with bulk := t + ceilDiv 284560 (share * max 1 (twLanes s).length) } }

/-- MIRROR_LINE_SEND (R378, R382): the oldest dirty line, or when `bulk` the next line of the bulk
pass, is sent while the link path holds. -/
def execMirrorLineSend (bulk : Bool) (s : State) : Res :=
  checked (.mirrorLineSend bulk) <|
    if !twMirrors s || s.twin.linkLost || twLanes s = [] then s
    else if bulk then (match s.twin.bulk with
      | some i => bulkSend (bulkPace s) i
      | none => s)
    else match dirtyPick s with
      | some a => lineSend s a
      | none => s

/-! READY (R382). -/

/-- The conditions of R382 that fail, numbered from 1. -/
def readyFails (s : State) : List Nat :=
  let off := (toInt 32 (s.get F.TW_FP_OFFSET_offset_ns)).natAbs
  (if s.flag F.TW_BULK_done then [] else [1])
  ++ (if s.get F.TW_STALE_lines = 0 then [] else [2])
  ++ (if s.twin.hashOk then [] else [3])
  ++ (if s.get F.TW_LAG_lag_us ≤ max 1 (s.get F.TW_CFG3_lag_max_us) then [] else [4])
  ++ (if off ≤ 4 * s.get F.TW_CFG2_fp_tol then [] else [5])

/-- READY is judged in the standby (R382). -/
def readyJudge (s : State) : State :=
  if !twPaired s || s.flag F.TW_STATUS_role || s.twin.linkLost then s
  else
    let s := if s.get F.TW_STALE_lines = 0 then s.setAll [(F.TW_BULK_percent, 100), (F.TW_BULK_done, 1)]
      else s
    match readyFails s with
    | [] =>
      if s.flag F.TW_STATUS_ready then s
      else raise ((setTw s { s.twin with fails := 0 }).setAll [(F.TW_STATUS_ready, 1),
        (F.TW_STATUS_state, Tw.paired), (F.TW_STATUS_pair_step, 7)]) 1000 0x05 3 0
    | c :: _ =>
      if s.flag F.TW_STATUS_ready then raise (s.set F.TW_STATUS_ready 0) 1000 0x06 4 c else s

/-! Roles (R373, R392). -/

/-- The banks of the mirrored groups. -/
def mirrorBanks (s : State) : List Nat := banksOf (mirrorGroups s)

/-- The mirrored groups go to owner 337, their stream owners kept, and the meta groups with them (R376, R385). -/
def ownTwin (s : State) : State :=
  let bs := mirrorBanks s
  let os := if s.twin.owners = [] then bs.map (fun b => (b, s.bankOwner b)) else s.twin.owners
  let s := setOwners (setTw s { s.twin with owners := os }) (bs ++ banksOf (metaGroups s)) 337
  (mirrorGroups s ++ metaGroups s).foldl groupOwner s

/-- The mirrored groups are handed to their stream owners without clear (R389, R309). -/
def ownStream (s : State) : State :=
  let os := s.twin.owners
  let s := setTw s { s.twin with owners := [] }
  (mirrorGroups s).foldl (fun t g =>
    let o := fun b => (aget os b).getD (t.bankOwner b)
    if (List.range 32).all (fun k => o (32 * g + k) = o (32 * g)) then
      handoverEffect t ⟨true, g, o (32 * g), false, true, t.now⟩
    else (List.range 32).foldl
      (fun u k => handoverEffect u ⟨false, 32 * g + k, o (32 * g + k), false, true, u.now⟩) t) s

/-- The device becomes the active (R373): outputs take their roles and TW_TAKE_N is driven low. -/
def becomeActive (s : State) : State :=
  let s := if s.twin.owners = [] then s else ownStream s
  let s := s.setAll [(F.TW_STATUS_role, 1), (F.TW_STATUS_ready, 0)]
  let s := { s with pins := { s.pins with twTakeN := false, outputsSafe := false } }
  if s.mode = Mode.standby then gatesFollow (setMode (s.set F.RST_MODE_prior 0) Mode.active) else s

/-- The device becomes the standby (R373, R385, R392): outputs suppressed, TW_TAKE_N high, its lines
STALE until a bulk pass. -/
def becomeStandby (s : State) : State :=
  let s := s.setAll [(F.TW_STATUS_role, 0), (F.TW_STATUS_peer_ready, 0), (F.TW_STATUS_ready, 0)]
  let s := { s with pins := { s.pins with twTakeN := true, outputsSafe := true } }
  let s := setTw s { s.twin with dirty := [], stalled := [], sent := [], bulk := none, rot := none }
  let s := linesClear (ownTwin s)
  setMode (s.set F.RST_MODE_prior 1) Mode.standby

/-- This device is to be the active against the twin's HELLO (R373). -/
def roleActive (s : State) : Bool :=
  match s.twin.hello with
  | some (.hello _ _ lo hi strap prio mode epoch) =>
    let me := s.mode = Mode.active
    let he := mode = Mode.active
    let e := s.get F.TW_EPOCH_epoch
    let straps := if (ofBool s.twin.strap = 1) != (strap = 1) then s.twin.strap
      else if s.get F.TW_CFG_priority ≠ prio then prio < s.get F.TW_CFG_priority
      else if s.get F.ID_UID_HI_uid_hi ≠ hi then hi < s.get F.ID_UID_HI_uid_hi
      else lo < s.get F.ID_UID_LO_uid_lo
    if me && he && e ≠ epoch then epoch < e
    else if me != he then me
    else straps
  | _ => s.mode = Mode.active

/-- The twin's epoch in its HELLO. -/
def helloEpoch (s : State) : Nat :=
  match s.twin.hello with
  | some (.hello _ _ _ _ _ _ _ e) => e
  | _ => 0

/-- Both devices run as active (R373 rule 1). -/
def splitPair (s : State) : Bool :=
  match s.twin.hello with
  | some (.hello _ _ _ _ _ _ m _) => s.mode = Mode.active && m = Mode.active
  | _ => false

/-- Steps 4 to 6 of R372: the roles, key ID 1 of session 1, and the bulk mirror. -/
def pairRoles (s : State) : State :=
  let act := roleActive s
  let s := if splitPair s && !act then raise s 1000 0x07 6 (helloEpoch s) else s
  let s := setTw s { s.twin with
    pairN := s.twin.pairN + 1, keys := [(1, 1)], agreed := false, hashOk := true, tm := { s.twin.tm with wait := none, step := s.now }
    rot := none, dirty := [], stalled := [], sent := [] }
  let s := if act then becomeActive s else becomeStandby s
  let s := s.setAll [(F.TW_STATUS_key_id, 1), (F.TW_EPOCH_session, 1), (F.TW_STATUS_state, Tw.sync),
    (F.TW_STATUS_pair_step, 6), (F.TW_PAIR_ID_LO_id, s.free % 2 ^ 32),
    (F.TW_PAIR_ID_HI_id, s.free / 2 ^ 32 % 2 ^ 32), (F.TW_BULK_percent, 0), (F.TW_BULK_done, 0)]
  let s := setTw s.useFree { s.twin with bulk := if act then some 0 else none }
  raise s 1000 0x04 3 (ofBool act + 65536)

/-! Frames (R368, R369). -/

/-- The highest number delivered in order on channel `vc`. -/
def rxHigh (s : State) (vc : Nat) : Nat := (aget s.twin.rxSeq vc).getD 0

/-- An ACK is sent with the highest in-order number of each channel (R369). -/
def ackSend (s : State) : State := twSend s (.ack ((List.range 4).map (rxHigh s)))

/-- TWIN_ACK_TIMER (R369): every 2 µs. -/
def execTwinAckTimer (s : State) : Res :=
  checked .twinAckTimer <|
    if !twOn s then s
    else
      let s := s.atNow s.twin.tm.ack
      ackSend (setTw s { s.twin with tm := { s.twin.tm with ack := s.now + usToTk 2 } })

/-- A LINE_REQ for one line is sent and counted (R377, R380). -/
def lineReqSend (s : State) (a : Nat) : State :=
  twSend (s.bump F.TW_CNT_TAG_line_req 1) (.lineReq [a])

/-- The key of a record is installed or is the next one (R383, R384). -/
def keyKnown (s : State) (ses key : Nat) : Bool :=
  s.twin.keys.contains (ses, key) || (ses = twSes s && key = twKey s + 1 && key ≤ 15)
    || (s.twin.agreed && ses = (twSes s + 1) % 2 ^ 16 && key = 1)

/-- A record under a new key ID brings it into use in the standby (R383, R384). -/
def keyAdopt (s : State) (ses key : Nat) : State :=
  if s.twin.keys.contains (ses, key) then s
  else
    let s := setTw s { s.twin with
      keys := s.twin.keys ++ [(ses, key)], agreed := s.twin.agreed && ses = twSes s }
    let s := (s.set F.TW_STATUS_key_id key).set F.TW_EPOCH_session ses
    if key = 15 then keyAsk s else s

/-- A record whose tag fails is discarded (R377). -/
def tagFail (s : State) (a : Nat) : State :=
  lineReqSend (countRaise s F.TW_CNT_TAG_fail 1003 0x30 4 a) a

/-- The old key ID is erased (R383). -/
def retireKey (s : State) (ses key : Nat) : State :=
  let s := setTw s { s.twin with keys := s.twin.keys.filter (fun p => p != (ses, key)), rot := none }
  raise s 1004 0x41 2 key

/-- Every line is stored under the key in use: the standby retires the ID before it (R383). -/
def retireCheck (s : State) : State :=
  match s.twin.keys.find? (fun p => p != (twSes s, twKey s)) with
  | none => s
  | some p =>
    if (List.range (lineTotal s)).all (fun i =>
        let l := lineGet s (lineAddr s i)
        l.key = twKey s && l.session = twSes s) then
      retireKey (twSend s (.control (.retire p.2))) p.1 p.2
    else s

/-- (session, key ID, version) `a` is greater than `b` (R379). -/
def tripleLt (b a : Nat × Nat × Nat) : Bool :=
  b.1 < a.1 || (b.1 = a.1 && (b.2.1 < a.2.1 || (b.2.1 = a.2.1 && b.2.2 < a.2.2)))

/-- A record is malformed (R379). -/
def recBad (s : State) (r : TwinRec) : Bool :=
  2 < r.kind || !lineLegal s r.addr || (r.kind = 1 && r.mask % 16 = 0) || (r.kind != 1 && r.mask != 0)

/-- A line record is applied in the standby (R377 to R381). -/
def recApply (ses : Nat) (s : State) (r : TwinRec) : State :=
  if recBad s r then s.bump F.TW_CNT_MISC_malformed 1
  else
    let l := lineGet s r.addr
    if !tripleLt (l.session, l.key, l.version) (ses, r.key, r.version) then s.bump F.TW_CNT_LINES_dup 1
    else if !keyKnown s ses r.key then tagFail s r.addr
    else if r.kind = 2 then
      linePut (keyAdopt s ses r.key) r.addr { l with info := infoOf r.version ses r.key true }
    else if r.kind = 0 then
      if tagOf s ses r.key r.addr r.version (r.data % 2 ^ 512) ≠ r.tag then tagFail s r.addr
      else
        retireCheck (linePut (keyAdopt s ses r.key) r.addr
          ⟨r.data % 2 ^ 512, r.tag, infoOf r.version ses r.key false⟩)
    else if tagOf s l.session l.key r.addr l.version l.data ≠ l.tag then
      let s := linePut s r.addr { l with info := infoOf l.version l.session l.key true }
      lineReqSend (countRaise s F.TW_CNT_LINES_merge_refused 1003 0x31 4 r.addr) r.addr
    else
      let c := mergeBlocks l.data (r.mask % 16) r.data
      if tagOf s ses r.key r.addr r.version c ≠ r.tag then tagFail s r.addr
      else
        retireCheck (linePut (keyAdopt s ses r.key) r.addr
          ⟨c, r.tag, infoOf r.version ses r.key l.stale⟩)

/-! Detection, takeover, requests (R387 to R392). -/

/-- The standby takes over (R389): `how` is 1 timeout, 2 declared, 3 handoff. -/
def takeover (s : State) (how : Nat) : State :=
  let late := !s.flag F.TW_STATUS_ready
  let e := (s.get F.TW_EPOCH_epoch + 1) % 2 ^ 16
  let s := setTw s { s.twin with takeAt := some (s.now, how) }
  let s := s.setAll [(F.TW_EPOCH_epoch, e), (F.TW_STATUS_state, Tw.taking), (F.TW_STATUS_ready, 0)]
  raise s 1001 0x14 6 (how + ofBool late * 4 + e * 65536)

/-- A fault of the twin is detected (R387): `how` is 1 timeout, 2 declared, 3 handoff. A device that
does not take over goes on trying to pair (R371). -/
def twinFault (s : State) (how : Nat) : State :=
  if !twPaired s then s
  else if s.flag F.TW_STATUS_role then
    let s := raise s 1001 0x12 5 (ofBool (how != 1))
    let s := setTw s { s.twin with dirty := [], stalled := [], bulk := none, rot := none, handoff := false }
    pairStart (s.setAll [(F.TW_STATUS_state, Tw.alone), (F.TW_STATUS_peer_ready, 0)])
  else if s.flag F.TW_STATUS_ready || s.flag F.TW_CFG_take_if_not_ready then takeover s how
  else
    let s := raise s 1001 0x12 5 (ofBool (how != 1))
    pairStart (s.set F.TW_STATUS_state Tw.unpaired)

/-- A handoff completes once every dirty line is acknowledged (R392). -/
def handoffTry (s : State) : State :=
  if s.twin.handoff && s.twin.dirty = [] && !s.twin.txq.any (fun x => x.vc = 3) then
    let s := twSend s (.fault true)
    let s := setTw s { s.twin with handoff := false }
    let s := becomeStandby s
    pairStep (s.set F.TW_STATUS_state Tw.sync) 6
  else s

/-- The outcome of a request in TW_REQ_STATUS (R392, R396). -/
def reqDone (s : State) (req reason : Nat) : State :=
  let s := s.setAll [(F.TW_REQ_STATUS_last, req), (F.TW_REQ_STATUS_refused, ofBool (reason != 0)),
    (F.TW_REQ_STATUS_reason, reason)]
  if reason = 0 then s else raise s 1000 0x08 3 reason

/-- Request 1 of R392. -/
def twinHandoff (s : State) : State :=
  if !s.flag F.TW_STATUS_role || !s.flag F.TW_CFG_enable then reqDone s 1 1
  else if !twPaired s || !s.flag F.TW_STATUS_peer_ready then reqDone s 1 2
  else handoffTry (setTw (reqDone s 1 0) { s.twin with handoff := true })

/-- TWIN_HANDOFF (R392). -/
def execTwinHandoff (s : State) : Res := checked .twinHandoff (twinHandoff s)

/-- Request 2 of R392. -/
def twinDetach (s : State) : State :=
  if !twPaired s then reqDone s 2 3
  else
    let act := s.flag F.TW_STATUS_role
    let s := reqDone s 2 0
    let s := setTw s { s.twin with
      detached := true, dirty := [], stalled := [], bulk := none, rot := none, handoff := false }
    s.setAll [(F.TW_STATUS_state, if act then Tw.alone else Tw.unpaired), (F.TW_STATUS_ready, 0),
      (F.TW_STATUS_peer_ready, 0), (F.TW_STATUS_pair_step, 0)]

/-- TWIN_DETACH (R392). -/
def execTwinDetach (s : State) : Res := checked .twinDetach (twinDetach s)

/-- Request 3 of R392. -/
def twinPair (s : State) : State :=
  if twPaired s then reqDone s 3 4
  else
    let s := setTw (reqDone s 3 0) { s.twin with detached := false, fails := 0 }
    if twOn s then pairStart s else s

/-- TWIN_PAIR (R392). -/
def execTwinPair (s : State) : Res := checked .twinPair (twinPair s)

/-- TW_REQ.rekey (R383). -/
def twinRekey (s : State) : State := if twMirrors s then startRot s false else s

/-- TWIN_REKEY (R383). -/
def execTwinRekey (s : State) : Res := checked .twinRekey (twinRekey s)

/-- SESSION_REKEY_RETRY (R384): 1 s after the last attempt. -/
def execSessionRekeyRetry (s : State) : Res :=
  checked .sessionRekeyRetry <|
    if twPaired s && twKey s = 15 && !s.twin.agreed then keyAsk (s.atNow (s.twin.tm.rekey + secTk)) else s

/-- A partner fault in the active is told to the standby and may hand the role over (R388, R393). -/
def twPartnerFault (s : State) (g : Nat) : State :=
  if !twMirrors s then s
  else
    let s := twSend s (.control (.partnerFault g))
    if s.flag F.TW_CFG_switch_on_partner then twinHandoff (raise s 1001 0x13 6 6) else s

/-- After a commit the configuration hashes are exchanged (R393). -/
def hashSend (s : State) : State :=
  let s := measureCfg s
  if twPaired s then twSend s (.control (.hash (cfgHash s))) else s

/-! Delivered frames. -/

/-- An active that has declared a fault and runs on leaves the pair when its twin, which took over, pairs
anew (R373 rule 1, log entry 21). -/
def leaveSplit (s : State) : State :=
  if twMirrors s && s.twin.faultSent.isSome then
    let s := setTw s { s.twin with dirty := [], stalled := [], bulk := none, rot := none, handoff := false }
    pairStart (s.setAll [(F.TW_STATUS_state, Tw.alone), (F.TW_STATUS_peer_ready, 0)])
  else s

/-- A CONTROL frame (R372, R383, R384, R393). -/
def controlRx (s : State) (c : TwinCtl) : State :=
  match c with
  | .hello _ _ _ _ _ _ _ _ =>
    let s := leaveSplit s
    if twPaired s || s.twin.detached then s else helloJudge (setTw s { s.twin with hello := some c })
  | .key ok =>
    if twPaired s then
      if !ok then raise s 1000 0x03 5 0
      else if twKey s = 15 && !s.twin.agreed then setTw s { s.twin with agreed := true }
      else s
    else if s.get F.TW_STATUS_pair_step ≠ 3 then s
    else if ok then pairRoles s
    else pairFail (raise s 1000 0x03 5 0) 2
  | .retire id =>
    match s.twin.keys.find? (fun p => p.2 = id && p != (twSes s, twKey s)) with
    | some p => if twMirrors s then retireKey s p.1 p.2 else s
    | none => s
  | .partnerFault g =>
    if s.flag F.TW_STATUS_role || !twPaired s then s
    else raise (s.set F.TW_PARTNER_FLT_groups
        (s.get F.TW_PARTNER_FLT_groups ||| 2 ^ (g % 16))) 1000 0x0A 4 (g % 16)
  | .hash h =>
    if !twPaired s then s
    else if h = cfgHash s then readyJudge (setTw s { s.twin with hashOk := true })
    else readyJudge (setTw (raise s 1000 0x02 5 0) { s.twin with hashOk := false })

/-- A path delivers a heartbeat (R386): 0 sideband, 1 link. -/
def pathBack (s : State) (link : Bool) : State :=
  let lost := if link then s.twin.linkLost else s.twin.sbLost
  let s := s.set (if link then F.TW_STATUS_link_ok else F.TW_STATUS_sideband_ok) 1
  let tm := s.twin.tm
  let s := setTw s { s.twin with tm := if link then { tm with link := s.now } else { tm with sb := s.now } }
  if lost then
    let s := setTw s (if link then { s.twin with linkLost := false } else { s.twin with sbLost := false })
    raise s 1001 0x11 2 (ofBool link)
  else s

/-- A HEARTBEAT frame (R382, R386): the standby takes the lag and the offset, and reports an offset
beyond fp_tol when it first exceeds it; the active takes READY. -/
def heartbeatRx (s : State) (h : TwinHb) : State :=
  let s := pathBack s true
  if !twPaired s then s
  else if s.flag F.TW_STATUS_role then
    let s := s.set F.TW_STATUS_peer_ready (ofBool h.ready)
    if h.ready then
      ((setTw s { s.twin with fails := 0 }).set F.TW_STATUS_state Tw.paired).set F.TW_STATUS_pair_step 7
    else s
  else
    let tol := 4 * s.get F.TW_CFG2_fp_tol
    let was := (toInt 32 (s.get F.TW_FP_OFFSET_offset_ns)).natAbs ≤ tol
    let s := (s.set F.TW_FP_OFFSET_offset_ns (satInt 32 h.offset)).set F.TW_LAG_lag_us (satNat 32 h.lag)
    let s := if was && tol < h.offset.natAbs then raise s 1001 0x17 4 (satInt 32 h.offset) else s
    readyJudge s

/-- TW_LAG in the active: the age of the oldest line dirty or unacknowledged, in µs (R382). -/
def lagNow (s : State) : Nat :=
  let ts := s.twin.dirty.map Prod.snd ++ (s.twin.txq.filter (fun x => x.vc = 3)).map (fun x => x.at')
  ts.foldl (fun m t => max m (tkToUs (s.now - t))) 0

/-- TW_LAG follows in the active. -/
def lagFollow (s : State) : State :=
  if twMirrors s then s.set F.TW_LAG_lag_us (satNat 32 (lagNow s)) else s

/-- A rotation's flush marker follows once nothing under the old ID is unacknowledged, and the
background pass begins (R383). -/
def rotCheck (s : State) : State :=
  match s.twin.rot with
  | none => s
  | some o =>
    let old := s.twin.txq.any (fun x => match x.body with
      | .mirror rs => rs.any (fun r => r.key = o.2)
      | _ => false)
    if s.twin.rotFlushed || old then s
    else
      let s := twSend s (.mirror [])
      (setTw s { s.twin with rotFlushed := true, bulk := some 0 }).setAll
        [(F.TW_BULK_percent, 0), (F.TW_BULK_done, 0)]

/-- An ACK (R369): the frames it covers are acknowledged. -/
def ackRx (s : State) (hs : List Nat) : State :=
  let covered := fun (x : TwinTx) => (hs.getD x.vc 0 + 2 ^ 32 - x.seq) % 2 ^ 32 < 2 ^ 31
  handoffTry (rotCheck (lagFollow
    (setTw s { s.twin with txq := s.twin.txq.filter (fun x => !covered x) })))

/-- The ack of a header (R368): the response frames that it covers are acknowledged. -/
def headAck (s : State) (a : Nat) : State :=
  setTw s { s.twin with txq := s.twin.txq.filter (fun x => !(x.vc = 1 && (a + 2 ^ 32 - x.seq) % 2 ^ 32 < 2 ^ 31)) }

/-- A LINE_REQ (R380): the lines are dirty and are sent in full. -/
def lineReqRx (s : State) (l : List Nat) : State :=
  l.foldl (fun t a =>
    let t := markDirty t a
    match aget t.twin.sent a with
    | some x => setTw t { t.twin with sent := aset t.twin.sent a { x with full := false } }
    | none => t) s

/-- A frame is delivered (R368 to R393). -/
def deliverFrame (s : State) (f : TwinFrame) : State :=
  match f.body with
  | .heartbeat h => heartbeatRx s h
  | .mirror rs =>
    if s.flag F.TW_STATUS_role || !twPaired s then s
    else if rs = [] then s.bump F.TW_CNT_MISC_zero_bursts 1
    else readyJudge ((rs.take 16).foldl (recApply f.session) s)
  | .ack hs => ackRx s hs
  | .lineReq l => if twMirrors s then lineReqRx s l else s
  | .control c => controlRx s c
  | .fault h => twinFault s (if h then 3 else 2)

/-- The frames held behind a gap that has closed are delivered in order (R369). -/
def drainHeld : Nat → State → Nat → State
  | 0, s, _ => s
  | n + 1, s, vc =>
    let next := (rxHigh s vc + 1) % 2 ^ 32
    match s.twin.rxHeld.find? (fun f => f.body.vc = vc && f.seq = next) with
    | none => s
    | some f =>
      let s := setTw s { s.twin with
        rxHeld := s.twin.rxHeld.filter (fun g => g != f), rxSeq := aset s.twin.rxSeq vc next }
      drainHeld n (deliverFrame s f) vc

/-- Frame number `seq` of channel `vc`, whose header acknowledges `a`, is taken as the highest in order (R368, R369). -/
def frameTaken (s : State) (a vc seq : Nat) : State :=
  let s := headAck s a
  setTw s { s.twin with rxSeq := aset s.twin.rxSeq vc seq }

/-- A twin frame arrives (R368, R369): a header of another type, or whose count its body does not hold, is malformed (log
entry 159), its ack covers what was sent on the response channel, and frames are delivered in
order by channel, held ahead of a gap, or discarded as already delivered. While no pair stands, frames
are delivered as they come (log entry 21). -/
def twinRx (s : State) (f : TwinFrame) : State :=
  let vc := f.body.vc
  if !twOn s || !(twLanes s).contains f.lane then s
  else if f.typ ≠ f.body.typ || f.count ≠ f.body.count || 16 < f.count then s.bump F.TW_CNT_MISC_malformed 1
  else if !twPaired s then
    deliverFrame (frameTaken s f.ack vc f.seq) f
  else
    let d := (f.seq + 2 ^ 33 - rxHigh s vc - 1) % 2 ^ 32
    if d = 0 then
      drainHeld 64 (deliverFrame (frameTaken s f.ack vc f.seq) f) vc
    else if d < 2 ^ 31 then
      let s := headAck s f.ack
      let n := (s.twin.rxHeld.filter (fun g => g.body.vc = vc)).length
      if 64 ≤ n || s.twin.rxHeld.any (fun g => g.body.vc = vc && g.seq = f.seq) then s
      else
        let s := setTw s { s.twin with rxHeld := s.twin.rxHeld ++ [f] }
        if n + 1 = 32 then ackSend s else s
    else (headAck s f.ack).bump F.TW_CNT_LINK_dup 1

/-- TWIN_HEARTBEAT_RX (R386). -/
def execTwinHeartbeatRx (f : TwinFrame) (s : State) : Res := checked (.twinHeartbeatRx f) (twinRx s f)
/-- TWIN_MIRROR_RX (R379). -/
def execTwinMirrorRx (f : TwinFrame) (s : State) : Res := checked (.twinMirrorRx f) (twinRx s f)
/-- TWIN_ACK_RX (R369). -/
def execTwinAckRx (f : TwinFrame) (s : State) : Res := checked (.twinAckRx f) (twinRx s f)
/-- TWIN_LINE_REQ_RX (R380). -/
def execTwinLineReqRx (f : TwinFrame) (s : State) : Res := checked (.twinLineReqRx f) (twinRx s f)
/-- TWIN_CONTROL_RX (R372, R383, R384, R393). -/
def execTwinControlRx (f : TwinFrame) (s : State) : Res := checked (.twinControlRx f) (twinRx s f)
/-- TWIN_FAULT_RX (R387). -/
def execTwinFaultRx (f : TwinFrame) (s : State) : Res := checked (.twinFaultRx f) (twinRx s f)

/-- TWIN_RESEND_TIMEOUT (R369): a frame not acknowledged for 4 µs is sent again, on another UP lane
when there is one; after three retries every lane that carried it restarts and it is sent once more. -/
def execTwinResendTimeout (vc seq : Nat) (s : State) : Res :=
  checked (.twinResendTimeout vc seq) <|
    match s.twin.txq.find? (fun x => x.vc = vc && x.seq = seq) with
    | none => s
    | some x =>
      let s := s.atNow (x.at' + usToTk 4)
      let put := fun (t : State) (y : TwinTx) => setTw t { t.twin with
        txq := t.twin.txq.map (fun z => if z.vc = vc && z.seq = seq then y else z) }
      let lanes := twLanes s
      if x.retries < 3 then
        let l := (lanes.find? (fun k => k != x.lane)).getD x.lane
        put (s.bump F.TW_CNT_LINK_retries 1)
          { x with retries := x.retries + 1, lane := l, lanes := nins l x.lanes, at' := s.now }
      else if x.retries = 3 then
        let s := x.lanes.foldl laneRestart s
        let s := raiseOnce s F.TW_CNT_LINK_retries 1002 0x20 3 (x.lane + vc * 256)
        let l := ((twLanes s).head?).getD x.lane
        put s { x with retries := 4, lane := l, lanes := [l], at' := s.now }
      else s

/-- The level at the ball TW_HB_OUT (R370): a declared fault toggles it every 0.5 µs for 50 µs. -/
def hbLevel (s : State) : Bool :=
  match s.twin.pattern with
  | some t => if s.now < t + usToTk 50 then (s.now - t) * 1000000 / 491520000 % 2 = 0 else s.pins.twHbOut
  | none => s.pins.twHbOut

/-- TWIN_HEARTBEAT_SEND (R370, R386): every 20 µs; the pin stays low once a fault has been declared, until pairing
starts again (log entry 21). -/
def execTwinHeartbeatSend (s : State) : Res :=
  checked .twinHeartbeatSend <|
    if !twOn s then s
    else
      let s := s.atNow s.twin.tm.hb
      let s := setTw s { s.twin with tm := { s.twin.tm with hb := s.now + usToTk 20 } }
      let s := lagFollow { s with pins := { s.pins with twHbOut := !s.pins.twHbOut && s.twin.faultSent.isNone } }
      twSend s (.heartbeat ⟨s.flag F.TW_STATUS_role, s.mode, s.flag F.TW_STATUS_ready,
        s.flag F.RST_HEALTH_degraded, s.get F.TB_STATUS_state, s.get F.TW_LAG_lag_us,
        fpPack (txBall s ((twLanes s).headD 120) 0), 0⟩)

/-- SIDEBAND_EDGE (R370, R372): a heartbeat; the eighth edge within 5 µs is a declared fault. -/
def execSidebandEdge (s : State) : Res :=
  checked .sidebandEdge <|
    let s := { s with pins := { s.pins with twHbIn := !s.pins.twHbIn } }
    if !twOn s then s
    else
      let es := (s.now :: s.twin.edges).take 8
      let s := pathBack (setTw s { s.twin with edges := es }) false
      let s := pairStep1 s
      if es.length = 8 && s.now - es.getD 7 0 ≤ usToTk 5 then
        twinFault (setTw s { s.twin with edges := [] }) 2
      else s

/-- HEARTBEAT_PATH_TIMEOUT (R372, R386, R387): a path has delivered no heartbeat for 100 µs; a link lost in step 6
fails the pairing. -/
def execHeartbeatPathTimeout (link : Bool) (s : State) : Res :=
  checked (.heartbeatPathTimeout link) <|
    let okF := if link then F.TW_STATUS_link_ok else F.TW_STATUS_sideband_ok
    if !twOn s || !s.flag okF then s
    else
      let s := s.atNow ((if link then s.twin.tm.link else s.twin.tm.sb) + usToTk 100)
      let s := setTw s (if link then { s.twin with linkLost := true } else { s.twin with sbLost := true })
      let s := (s.set okF 0).bump (if link then F.TW_HB_MISS_CNT_link else F.TW_HB_MISS_CNT_sideband) 1
      let s := raise s 1001 0x10 4 (ofBool link)
      let both := s.twin.linkLost && s.twin.sbLost
      let s := if both then twinFault s 1 else s
      let s := if link then s.setAll [(F.TW_STATUS_ready, 0), (F.TW_STATUS_peer_ready, 0)] else s
      if link && twPaired s && s.get F.TW_STATUS_pair_step = 6 then pairFail s 3 else s

/-- PAIR_WAIT_EXPIRY (R371): a device that has not paired since its load becomes the active alone, pair_wait_ms after
the load's end or, with TW_ROLE_IN = 0, after the last sideband edge. -/
def execPairWaitExpiry (s : State) : Res :=
  checked .pairWaitExpiry <|
    match s.twin.tm.wait with
    | none => s
    | some t =>
      if !twOn s || s.mode != Mode.standby || 1 < s.get F.TW_STATUS_state || s.twin.detached then s
      else
        let s := s.atNow ((if s.twin.strap then t else max t s.twin.tm.sb)
          + usToTk (1000 * max 1 (s.get F.TW_CFG_pair_wait_ms)))
        becomeActive (s.set F.TW_STATUS_state Tw.alone)

/-- PAIR_STEP_TIMEOUT (R372): a step has run for 100 ms; reason 0 stands for the limit (log entry 23), 3 for the link
lost in step 6. -/
def execPairStepTimeout (s : State) : Res :=
  checked .pairStepTimeout <|
    let p := s.get F.TW_STATUS_pair_step
    if 1 ≤ p && p ≤ 6 && twOn s then
      pairFail (s.atNow (s.twin.tm.step + usToTk 100000)) (if p = 6 && s.twin.linkLost then 3 else 0)
    else s

/-- PAIR_RETRY (R372): 1 s after a failure, 10 s after the third and later ones. -/
def execPairRetry (s : State) : Res :=
  checked .pairRetry <|
    if s.twin.waiting && !s.twin.detached && twOn s then
      pairStart (s.atNow (s.twin.tm.fail + (if 3 ≤ s.twin.fails then 10 else 1) * secTk))
    else s

/-! The tables at takeover (R389 to R391). -/

/-- The plaintext of a stored line. -/
def linePlain (s : State) (a : Nat) (l : TwinLine) : Nat :=
  xtsDec (twKeys s l.session l.key) (lineTweak a l.key) l.data

/-- Some line of class `k` is STALE. -/
def classLinesStale (s : State) (k : Nat) : Bool :=
  (List.range 4).any (fun i => (lineGet s (classLine k i)).stale)

/-- Class `k` after takeover (R390): seq_guard numbers are skipped. -/
def classTake (s : State) (k : Nat) : State :=
  let p := fun i => linePlain s (classLine k i) (lineGet s (classLine k i))
  let s := if classLinesStale s k then classStale s k else classUnpack s k (p 0) (p 1) (p 2)
  s.set (F.SCH_CLASS_SEQ_next k) ((s.get (F.SCH_CLASS_SEQ_next k) + s.get F.TW_CFG2_seq_guard) % 2 ^ 32)

/-- The two flows of a line after takeover. -/
def flowTake (s : State) (i : Nat) : State :=
  let l := lineGet s (2 ^ 28 + i)
  if l.stale then flowStale (flowStale s (2 * i)) (2 * i + 1)
  else
    let d := linePlain s (2 ^ 28 + i) l
    flowUnpack (flowUnpack s (2 * i) (bits d 0 256)) (2 * i + 1) (bits d 256 256)

/-- A model after takeover (R390). -/
def modelTake (s : State) (i : Nat) : State :=
  let l := lineGet s (tbLine (1 + i))
  if (s.model i).valid || l.stale then s
  else modelImportWords s i (wordsOf (linePlain s (tbLine (1 + i)) l))

/-- A Loft line after takeover (R390, R391): plaintext, or poisoned when STALE. -/
def loftTake (s : State) (a : Nat) : State :=
  let l := lineGet s a
  let w := lineWord a
  if l.stale then s.setLoft ((List.range 8).foldl (fun x i => x.poison (w + i)) s.loft)
  else
    let d := linePlain s a l
    s.setLoft ((List.range 8).foldl (fun (x : Loft) i => x.store (w + i) (bits d (64 * i) 64)) s.loft)

/-- The region 3 lines. -/
def loftLines (s : State) : List Nat :=
  (List.range (lineTotal s - 8451)).map (fun i => lineAddr s (8451 + i))

/-- TAKEOVER_TABLES_WRITTEN (R389 to R391): 10 µs after detection the device is the active. -/
def execTakeoverTablesWritten (s : State) : Res :=
  checked .takeoverTablesWritten <|
    match s.twin.takeAt with
    | none => s
    | some (t, how) =>
      if s.get F.TW_STATUS_state ≠ Tw.taking then s
      else
        let s := s.atNow (t + usToTk 10)
        let cs := ((List.range 64).filter (classLinesStale s)).length
        let fs := 2 * ((List.range 8192).filter (fun i => (lineGet s (2 ^ 28 + i)).stale)).length
        let ls := ((loftLines s).filter (fun a => (lineGet s a).stale)).length
        let s := (List.range 64).foldl classTake s
        let s := (List.range 8192).foldl flowTake s
        let s := setFh s { s.fh with opens := [] }
        let s := (List.range 2).foldl modelTake s
        let s := (loftLines s).foldl loftTake s
        let s := raise s 1001 0x15 5 (min cs 255 + min fs 16383 * 256 + min ls 1023 * 2 ^ 22)
        let s := becomeActive s
        let fp := s.fpStamp
        let s := (s.bump F.TW_TAKE_CNT_count 1).setAll [(F.TW_LAST_TAKE_FP_LO_fp, fp % 2 ^ 32),
          (F.TW_LAST_TAKE_FP_HI_fp, fp / 2 ^ 32), (F.TW_LAST_TAKE_US_us, satNat 16 (tkToUs (s.now - t)))]
        let s := setTw s { s.twin with
          takeAt := none, converting := mirrorGroups s, dirty := [], stalled := [], sent := [] }
        if how = 3 then
          (pairStep (setTw s { s.twin with bulk := some 0 }) 6).setAll [(F.TW_STATUS_state, Tw.sync),
            (F.TW_BULK_percent, 0), (F.TW_BULK_done, 0)]
        else pairStart (s.set F.TW_STATUS_state Tw.alone)

/-- The metadata of every line of group `g` shows that the line has been converted (R376, R391). -/
def convertedAll (s : State) (g : Nat) : State :=
  s.setLoft (((List.range 262144).map (fun i => metaWord s (3 * 2 ^ 28 + g * 2 ^ 18 + i))).foldl
    (fun (f : Loft) m => f.store (m + 1) (putBit (f.dataAt (m + 1)) 57 true)) s.loft)

/-- GROUP_CONVERT_COMPLETE (R391): every line of the group is plaintext. -/
def execGroupConvertComplete (g : Nat) (s : State) : Res :=
  checked (.groupConvertComplete g) <|
    if s.twin.converting.contains g then
      raise (convertedAll (setTw s { s.twin with converting := ndel s.twin.converting g }) g) 1001 0x16 2 g
    else s

end Sys2Proof.Machine
end

