-- ==== Sys2Proof/Machine/Load.lean ====
section
/-! DEFINITION. The load (R79, R331 to R351, R431): the header, frames, the whole-stream checks, the
keeper firmware, admission, leaving LOAD, and a failed attempt. -/

namespace Sys2Proof.Machine

/-- The loader's attempt is replaced. -/
def setLoad (s : State) (r : Option LoadRun) : State := setCfg s { s.cfg with load := r }

/-! The flash link (R331, R332, R335). -/

/-- The loader sends commands to the flash. -/
def flashSend (s : State) (l : List FlashCmd) : State := setCfg s { s.cfg with flashOut := l }

/-- The device, as a mask of CFG_CS_N, and the address at which the slot of attempt `r` begins (R332). -/
def slotBase (s : State) (r : LoadRun) : Nat × Nat :=
  if !s.flag F.CFG_STATUS_alt_tried then (1, 0) else if r.alt then (1, 0x10000000) else (2, 0)

/-- A read of `n` bytes at offset `off` of the slot in 1S-1S-1S: opcode 0x13, no dummy cycles (R331). -/
def readSlow (s : State) (r : LoadRun) (off n : Nat) : FlashCmd :=
  ⟨(slotBase s r).1, 0, 0x13, some ((slotBase s r).2 + off), 0, [], n⟩

/-- A read of `n` bytes at offset `off` of the slot in the mode of the frames, with the opcode and dummy cycles of the
header's flash section (R331, R335). -/
def readFast (s : State) (r : LoadRun) (off n : Nat) : FlashCmd :=
  let i := if s.cfg.flashMode = 2 then 2 else 0
  ⟨(slotBase s r).1, s.cfg.flashMode, s.cfg.flash.getD i 0, some ((slotBase s r).2 + off),
    s.cfg.flash.getD (i + 1) 0 % 32, [], n⟩

/-- The mode commands of the flash section for mode `m`, each in 1S-1S-1S after the write enable 0x06 (R335); a number
above 2 acts as 2. -/
def modeCmds (s : State) (r : LoadRun) (m : Nat) : List FlashCmd :=
  let b := fun (i : Nat) => s.cfg.flash.getD i 0
  let cs := (slotBase s r).1
  (List.range (min 2 (b (if m = 2 then 5 else 4)))).flatMap (fun k =>
    let o := (if m = 2 then 20 else 8) + 6 * k
    [⟨cs, 0, 0x06, none, 0, [], 0⟩,
     ⟨cs, 0, b o, some (b (o + 1) * 2 ^ 24 + b (o + 2) * 2 ^ 16 + b (o + 3) * 2 ^ 8 + b (o + 4)), 0, [b (o + 5)], 0⟩])

/-- An attempt begins (R331): the software reset on both devices, then the read of the slot's header. -/
def attemptStart (s : State) (r : Option LoadRun) : State :=
  let s := setLoad s r
  flashSend s ([⟨3, 0, 0x66, none, 0, [], 0⟩, ⟨3, 0, 0x99, none, 0, [], 0⟩]
    ++ r.toList.map (fun x => readSlow s x 0 4096))

/-- The offset of the firmware image in the slot: the next 64 KiB boundary after the stream's last frame (R332). -/
def firmwareOff (h : Header) : Nat := ceilDiv (4096 * h.frames) 65536 * 65536

/-- No admission table (R188). -/
def AdmTable.none' : AdmTable := ⟨0, 1600, 0, 0, 0, false⟩

/-- A load step begins (R346): `n` as CFG_STATUS.load_state has it. -/
def loadStep (s : State) (n : Nat) : State := s.set F.CFG_STATUS_load_state n

/-- The usable bank groups: those that have not failed. -/
def usableGroups (s : State) : List Nat := (List.range 32).filter (fun g => !s.flag (F.LFT_GRP_STATUS_failed g))

/-! A failed attempt (R350). -/

/-- The fields outside the register runs that a stream sets, as (address of the first, lowest bit). -/
def streamFields : List (Nat × Nat) :=
  [(0x400000, 0), (0x400000, 4), (0x400000, 13), (0x400000, 22), (0x400004, 0), (0x400008, 0),
   (0x40000C, 0), (0x40000C, 16), (0x400010, 0), (0x400040, 0), (0x400040, 3), (0x400040, 8),
   (0x490000, 0), (0x490000, 9), (0x10020, 12), (0x10020, 13), (0x20600, 0), (0x20600, 5), (0x40004, 0)]

/-- A field that a stream sets. -/
def streamSets (r : RegRow) : Bool := r.may 8 || streamFields.contains (r.base, (r.at' 0).lo)

/-- The configuration memory, tables and fields of an attempt are cleared (R350 step 2). -/
def configClear (s : State) : State :=
  let s := (resetRows s streamSets).set F.ADM_RESULT_in_force 0
  let s := setFh s { s.fh with flow := [], sec := [], num := [], off := [] }
  let s := { s with tb := { s.tb with trgs := [] }, adm := AdmTable.none', bins := [] }
  setCfg s { s.cfg with seen := StreamSeen.reset, image := [], elems := [], mem := [], routes := [], enables := [],
                        uio := [], flash := [], flashMode := 0, flashOut := [], secret := [], owners := [], heldFor := [],
                        struck := [], repairs := [], lostWords := [], shelfNew := [] }

/-- The groups go back to the loader with clear (R309, R350 step 3). -/
def groupsBack (s : State) : State :=
  (usableGroups s).foldl (fun t g =>
    if t.loft.handovers.any (fun h => h.grp = g) then t else handoverStart t ⟨true, g, 338, true, false, t.now⟩) s

/-- An attempt fails with a code of area `area` (R350): the alternate slot is tried once; when that fails
too the device enters SAFE. -/
def loadFail (s : State) (area code reason frame : Nat) : State :=
  let k := s.get F.CFG_STATUS_alt_tried
  let s := s.setAll [(F.CFG_FAIL_code k, code), (F.CFG_FAIL_area k, area), (F.CFG_FAIL_reason k, reason),
    (F.CFG_FAIL_frame k, frame)]
  if k = 0 then
    let start := (s.cfg.load.map (fun r => r.start)).getD s.now
    let tested := s.cfg.load.any (fun r => r.tested)
    let s := groupsBack (configClear s)
    let s := { s with clk := { s.clk with slow := false } }
    attemptStart (loadStep (s.set F.CFG_STATUS_alt_tried 1) 0) (some ⟨none, tested, 0, 1, 0, [], start, false, 0, []⟩)
  else toSafe (setLoad (loadStep s 7) none) false

/-- A refusal code of R365 with its reason and frame. -/
def loadRefuse (s : State) (code reason frame : Nat) : State :=
  let slot := s.get F.CFG_STATUS_alt_tried
  loadFail (raiseCrit s true 1023 code 6 (reason + slot * 16 + frame * 65536)) 0 code reason frame

/-! The header (R334 to R339). -/

/-- Why a key source cannot be used (R338), 0 for none. -/
def keyReason (s : State) (src : Nat) : Nat :=
  if 4 < src then 4
  else if src = 4 then (if s.sec.bbKey.isNone then 3 else 0)
  else if !keyProg s src then 1
  else if keyRev s src then 2 else 0

/-- A security version that a counter accepts (R433). -/
def svOk (c sv : Nat) : Bool := c ≤ sv && sv ≤ 48

/-- The header checks after the CRC in their order (R339): the code and reason of the first that fails.
`kind` is the stream kind that its place takes. -/
def headerBad (s : State) (h : Header) (kind : Nat) : Option (Nat × Nat) :=
  let slotKey := h.signer < 4 && ownerProg s h.signer && !ownerRev s h.signer
    && aget s.sec.owners h.signer = some h.signerHash
  let k := keyReason s h.keySrc
  if !h.magicOk || !h.formatOk then some (6, 1)
  else if h.part ≠ s.get F.ID_PART_part_code || s.get F.ID_PART_stack_rev < h.minRev then some (6, 2)
  else if !h.sigOk then some (1, 1)
  else if !slotKey then some (1, 2)
  else if k ≠ 0 then some (7, k)
  else if !svOk (s.get F.SEC_ARB_c_st) (h.version % 256) then some (6, 3)
  else if h.kind ≠ kind then some (6, 4)
  else if kind = 2 && h.baseRoot ≠ s.cfg.root then some (6, 5)
  else none

/-- The clock section and the flash section take effect (R335, R100). -/
def clockSection (s : State) (h : Header) : State :=
  let f : Nat → Nat → List (Fld × Nat) := fun i v => [(F.CLK_MON_FREQ_LO_freq_lo i, v % 2 ^ 32), (F.CLK_MON_FREQ_HI_freq_hi i, v / 2 ^ 32)]
  let s := s.setAll (f 0 h.tref0 ++ f 1 h.tref1 ++ [(F.TB_REF_PRIO_tref_sel, h.sel % 2),
    (F.TB_REF_PRIO_tref_alt_en, h.sel / 2 % 2), (F.CLK_TB_CFG_fb_en, h.sel / 4 % 2)])
  let s := setCfg s { s.cfg with flash := h.flash }
  if 16 < h.fbSrc then raise s 1021 6 3 0x600 else s.set F.CLK_TB_CFG_fb_src h.fbSrc

/-- The next step begins once the present one has ended (R346): after step 1 the groups are woken and
owned by the loader (R311); step 2 ends with TICK qualified or the slow fallback, and every usable group
ON with no handover left: the mode commands are sent and the first frame is read (R331, R335). -/
def loadAdvance (s : State) : State :=
  match s.cfg.load with
  | none => s
  | some r =>
    let step2 := fun (t : State) =>
      let ready := (usableGroups t).all (fun g => t.get (F.LFT_GRP_STATUS_power g) = 1)
        && t.loft.handovers = []
      if ready && (monQual t 34 || t.clk.slow) then
        let m := if t.clk.slow then 2 else 1
        let t := setCfg (loadStep t 2) { t.cfg with flashMode := m }
        flashSend t (modeCmds t r m ++ [readFast t r 4096 4096])
      else t
    if s.get F.CFG_STATUS_load_state = 0 && r.hdr.isSome && r.tested then
      step2 ((usableGroups s).foldl groupWake (loadStep s 1))
    else if s.get F.CFG_STATUS_load_state = 1 then step2 s
    else s

/-- HEADER_READ (R332, R334 to R339, R344, R348): the slot's header frame. Slot 1 without the magic on the second
device is read from the first. -/
def headerRead (s : State) (h : Header) : State :=
  match s.cfg.load with
  | none => s
  | some r =>
    if r.hdr.isSome || s.mode ≠ Mode.load then s
    else if !h.magicOk && !r.alt && s.flag F.CFG_STATUS_alt_tried then
      let r' := { r with alt := true, tries := 0 }
      flashSend (setLoad s (some r')) [readSlow s r' 0 4096]
    else if !h.crcOk then
      if r.tries < 2 then
        flashSend (setLoad (s.bump F.CFG_CRC_RETRY_CNT_count 1) (some { r with tries := r.tries + 1 })) [readSlow s r 0 4096]
      else loadRefuse s 2 1 0
    else match headerBad s h 1 with
      | some (c, k) => loadRefuse s c k 0
      | none =>
        if 49920 < h.frames then loadRefuse s 4 5 0
        else if h.frames < 2 then loadRefuse s 4 1 0
        else loadAdvance (setLoad (clockSection s h) (some { r with hdr := some h, tries := 0, hdrAt := s.now }))

/-- 100 ms, which TICK has to qualify from the header read on (R79). -/
def bootSlowTk : Nat := 98304000

/-- BOOT_SLOW_TIMEOUT (R79): TICK is not qualified 100 ms after the header read. -/
def execBootSlowTimeout (s : State) : Res :=
  checked .bootSlowTimeout <|
    if s.cfg.load.any (fun r => r.hdr.isSome) && !monQual s 34 && !s.clk.slow then
      let s := s.atNow ((s.cfg.load.map (fun r => r.hdrAt + bootSlowTk)).getD 0)
      let s := { s with clk := { s.clk with slow := true } }
      loadAdvance (raise (s.set F.CFG_STATUS_boot_slow 1) 1021 0x0F 4 0)
    else s

/-! Start tests (R20, R21, R25, R322, R323, R456). -/

/-- Physical bin `p` is retired at a start (R445, R451): cause 3 its column, 4 a spare's canary. -/
def startRetire (s : State) (cause : Nat) (p : Nat) : State :=
  if isRetired s p then s
  else
    let s := (s.set (F.FAB_BIN_STATUS_retired p) 1).bump F.SPR_STATUS_bins_retired 1
    let s := s.setAll [(F.SPR_BIN_WEAR_state p, 3), (F.SPR_BIN_WEAR_cause p, cause)]
    raiseCrit s true (512 + p) 0x14 6 (cause + logOf s p * 8)

/-- A group's repair: the spare of group `g` of segment `k` in column `c` takes wire `w`; one not recorded
at an earlier start is written (R20). A group whose only failing wire is its spare, 32, needs no substitution,
and nothing is recorded: the rules do not say what would be (log entry 105). -/
def hatchRepair (s : State) (c k g w : Nat) : State :=
  if 32 ≤ w then s else
  let f := if k = 0 then F.HATCH_SPARE_S0_spare_used c else if k = 1 then F.HATCH_SPARE_S1_spare_used c
    else F.HATCH_SPARE_S2_spare_used c
  let s := s.set f (putBit (s.get f) g true)
  let d := k + g * 4 + w * 128
  let known := s.led.stored.any (fun x => x.entry.record.source = 512 + c && x.entry.record.code = 1
    && x.entry.record.data = d && x.entry.crit)
  if known then s else raiseCrit s true (512 + c) 1 5 d

/-- The hatch test of column `c` (R20, R21): the failing wires, with those that a canary has marked
(R446). A group with one failing wire is repaired, in a failed column too. -/
def hatchTest (ws : List (Nat × Nat × Nat × Nat)) (s : State) (c : Nat) : State :=
  let marked := (s.spr.wires.filter (fun x => x.1 / 3 = c)).map
    (fun x => (c, x.1 % 3, x.2 / 32, x.2 % 32))
  let mine := ws.filter (fun w => w.1 = c)
  let all := mine ++ marked.filter (fun w => !mine.contains w)
  let bad := (List.range 3).filter (fun k => (List.range 32).any (fun g =>
    2 ≤ (all.filter (fun w => w.2.1 = k && w.2.2.1 = g)).length))
  let one := all.filter (fun w => (all.filter (fun v => v.2.1 = w.2.1 && v.2.2.1 = w.2.2.1)).length = 1)
  let s := one.foldl (fun t w => hatchRepair t w.1 w.2.1 w.2.2.1 w.2.2.2) s
  if bad = [] then s.set (F.HATCH_STATUS_usable c) 1
  else
    let m := bad.foldl (fun n k => n + 2 ^ k) 0
    let s := s.setAll [(F.HATCH_STATUS_usable c, 0), (F.HATCH_STATUS_seg_fail c, m)]
    let s := raiseCrit s true (512 + c) 2 6 m
    startRetire (startRetire s 3 c) 3 (132 + c)

/-- A clock TSV pair (R25): one TSV lost is recorded; both lost is fatal. -/
def clockTest (s : State) (x : Nat × Nat × Nat × Bool) : State :=
  let d := x.1 + x.2.1 * 8 + x.2.2.1 * 256
  if x.2.2.2 then toSafe (raise s 1022 4 7 d) false
  else
    let f := F.HATCH_CLKCOL_pair_degraded
    raise (s.set f (putBit (s.get f) x.1 true)) 1022 3 4 d

/-- The start tests end (R20, R25, R322, R323, R445); a failing of keeper SRAM or of the Cellar tables
takes the device to SAFE. -/
def selfTest (s : State) (t : SelfTest) : State :=
  let s := (List.range 132).foldl (hatchTest t.wires) s
  let s := { s with spr := { s.spr with wires := [] } }
  let s := t.clocks.foldl clockTest s
  let s := (List.range 32).foldl (fun u g =>
    checkerTest u g ((t.banks.filter (fun b => b / 32 = g)).map (· % 32)) (t.spares.contains g)) s
  let s := match t.sram with
    | some x => toSafe (raise s 1016 0x11 7 x) false
    | none => s
  let s := match t.tables with
    | some x => toSafe (raise s 1016 0x12 7 x) false
    | none => s
  let ok := t.banks = [] && t.spares = [] && t.sram.isNone && t.tables.isNone
  let s := s.setAll [(F.LFT_STATUS_selftest_done, 1), (F.LFT_STATUS_selftest_pass, ofBool ok)]
  let s := t.canary.foldl (fun u c => let u := u.set (F.FAB_CANARY_margin c.1) c.2
    if c.2 < u.get F.SPR_CFG_canary_retire then startRetire u 4 c.1 else u) s
  { s with ev := { s.ev with running := true } }

/-- SELF_TEST_COMPLETE (R20, R346 step 1, R476): the tests of every start, also of one that loads nothing. -/
def execSelfTestComplete (t : SelfTest) (s : State) : Res :=
  checked (.selfTestComplete t) <|
    if !s.modes.testDue || s.modes.por || !s.pins.porstN then s
    else
      let s := selfTest { s with modes := { s.modes with testDue := false } } t
      match s.cfg.load with
      | none => s
      | some r =>
        if s.mode ≠ Mode.load then setLoad s none
        else loadAdvance (setLoad s (some { r with tested := true }))

/-! Frames (R333, R336, R340 to R343). -/

/-- The settings that a stream has brought for image `img`. -/
def seenElems (x : StreamSeen) (img : Nat) : List FabElem :=
  (x.elems.filter (fun e => e.1 / 32 = img)).flatMap (fun e => e.2)

/-- The address of the next image frame (R340): the image in [10:0], its frame in [15:11]. -/
def imageAddr (n : Nat) : Nat := n / 32 + 2048 * (n % 32)

/-- A frame breaks the form of R340 or the limit of 2,048 images (R344): its kind, place, address and end; with an
image's last frame the levels of its elements are checked (R108). `count` is frame_count, `prev` the kind of the frame before. -/
def frameForm (seen : StreamSeen) (count pos prev : Nat) (f : Frame) : Option (Nat × Nat) :=
  let seq := (aget seen.seqs f.kind).getD 0
  let blank := f.words.all (fun w => w % 2 ^ 32 = 0) && f.shelf = []
  if !([1, 2, 3, 4, 5, 15].contains f.kind) || f.index ≠ pos || f.kind < prev
      || (f.kind = 15) ≠ (pos + 1 = count) || (4 < f.kind && seen.image % 32 ≠ 0)
      || (f.kind = 15 && !blank) then some (4, 1)
  else if f.kind = 4 && 2048 * 32 ≤ seen.image then some (4, 5)
  else if (f.kind ≤ 3 && f.addr ≠ seq) || (f.kind = 4 && f.addr ≠ imageAddr seen.image)
      || (f.kind = 5 && 2 ^ 23 < f.addr + 63) || (f.kind = 15 && f.addr ≠ 0) then some (4, 2)
  else if f.kind = 4 && seen.image % 32 = 23 && !levelsOk (seenElems seen (seen.image / 32) ++ f.elems) then some (8, 0)
  else none

/-- The stream's places move past a frame: sequence numbers, image frames. -/
def seenNext (x : StreamSeen) (f : Frame) : StreamSeen :=
  if f.kind ≤ 3 then { x with seqs := aset x.seqs f.kind (f.addr + 1) }
  else if f.kind = 4 then
    { x with image := if x.image % 32 = 23 then (x.image / 32 + 1) * 32 else x.image + 1
             data := aset x.data x.image ((f.words.take 1008).map (· % 2 ^ 32))
             elems := if f.elems = [] then x.elems else aset x.elems x.image f.elems
             fabric := if f.elems.any FabElem.outer then nins (x.image / 32) x.fabric else x.fabric }
  else x

/-- The entries of a replication frame (R342); none when reserved bits are set or a target is named
twice. -/
def replication (targets : List (Nat × Nat)) : List Nat → Option (List (Nat × Nat))
  | [] => some targets
  | w :: t =>
    let k := 8 * bits w 11 8 + bits w 19 3
    if 2 ^ 22 ≤ w || targets.any (fun x => x.1 = k) then none
    else replication (targets ++ [(k, bits w 0 11)]) t

/-- Image `img` reaches the contexts that the replication list names for it, as image `id` of those in
force (R342). -/
def imageTargets (s : State) (targets : List (Nat × Nat)) (img id : Nat) : State :=
  (targets.filter (fun t => t.2 = img)).foldl (fun u t =>
    let p := physOf u (t.1 / 8)
    let f := F.BIN_CTX_CFG_ctx_loaded p
    let u := u.set f (putBit (u.get f) (t.1 % 8) true)
    setCfg u { u.cfg with mem := aset u.cfg.mem (8 * p + t.1 % 8) id }) s

/-- The flip-flops of the bins whose context 0 takes image `img` show the initial values written so far (R347). -/
def restInitial (s : State) (targets : List (Nat × Nat)) (img : Nat) : State :=
  let z := fabInit (imageElems s img)
  (targets.filter (fun t => t.2 = img && t.1 % 8 = 0)).foldl (fun u t =>
    let p := physOf u (t.1 / 8)
    setBin u p { u.bin p with fab := z }) s

/-- A Loft image frame (R343): each unit of a usable group is written under the loader's owner ID. -/
def loftFrame (s : State) (f : Frame) : State :=
  let failed := fun (u : Nat) => s.flag (F.LFT_GRP_STATUS_failed (wGroup (8 * u)))
  let units := List.range 63
  let s' := (units.filter (fun u => !failed (f.addr + u))).foldl (fun t u =>
    (List.range 8).foldl (fun t j =>
      let t := voteRepair t (8 * (f.addr + u) + j)
      t.setLoft (t.loft.store (8 * (f.addr + u) + j) (payload64 f.words (8 * u + j)))) t) s
  match units.find? (fun u => failed (f.addr + u)) with
  | none => s'
  | some u => raise (s'.bump F.CFG_LOFT_SKIP_CNT_frames 1) 1023 0x12 4 (wGroup (8 * (f.addr + u)))

/-- A frame of a full stream that keeps the form of R340 is written; the shelf records take effect before
the first frame after them (R342, log entry 31). -/
def frameWrite (s : State) (prev : Nat) (f : Frame) : Except (Nat × Nat) State :=
  let start : Except (Nat × Nat) State :=
    if prev < 3 && 3 ≤ f.kind then shelfApply s s.cfg.seen.shelf else .ok s
  match start with
  | .error e => .error e
  | .ok s =>
    let n := s.cfg.seen.image
    let s := setSeen s (seenNext s.cfg.seen f)
    if f.kind = 1 then
      match cellarRecs 1008 1008 f.words with
      | none => .error (4, 3)
      | some rs => recsWrite f.index rs s
    else if f.kind = 2 then .ok (setSeen s { s.cfg.seen with shelf := s.cfg.seen.shelf ++ f.shelf })
    else if f.kind = 3 then
      match replication s.cfg.seen.targets f.words with
      | none => .error (4, 3)
      | some ts => .ok (setSeen s { s.cfg.seen with targets := ts })
    else if f.kind = 4 then
      let img := n / 32
      let s := setCfg s { s.cfg with
        image := aset s.cfg.image n ((f.words.take 1008).map (· % 2 ^ 32)), elems := s.cfg.seen.elems }
      let s := restInitial s s.cfg.seen.targets img
      .ok (if n % 32 = 23 then imageTargets s s.cfg.seen.targets img img else s)
    else if f.kind = 5 then .ok (loftFrame s f)
    else .ok s

/-- The frames of a verified segment are checked and written in order, from position `pos` after a frame
of kind `prev`; an error is the code, the reason and the frame. -/
def segmentWrite (count : Nat) : Nat → Nat → List Frame → State → Except (Nat × Nat × Nat) State
  | _, _, [], s => .ok s
  | pos, prev, f :: t, s =>
    match frameForm s.cfg.seen count pos prev f with
    | some (c, k) => .error (c, k, pos)
    | none => match frameWrite s prev f with
      | .error (c, k) => .error (c, k, pos)
      | .ok s' => segmentWrite count (pos + 1) f.kind t s'

/-- What a stream's classes give the scheduler: the shared part and each pool's kernels (R168, R184). -/
def classDerived (s : State) : State :=
  let s := s.set F.SCH_SHARED_shared_size (8192 - resSum s)
  (List.range 32).foldl (fun t p =>
    t.set (F.SCH_POOL_CFG_kernels p) ((poolKernels t p).foldl (fun n c => n + 2 ^ c) 0)) s

/-- Step 4 (R337, R346): the root over the segments' hashes, then the checks over the whole stream; then the firmware
is read, its header first (R332). -/
def streamEnd (s : State) (h : Header) (hs : List Nat) : State :=
  let last := h.frames - 1
  if rootOf hs ≠ h.root then loadRefuse s 1 3 last
  else
    let s := threshClamp (gatesCounted (classDerived (deriveSlices s)))
    if enablesClash s then loadRefuse s 5 0 last
    else if streamBad s true || !poolsAgree s s.cfg.seen.shelf then loadRefuse s 4 3 last
    else match trgBadFrame s with
      | some fr => loadRefuse s 4 3 fr
      | none =>
        let s := loadStep s 4
        match s.cfg.load with
        | none => s
        | some r => flashSend s [readFast s r (firmwareOff h) 512]

/-- The stream key that a header names (R336, R338). -/
def streamKey (s : State) (h : Header) : Nat :=
  if h.keySrc = 4 then s.sec.bbKey.getD 0 else (aget s.sec.keys h.keySrc).getD 0

/-- FLASH_FRAME_READ (R333, R336, R337, R348): a frame is read; each complete segment whose tag verifies is hashed and
written; the next read follows. -/
def flashFrameRead (s : State) (f : Frame) : State :=
  match s.cfg.load with
  | none => s
  | some r => match r.hdr with
    | none => s
    | some h =>
      let key := streamKey s h
      let pos := r.next + 1 - (r.seg.length + 1)
      if s.get F.CFG_STATUS_load_state ≠ 2 then s
      else if !f.crcOk key h.nonce r.next then
        if r.tries < 2 then
          flashSend (setLoad (s.bump F.CFG_CRC_RETRY_CNT_count 1) (some { r with tries := r.tries + 1 }))
            [readFast s r (4096 * r.next) 4096]
        else loadRefuse s 2 1 r.next
      else
        let seg := r.seg ++ [f]
        let last := r.next % 64 = 0 || r.next + 1 = h.frames
        let r' := { r with tries := 0, next := r.next + 1, seg := if last then [] else seg, kind := f.kind
                           hashes := if last then r.hashes ++ [segHash key h.nonce pos seg] else r.hashes }
        let go := fun (t : State) => flashSend t [readFast t r (4096 * (r.next + 1)) 4096]
        if !last then
          if !f.tagZero then loadRefuse s 3 2 r.next
          else go (setLoad s (some { r' with kind := r.kind }))
        else if !segTagOk key h.nonce pos seg then loadRefuse s 3 1 r.next
        else match segmentWrite h.frames pos r.kind seg s with
          | .error (c, k, fr) => loadRefuse s c k fr
          | .ok s =>
            let s := setLoad s (some r')
            if r.next + 1 = h.frames then streamEnd (loadStep s 3) h r'.hashes else go s

/-! The firmware, admission and the end of the load (R346, R351, R431, R433). -/

/-- The first check of R431 that the firmware fails: its code and data. -/
def firmwareBad (s : State) (f : Firmware) : Option (Nat × Nat) :=
  let slot := s.get F.CFG_STATUS_alt_tried
  let sv := f.version % 256
  if !f.sizeOk then some (0x43, f.length)
  else if 1 < f.index || f.keyHash ≠ Config.romHash f.index || (f.index = 0 && s.flag F.SEC_LC_fw_key0_rev)
      || !f.sigOk then some (0x40, slot)
  else if !f.bodyOk then some (0x41, slot)
  else if !svOk (s.get F.SEC_ARB_c_fw) sv then some (0x42, sv + s.get F.SEC_ARB_c_fw * 256)
  else none

/-- The owner that a stream names for a group, the loader where it names none (R311). -/
def streamOwner (s : State) (g : Nat) : Nat := s.cfg.owners.getD g 338

/-- The owner of bank group `g` that admission judges in a load (R186, R188, R196): the stream's; a group that is not
usable keeps owner 1,023 (R323). -/
def ownerAtRun (s : State) (g : Nat) : Nat := if (usableGroups s).contains g then streamOwner s g else 1023

/-- Every clock multiplexer runs from the source that the configuration names (R86 to R90, R74). A domain whose
source is LOST already when loading ends starts without a hold: R92 speaks of a source that is declared LOST
(log entry 102). A hold from before the end of loading ends with the source it waited for. -/
def clocksSet (s : State) : State :=
  let s := s.clk.held.foldl (fun t h => holdEnd t h.1) { s with clk := { s.clk with moves := [] } }
  let s := (List.range 32).foldl (fun t k => (List.range 3).foldl (fun u i =>
    let u := setMuxSrc u (3 * k + i) (u.get (F.CLK_RC_CFG_src k i))
    { u with clk := { u.clk with divs := aset u.clk.divs (3 * k + i) (u.get (F.CLK_RC_CFG_div k i)) } }) t) s
  let s := (List.range 4).foldl (fun t k =>
    let t := setMuxSrc t (96 + k) (t.get (F.TB_RCLK_CFG_src k))
    let t := { t with clk := { t.clk with divs := aset t.clk.divs (96 + k) (t.get (F.TB_RCLK_CFG_div k)) } }
    setMuxSrc t (116 + k) (t.get (F.CLK_AUX_CFG_ref k))) s
  (List.range 16).foldl (fun t g =>
    let sel := t.get (F.CLK_LGRP_CFG_ref_sel g)
    setMuxSrc t (100 + g) (sel + (if sel = 2 then 4 * t.get (F.CLK_LGRP_CFG_rec_grp g) else 0))) s

/-- A trigger output rests at its inactive level from the end of LOAD (R71). -/
def restLevels (s : State) : State :=
  let es := (s.tb.trgs.map (fun x => x.2)).filter (fun e => e.enable && e.actPin && uioRole s e.pin = 1)
  { s with pins := { s.pins with uioLevel := es.foldl (fun l e => aset l e.pin (!e.polarity)) [] } }

/-- Static bins take start_ctx with its initial values; every bin is OFF until its gate opens, and static ones run from
then on (R95, R137, R154, R351). -/
def staticStart (s : State) : State :=
  let s := ((List.range 264).filter (fun p => binKind s p = Kind.static)).foldl (fun t p =>
    let c := t.get (F.BIN_CTX_CFG_start_ctx p)
    loadInitial ((t.set (F.FAB_BIN_STATUS_ctx p) c).set (F.BIN_SEQ_STATUS_ctx p) c) p c) s
  (List.range 264).foldl (fun t p => closeGate t p) s

/-- The pools' usable bins stand in their registers (R181). -/
def poolStart (s : State) : State :=
  let s := (pools s).foldl (fun t p => t.set (F.SCH_POOL_STATUS_usable p) (usableCount t p)) s
  coverageAll (s.set F.ADM_CAP_cap s.adm.cap)

/-- The stream in force is named in its registers and measured (R366, R372, R432). -/
def streamInForce (s : State) (h : Header) : State :=
  let s := s.setAll ([(F.CFG_STREAM_frames, h.frames), (F.CFG_STREAM_VER_version, h.version)]
    ++ (List.range 12).map (fun i => (F.CFG_ROOT_root i, h.root / 2 ^ (32 * i))))
  let s := setCfg s { s.cfg with root := h.root, keySrc := h.keySrc }
  measureCfg (setTw s { s.twin with roots := [] })

/-- The anti-rollback counters that lie below what has been loaded advance once the windows hold (R433). -/
def arbQueue (s : State) (h : Header) : State :=
  let fw := s.sec.fwVersion % 256
  let st := h.version % 256
  let l := (if s.get F.SEC_ARB_c_fw < fw then [(0, fw)] else []) ++ (if s.get F.SEC_ARB_c_st < st then [(1, st)] else [])
  let s := setSec s { s.sec with advances := l }
  if l = [] then s else fuseDeferral s

/-- LN_LAT reports B + F + S of every lane (R246). -/
def latStart (s : State) : State :=
  (List.range 128).foldl (fun t l =>
    t.setAll [(F.LN_LAT_rx_base l, (latBase s l).1), (F.LN_LAT_tx_base l, (latBase s l).2)]) s

/-- The lanes that are enabled begin bring-up (R262, R351). -/
def lanesStart (s : State) : State :=
  (List.range 128).foldl (fun t l => if laneEnabled t l then toStep t l (laneStart t l) else t) s

/-- The run mode after LOAD (R351, R371): ACTIVE, or STANDBY and pairing when the stream declares twin
operation. -/
def runMode (s : State) : State :=
  if s.flag F.TW_CFG_enable then
    let s := setTw s { s.twin with strap := s.pins.twRoleIn }
    let s := ownTwin (gatesFollow (setMode (s.set F.RST_MODE_prior 1) Mode.standby))
    lanesStart s
  else
    let s := { s with pins := { s.pins with outputsSafe := false } }
    lanesStart (gatesFollow (setMode (s.set F.RST_MODE_prior 0) Mode.active))

/-- The end of the load (R351, R366, R425, R433). -/
def leaveLoad (s : State) (r : LoadRun) (h : Header) : State :=
  let slot := s.get F.CFG_STATUS_alt_tried
  let us := tkToUs (s.now - r.start)
  let s := (usableGroups s).foldl (fun t g =>
    if streamOwner t g = 338 then t else handoverEffect t ⟨true, g, streamOwner t g, false, true, t.now⟩) s
  let s := latStart (staticStart (poolStart (clocksSet (restLevels s))))
  let s := streamInForce s h
  let s := s.setAll [(F.ADM_RESULT_in_force, 1), (F.CFG_STATUS_slot, slot), (F.CFG_LOAD_US_us, us)]
  let s := setLoad (loadStep s 6) none
  let s := if s.flag F.TB_STATUS_fp_valid then (s.tb.trgs.map Prod.fst).foldl (fun t i => armTrg t i s.fp) s
    else s
  let s := arbQueue (freeFollow s) h
  let s := if s.lc = Lc.field then closeDebug s 2 else s
  let s := setSec s { s.sec with jtag := s.sec.jtag.filter (· ≤ 1) }
  let s := if slot = 1 then
      raise s 1023 0x11 5 (s.get (F.CFG_FAIL_code 0) + s.get (F.CFG_FAIL_area 0) * 256)
    else s
  let s := { s with pins := { s.pins with done := true } }
  let s := raise s 1023 0x10 3 (slot + us / 1000 % 65536 * 65536)
  let s := runMode s
  if s.flag F.TW_CFG_enable then
    pairStart (setTw s { s.twin with tm := { s.twin.tm with wait := some s.now, hb := s.now, ack := s.now } })
  else s

/-- Steps 6 and 7 (R198, R346, R351): admission judges the configuration; with TICK still not qualified the
device enters SAFE (R79). -/
def loadJudge (s : State) (r : LoadRun) (h : Header) : State :=
  let a := admissionRun s s (ownerAtRun s) 0
  let s := loadStep a.2 5
  if !a.1 then loadFail s 1 (s.get F.ADM_RESULT_first_code) (s.get F.ADM_RESULT_reason) (h.frames - 1)
  else if !monQual s 34 then toSafe (setLoad (raise s 1021 0x10 7 0) none) false
  else leaveLoad s r h

/-- Keeper SRAM with the image, header and body, copied into it from word 0 on (R431, log entry 157): the words that
are not 0. -/
def sramOf (f : Firmware) : List (Nat × Nat) :=
  let bs := (padWords f.head 128).flatMap (leBytes 4) ++ f.bytes
  ((List.range (ceilDiv bs.length 8)).map (fun w =>
    (w, ((bs.drop (8 * w)).take 8).foldr (fun b n => b + 256 * n) 0))).filter (fun x => x.2 != 0)

/-- FIRMWARE_READ (R346 step 5, R431). -/
def firmwareRead (s : State) (f : Firmware) : State :=
  match s.cfg.load with
  | none => s
  | some r => match r.hdr with
    | none => s
    | some h =>
      if s.get F.CFG_STATUS_load_state ≠ 4 then s
      else match firmwareBad s f with
        | some (c, d) => loadFail (raiseCrit s true 1023 c 6 d) 3 c 0 (h.frames - 1)
        | none =>
          let s := s.setAll ((List.range 12).map (fun i => (F.SEC_MEAS_FW_hash i, f.hash / 2 ^ (32 * i))))
          let s := setSec s { s.sec with fwVersion := f.version }
          let s := s.setLoft { s.loft with sram := sramOf f }
          loadJudge (setCfg s { s.cfg with fwHash := f.hash }) r h

end Sys2Proof.Machine
end

