-- ==== Sys2Proof/Machine/Partial.lean ====
section
/-! DEFINITION. Partial reconfiguration (R352 to R359): staging, the checks of a partial stream, and its
commit. -/

namespace Sys2Proof.Machine

/-! The self-rewrite port (R352, R353, R355). -/

/-- A partial stream is refused (R353, R365): the outcome of `area` goes to CFG_PR_STATUS. -/
def prStatus (s : State) (area code reason done : Nat) : State :=
  (s.bump F.CFG_PR_CNT_refused 1).setAll [(F.CFG_PR_STATUS_code, code), (F.CFG_PR_STATUS_area, area),
    (F.CFG_PR_STATUS_reason, reason), (F.CFG_PR_STATUS_frames_done, done)]

/-- A refusal code of R365 at the port: phase 1, severity 4. -/
def prRaise (s : State) (code reason frame : Nat) : State :=
  raise s 1023 code 4 (reason + s.get F.CFG_STATUS_slot * 16 + 4096 + frame * 65536)

/-- The staged stream is gone. -/
def prEmpty (s : State) : State :=
  setCfg (s.set F.CFG_PR_STATUS_state 0) { s.cfg with staging := none, stage := none }

/-- A stream is refused and the port is EMPTY (R353). -/
def prRefuse (s : State) (code reason frame : Nat) : State :=
  prRaise (prStatus (prEmpty s) 0 code reason frame) code reason frame

/-- The stage group is still the loader's (R352, R355). -/
def stageOurs (s : State) : Bool :=
  let g := s.get F.CFG_PR_CFG_stage_group
  s.get (F.LFT_GRP_OWN_owner g) = 338 && !s.flag (F.LFT_GRP_OWN_mixed g)

/-- One word of the source is read under rw_bin's owner ID (R308, R352); none for an error response or a
poisoned word. -/
def sourceWord (s : State) (a : Nat) : Option Nat × State :=
  let w := loftAddr a / 8
  let j := judge s (s.get F.CFG_PR_CFG_rw_bin) (wLBank w) false
  if !j.1 then (none, j.2) else readWord j.2 w (s.get F.CFG_PR_CFG_rw_bin)

/-- Some 64-bit words are copied from `a` to word `w` of the stage group; the answer is true when each
was read. -/
def copyWords : Nat → Nat → Nat → State → Bool × State
  | 0, _, _, s => (true, s)
  | n + 1, a, w, s =>
    if 2 ^ 29 ≤ a % 2 ^ 29 + 8 * n then (false, s)
    else
      let r := sourceWord s a
      match r.1 with
      | none => (false, r.2)
      | some d =>
        let j := judge r.2 338 (wLBank w) true
        if !j.1 then (false, j.2) else copyWords n (a + 8) (w + 1) (j.2.setLoft (j.2.loft.store w d))

/-- The frames of a stream are copied from frame `k` on; the answer is the first whose source could not be
read. -/
def copyFrames : Nat → Nat → Nat → Nat → State → Option Nat × State
  | 0, _, _, _, s => (none, s)
  | n + 1, k, a, w, s =>
    let r := copyWords 512 (a + 4096 * k) (w + 512 * k) s
    if r.1 then copyFrames n (k + 1) a w r.2 else (some k, r.2)

/-- PR_STAGE (R353, R355): a copy begins, or the write is refused. -/
def prStage (s : State) : State :=
  if s.get F.CFG_PR_STATUS_state ≠ 0 || !s.flag F.CFG_PR_CFG_enable || !stageOurs s then
    prRaise (prStatus s 0 4 6 0) 4 6 0
  else
    let a := s.get F.CFG_PR_SRC_addr / 64 * 64
    let n := min 4096 (s.get F.CFG_PR_LEN_frames)
    let s := s.setAll [(F.CFG_PR_STATUS_state, 1), (F.CFG_PR_STATUS_retained, 0),
      (F.CFG_PR_STATUS_frames_done, 0)]
    let r := copyFrames n 0 a (2 ^ 21 * s.get F.CFG_PR_CFG_stage_group) s
    setCfg r.2 { r.2.cfg with staging := some (s.now, r.1), stage := none, retained := none }

/-- PR_STAGE. -/
def execPrStage (s : State) : Res := checked .prStage (prStage s)

/-! The stage group's frames (R353, R356). -/

/-- Upsets strike words of the stage group, named by their place in it. -/
def stageStrike (s : State) (us : List (Nat × Upset)) : State :=
  us.foldl (fun t x => upsetWord t (2 ^ 21 * s.get F.CFG_PR_CFG_stage_group + x.1) x.2) s

/-- Some 64-bit words of the stage group are read by the loader; none when one is refused or poisoned. -/
def stageWords : Nat → Nat → State → Option (List Nat) × State
  | 0, _, s => (some [], s)
  | n + 1, w, s =>
    let j := judge s 338 (wLBank w) false
    if !j.1 then (none, j.2)
    else
      let r := readWord j.2 w 338
      match r.1 with
      | none => (none, r.2)
      | some d =>
        let t := stageWords n (w + 1) r.2
        (t.1.map (fun l => d % 2 ^ 32 :: d / 2 ^ 32 :: l), t.2)

/-- Frame `k` of the staged stream is read: its 1,024 words. -/
def stageFrame (s : State) (k : Nat) : Option (List Nat) × State :=
  stageWords 512 (2 ^ 21 * s.get F.CFG_PR_CFG_stage_group + 512 * k) s

/-- The words of frame `k` of a stream as they are stored. -/
def streamWords (s : State) (h : Header) (fs : List Frame) (k : Nat) : List Nat :=
  if k = 0 then padWords h.words 1024
  else (fs.getD (k - 1) ⟨[], [], [], [], []⟩).stored (streamKey s h) h.nonce k

/-- The staged stream is read from frame `k` on, `n` frames, against the one that `h` and `fs` say: the first frame that
cannot be read, with reason 2, or that differs, with reason 1. -/
def stageScan (h : Header) (fs : List Frame) : Nat → Nat → State → Option (Nat × Nat) × State
  | 0, _, s => (none, s)
  | n + 1, k, s =>
    let r := stageFrame s k
    match r.1 with
    | none => (some (2, k), r.2)
    | some ws => if ws = streamWords s h fs k then stageScan h fs n (k + 1) r.2 else (some (1, k), r.2)

/-- PR_DISCARD (R355, R359): the staged or retained stream is dropped; in COMMITTING nothing happens. -/
def prDiscard (s : State) : State :=
  let st := s.get F.CFG_PR_STATUS_state
  if st = 3 then s
  else if st = 0 then setCfg (s.set F.CFG_PR_STATUS_retained 0) { s.cfg with retained := none }
  else raise (prEmpty s) 1023 0x22 2 (ofBool (st = 1))

/-- PR_DISCARD. -/
def execPrDiscard (s : State) : Res := checked .prDiscard (prDiscard s)

/-! The region (R354). -/

/-- Logical bin `l` is in the region. -/
def hdrInMask (h : Header) (l : Nat) : Bool := l < 256 && bitAt h.binMask l

/-- The stream may carry Cellar records; may carry routes. -/
def hdrClasses (h : Header) : Bool := bitAt h.flags 0
def hdrRoutes (h : Header) : Bool := bitAt h.flags 1

/-- The kind of a logical bin as it stands. -/
def logKind (s : State) (l : Nat) : Nat := binKind s (physOf s l)

/-- A shelf record lies outside the bounds of R354. -/
def shelfOutside (s : State) (h : Header) (r : ShelfRec) : Bool :=
  !hdrInMask h (shelfBin r) || (match r with
    | .bin l k _ _ _ => k ≠ logKind s l
    | .route a b _ _ => !(hdrRoutes h && hdrInMask h b && logKind s a = 1 && logKind s b = 1)
    | _ => false)

/-- A frame's contents are outside the bounds of R354 or have no form (R341, R342); 0 for neither, else the
reason of CFG_ADDR. -/
def frameOutside (s : State) (h : Header) (f : Frame) : Nat :=
  if f.kind = 1 then
    if !hdrClasses h then 4
    else match cellarRecs 1008 1008 f.words with
      | none => 3
      | some rs => if rs.all partialRec then 0 else 4
  else if f.kind = 2 then (if f.shelf.any (shelfOutside s h) then 4 else 0)
  else if f.kind = 3 then
    match replication [] f.words with
    | none => 3
    | some ts => if ts.all (fun t => hdrInMask h (t.1 / 8) && bitAt h.ctxMask (t.1 % 8)) then 0 else 4
  else if f.kind = 5 then 4
  else 0

/-- The frames of a verified segment are judged in order from position `pos` after a frame of kind
`prev`. -/
def stageSegment (s : State) (h : Header) :
    Nat → Nat → List Frame → StreamSeen → Except (Nat × Nat × Nat) StreamSeen
  | _, _, [], x => .ok x
  | pos, prev, f :: t, x =>
    match frameForm x h.frames pos prev f with
    | some (c, k) => .error (c, k, pos)
    | none =>
      let o := frameOutside s h f
      if o ≠ 0 then .error (4, o, pos)
      else
        let x := seenNext x f
        if f.kind = 2 then stageSegment s h (pos + 1) f.kind t { x with shelf := x.shelf ++ f.shelf }
        else if f.kind = 3 then
          match replication x.targets f.words with
          | none => .error (4, 3, pos)
          | some ts => stageSegment s h (pos + 1) f.kind t { x with targets := ts }
        else stageSegment s h (pos + 1) f.kind t x

/-- The frames from position `pos` on (R333, R336, R337): each CRC, then each segment's tag, then its frames; the answer
has the segments' hashes `hs`. `seg` holds the frames of the open segment and `prev` the kind before it. -/
def stageFrames (s : State) (h : Header) :
    Nat → Nat → List Frame → StreamSeen → List Nat → List Frame → Except (Nat × Nat × Nat) (StreamSeen × List Nat)
  | pos, _, _, _, _, [] => .error (4, 1, pos)
  | pos, prev, seg, x, hs, f :: t =>
    let final := pos + 1 = h.frames
    let key := streamKey s h
    let all := seg ++ [f]
    if !f.crcOk key h.nonce pos then .error (2, 1, pos)
    else if pos % 64 ≠ 0 && !final then
      if !f.tagZero then .error (3, 2, pos) else stageFrames s h (pos + 1) prev all x hs t
    else if !segTagOk key h.nonce (pos - seg.length) all then .error (3, 1, pos)
    else match stageSegment s h (pos - seg.length) prev all x with
      | .error e => .error e
      | .ok y =>
        let hs := hs ++ [segHash key h.nonce (pos - seg.length) all]
        if final then .ok (y, hs) else stageFrames s h (pos + 1) f.kind [] y hs t

/-! What a partial stream brings (R342, R354, R356). -/

/-- Two shelf records set the same thing. -/
def sameThing : ShelfRec → ShelfRec → Bool
  | .bin a _ _ _ _, .bin b _ _ _ _ => a = b
  | .clocks a _ _, .clocks b _ _ => a = b
  | .lane a _, .lane b _ => a = b
  | .enables a c _, .enables b d _ => a = b && c = d
  | _, _ => false

/-- A resident route that the stream's routes replace: both ends lie in the region of a stream that may
carry routes (log entry 32). -/
def routeReplaced (h : Header) : ShelfRec → Bool
  | .route a b _ _ => hdrRoutes h && hdrInMask h a && hdrInMask h b
  | _ => false

/-- The resident shelf records with the stream's in their places. -/
def mergeShelf (h : Header) (old new : List ShelfRec) : List ShelfRec :=
  old.filter (fun r => !new.any (sameThing r) && !routeReplaced h r) ++ new

/-- Logical bin `l` leaves every pool. -/
def leavePools (s : State) (l : Nat) : State :=
  (List.range 32).foldl (fun t p =>
    let f := F.SCH_POOL_BINS_bins p (l / 32)
    t.set f (putBit (t.get f) (l % 32) false)) s

/-- FAB_CORR_USE shows the routes `ps` and no others. -/
def corrUseAll (s : State) (ps : List RoutePlan) : State :=
  corrUse ((List.range 264).foldl (fun t p =>
    (t.set (F.FAB_CORR_USE_out_used p) 0).set (F.FAB_CORR_USE_pass_used p) 0) s) ps

/-- The stream's shelf records take effect (R342, R354); the others' routes keep their channels. -/
def partialShelf (s : State) (h : Header) (x : StreamSeen) : Except (Nat × Nat) State :=
  let rs := mergeShelf h s.cfg.seen.shelf x.shelf
  if x.shelf.any (shelfBad s (logKind s)) || shelfTwice rs then .error (4, 3)
  else
    let kept := s.cfg.routes.filter (fun r => !(hdrRoutes h && hdrInMask h r.src && hdrInMask h r.dst))
    match planAll s (unplaced s) (routesOf x.shelf) kept with
    | .error _ => .error (4, 3)
    | .ok ps =>
      let ls := (List.range 256).filter (fun l => hdrInMask h l && (binRec x.shelf l).isSome)
      let s := ls.foldl leavePools s
      let s := ((List.range 256).filter (hdrInMask h)).foldl (putBin rs) s
      .ok (setCfg (corrUseAll s ps) { s.cfg with
        routes := ps, enables := enablesOf rs, seen := { s.cfg.seen with shelf := rs } })

/-- The number of the first image that a commit adds to those in force. -/
def imageBase (s : State) : Nat := 2048 * (1 + s.cfg.image.foldl (fun m e => max m (e.1 / 65536)) 0)

/-- The stream's images reach their targets (R342). -/
def partialImages (s : State) (x : StreamSeen) : State :=
  let b := imageBase s
  let s := setCfg s { s.cfg with
    image := x.data.foldl (fun l e => aset l (32 * b + e.1) e.2) s.cfg.image
    elems := x.elems.foldl (fun l e => aset l (32 * b + e.1) e.2) s.cfg.elems }
  (List.range (x.image / 32)).foldl (fun t img => imageTargets t x.targets img (b + img)) s

/-- A pool's membership outside the region changed (R354). -/
def poolsOutside (s t : State) (h : Header) : Bool :=
  (List.range 32).any (fun p => (List.range 256).any (fun l => !hdrInMask h l && poolHas s p l != poolHas t p l))

/-- The Cellar records of some frames take effect over the resident state `was`; an error names the frame that carries
it, also where a frame changes a pool outside the region (R354). -/
def partialRecords (was : State) (h : Header) : List Frame → State → Except (Nat × Nat × Nat) State
  | [], s => .ok s
  | f :: t, s =>
    if f.kind ≠ 1 then partialRecords was h t s
    else match recsWrite f.index ((cellarRecs 1008 1008 f.words).getD []) s with
      | .error e => .error (e.1, e.2, f.index)
      | .ok s' => if poolsOutside was s' h then .error (4, 4, f.index) else partialRecords was h t s'

/-- All that a partial stream brings takes effect (R354, R356); an error is the code, the reason and the frame. -/
def partialApply (s : State) (h : Header) (fs : List Frame) (x : StreamSeen) : Except (Nat × Nat × Nat) State :=
  match partialShelf s h x with
  | .error e => .error (e.1, e.2, h.frames - 1)
  | .ok t =>
    let t := partialImages t x
    let keep := t.cfg.seen
    match partialRecords s h fs (setSeen t StreamSeen.reset) with
    | .error e => .error e
    | .ok t =>
      let t := { setSeen t keep with adm := { t.adm with cap := t.get F.THM_CAP_cap } }
      .ok (classDerived t)

/-- What R185 names changed: class fields, the pools' bins, the cap, tj_adm, the declared power. -/
def admNamed (s t : State) : Bool :=
  let named := fun a =>
    (0x41000 ≤ a && a < 0x43000 && (a - 0x41000) % 0x80 < 0x1C)
      || (0x43000 ≤ a && a < 0x43800 && 4 ≤ (a - 0x43000) % 0x40 && (a - 0x43000) % 0x40 < 0x24)
  let mine := fun (u : State) => u.flds.filter (fun e => named (e.1 / 32 % 2 ^ 32))
  mine s ≠ mine t || s.adm ≠ t.adm

/-- The stream has passed its frames (R353): structural checks, root over the segments' hashes, admission; then it is
VERIFIED. -/
def stageJudge (s : State) (h : Header) (fs : List Frame) (x : StreamSeen) (hs : List Nat) : State :=
  let last := h.frames - 1
  match partialApply s h fs x with
  | .error (c, k, fr) => prRefuse s c k fr
  | .ok t =>
    if enablesClash t then prRefuse s 5 0 last
    else if !poolsAgree t t.cfg.seen.shelf || streamBad (setSeen t x) false then prRefuse s 4 3 last
    else if rootOf hs ≠ h.root then prRefuse s 1 3 last
    else
      let a := if admNamed s t then admissionRun s t (fun g => s.bankOwner (32 * g)) 1 else (true, s)
      let s := a.2
      if !a.1 then
        prStatus (prEmpty s) 1 (s.get F.ADM_RESULT_first_code) (s.get F.ADM_RESULT_reason) h.frames
      else
        let s := (s.bump F.CFG_PR_CNT_staged 1).setAll ([(F.CFG_PR_STATUS_state, 2),
          (F.CFG_PR_STATUS_frames_done, h.frames)]
          ++ (List.range 12).map (fun i => (F.CFG_PR_ROOT_root i, h.root / 2 ^ (32 * i))))
        let run : StageRun := ⟨h, fs, x, 0, [], none⟩
        raise (setCfg s { s.cfg with staging := none, stage := some run }) 1023 0x20 2 h.frames

/-- The checks over a staged stream whose frames have been read (R353). -/
def stageVerify (s : State) (h : Header) (fs : List Frame) : State :=
  if !h.crcOk then prRefuse s 2 1 0
  else match headerBad s h 2 with
    | some (c, k) => prRefuse s c k 0
    | none =>
      if h.frames ≠ s.get F.CFG_PR_LEN_frames || 4096 < h.frames then prRefuse s 4 5 0
      else if h.frames < 2 then prRefuse s 4 1 0
      else if 4 ≤ h.flags then prRefuse s 4 4 0
      else match stageFrames s h 1 1 [] StreamSeen.reset [] fs with
        | .error (c, k, fr) => prRefuse s c k fr
        | .ok x => stageJudge s h (fs.take (h.frames - 1)) x.1 x.2

/-- PR_STAGE_COMPLETE (R353): the copied stream is verified, 256 tk for each frame after its start. `h` and `fs` say what
the frames in the stage group hold: a command that says another stream than the one staged names nothing that happens,
and a frame that the group no longer yields refuses the stream (log entry 32). -/
def prStageComplete (s : State) (h : Header) (fs : List Frame) : State :=
  match s.cfg.staging with
  | none => s
  | some (t0, bad) =>
    let n := min 4096 (s.get F.CFG_PR_LEN_frames)
    let s := s.atNow (t0 + 256 * n)
    match bad with
    | some k => prRefuse s 2 2 k
    | none =>
      let r := stageScan h fs n 0 s
      match r.1 with
      | some (2, k) => prRefuse r.2 2 2 k
      | some _ => s
      | none => if fs.length + 1 = n then stageVerify r.2 h fs else s

/-- PR_STAGE_COMPLETE. -/
def execPrStageComplete (h : Header) (fs : List Frame) (s : State) : Res :=
  checked (.prStageComplete h fs) (prStageComplete s h fs)

/-! The commit (R355 to R358). -/

/-- The kernels of a bin that a commit affects (R356): the contexts of ctx_mask, or every context of a bin
whose pool changes. -/
def affectedOf (s : State) (x : StageRun) : List Nat :=
  let t := match partialApply s x.hdr x.frames x.seen with
    | .ok t => t
    | .error _ => s
  ((List.range 256).filter (fun l => hdrInMask x.hdr l && logKind s l = Kind.scheduled)).flatMap (fun l =>
    let moves := poolOf s (physOf s l) ≠ poolOf t (physOf s l)
    ((List.range 8).filter (fun c => moves || bitAt x.hdr.ctxMask c)).map (fun c => 8 * l + c))

/-- An item's kernel is affected at physical bin `p`. -/
def itemAffected (s : State) (aff : List Nat) (p : Nat) (i : Item) : Bool :=
  aff.contains (8 * logOf s p + s.get (F.SCH_CLASS_CFG_kernel i.cls))

/-- The static bins of the region, as physical bins. -/
def staticRegion (s : State) (h : Header) : List Nat :=
  ((List.range 256).filter (fun l => hdrInMask h l && logKind s l = Kind.static)).map (physOf s)

/-- A commit begins in the tick of its trigger (R71, R355, R356); `index` names the trigger. -/
def commitBegin (s : State) (index : Nat) : State :=
  match s.cfg.stage with
  | none => raise s 977 0x25 4 index
  | some x =>
    if s.get F.CFG_PR_STATUS_state ≠ 2 then raise s 977 0x25 4 index
    else if s.mode = Mode.dormant && !s.modes.shelvesUp then raise s 977 0x26 4 index
    else
      let aff := affectedOf s x
      let st := staticRegion s x.hdr
      let s := setCfg (s.set F.CFG_PR_STATUS_state 3) { s.cfg with
        stage := some { x with fired := s.now, affected := aff },
        heldCommit := st.foldl (fun l p => nins p l) s.cfg.heldCommit }
      let ds := s.sch.decisions.filter (fun d => !(findItem s d.item).any (itemAffected s aff d.bin))
      let s := { s with sch := { s.sch with heldKernels := aff, decisions := ds } }
      let s := (s.sch.items.filter (fun i => i.st = .bound && itemAffected s aff i.bin i)).foldl unbind s
      st.foldl (fun t p => binResetStart t p 4) s

/-- No bin of the region runs an item of an affected kernel (R356). -/
def drained (s : State) (x : StageRun) : Bool :=
  s.sch.items.all (fun i => !(i.st = .run && itemAffected s x.affected i.bin i))

/-- The bins held for a commit leave reset (R356). -/
def commitRelease (s : State) : State :=
  let ps := s.cfg.heldCommit
  ps.foldl binResetEnd (setCfg s { s.cfg with heldCommit := [] })

/-- Held-back kernels may be dispatched again. -/
def kernelsFree (s : State) : State := { s with sch := { s.sch with heldKernels := [] } }

/-- The lap of scrubber engine `e`; the first begins at reset. -/
def lapOf (s : State) (e : Nat) : Lap := (aget s.cfg.laps e).getD ⟨0, false, false, bgRate s e⟩

/-- Every lap that runs now is not compared (R363). -/
def lapsTouch (s : State) : State :=
  setCfg s { s.cfg with laps := [0, 1].foldl (fun l e => aset l e { lapOf s e with touched := true }) s.cfg.laps }

/-- The commit of `x` writes configuration word `w`: the contexts of its targets, the route and clock configuration of
the bins that its shelf records name (R356, R364). -/
def commitWrites (s : State) (x : StageRun) (w : Nat) : Bool :=
  if wordCtx w = 8 then x.seen.shelf.any (fun r => (recBins r).any (fun l => physOf s l = wordBin w))
  else x.seen.targets.any (fun t => physOf s (t.1 / 8) = wordBin w && t.1 % 8 = wordCtx w)

/-- PR_COMMIT_WRITE_START (R356): the bins have drained and the pre-check has read the stage group again, whose words the
upsets `us` have struck; a stream that it finds wrong is refused as at staging (log entry 32). -/
def execPrCommitWriteStart (us : List (Nat × Upset)) (s : State) : Res :=
  checked (.prCommitWriteStart us) <|
    match s.cfg.stage with
    | none => s
    | some x =>
      if s.get F.CFG_PR_STATUS_state ≠ 3 || x.writing.isSome || !drained s x then s
      else
        let r := stageScan x.hdr x.frames x.hdr.frames 0 (stageStrike (s.atNow (x.fired + 256 * x.hdr.frames)) us)
        match r.1 with
        | some (c, k) => commitRelease (kernelsFree (prRefuse r.2 2 c k))
        | none => lapsTouch (setCfg r.2 { r.2.cfg with stage := some { x with writing := some r.2.now } })

/-- The bins of the region lose their disabled hatch wires as the commit writes their enables (R127). -/
def wiresWritten (s : State) (x : StageRun) : State :=
  let cols := (x.seen.shelf.filterMap (fun r => match r with
    | .enables l _ _ => some (physOf s l % 132)
    | _ => none))
  let gone := s.cfg.wireHeld.filter (fun w => cols.contains (w / 192))
  let s := setCfg s { s.cfg with wireHeld := s.cfg.wireHeld.filter (fun w => !gone.contains w) }
  gone.foldl (fun t w => setWireOff t (w / 192) (w % 192) false) s

/-- The items of classes that the commit removes are dropped (R356); a running one is ended by the scheduler (R153, log
entry 82). -/
def dropRemoved (s : State) (was : List Nat) : State :=
  let gone := s.sch.items.filter (fun i => was.contains i.cls && !s.flag (F.SCH_CLASS_CFG_defined i.cls))
  gone.foldl (fun t i =>
    (if i.st = .run then killItem t i.bin i 3 else dropItem t i).bump F.CFG_PR_DROP_CNT_count 1) s

/-- The classes that a failed commit shed return once their contexts hold images again (R358). -/
def failRestore (s : State) : State :=
  let bad := s.cfg.failShed.filter (fun k => (poolBins s (classPool s k)).any (fun l =>
    (imageAt s l (s.get (F.SCH_CLASS_CFG_kernel k))).isNone))
  setDegraded (setCfg s { s.cfg with failShed := bad }) 8 (bad != [])

/-- The commit cannot complete (R358). -/
def commitFail (s : State) (x : StageRun) (frame : Nat) : State :=
  let ts := x.seen.targets.map Prod.fst
  let s := ts.foldl (fun t k =>
    let f := F.BIN_CTX_CFG_ctx_loaded (physOf t (k / 8))
    t.set f (putBit (t.get f) (k % 8) false)) s
  let s := setCfg s { s.cfg with mem := ts.foldl (fun l k => adel l (8 * physOf s (k / 8) + k % 8)) s.cfg.mem }
  let s := wordsFresh s (commitWrites s x)
  let ks := (defined s).filter (fun k => (poolBins s (classPool s k)).any (fun l =>
    ts.contains (8 * l + s.get (F.SCH_CLASS_CFG_kernel k))))
  let s := ks.foldl shedClass (setCfg s { s.cfg with failShed := ks.foldl (fun l k => nins k l) s.cfg.failShed })
  let s := kernelsFree (prEmpty s)
  setDegraded (raise s 1023 0x23 6 frame) 8 true

/-- The write ends (R356, R393): everything the stream brings is in force. -/
def commitEnd (s : State) (x : StageRun) (t : State) : State :=
  let was := defined s
  let ran := admNamed s t
  let s := wiresWritten t x
  let s := s.setAll [(F.CFG_PR_STATUS_state, 0), (F.CFG_PR_STATUS_retained, 1),
    (F.CFG_PR_COMMIT_FP_LO_fp, s.fpStamp % 2 ^ 32), (F.CFG_PR_COMMIT_FP_HI_fp, s.fpStamp / 2 ^ 32)]
  let s := if ran then s.set F.ADM_RESULT_in_force 1 else s
  let s := setCfg (s.bump F.CFG_STATUS_commits 1) { s.cfg with
    stage := none, retained := some { x with affected := [], writing := none }, lastMask := x.hdr.binMask
    shelfNew := (x.seen.shelf.flatMap recBins).foldl (fun l b => nins b l) s.cfg.shelfNew }
  let s := wordsFresh s (commitWrites s x)
  let s := failRestore (kernelsFree (dropRemoved s was))
  let s := commitRelease s
  let s := coverageAll ((pools s).foldl poolRecount (s.set F.ADM_CAP_cap s.adm.cap))
  let s := raise s 1023 0x21 3 (min (s.now - x.fired) (2 ^ 32 - 1))
  let s := hashSend (setTw s { s.twin with roots := s.twin.roots ++ [x.hdr.root] })
  subGo (freeFollow s)

/-- PR_COMMIT_END (R356, R358): the end tick, one after the last write. The write read the stage group, whose words the
upsets `us` have struck: a frame that it could not read fails the commit. A stream that no longer fits the map fails in
the same way (log entry 32). -/
def execPrCommitEnd (us : List (Nat × Upset)) (s : State) : Res :=
  checked (.prCommitEnd us) <|
    match s.cfg.stage with
    | none => s
    | some x => match x.writing with
      | none => s
      | some t0 =>
        let s := s.atNow (t0 + max 1 (imageTk * (x.seen.image / 32)))
        let r := stageScan x.hdr x.frames x.hdr.frames 0 (stageStrike (lapsTouch s) us)
        let s := r.2
        match r.1 with
        | some (_, k) => commitFail s x (k % 8192)
        | none => match partialApply s x.hdr x.frames x.seen with
          | .error _ => commitFail s x (x.hdr.frames - 1)
          | .ok t => commitEnd s x t

end Sys2Proof.Machine
end

