-- ==== Sys2Proof/Machine/Scrub.lean ====
section
/-! DEFINITION. The configuration scrubbers (R127, R360 to R364): the words of configuration memory, what
an engine finds, repairs, laps. -/

namespace Sys2Proof.Machine

/-- A word that a commit or a load writes now is skipped (R364). -/
def wordWritten (s : State) (w : Nat) : Bool :=
  s.mode = Mode.load || s.cfg.stage.any (fun x => x.writing.isSome && commitWrites s x w)

/-- Engine `e` moves on: engine 0 ascending, engine 1 descending (R360). -/
def scrubNext (s : State) (e : Nat) : State :=
  let p := s.get (F.CFG_SCRUB_POS_word e)
  s.set (F.CFG_SCRUB_POS_word e)
    (if e = 0 then (p + 1) % cfgWords else (p + cfgWords - 1) % cfgWords)

/-- The lap of engine `e` is replaced. -/
def setLap (s : State) (e : Nat) (x : Lap) : State :=
  setCfg s { s.cfg with laps := aset s.cfg.laps e x }

/-! Disabled hatch wires (R127). A wire has number 192 · column + w. -/

/-- The disablement of a wire ends (R127, R364). -/
def wireEnds (s : State) (k : Nat) : State :=
  let s := setWireOff s (k / 192) (k % 192) false
  setCfg s { s.cfg with wireSeen := s.cfg.wireSeen.filter (fun x => x / 2 != k), wireHeld := ndel s.cfg.wireHeld k }

/-- An engine visits the enable of wire `w` of the column of bin `p` and finds it intact: once both ends
are, the wire is held (R127). -/
def wireIntact (s : State) (p w : Nat) : State :=
  let k := 192 * (p % 132) + w
  if !wireOff s (p % 132) w || s.cfg.wireHeld.contains k then s
  else
    let seen := nins (2 * k + shelfOf p) s.cfg.wireSeen
    if seen.contains (2 * k) && seen.contains (2 * k + 1) then
      raise (setCfg s { s.cfg with wireSeen := seen, wireHeld := nins k s.cfg.wireHeld })
        (512 + p % 132) 0x11 6 w
    else setCfg s { s.cfg with wireSeen := seen }

/-! What an engine finds (R361, R362). -/

/-- The upsets `u` strike configuration word `w`. -/
def cfgStrike (s : State) (w : Nat) (u : Upset) : State :=
  let m := struckAt s w
  setStruck s w (m.1 ^^^ (u.data % 2 ^ 64), m.2 ^^^ (u.check % 256))

/-- Word `w` cannot be corrected: it awaits repair (R361, R362), once. -/
def wordQueue (s : State) (e w : Nat) (wire : Option Nat) : State :=
  if s.cfg.repairs.any (fun r => r.word = w) || s.cfg.lostWords.contains w then s
  else
    let use := wordInUse s w
    let s := setCfg s { s.cfg with repairs := s.cfg.repairs ++ [⟨e, w, wire, use⟩] }
    if use then wordHold s (wordBin w) else s

/-- CFG_SCRUB_WORD (R360 to R364): engine `e` checks its next word, which the upsets `u` have struck. `voted` says that
a copy of its control state was outvoted; `wire` is the user hatch wire whose enable the word holds. -/
def scrubWord (s : State) (e : Nat) (u : Upset) (wire : Option Nat) (voted : Bool) : State :=
  let s := if voted then s.bump F.CFG_SCRUB_VOTE_CNT_count 1 else s
  let s := bgDue s e
  let w := s.get (F.CFG_SCRUB_POS_word e)
  let p := wordBin w
  let s := cfgStrike s w u
  if wordWritten s w then s
  else match cfgDecode s w with
    | .clean _ => scrubNext (match wire with
      | some x => wireIntact s p x
      | none => s) e
    | .corrected d =>
      let s := (cfgStore s w d).bump (F.CFG_SCRUB_CNT_corrected e) 1
      scrubNext (match wire with
        | some x => wireEnds s (192 * (p % 132) + x)
        | none => s) e
    | .poisoned => scrubNext (wordQueue s e w wire) e
    | .uncorrectable => scrubNext (wordQueue s e w wire) e

/-- CFG_SCRUB_WORD. -/
def execCfgScrubWord (e : Nat) (u : Upset) (wire : Option Nat) (voted : Bool) (s : State) : Res :=
  checked (.cfgScrubWord e u wire voted) (scrubWord s e u wire voted)

/-- A word cannot be repaired: its scheduled bin is retired, its static bin held for good (R362). -/
def wordLost (s : State) (w : Nat) : State :=
  let p := wordBin w
  let s := setCfg s { s.cfg with lostWords := nins w s.cfg.lostWords }
  if binKind s p = Kind.scheduled then
    retireBin (s.bump F.CFG_SCRUB_STATE_unrepaired 1) p 2
  else if binKind s p = Kind.static then holdForGood s p
  else s

/-! The sources of R361. -/

/-- Source 1: the same word of another bin with the same image in the same context, where its copy is clean. -/
def copyOf (s : State) (w : Nat) : Option Nat :=
  let c := wordCtx w
  let img := fun (q : Nat) => aget s.cfg.mem (8 * q + c)
  if c = 8 || (img (wordBin w)).isNone then none
  else (List.range 264).findSome? (fun q =>
    if q = wordBin w || img q ≠ img (wordBin w) then none
    else match cfgDecode s (cfgBinWords * q + w % cfgBinWords) with
      | .clean d => some d
      | _ => none)

/-- Source 2 holds word `w`: the full stream wrote it last. -/
def inFlash (s : State) (w : Nat) : Bool :=
  if wordCtx w = 8 then !s.cfg.shelfNew.contains (logOf s (wordBin w))
  else (aget s.cfg.mem (8 * wordBin w + wordCtx w)).all (· < 2048)

/-- The frame of stream `x` that wrote word `w`, where its commit was the last to write it. -/
def wroteFrame (s : State) (x : StageRun) (w : Nat) : Option Frame :=
  let o := w % cfgBinWords
  if wordCtx w = 8 then
    x.frames.find? (fun f => f.kind = 2 && f.shelf.any (fun r => (recBins r).contains (logOf s (wordBin w))))
  else match aget s.cfg.mem (8 * wordBin w + wordCtx w) with
    | none => none
    | some img =>
      if img / 2048 + 1 ≠ imageBase s / 2048 || !commitWrites s x w then none
      else x.frames.find? (fun f => f.kind = 4 && f.addr = imageAddr (32 * (img % 2048) + o % 12096 / 504))

/-- Source 3: the retained partial stream, whose frame is read from the stage group (R359). -/
def retainedHas (s : State) (w : Nat) : Bool × State :=
  match s.cfg.retained with
  | none => (false, s)
  | some x => match wroteFrame s x w with
    | none => (false, s)
    | some f =>
      let r := stageFrame s f.index
      (r.1 = some (streamWords s x.hdr x.frames f.index), r.2)

/-- The source of word `w` in the order of R361, 0 for none, and the data that it gives. `flashOk` says that the flash
gives the frame again and that its segment verifies. -/
def repairSource (s : State) (w : Nat) (flashOk : Bool) : Nat × Nat × State :=
  match copyOf s w with
  | some d => (1, d, s)
  | none =>
    if inFlash s w && flashOk then (2, cfgData s w, s)
    else
      let r := retainedHas s w
      (if r.1 then 3 else 0, cfgData s w, r.2)

/-- CFG_SCRUB_REPAIR (R361, R362): the oldest word that awaits repair is written from the first source that holds a
clean copy, or none does. -/
def execCfgScrubRepair (flashOk : Bool) (s : State) : Res :=
  checked (.cfgScrubRepair flashOk) <|
    match s.cfg.repairs with
    | [] => s
    | r :: rest =>
      let p := wordBin r.word
      let x := repairSource s r.word flashOk
      let s := lapsTouch (setCfg x.2.2 { x.2.2.cfg with repairs := rest })
      let ctx := if wordCtx r.word = 8 then 4096 else wordCtx r.word * 512
      let s := raise s 1023 0x30 5 (p + ctx + ofBool (x.1 ≠ 0) * 8192 + x.1 * 16384)
      if x.1 = 0 then wordLost s r.word
      else
        let s := (cfgStore s r.word x.2.1).bump (F.CFG_SCRUB_CNT_repaired r.engine) 1
        let s := match r.wire with
          | some x => wireEnds s (192 * (p % 132) + x)
          | none => s
        wordRelease s p

/-! Laps (R363). -/

/-- Engine `e` starts over, with the rate of its register. -/
def scrubRestart (s : State) (e : Nat) : State :=
  setLap (s.set (F.CFG_SCRUB_POS_word e) 0) e ⟨s.now, false, false, s.get (F.LFT_BG_CFG_rate e)⟩

/-- The signatures of both engines' last laps are compared (R363). -/
def lapCompare (s : State) : State :=
  if !(lapOf s 0).ready || !(lapOf s 1).ready then s
  else if s.get (F.CFG_SCRUB_SIG_sig 0) = s.get (F.CFG_SCRUB_SIG_sig 1) then
    s.set F.CFG_SCRUB_STATE_mismatches 0
  else
    let n := min 3 (s.get F.CFG_SCRUB_STATE_mismatches + 1)
    let s := raise (s.set F.CFG_SCRUB_STATE_mismatches n) 1023 0x31 4 (ofBool (n = 3))
    let s := scrubRestart (scrubRestart s 0) 1
    if n = 3 && !s.flag F.CFG_SCRUB_STATE_failed then
      setDegraded (raise (s.set F.CFG_SCRUB_STATE_failed 1) 1023 0x32 6 0) 7 true
    else s

/-- The ticks of a lap at the rate of engine `e`: units of 8 words per µs, 0 acting as 1 (R318, R360). -/
def lapTk (s : State) (e : Nat) : Nat := ceilDiv (cfgWords * 98304) (max 1 (bgRate s e) * 8 * 100)

/-- The signature of a lap: the exclusive OR over all words of the hash of the address and the corrected data. -/
def cfgSignature (s : State) : Nat :=
  (List.range cfgWords).foldl (fun x w => x ^^^ (Config.cfgHash w (cfgRead s w) % 2 ^ 32)) 0

/-- CFG_SCRUB_LAP_END (R360, R363, R366): engine `e` ends a lap, every word visited at its rate; upsets in the engine
have inverted the bits `flip` of its signature. -/
def execCfgScrubLapEnd (e flip : Nat) (s : State) : Res :=
  checked (.cfgScrubLapEnd e flip) <|
    let l := lapOf s e
    let sig := cfgSignature s ^^^ flip
    let s := s.atNow (l.start + cfgWords * bgGap s e / 100)
    let us := satNat 24 (tkToUs (s.now - l.start))
    let s := s.setAll [(F.CFG_SCRUB_POS_word e, 0), (F.CFG_SCRUB_SIG_sig e, sig),
      (F.CFG_SCRUB_LAP_lap_us e, us), (F.LFT_BG_LAP_lap_us e, us)]
    lapCompare (setLap s e ⟨s.now, false, !l.touched, s.get (F.LFT_BG_CFG_rate e)⟩)

/-- CFG_SCRUB_STALL (R363): no lap has ended within twice the lap time. -/
def execCfgScrubStall (e : Nat) (s : State) : Res :=
  checked (.cfgScrubStall e) <|
    let s := s.atNow ((lapOf s e).start + 2 * lapTk s e)
    raise (scrubRestart s e) 1023 0x33 4 e

end Sys2Proof.Machine
end

