-- ==== Sys2Proof/Machine/Restart.lean ====
section
/-! DEFINITION. POR and DEVICE resets (R32, R33, R405, R406, R410), what a start restores from the ledger
and the fuses (R63, R422, R429, R456), and the begin of a load (R346). -/

namespace Sys2Proof.Machine

/-! What a start restores (R456). -/

/-- The critical event entries held by the ledger, the oldest first, since the device last left MAKER
for an owner (R451). -/
def ownedEntries : List LedSlot → List EvRec
  | [] => []
  | x :: t =>
    let r := x.entry.record
    let rest := ownedEntries t
    if !x.entry.crit then rest
    else if t.any (fun y => y.entry.crit && y.entry.record.code = 0x47 && y.entry.record.source = 1023
        && y.entry.record.data % 16 = 1) then rest
    else r :: rest

/-- The critical event records held by the ledger. -/
def critRecs (s : State) : List EvRec :=
  ((s.led.stored.map (fun x => x.entry)).filter (fun e => e.crit && e.payload = [])).map (fun e => e.record)

/-- A recorded bank substitution is applied (R322, R456): the spare of group `g` serves bank `k`. -/
def applySpare (s : State) (r : EvRec) : State :=
  if r.code ≠ 6 || r.source < 776 || 807 < r.source then s
  else
    let g := r.source - 776
    if s.get (F.LFT_GRP_STATUS_spare_for g) ≠ 0x3F then s
    else
      let k := r.data % 32
      let s := s.setAll [(F.LFT_GRP_STATUS_spare_for g, k), (F.LFT_BANK_OWN_substituted (32 * g + k), 1)]
      s.bump F.LFT_STATUS_spares_used 1

/-- A bank recorded as worn and not yet substituted takes its group's spare, whose contents are lost anyway
(R455). -/
def applyWorn (s : State) (r : EvRec) : State :=
  if r.code ≠ 8 || r.source < 776 || 807 < r.source then s
  else
    let g := r.source - 776
    if s.get (F.LFT_GRP_STATUS_spare_for g) ≠ 0x3F then s
    else raiseCrit (spareTakes s g (r.data % 32)) true (776 + g) 6 5 (r.data % 32)

/-- A recorded VCO substitution is applied (R456). -/
def applyVco (s : State) (r : EvRec) : State :=
  if r.code ≠ 0x0A || r.source % 32 ≠ 0 || 512 ≤ r.source then s
  else
    let g := r.source / 32
    if s.flag (F.LN_GRP_STATUS_vco g) then s
    else (s.set (F.LN_GRP_STATUS_vco g) 1).bump F.SPR_STATUS_vco_used 1

/-- A recorded retirement is applied (R451). -/
def applyRetired (s : State) (r : EvRec) : State :=
  if r.code ≠ 0x14 || r.source < 512 || 775 < r.source then s
  else
    let p := r.source - 512
    if isRetired s p then s
    else
      let s := s.setAll [(F.FAB_BIN_STATUS_retired p, 1), (F.SPR_BIN_WEAR_state p, 3),
        (F.SPR_BIN_WEAR_cause p, r.data % 8)]
      s.bump F.SPR_STATUS_bins_retired 1

/-- The newest stored snapshot of oscillator `i` (R63). -/
def newestSnapshot (s : State) (i : Nat) : Option (List Nat) :=
  ((s.led.stored.filter (fun x => x.entry.payload ≠ [] && bits (x.entry.payload.getD 0 0) 8 1 = i)).getLast?).map
    (fun x => x.entry.payload)

/-- The newest snapshot of oscillator `i` is restored, and model_restored says so (R63, R77). -/
def modelRestore (s : State) (i : Nat) : State :=
  match newestSnapshot s i with
  | some ws => (modelGiven s i ws).set F.TB_STATUS_model_restored 1
  | none => s

/-- What the ledger records is applied at a start, in the order of R456; hatch wires are those of the
hatch test (R20), the bin map is built by the loader (R453). -/
def ledgerApply (s : State) : State :=
  let rs := critRecs s
  let s := rs.foldl applyWorn (rs.foldl applySpare s)
  let s := rs.foldl applyVco s
  let s := freeFollow ((ownedEntries s.led.stored).foldl applyRetired s)
  lifeRestore (modelRestore (modelRestore s 0) 1)

/-- A fuse bit that the reset interrupted is verified again at the start (R429): it reads at its margin, which the
rules leave open (a free value, log entry 118), and stands; or it is burned again once VFUSE and the window hold. -/
def burnResume (s : State) : State :=
  match s.sec.burn with
  | none => s
  | some b => match b.bits with
    | [] => setSec s { s.sec with burn := none }
    | x :: _ =>
      if b.held && !b.cut then setSec s { s.sec with burn := none }
      else
        let good := s.free % 2 = 1
        let s := s.useFree
        if good then cutDone s b x
        else fuseDeferral (setSec s { s.sec with burn := some { b with tries := 0, held := true, cut := true } })

/-- The loader has started: a rail that came out of order is reported (R32). -/
def loaderStart (s : State) : State :=
  match s.modes.seqOrder with
  | none => s
  | some r => raise { s with modes := { s.modes with seqOrder := none } } 1021 0x40 5 r

/-- The life-cycle state that the bits [2:0] show (R422): a burned bit above an unburned one reads as RETURN. -/
def lcDecode (b0 b1 b2 : Bool) : Nat :=
  if b2 then Lc.ret else if b1 then (if b0 then Lc.field else Lc.ret) else if b0 then Lc.owned else Lc.maker

/-- The fields that stand in fuses show them at a start (R422, R424, R433, R443): an advance that a reset cut counts
the steps it burned. -/
def fuseFields (s : State) : State :=
  let has := fun x => s.sec.fuses.contains x
  let mask := fun x => (List.range 4).foldl (fun m i => m + ofBool (has (x + 512 * i)) * 2 ^ i) 0
  let steps := fun x => ((List.range 48).filter (fun i => has (x + i))).length
  let s := s.setAll [(F.SEC_LC_state, lcDecode (has 0) (has 1) (has 2)), (F.SEC_LC_return_begun, ofBool (has 3)),
    (F.SEC_LC_owner_prog, mask 512), (F.SEC_LC_owner_rev, mask 513), (F.SEC_LC_key_prog, mask 4352),
    (F.SEC_LC_key_rev, mask 4353), (F.SEC_LC_fw_key0_rev, ofBool (has 4)), (F.SEC_ARB_c_fw, steps 16),
    (F.SEC_ARB_c_st, steps 64)]
  let s := if steps 16 = 48 && !s.flag F.SEC_ARB_last_fw then raise (s.set F.SEC_ARB_last_fw 1) 1023 0x4B 5 0 else s
  if steps 64 = 48 && !s.flag F.SEC_ARB_last_st then raise (s.set F.SEC_ARB_last_st 1) 1023 0x4B 5 1 else s

/-- The load begins (R346) on the state a reset has left: what the ledger and the fuses hold is restored, a
nonce is drawn (R426); RETURN and a pending return lead to SAFE and load nothing (R422, R429). -/
def loadBegin (s : State) : State :=
  let s := newNonce (fuseFields (burnResume s))
  let s := s.set F.SEC_LC_key_valid (ofBool s.sec.bbKey.isSome)
  let s := if s.sec.bbLost then raise (setSec s { s.sec with bbLost := false }) 1023 0x4E 5 0 else s
  let s := ledgerApply s
  let s := if s.flag F.LED_STATUS_full then s.set F.TB_STATUS_snap_stopped 1 else s
  let safe := fun (t : State) => toSafe { t with ev := { t.ev with running := true } } false
  if s.lc = Lc.ret then safe (raise s 1023 0x50 6 0)
  else if s.flag F.SEC_LC_return_begun then safe (raise s 1023 0x4F 6 2)
  else loaderStart (attemptStart s (some ⟨none, false, 0, 1, 0, [], s.now, false, 0, []⟩))

/-! Resets of the whole device. -/

/-- The ledger through a POR or DEVICE reset (R440, R441): its waiting queue is lost; an append that a
power loss cuts is torn, an erase that it cuts is due again. -/
def Ledger.restart (l : Ledger) (por : Bool) : Ledger :=
  { l with
    queue := [], appending := none, erasing := none, boot := l.boot + 1, deferred := false, scanDue := true,
    torn := l.torn + (if por && l.appending.isSome then 1 else 0),
    tornErase := if por then l.erasing.or l.tornErase else l.tornErase }

/-- The security partition through a POR or DEVICE reset: fuses and keys stay, a pending command is
discarded (R428), an interrupted burn is kept for the start that follows (R429). -/
def Sec.restart (x : Sec) : Sec :=
  { x with pending := none, advances := [], jtag := none, fwVersion := 0, cmdFirst := false, told := false }

/-- The state through a POR (`por`) or DEVICE reset, held in it: the master table of R409, R13. -/
def resetCore (s : State) (por : Bool) : State :=
  let keep : RegRow → Bool := fun r => match r.clr with
    | .never => true
    | .por => !por
    | _ => false
  { State.reset with
    pending := s.pending, flds := (resetRows s (fun r => !keep r)).flds, fresh := s.fresh
    led := s.led.restart por, sec := s.sec.restart, spr := { Spr.reset with wires := s.spr.wires }
    pins := { Pins.reset with highZ := s.pins.highZ, porstN := s.pins.porstN, twHbIn := s.pins.twHbIn, twRoleIn := s.pins.twRoleIn }
    thm := { Thermal.reset with latch := s.thm.latch, latchDue := latchValid s }
    modes := { Modes.reset with por := por, seqOrder := if por then none else s.modes.seqOrder } }

/-- An open debug unlock is closed by the reset (R425). -/
def debugReset (was s : State) : State :=
  if was.flag F.SEC_DBG_STATUS_open then raise s 1023 0x4D 3 3 else s

/-- A POR (R33, R405): everything but fuses, the ledger, the VBAK domain and what they hold returns to
reset; the internal POR is held until POR_RELEASE. -/
def porReset (s : State) : State := debugReset s (resetCore s true)

/-- The transfers in pass-through buffers, which the reset discards (R410). -/
def passTotal (s : State) : Nat := ((List.range 132).map (fun c => (passOf s c).length)).foldl (· + ·) 0

/-- The RST_DEVICE ledger entry (R410, R420): `aborted` counts the transfers discarded beside those of the bins. -/
def deviceEntry (s : State) (cause aborted : Nat) : LedEntry :=
  let r : EvRec := ⟨s.fpStamp, 1021, 0x42, 6, s.get F.EV_WR_next_seq, cause + satNat 16 (passTotal s + aborted) * 65536⟩
  ⟨false, s.warm, s.led.boot, s.led.nextSeq, r, [], []⟩

/-- The entry is written before the reset acts when the Cellar lies inside the ledger window and the open
general sector has a slot; otherwise it waits, alone, for the window after the reset (R410). -/
def deviceRecord (s t : State) (e : LedEntry) : State :=
  let l := t.led
  let l := { l with nextSeq := l.nextSeq + 1 }
  if s.flag F.LED_STATUS_info_stopped then { t with led := l }
  else match s.flag F.LED_STATUS_window && l.genUsed + 1 ≤ 127, l.genRing.head? with
    | true, some k =>
      let l := { l with stored := l.stored ++ [LedSlot.mk k l.genUsed e], genUsed := l.genUsed + 1 }
      { t with led := l }.bump F.LED_COUNT_INFO_entries 1
    | _, _ => ledCounts { t with led := { l with queue := [e] } }

/-- A DEVICE reset (R405, R410) with its cause of RST_CAUSE: a ledger append or erase that runs completes;
an active twin declares a fault when the cause is a keeper fatal (R388). -/
def deviceReset (s : State) (cause aborted : Nat) : State :=
  let s := if cause = 2 then declareFault s 2 else s
  let s := eraseDone (appendDone s)
  let t := deviceRecord s (resetCore s false) (deviceEntry s cause aborted)
  let t := if cause = 2 then setTw t { t.twin with faultSent := s.twin.faultSent, pattern := s.twin.pattern } else t
  debugReset s (t.set F.RST_CAUSE_cause cause)

/-- A keeper fatal (R320, R405): a DEVICE reset with cause 2; the load begins at once unless PORST_N is
low. The SAFE of a lost rail and that of a shutdown are left by PORST_N only (R33, R231, R403): there the reset
acts and the device stays in SAFE, its pin asserted and nothing loaded (log entry 104). -/
def keeperFatal (s : State) (aborted : Nat) : State :=
  let t := deviceReset s 2 aborted
  if s.mode = Mode.safe && (s.modes.needPorst || !s.pins.thermN) then
    let t := { t with modes := { t.modes with needPorst := s.modes.needPorst, thermalHold := s.modes.thermalHold } }
    let t := toSafe { t with ev := { t.ev with running := true } } (!s.pins.thermN)
    { t with pins := { t.pins with errorN := s.pins.errorN } }
  else if t.pins.porstN then loadBegin t else t

/-! Power and PORST_N (R31 to R33, R231, R406). -/

/-- The VBAK domain has lost its supply (R30): the battery-backed key and the latched record are gone. -/
def vbakLost (s : State) : State :=
  setSec (setThm s { s.thm with latch := [0, 0, 0, 0] })
    { s.sec with bbKey := none, bbLost := s.sec.bbLost || s.sec.bbKey.isSome }

/-- POR_RELEASE (R32, R231): every rail of steps 1 to 5 is within tolerance. `order` is the first rail out
of order, `hot` says that a sensor reads 90 °C or more, `vbak` that VBAK or VCCAUX has held throughout. -/
def porRelease (s : State) (order : Option Nat) (hot vbak : Bool) : State :=
  if !s.modes.por then s
  else
    let s := { s with modes := { s.modes with por := false, seqOrder := order }, pins := { s.pins with highZ := false } }
    let s := if vbak then s else vbakLost s
    if latchValid s && hot then
      toSafe { s with modes := { s.modes with thermalHold := true } } true
    else if s.pins.porstN then loadBegin s else s

/-- POR_RELEASE. -/
def execPorRelease (order : Option Nat) (hot vbak : Bool) (s : State) : Res :=
  checked (.porRelease order hot vbak) (porRelease s order hot vbak)

/-- CORE_RAIL_LOSS (R33, R34): VCC_CEL or VCCAUX leaves its tolerance, which of them is a free value (log entry 133);
below VCCAUX's every UIO ball and control output is high-impedance. -/
def execCoreRailLoss (s : State) : Res :=
  checked .coreRailLoss <|
    let t := (porReset s).useFree
    { t with pins := { t.pins with highZ := t.pins.highZ || decide (s.free % 2 = 1) } }

/-- What a control output drives (R34, R36): its level, or nothing while the pins are high-impedance. -/
def Pins.drives (p : Pins) (level : Bool) : Option Bool := if p.highZ then none else some level

/-- RAIL_LOST (R33, R403): the device enters SAFE, which only PORST_N or a POR leaves; a load and the hold
of R231 end. -/
def railLost (s : State) (rail : Nat) : State :=
  if s.modes.por then s
  else
    let s := { s with modes := { s.modes with thermalHold := false, needPorst := true } }
    toSafe (setLoad (raise s 1021 0x41 7 rail) none) false

/-- RAIL_LOST. -/
def execRailLost (rail : Nat) (s : State) : Res := checked (.railLost rail) (railLost s rail)

/-- A sensor reads 90 °C or more (R231). -/
def tooHot (s : State) : Bool :=
  s.modes.thermalHold || (List.range 160).any (fun n => sensorValid s n && 1440 ≤ sensorTemp s n)

/-- An ignored PORST_N pulse is counted in the latched record (R229, R231). -/
def pulseIgnored (s : State) : State :=
  let l := s.thm.latch
  let w := l.getD 3 0
  let n := min 255 (bits w 8 8 + 1)
  setThm s { s.thm with latch := [l.getD 0 0, l.getD 1 0, l.getD 2 0, w - bits w 8 8 * 256 + n * 256] }

/-- PORST_N_LOW (R406, R410): a DEVICE reset begins, held while PORST_N is low. After a shutdown it is
ignored while a sensor is too hot, and has cause 3 otherwise (R231). -/
def porstLow (s : State) (aborted : Nat) : State :=
  let s := { s with pins := { s.pins with porstN := false } }
  if s.modes.por then s
  else if s.mode = Mode.safe && !s.pins.thermN then
    if tooHot s then pulseIgnored s else deviceReset s 3 aborted
  else deviceReset s 1 aborted

/-- PORST_N_LOW. -/
def execPorstNLow (aborted : Nat) (s : State) : Res := checked (.porstNLow aborted) (porstLow s aborted)

/-- PORST_N_SHORT_PULSE (R406): the pulse of `cycles` AON cycles is ignored and counted. -/
def execPorstNShortPulse (cycles : Nat) (s : State) : Res :=
  checked (.porstNShortPulse cycles) <|
    if s.modes.por then s
    else raise (s.bump F.RST_PORST_SHORT_CNT_count 1) 1021 0x4A 2 cycles

/-- PORST_N_RISE (R406): the load begins after a DEVICE reset that PORST_N held. -/
def execPorstNRise (s : State) : Res :=
  checked .porstNRise <|
    let held := !s.pins.porstN && s.mode = Mode.load && s.cfg.load.isNone && !s.modes.por
    let s := { s with pins := { s.pins with porstN := true } }
    if held then loadBegin s else s

/-- THERMAL_SAMPLE (R209, R231): the sample; the hold after a POR ends once every valid sensor reads below
90 °C, and the load begins. -/
def execThermalSample (x : ThermSample) (s : State) : Res :=
  checked (.thermalSample x) <|
    let s := thermalSample s x
    let ns := (List.range 160).filter (sensorValid s)
    if s.modes.thermalHold && ns ≠ [] && ns.all (fun n => sensorTemp s n < 1440) then
      let s := { s with modes := { s.modes with thermalHold := false }, pins := { s.pins with thermN := true } }
      loadBegin (setMode s Mode.load)
    else s

end Sys2Proof.Machine
end

