-- ==== Sys2Proof/Machine/Modes.lean ====
section
/-! DEFINITION. Mode requests, DORMANT entry and wake (R397 to R402), and the WARM, SHELF, BIN and LGRP
resets (R405, R407, R408, R411). -/

namespace Sys2Proof.Machine

/-- The mode control is replaced. -/
def setModes (s : State) (m : Modes) : State := { s with modes := m }

/-! Requests (R398, R400 to R402). -/

/-- A transition is in progress (R402). -/
def inTransition (s : State) : Bool :=
  s.flag F.RST_MODE_entering || s.flag F.RST_MODE_REQ_STATUS_busy || s.modes.waking.isSome

/-- Mode request `req` reaches its mode from the present one (R397). -/
def modeReach (s : State) (req : Nat) : Bool :=
  let m := s.mode
  if req = 1 then m = Mode.doze || m = Mode.dormant
  else if req = 2 then m = Mode.active || m = Mode.standby
  else m = Mode.active || m = Mode.doze

/-- The reason for which a mode request is refused (R402), 0 for none. -/
def modeReason (s : State) (req : Nat) : Nat :=
  if inTransition s then 1
  else if req = 3 && twPaired s then 2
  else if req = 3 && (s.get F.CFG_PR_STATUS_state = 1 || s.get F.CFG_PR_STATUS_state = 3) then 3
  else if 1 ≤ req && req ≤ 3 && !modeReach s req then 4
  else if req = 0 || 3 < req then 5
  else 0

/-- A mode request is refused (R402). -/
def modeRefused (s : State) (reason : Nat) : State :=
  let s := s.setAll [(F.RST_MODE_REQ_STATUS_refused, 1), (F.RST_MODE_REQ_STATUS_reason, reason)]
  let s := raise s 1021 0x48 3 reason
  if reason = 2 then raise s 1000 9 3 0 else s

/-- DORMANT entry begins (R400 step 0): no decision binds, BOUND items return to WAITING. -/
def dormantBegin (s : State) : State :=
  let s := if s.mode = Mode.active then s.set F.RST_MODE_prior 0 else s
  let s := s.setAll [(F.RST_MODE_entering, 1), (F.RST_MODE_REQ_STATUS_busy, 1)]
  let s := { s with sch := { s.sch with decisions := [] } }
  (s.sch.items.filter (fun i => i.st = .bound)).foldl unbind s

/-- A write of RST_MODE_REQ.req by requester `who` (R398, R400, R401). The keeper may not write it, and the
register port cannot wake the device from DORMANT. -/
def modeRequest (s : State) (who : Requester) (req : Nat) : State :=
  if who = .keeper || (who = .regPort && s.mode = Mode.dormant) then s
  else
    let r := modeReason s req
    if r ≠ 0 then modeRefused s r
    else
      let s := s.setAll [(F.RST_MODE_REQ_STATUS_refused, 0), (F.RST_MODE_REQ_STATUS_reason, 0)]
      if req = 1 then wake s 1
      else if req = 2 then
        let s := s.later 1
        gatesFollow (setMode (s.set F.RST_MODE_prior (ofBool (s.mode = Mode.standby))) Mode.doze)
      else dormantBegin s

/-- RUN_REQUEST (R398, R401). -/
def execRunRequest (who : Requester) (s : State) : Res := checked (.runRequest who)
  (asked s who F.RST_MODE_REQ_req.addr 2 (modeRequest · who 1))

/-- DOZE_REQUEST (R398). -/
def execDozeRequest (who : Requester) (s : State) : Res := checked (.dozeRequest who)
  (asked s who F.RST_MODE_REQ_req.addr 2 (modeRequest · who 2))

/-- DORMANT_REQUEST (R400). -/
def execDormantRequest (who : Requester) (s : State) : Res :=
  checked (.dormantRequest who)
  (asked s who F.RST_MODE_REQ_req.addr 2 (modeRequest · who 3))

/-! DORMANT entry (R400). -/

/-- Every running item has ended, every drain is acknowledged, every successor handed on, and no
substitution copies (R400 step 1, R454). -/
def entryReady (s : State) : Bool :=
  s.sch.items.all (fun i => i.st != .run) && s.sch.drains = [] && s.bins.all (fun b => b.2.hand = [])
    && s.spr.sub.isNone

/-- Group `g` takes the state of its dorm_mode (R313); a stage group that loses its contents empties the
staged and the retained stream (R409). -/
def groupDorm (s : State) (g : Nat) : State :=
  if s.get (F.LFT_GRP_STATUS_power g) ≠ 1 then s
  else
    let m := s.get (F.LFT_GRP_CFG_dorm_mode g)
    if m = 1 then s.set (F.LFT_GRP_STATUS_power g) 2
    else if m = 2 then s
    else
      let s := groupOff s g
      if s.flag F.CFG_PR_CFG_enable && s.get F.CFG_PR_CFG_stage_group = g then retainedDrop (prEmpty s) g
      else s

/-- Running DMA transfers halt with cause 2 unless deep_en keeps gate 316 open (R327, R400). -/
def dmaDorm (s : State) : State :=
  if s.flag (F.CLK_GATE_EN_deep_en 316) then s
  else dmaCut s

/-- DORMANT_ENTRY_COMPLETE (R400, R402): steps 1 to 3; a wake cause held during entry then acts. -/
def entryComplete (s : State) : State :=
  if !s.flag F.RST_MODE_entering || !entryReady s then s
  else
    let s := dmaDorm ((List.range 32).foldl groupDorm (shelvesOff s))
    let s := s.setAll [(F.RST_MODE_entering, 0), (F.RST_MODE_REQ_STATUS_busy, 0)]
    let s := gatesFollow (setMode s Mode.dormant)
    match s.modes.heldWake with
    | none => s
    | some c => dormantWake (setModes s { s.modes with heldWake := none }) c

/-- DORMANT_ENTRY_COMPLETE. -/
def execDormantEntryComplete (s : State) : Res := checked .dormantEntryComplete (entryComplete s)

/-! Resets of parts of the device (R405). -/

/-- A WARM reset (R405, R407): causes 1 watchdog, 0 write. The keeper complex, the event unit and the
management port are held; the record itself is raised during WARM. -/
def warmReset (s : State) (cause : Nat) : State :=
  if s.warm || s.modes.por then s
  else
    let s := (resetRows s (fun r => r.clr == .warm)).bump F.RST_WARM_CNT_count 1
    let s := { s with
      warm := true, ev := ⟨[], 0, [], false, 0, 0, 0⟩, ports := { s.ports with mgmt := [] }, pins := { s.pins with alertN := true }
      tb := { s.tb with ptpSent := none, exch := ⟨none, none, none⟩ }, loft := { s.loft with keeperTrap := none } }
    raise s 1021 0x43 5 cause

/-- The bins of a shelf. -/
def shelfBins (h : Nat) : List Nat := (List.range 132).map (fun k => 132 * h + k)

/-- The corridor channels of shelf `h` carry 0 (R128). -/
def channelsClear (s : State) (h : Nat) : State :=
  { s with mesh := { s.mesh with chan := s.mesh.chan.filter (fun x => 264 ≤ x.1 / 16 || shelfOf (x.1 / 16) ≠ h) } }

/-- A SHELF reset (R24, R128, R179, R405): the bins of shelf `h` are held in reset and its channels carry 0. -/
def shelfReset (s : State) (h : Nat) : State :=
  if s.modes.shelfRst.contains h then s
  else
    let s := raise s 1021 0x44 4 h
    let s := rstBegin (setModes s { s.modes with shelfRst := nins h s.modes.shelfRst }) h
    (shelfBins h).foldl (fun t p => unbindAll (binResetQuiet t p) p) (channelsClear s h)

/-- A BIN reset of logical bin `l` by a write (R405); none while its shelf is held (R408). -/
def binReset (s : State) (l : Nat) : State :=
  let p := physOf s l
  if s.modes.shelfRst.contains (shelfOf p) then s else binResetStart s p 1

/-- A reset of a part by kind: 1 WARM, 2 SHELF, 3 BIN of a logical bin, 4 LGRP. -/
def partReset (s : State) (k : Nat × Nat) : State :=
  if k.1 = 1 then warmReset s k.2
  else if k.1 = 2 then shelfReset s k.2
  else if k.1 = 3 then binReset s k.2
  else lgrpResetStart s k.2 1

/-- A reset of a part is carried out, or waits for the shelves' power during a DORMANT entry or wake; none while a
DEVICE reset or a POR is held (R408). -/
def resetRequest (s : State) (kind target : Nat) : State :=
  if !s.pins.porstN || s.modes.por then s
  else if s.flag F.RST_MODE_entering || (s.modes.waking.isSome && !s.modes.shelvesUp) then
    setModes s { s.modes with deferred := s.modes.deferred ++ [(kind, target)] }
  else partReset s (kind, target)

/-! Wake (R401). -/

/-- Ticks of 60 µs, rounded down as the event names them. -/
def wakeTk : Nat := 58983

/-- The wake ends once every usable group is ON (R401): the prior run mode returns. -/
def wakeFinish (s : State) : State :=
  match s.modes.waking with
  | none => s
  | some (c, t0) =>
    if !s.modes.shelvesUp || !(usableGroups s).all (fun g => s.get (F.LFT_GRP_STATUS_power g) = 1) then s
    else
      let us := tkToUs (s.now - t0)
      let s := setModes s { s.modes with waking := none, shelvesUp := false }
      let s := (s.set F.RST_MODE_REQ_STATUS_busy 0).set F.RST_WAKE_US_us (satNat 16 us)
      wakeEvent (gatesFollow (setMode s (priorMode s))) c us

/-- WAKE_COMPLETE (R401): 60 µs after the cause the static bins leave reset, the gates follow run_en, the
resets that waited are carried out, and the mode returns unless a group still wakes. -/
def wakeComplete (s : State) : State :=
  match s.modes.waking with
  | none => s
  | some (_, t0) =>
    if s.modes.shelvesUp then wakeFinish s
    else
      let s := s.atNow (t0 + wakeTk)
      let waiting := s.modes.deferred
      let s := setModes s { s.modes with shelvesUp := true, deferred := [] }
      let s := gatesFollow ((staticBins s).foldl binResetEnd s)
      wakeFinish (waiting.foldl partReset s)

/-- WAKE_COMPLETE. -/
def execWakeComplete (s : State) : Res := checked .wakeComplete (wakeComplete s)

/-- GROUP_WAKE_COMPLETE (R312, R322, R401): a waking group is ON. A group that woke from OFF at the end of
DORMANT has had its checker test: `bad` are its failing logical banks, `spareBad` the spare's failing. -/
def groupWakeComplete (s : State) (g : Nat) (bad : List Nat) (spareBad : Bool) : State :=
  if s.get (F.LFT_GRP_STATUS_power g) ≠ 3 then s
  else
    let s := s.set (F.LFT_GRP_STATUS_power g) 1
    let s := if s.mode = Mode.dormant && s.get (F.LFT_GRP_CFG_dorm_mode g) = 0 then
        checkerTest (spareOnClear s ((List.range 32).map (fun k => 32 * g + k))) g bad spareBad
      else s
    wakeFinish (loadAdvance (bankCopyStart s))

/-- GROUP_WAKE_COMPLETE. -/
def execGroupWakeComplete (g : Nat) (bad : List Nat) (spareBad : Bool) (s : State) : Res :=
  checked (.groupWakeComplete g bad spareBad) (groupWakeComplete s g bad spareBad)

/-! The commands of the resets. -/

/-- WARM_RESET (R405, R407): a write of RST_CTRL.warm by the register port. -/
def execWarmReset (s : State) : Res := checked .warmReset (resetRequest s 1 0)

/-- Byte `i` of keeper SRAM. -/
def sramByte (s : State) (i : Nat) : Nat := bits ((aget s.loft.sram (i / 8)).getD 0) (8 * (i % 8)) 8

/-- The bytes of the firmware image in keeper SRAM, header and body, as its header gives their number (R431). -/
def fwBytes (s : State) : Nat := 512 + ((List.range 4).foldr (fun i n => sramByte s (8 + i) + 256 * n) 0)

/-- The image in keeper SRAM equals the measurement taken at load (R407). -/
def fwIntact (s : State) : Bool :=
  let n := fwBytes s
  n ≤ 2097152 && s.loft.bgPoison.all (fun x => x.1 ≠ 2 || n ≤ 8 * x.2)
    && Config.sha384 ((List.range n).map (sramByte s)) % 2 ^ 384 = words12 s F.SEC_MEAS_FW_hash

/-- Upsets strike words of keeper SRAM: what the code cannot correct is poisoned when it is read (R314, R320). -/
def sramStrike (s : State) (us : List (Nat × Upset)) : State :=
  us.foldl (fun t x => match bgDecode t 2 x.1 x.2 with
    | .clean _ => t
    | .corrected _ => t
    | _ => if bgPoisoned t 2 x.1 then t else bgPoison t 2 x.1) s

/-- WARM_RESET_END (R407, R431): the boot ROM reads keeper SRAM, whose words the upsets `us` have struck; the keeper
restarts when its firmware equals the measurement, otherwise it is a keeper fatal. The keeper's data memory is cleared
and the event unit numbers records again from 0. -/
def warmEnd (s : State) (us : List (Nat × Upset)) (aborted : Nat) : State :=
  if !s.warm then s
  else
    let s := sramStrike s us
    if !fwIntact s then keeperFatal s aborted
    else
      let n := fwBytes s
      let s := s.setLoft { s.loft with
        sram := s.loft.sram.filter (fun x => 8 * x.1 < n)
        bgPoison := s.loft.bgPoison.filter (fun x => x.1 ≠ 2 || 8 * x.2 < n) }
      { s.set F.EV_WR_next_seq 0 with warm := false, ev := { s.ev with running := true } }

/-- WARM_RESET_END. -/
def execWarmResetEnd (us : List (Nat × Upset)) (aborted : Nat) (s : State) : Res :=
  checked (.warmResetEnd us aborted) (warmEnd s us aborted)

/-- SHELF_RESET (R405): a write of RST_CTRL.shelf_a or shelf_b. -/
def execShelfReset (h : Nat) (s : State) : Res := checked (.shelfReset h) (resetRequest s 2 h)

/-- SHELF_RESET_RELEASE (R405, R154, R454): the bins leave reset, static ones at start_ctx, the others IDLE;
a substitution whose spare lies on the shelf starts over. -/
def shelfRelease (s : State) (h : Nat) : State :=
  if !s.modes.shelfRst.contains h || s.modes.deadDies.contains (1 + h) then s
  else
    let s := setModes s { s.modes with shelfRst := ndel s.modes.shelfRst h }
    let s := (shelfBins h).foldl binResetEnd s
    match s.spr.sub with
    | some x => if shelfOf x.spare = h then setSpr s { s.spr with sub := some { x with start := s.now, prep := false } } else s
    | none => s

/-- SHELF_RESET_RELEASE: after 16 tk. -/
def execShelfResetRelease (h : Nat) (s : State) : Res :=
  checked (.shelfResetRelease h) (if s.modes.shelfRst.contains h then shelfRelease (rstHeld s h 16) h else s)

/-- BIN_RESET (R405): a write of RST_CTRL.bin with logical bin `l`. -/
def execBinReset (l : Nat) (s : State) : Res := checked (.binReset l) (resetRequest s 3 l)

/-- BIN_RESET_RELEASE (R405, R153, R154): physical bin `p` leaves reset, after 8 tk, unless a cause holds it. -/
def execBinResetRelease (p : Nat) (s : State) : Res :=
  checked (.binResetRelease p) (if (s.bin p).rst then binResetEnd (rstHeld s (64 + p) 8) p else s)

/-- LGRP_RESET (R405, R262): a write of RST_CTRL.lgrp with group `g`. -/
def execLgrpReset (g : Nat) (s : State) : Res := checked (.lgrpReset g) (resetRequest s 4 g)

/-- LGRP_RESET_RELEASE (R405, R262): group `g` is released, after 1 µs, unless a cause holds it. -/
def execLgrpResetRelease (g : Nat) (s : State) : Res :=
  checked (.lgrpResetRelease g)
    (if s.modes.lgrpRst.contains g then lgrpResetEnd (rstHeld s (16 + g) (usToTk 1)) g else s)

/-- KEEPER_WATCHDOG_EXPIRY (R405, R419): a first expiry causes a WARM reset, a second within 1 s a keeper
fatal; during WARM it does not act. -/
def watchdog (s : State) (aborted : Nat) : State :=
  if s.warm || s.modes.por then s
  else if s.modes.wdLast.any (fun t => s.now ≤ t + secTk) then keeperFatal s aborted
  else resetRequest (setModes s { s.modes with wdLast := some s.now }) 1 1

/-- KEEPER_WATCHDOG_EXPIRY. -/
def execKeeperWatchdogExpiry (aborted : Nat) (s : State) : Res :=
  checked (.keeperWatchdogExpiry aborted) (watchdog s aborted)

/-- CELLAR_HEARTBEAT_LOSS (R411): upper die `d` (1 Shelf A, 2 Shelf B, 3 the Loft) forces itself safe and into
reset until the next POR or DEVICE reset. -/
def heartbeatLoss (s : State) (d : Nat) : State :=
  if s.modes.deadDies.contains d then s
  else
    let s := setModes s { s.modes with deadDies := nins d s.modes.deadDies }
    if d = 3 then (List.range 32).foldl groupOff s
    else (shelfBins (d - 1)).foldl (fun t p => unbindAll (binResetQuiet t p) p) (channelsClear s (d - 1))

/-- CELLAR_HEARTBEAT_LOSS. -/
def execCellarHeartbeatLoss (d : Nat) (s : State) : Res :=
  checked (.cellarHeartbeatLoss d) (heartbeatLoss s d)

end Sys2Proof.Machine
end

