-- ==== Sys2Proof/Machine/Engines.lean ====
section
/-! DEFINITION. The Loft's engines: bank service with the keeper's trap (R306, R320), the end of a bulk
clear (R309), the background scrubbers of the Cellar's stores (R318, R319), DMA (R324 to R327). -/

namespace Sys2Proof.Machine

/-! Bank service (R306, R320). -/

/-- A keeper instruction fetch found word `w` poisoned (R320): a trap; a second one at the same address
before the handler returns is a keeper fatal. -/
def keeperTrap (s : State) (w : Nat) : State :=
  if s.loft.keeperTrap = some w then keeperFatal s 0
  else s.setLoft { s.loft with keeperTrap := some w }

/-- What follows a served request for the keeper: a poisoned fetch traps; a fetch of the trapped word that
succeeds ends the trap. -/
def fetchFollow (s : State) (r : LoftReq) : State :=
  if !r.fetch || r.wr then s
  else
    let w := r.addr / 8
    if s.loft.last.any (fun a => a.status = 2) then keeperTrap s w
    else if s.loft.keeperTrap = some w then s.setLoft { s.loft with keeperTrap := none }
    else s

/-- A queued request is served, with what follows for the standby's lines and the keeper. -/
def serveFollow (s : State) (u : Upset) (r : LoftReq) : State :=
  fetchFollow (staleFollow s (serveReq (upsetWord s (r.addr / 8) u) r) (r.addr / 8)) r

/-- LOFT_BANK_SERVE (R306, R314 to R316, R320): in a LOFT cycle bank `b` serves one request; `u` are the
upsets that have struck its word. A bank that is not ON or whose gate is closed serves nothing. -/
def bankServe (s : State) (b : Nat) (u : Upset) : State :=
  if s.get (F.LFT_GRP_STATUS_power (b / 32)) ≠ 1 || !s.flag (F.CLK_GATE_EN_open (280 + b / 32)) then s
  else match (s.bankQ b).pick with
    | none => s
    | some (r, q) =>
      serveFollow (bankCycle (setBankQ s b q) b) u r

/-- LOFT_BANK_SERVE. -/
def execLoftBankServe (b : Nat) (u : Upset) (s : State) : Res := checked (.loftBankServe b u) (bankServe s b u)

/-- IDLE_SCRUB (R317, R319): in an idle cycle of bank `b` its next word is voted, corrected or
poisoned. Nothing happens while the group is not ON, its gate is closed, or a request waits. -/
def execIdleScrub (b : Nat) (u : Upset) (s : State) : Res :=
  checked (.idleScrub b u) <|
    if !bankIdle s b then s
    else
      let s := bankCycle s b
      let w := wordOf b (s.scrubAt b).2
      let was := s
      let s := voteRepair (upsetWord s w u) w
      let s := if !vote (s.loft.validAt w) then s
        else match decodeWord (s.loft.dataAt w) (s.loft.checkAt w) w with
          | .corrected _ => countCorrected s w
          | .uncorrectable => scrubUe s w
          | _ => s
      scrubAdvance (staleFollow was s w) b

/-- All queued requests of a bank complete normally (R309). -/
def drainBank (s : State) (b : Nat) : State :=
  let q := s.bankQ b
  let s := setBankQ s b ⟨[], [], 0, q.next⟩
  (q.stream ++ q.gen).foldl (fun t e => serveFollow t ⟨0, 0, 0⟩ e.req) s

/-- HANDOVER_QUIESCE (R309): the queued requests have completed; the clear or the owner change
follows. -/
def execHandoverQuiesce (group : Bool) (index : Nat) (s : State) : Res :=
  checked (.handoverQuiesce group index) <|
    match findHandover s group index with
    | none => s
    | some h =>
      if h.quiesced then s
      else
        let s := h.banks.foldl drainBank s
        if h.clear then
          let hs := s.loft.handovers.map (fun x => if x = h then { h with quiesced := true, since := s.now } else x)
          s.setLoft { s.loft with handovers := hs }
        else handoverEffect s h

/-- HANDOVER_CLEAR_DONE (R309, R455): the bulk clear ends and the new owner takes effect. -/
def execHandoverClearDone (group : Bool) (index : Nat) (s : State) : Res :=
  checked (.handoverClearDone group index) <|
    let t := handoverClearDone s group index
    loadAdvance t

/-! Background scrubbers (R318, R319): engine 2 walks keeper SRAM, engine 3 the Cellar tables (flows from
word 0, sections from 131,072, numerology from 262,144, triggers from 272,400, models from 288,784). -/

/-- The words of the store of engine `e`. -/
def bgWords (e : Nat) : Nat := if e = 2 then 262144 else 288800

/-- Engine `e` moves to its next word; a lap's end reports its time. -/
def bgNext (s : State) (e : Nat) : State :=
  let p := (aget s.loft.bgPos e).getD 0
  if p + 1 < bgWords e then s.setLoft { s.loft with bgPos := aset s.loft.bgPos e (p + 1) }
  else
    let us := tkToUs (s.now - (aget s.loft.bgStart e).getD 0)
    let s := s.set (F.LFT_BG_LAP_lap_us e) (satNat 24 us)
    s.setLoft { s.loft with bgPos := aset s.loft.bgPos e 0, bgStart := aset s.loft.bgStart e s.now }

/-- BG_SCRUB (R318, R319): engine `e` checks its next word, which the upsets `u` have struck: a single-bit error is
corrected, an uncorrectable word is poisoned, counted and reported, and nothing else. -/
def bgScrub (s : State) (e : Nat) (u : Upset) : State :=
  let s := bgDue s e
  let w := (aget s.loft.bgPos e).getD 0
  if bgDecode s e w u = .uncorrectable then
    if bgPoisoned s e w then bgNext s e else
    let s := bgPoison s e w
    let s := s.bump (if e = 2 then F.LFT_BG_UE_CNT_keeper else F.LFT_BG_UE_CNT_tables) 1
    bgNext (raise s 1016 0x10 5 (e + ofBool (e = 3) * 4 + w * 8)) e
  else bgNext s e

/-- BG_SCRUB. -/
def execBgScrub (e : Nat) (u : Upset) (s : State) : Res := checked (.bgScrub e u) (bgScrub s e u)

/-! DMA (R324 to R327). -/

/-- The owner ID under which channel `c` acts (R324). -/
def dmaOwner (s : State) (c : Nat) : Nat :=
  let o := s.get (F.LFT_DMA_CFG_as_owner c)
  if o < 256 then o else 272 + c

/-- Requester `who` is the one channel `c` is assigned to (R324). -/
def dmaMine (s : State) (c : Nat) (who : Requester) : Bool :=
  match who with
  | .keeper => s.get (F.LFT_DMA_CFG_ctl c) = 1
  | .regPort => s.get (F.LFT_DMA_CFG_ctl c) = 2
  | .mgmt => false

/-- A tray end (R325): its physical bin, slot and first line. -/
def dmaBin (s : State) (a : Nat) : Nat := physOf s (a % 256)
def dmaSlot (a : Nat) : Nat := bits a 8 1
def dmaLine (a : Nat) : Nat := bits a 9 10

/-- An end of a transfer of `n` units is refused (R325). -/
def dmaEndBad (s : State) (tray : Bool) (a n : Nat) : Bool :=
  bits a 30 2 ≠ 0 ||
  (if tray then binKind s (dmaBin s a) ≠ Kind.static || 1024 < dmaLine a + n
   else a % 64 ≠ 0 || 2 ^ 29 < a % 2 ^ 29 + 64 * n)

/-- DMA_GO (R325, R326): a write of LFT_DMA_CTRL with go = 1. The transfer starts from the registers as
they stand; a go while busy is ignored, one while gate 316 is closed ends in the terminator (R98). -/
def dmaGo (s : State) (c : Nat) (who : Requester) (srcTray dstTray evDone : Bool) : State :=
  if !dmaMine s c who then s
  else if !gateOpen s 316 then shutCount s 316
  else
    let s := s.setAll [(F.LFT_DMA_CTRL_src_tray c, ofBool srcTray), (F.LFT_DMA_CTRL_dst_tray c, ofBool dstTray),
      (F.LFT_DMA_CTRL_ev_done c, ofBool evDone)]
    if s.flag (F.LFT_DMA_STATUS_busy c) then s
    else
      let src := s.get (F.LFT_DMA_SRC_src c)
      let dst := s.get (F.LFT_DMA_DST_dst c)
      let n := s.get (F.LFT_DMA_LEN_units c)
      let s := s.setAll [(F.LFT_DMA_STATUS_done c, 0), (F.LFT_DMA_STATUS_halted c, 0),
        (F.LFT_DMA_STATUS_cause c, 0), (F.LFT_DMA_UNITS_DONE_units c, 0)]
      if n = 0 then
        let s := s.set (F.LFT_DMA_STATUS_done c) 1
        if evDone then raise s 1016 0x14 1 c else s
      else if dmaEndBad s srcTray src n || dmaEndBad s dstTray dst n then
        raise (s.setAll [(F.LFT_DMA_STATUS_halted c, 1), (F.LFT_DMA_STATUS_cause c, 5)]) 1016 0x13 4 (c + 5 * 64)
      else
        let s := s.set (F.LFT_DMA_STATUS_busy c) 1
        s.setLoft { s.loft with dma := aset s.loft.dma c ⟨src, dst, n, srcTray, dstTray, evDone, false, s.now + 2⟩ }

/-- DMA_GO. -/
def execDmaGo (c : Nat) (who : Requester) (srcTray dstTray evDone : Bool) (s : State) : Res :=
  checked (.dmaGo c who srcTray dstTray evDone)
    (asked s who (F.LFT_DMA_CTRL_go c).addr 2 (dmaGo · c who srcTray dstTray evDone))

/-- DMA_ABORT (R326): a write of LFT_DMA_CTRL with abort = 1; the transfer stops once its outstanding
commands have returned. While gate 316 is closed it ends in the terminator (R98). -/
def dmaAbort (s : State) (c : Nat) (who : Requester) : State :=
  if !dmaMine s c who then s
  else if !gateOpen s 316 then shutCount s 316
  else match aget s.loft.dma c with
    | none => s
    | some d => s.setLoft { s.loft with dma := aset s.loft.dma c { d with aborting := true } }

/-- DMA_ABORT. -/
def execDmaAbort (c : Nat) (who : Requester) (s : State) : Res :=
  checked (.dmaAbort c who) (asked s who (F.LFT_DMA_CTRL_go c).addr 2 (dmaAbort · c who))

/-- The Loft addresses of the eight words of unit `n` of a transfer end at `a` (R304). -/
def unitWords (a n : Nat) : List Nat := (List.range 8).map (fun j => a + 64 * n + 8 * j)

/-- Every word of some addresses may be read, or written (`wr`), under owner `o`; otherwise the first refused. -/
def dmaMay (o : Nat) (wr : Bool) : List Nat → State → Option Nat × State
  | [], s => (none, s)
  | a :: t, s =>
    let j := judge s o (wLBank (loftAddr a / 8)) wr
    if j.1 then dmaMay o wr t j.2 else (some a, j.2)

/-- The words of a beat are read under owner `o`: the data, or the cause and the address of the word that stops the
command (R326). -/
def dmaWords (o : Nat) : List Nat → State → Except (Nat × Nat) Nat × State
  | [], s => (.ok 0, s)
  | a :: t, s =>
    let r := readWord s (loftAddr a / 8) o
    match r.1 with
    | none => (.error (1, a), r.2)
    | some d =>
      let x := dmaWords o t r.2
      match x.1 with
      | .ok v => (.ok (d + 2 ^ 64 * v), x.2)
      | .error e => (.error e, x.2)

/-- A beat is read under owner `o`: every word is judged before any is read (R308, R326). -/
def dmaBeat (o : Nat) (as : List Nat) (s : State) : Except (Nat × Nat) Nat × State :=
  let m := dmaMay o false as s
  match m.1 with
  | some a => (.error (2, a), m.2)
  | none => dmaWords o as m.2

/-- The two beats of a unit are read in order. -/
def dmaRead (o : Nat) (as : List Nat) (s : State) : Except (Nat × Nat) Nat × State :=
  let a := dmaBeat o (as.take 4) s
  match a.1 with
  | .error e => (.error e, a.2)
  | .ok v =>
    let b := dmaBeat o (as.drop 4) a.2
    match b.1 with
    | .error e => (.error e, b.2)
    | .ok w => (.ok (v + 2 ^ 256 * w), b.2)

/-- The words of a unit are stored. -/
def dmaStore (v : Nat) : List Nat → State → State
  | [], s => s
  | a :: t, s =>
    let w := loftAddr a / 8
    let s := voteRepair s w
    dmaStore (v / 2 ^ 64) t (loftDirty (s.setLoft (s.loft.store w (v % 2 ^ 64))) w)

/-- A tray line written by the fill-and-drain side (R145): lost where the bin side wrote that line in this
tick. -/
def dmaTrayWrite (s : State) (p k line v : Nat) : State :=
  if (s.bin p).binWrote.any (fun x => x.at' = s.now && x.slot = k && x.line = line) then trayCollision s p k line
  else
    let x : LineWrite := ⟨s.now, k, line, readLine s p k line, lineValid s p k line⟩
    let s := storeLine s p k line v
    setBin s p { s.bin p with dmaWrote := some x }

/-- The tray of physical bin `p` serves an access (R94, R97, R98): its gate is open and is not asked to close, and
the bin is not held. An access to a bin whose gate is closed is counted. -/
def trayJudge (s : State) (p : Nat) : Bool × State :=
  if !s.flag (F.CLK_GATE_EN_open p) then (false, s.bump F.CLK_GATE_CLOSED_CNT_count 1)
  else (gateOpen s p && !s.flag (F.FAB_BIN_STATUS_held p), s)

/-- The value a copy writes for a unit whose eight words are `v` (R325): beats move in order, so a word of the second
beat that the first beat's writes reached has their value. -/
def beatOrder (src dst : List Nat) (v : Nat) : Nat :=
  let at' : Nat → Nat := fun i => bits v (64 * i) 64
  (List.range 8).foldl (fun n i =>
    let hit := if i < 4 then none
      else (List.range 4).find? (fun j => loftAddr (dst.getD j 0) = loftAddr (src.getD i 0))
    n + at' (hit.getD i) * 2 ^ (64 * i)) 0

/-- A unit is moved: none when it is written, or the cause and address of the stop. A refused tray line is named
by its tray address (R325, R326). -/
def dmaUnit (s : State) (c n : Nat) (d : DmaRun) : Option (Nat × Nat) × State :=
  let o := dmaOwner s c
  let r : Except (Nat × Nat) Nat × State :=
    if d.srcTray then
      let j := trayJudge s (dmaBin s d.src)
      (if j.1 then .ok (readLine s (dmaBin s d.src) (dmaSlot d.src) (dmaLine d.src + n))
       else .error (2, d.src + 512 * n), j.2)
    else dmaRead o (unitWords d.src n) s
  match r.1 with
  | .error e => (some e, r.2)
  | .ok v =>
    if d.dstTray then
      let j := trayJudge r.2 (dmaBin s d.dst)
      if j.1 then (none, dmaTrayWrite j.2 (dmaBin s d.dst) (dmaSlot d.dst) (dmaLine d.dst + n) v)
      else (some (2, d.dst + 512 * n), j.2)
    else
      let m := dmaMay o true (unitWords d.dst n) r.2
      match m.1 with
      | some a => (some (2, a), m.2)
      | none =>
        let v := if d.srcTray then v else beatOrder (unitWords d.src n) (unitWords d.dst n) v
        (none, dmaStore v (unitWords d.dst n) m.2)

/-- DMA_COMMAND_COMPLETE (R325, R326): the commands of the channel's next 64-byte unit return; the transfer
goes on, completes, or halts. A unit is two beats, of which a channel moves one in a tick (R324). Behind a closed gate
nothing moves (R327). -/
def dmaComplete (s : State) (c : Nat) : State :=
  match aget s.loft.dma c with
  | none => s
  | some d =>
    if !s.flag (F.CLK_GATE_EN_open 316) then s else
    let s := s.atNow d.next
    let d := { d with next := s.now + 2 }
    let s := s.setLoft { s.loft with dma := aset s.loft.dma c d }
    let n := s.get (F.LFT_DMA_UNITS_DONE_units c)
    let r := dmaUnit s c n d
    match r.1 with
    | some e => dmaHalt r.2 c e.1 e.2
    | none =>
      let s := r.2.set (F.LFT_DMA_UNITS_DONE_units c) (n + 1)
      if d.units ≤ n + 1 then
        let s := s.setLoft { s.loft with dma := adel s.loft.dma c }
        let s := s.setAll [(F.LFT_DMA_STATUS_busy c, 0), (F.LFT_DMA_STATUS_done c, 1)]
        if d.evDone then raise s 1016 0x14 1 c else s
      else if d.aborting then dmaHalt s c 4 (s.get (F.LFT_DMA_FAIL_ADDR_addr c))
      else s

/-- DMA_COMMAND_COMPLETE. -/
def execDmaCommandComplete (c : Nat) (s : State) : Res := checked (.dmaCommandComplete c) (dmaComplete s c)

end Sys2Proof.Machine
end

