-- ==== Sys2Proof/Machine/Bfp.lean ====
section
/-! DEFINITION. Block floating point and the sample layouts (R276, R287 to R290). -/

namespace Sys2Proof.Machine

/-- a / b rounded to the nearest integer, ties to even (R287). -/
def roundHalfEven (a : Int) (b : Nat) : Int :=
  let q := a / (b : Int)
  let r := a % (b : Int)
  if r * 2 < b then q else if (b : Int) < r * 2 then q + 1 else if q % 2 = 0 then q else q + 1

/-- The allowed mantissa range of width `m`: −M to M, or the whole range at m = 16 (R287). -/
def mantLo (m : Nat) : Int := if m = 16 then -32768 else -(2 ^ (m - 1) - 1 : Int)
def mantHi (m : Nat) : Int := if m = 16 then 32767 else (2 ^ (m - 1) - 1 : Int)

/-- The mantissas of a block at exponent `e`. -/
def mants (v : List Int) (e : Nat) : List Int := v.map (fun x => roundHalfEven x (2 ^ e))

/-- Every mantissa lies in the allowed range. -/
def mantsFit (m : Nat) (q : List Int) : Bool := q.all (fun x => mantLo m ≤ x && x ≤ mantHi m)

/-- A compressed block: the exponent, the mantissas, and whether it saturated (R287, R290). -/
structure Block where
  e : Nat
  q : List Int
  sat : Bool
  deriving DecidableEq, Repr

/-- Compression from exponent `e` on, with `n` more exponents to try. -/
def compressFrom (m : Nat) (v : List Int) : Nat → Nat → Block
  | 0, _ => ⟨15, (mants v 15).map (fun x => max (mantLo m) (min (mantHi m) x)), true⟩
  | n + 1, e => if mantsFit m (mants v e) then ⟨e, mants v e, false⟩ else compressFrom m v n (e + 1)

/-- Compression of a block of 24 values (R287): the lowest exponent at which every mantissa fits. -/
def compress (m : Nat) (v : List Int) : Block := compressFrom m v 16 0

/-- One decompressed value before clamping (R287). -/
def expand (e : Nat) (q : Int) : Int := q * 2 ^ e

/-- A value clamped to 16 bits (R290). -/
def clamp16 (x : Int) : Int := max (-32768) (min 32767 x)

/-- Decompression (R287, R290): the values and the number clamped. -/
def decompress (e : Nat) (q : List Int) : List Int × Nat :=
  let v := q.map (expand e)
  (v.map clamp16, (v.filter (fun x => clamp16 x != x)).length)

/-- Bytes as one number, the first byte most significant. -/
def beNat (l : List Nat) : Nat := l.foldl (fun n b => n * 256 + b % 256) 0

/-- `n` bytes of a number, the most significant first. -/
def beBytes (v : Nat) : Nat → List Nat
  | 0 => []
  | n + 1 => (v / 256 ^ n % 256) :: beBytes v n

/-- 24 values of `m` bits packed most significant bit first in 3m bytes. -/
def unpackMants (m : Nat) (l : List Nat) : List Int :=
  let v := beNat l
  (List.range 24).map (fun i => toInt m (bits v (m * (23 - i)) m))

/-- The bytes of 24 values of `m` bits, most significant bit first. -/
def packMants (m : Nat) (q : List Int) : List Nat :=
  beBytes (q.foldl (fun n x => n * 2 ^ m + ofInt m x) 0) (3 * m)

/-- The 16-bit values of a decompressed PRB, little-endian, I before Q (R276). -/
def leBytes16 (v : List Int) : List Nat := v.flatMap (fun x => [ofInt 16 x % 256, ofInt 16 x / 256])

/-- The values of a decompressed PRB of 48 bytes (R276). -/
def leVals16 (l : List Nat) : List Int :=
  (List.range 24).map (fun i => toInt 16 (l.getD (2 * i) 0 + l.getD (2 * i + 1) 0 * 256))

/-- The bytes of a block on the wire (R276, R287). -/
def wireBlock (m : Nat) (b : Block) : List Nat := b.e % 16 :: packMants m b.q

/-- Bytes `a` to `a + n - 1` of a list, zeros beyond its end. -/
def slice (l : List Nat) (a n : Nat) : List Nat := (List.range n).map (fun i => l.getD (a + i) 0)

end Sys2Proof.Machine
end

