-- ==== Sys2Proof/Machine/Fronthaul.lean ====
section
/-! DEFINITION. The fronthaul path (R266 to R300): frames, windows, sequence, symbols, releases,
violations, egress, table commands. -/

namespace Sys2Proof.Machine

/-! Flows, events and violations. -/

/-- The partner source of a flow's port or of a lane (R297). -/
def laneSrc (l : Nat) : Nat := 4 * l + 3

/-- The number that stands for counter `i` of flow `f` under the reporting rule (R148). -/
def flowKey (f i code : Nat) : Nat := 2 ^ 60 + (16 * f + i) * 256 + code

/-- An event of a flow counter under the reporting rule of R148 (R283). -/
def flowOnce (s : State) (f i src code sev data : Nat) : State :=
  let k := flowKey f i code
  if s.reported.contains k then s
  else raise { s with reported := nins k s.reported } src code sev data

/-- Counter `i` of flow `f`. -/
def flowCnt (s : State) (f i : Nat) : Nat := (aget s.fh.cnt (16 * f + i)).getD 0

/-- The gate of engine `e` is open and takes requests. -/
def engOpen (s : State) (e : Nat) : Bool := gateOpen s (312 + e)

/-- The highest n released or transmitted on flow `f`. -/
def lastN (s : State) (f : Nat) : Nat := flowW s f 14 + flowW s f 15 * 2 ^ 32

/-- last_valid of flow `f`. -/
def lastValid (s : State) (f : Nat) : Bool := flowF s f 13 14 1 = 1

/-- last_n of flow `f` rises to `n` (R273). -/
def setLastN (s : State) (f n : Nat) : State :=
  let m := if lastValid s f then max n (lastN s f) else n
  setFlowF (setFlowW (setFlowW s f 14 (m % 2 ^ 32)) f 15 (m / 2 ^ 32)) f 13 14 1 1

/-- The open symbols of flow `f`, oldest first. -/
def opensOf (s : State) (f : Nat) : List OpenSym := s.fh.opens.filter (fun o => o.flow = f)

/-- The open symbols are replaced; the flow's count of them follows. -/
def setOpens (s : State) (f : Nat) (l : List OpenSym) : State :=
  let s := setFh s { s.fh with opens := l }
  setFlowF s f 13 10 4 (opensOf s f).length

/-- Symbol n of flow `f`, if open. -/
def findOpen (s : State) (f n : Nat) : Option OpenSym :=
  s.fh.opens.find? (fun o => o.flow = f && o.n = n)

/-- An open symbol is replaced. -/
def putOpen (s : State) (o : OpenSym) : State :=
  setFh s { s.fh with opens := s.fh.opens.map (fun x => if x.flow = o.flow && x.n = o.n then o else x) }

/-- FH_ENG_STATUS follows the hold buffer and the release queue. -/
def engStatus (s : State) : State :=
  (List.range 4).foldl (fun t e =>
    (t.set (F.FH_ENG_STATUS_held e) (t.fh.held.filter (fun h => h.engine = e)).length).set
      (F.FH_ENG_STATUS_rel_queue e) (t.fh.queue.filter (fun q => q.1 = e)).length) s

/-- Symbol n of flow `f` closes without an item (R281): sym_missing counts it, once (log entry 152). -/
def symMissing (s : State) (f n : Nat) : State :=
  let old := aget s.fh.missed f
  if old.any (n ≤ ·) then s
  else flowCount (setFh s { s.fh with missed := aset s.fh.missed f n }) f 12 1

/-- The weights of the violations within the last `w` ticks. -/
def violSum (s : State) (l : List (Nat × Nat)) (w : Nat) : Nat :=
  l.foldl (fun n v => if s.now < v.1 + w then n + v.2 else n) 0

/-- 100 ms in ticks. -/
def grpWindow : Nat := 98304000

/-- The violations of group `g` in the last 100 ms. -/
def grpSum (s : State) (g : Nat) : Nat := violSum s ((aget s.fh.grpViol g).getD []) grpWindow

/-- grp_thr of group `g`: of the engine that serves its lowest engine-sink Ethernet lane (R285). -/
def grpThr (s : State) (g : Nat) : Nat :=
  let l := ((List.range 8).map (8 * g + ·)).find? (fun l => isEthernet s l && !s.flag (F.LN_CFG_sink l))
  s.get (F.FH_ENG_GRP_grp_thr (laneEngine s (l.getD (8 * g))))

/-- The weights of the violations in the 100 ms that end at tick `t`. -/
def violAt (l : List (Nat × Nat)) (t : Nat) : Nat :=
  l.foldl (fun n v => if v.1 ≤ t && t < v.1 + grpWindow then n + v.2 else n) 0

/-- Violations of group `g` have stayed at or below the threshold for 1 s (R285): the count of 100 ms rises only at a
violation, so it is judged at those of the last second and at its first tick. -/
def grpQuiet (s : State) (g : Nat) : Bool :=
  let l := (aget s.fh.grpViol g).getD []
  let t0 := s.now + 1 - 10 * grpWindow
  (t0 :: ((l.map (fun v => v.1)).filter (fun t => t0 ≤ t))).all (fun t => violAt l t ≤ grpThr s g)

/-- FH_PARTNER_FAULT (R285): violations of lane `l`'s group; those of the last 1.1 s are kept. -/
def grpViolate (s : State) (l k : Nat) : State :=
  let g := l / 8
  let old := ((aget s.fh.grpViol g).getD []).filter (fun v => s.now < v.1 + 11 * grpWindow)
  let s := setFh s { s.fh with grpViol := aset s.fh.grpViol g (old ++ [(s.now, k)]) }
  let n := grpSum s g
  let s := s.set (F.FH_GRP_STATUS_violations g) (satNat 16 n)
  let thr := grpThr s g
  if thr ≠ 0 && thr < n && !s.flag (F.FH_GRP_STATUS_faulty g) then
    let s := raise (s.set (F.FH_GRP_STATUS_faulty g) 1) (32 * g + 3) 0x09 6 (g + satNat 16 n * 65536)
    twPartnerFault s g
  else s

/-! Symbols (R272, R275, R281, R282). -/

/-- The frame count F that frameId names at count `a` (R272). -/
def frameOf (a fid : Nat) : Int :=
  let fa := (a / frameTk : Nat)
  let d := (fid + 256 - fa % 256) % 256
  (fa : Int) + (if d < 128 then (d : Int) else (d : Int) - 256)

/-- The frames of an epoch cycle: 1,024 × 2^30. -/
def frameSpan : Nat := 2 ^ 40

/-- S_FP of symbol `sym` of frame count `fr` in numerology entry `k`. -/
def sfpOf (s : State) (k fr sym : Nat) : Nat := fpAdd (fr % frameSpan * frameTk) (numOff s k sym)

/-- The status line's two beats (R275). -/
def statusBeats (s : State) (o : OpenSym) (missing : Nat) (forced : Bool) : List Nat :=
  let w2 := min 255 o.gaps + ofBool o.clipped * 2 ^ 8 + ofBool o.early * 2 ^ 9 + ofBool o.failed * 2 ^ 10
    + ofBool forced * 2 ^ 11
  [o.present + missing * 2 ^ 64 + w2 * 2 ^ 128 + fpPack o.sfp * 2 ^ 192, fpPack s.fp]

/-- The number of set bits of a section map. -/
def secBits (m : Nat) : Nat := popCount 64 m

/-- The bytes of a slice as 32-byte beats, zeros after the last (R276). -/
def sliceBeats (l : List Nat) : List Nat :=
  (List.range (2 * ceilDiv l.length 64)).map
    (fun b => (slice l (32 * b) 32).foldr (fun x n => x % 256 + n * 256) 0)

/-- The oldest section write of symbol `o` is done (R275, R289), within the section's slice; an error response marks
the status word and counts loft_err, and the section may come again. -/
def landWrite (s : State) (o : OpenSym) (w : SecWrite) (rest : List SecWrite) : State :=
  let f := o.flow
  let e := secEntry s f w.idx
  let u := bufUnit s f o.n + bits (secW s e 2) 16 11
  let bs := (sliceBeats w.data).take (2 * bits (secW s e 3) 0 11)
  let r := (bs.zip (List.range bs.length)).foldl (fun (a : Bool × State) b =>
    let x := writeBeat a.2 (flowOwner a.2 f) (2 * u + b.2) b.1
    (a.1 && x.1, x.2)) (true, s)
  if r.1 then putOpen r.2 { o with writes := rest, present := putBit o.present w.idx true }
  else flowCount (putOpen r.2 { o with writes := rest, failed := true, accepted := putBit o.accepted w.idx false }) f 15 1

/-- Every section write of a symbol is done, in order. -/
def landAll (s : State) (o : OpenSym) : State :=
  o.writes.foldl (fun t w =>
    match findOpen t o.flow o.n with
    | none => t
    | some x => landWrite t x w x.writes.tail) s

/-- The sections of symbol `o` that were expected and are not present. -/
def missingMap (s : State) (o : OpenSym) : Nat :=
  let ex := expectedMap s o.flow o.sym
  ex - (ex &&& o.present)

/-- The status line of open symbol n of flow `f` is written (R275): whether the Loft took it. -/
def statusWrite (s : State) (f n : Nat) (forced : Bool) : Bool × State :=
  match findOpen s f n with
  | none => (true, s)
  | some o =>
    let bs := statusBeats s o (missingMap s o) forced
    let a := writeBeat s (flowOwner s f) (2 * bufUnit s f o.n) (bs.getD 0 0)
    let b := writeBeat a.2 (flowOwner s f) (2 * bufUnit s f o.n + 1) (bs.getD 1 0)
    if a.1 && b.1 then (true, b.2) else (false, flowCount b.2 f 15 1)

/-- FH_QUARANTINE (R284): the flow's open symbols close without items, each with its status line (R275, R281). -/
def quarantine (s : State) (f : Nat) : State :=
  let os := opensOf s f
  let s := os.foldl (fun t o => (statusWrite (landAll t o) o.flow o.n false).2) s
  let s := setOpens s f (s.fh.opens.filter (fun o => o.flow != f))
  let s := os.foldl (fun t o => symMissing t f o.n) s
  let s := setFlowF s f 13 9 1 1
  let t := usToTk (1000 * max 1 (flowF s f 12 0 16))
  let s := setFh s { s.fh with quarEnd := aset s.fh.quarEnd f (s.now + t), viol := adel s.fh.viol f }
  raise s (laneSrc (flowPort s f)) 0x07 5 f

/-- Violations of flow `f` with weight `k` (R284, R285). -/
def violate (s : State) (f k : Nat) : State :=
  let s := grpViolate s (flowPort s f) k
  let thr := flowF s f 11 0 16
  let w := usToTk (max 1 (flowF s f 11 16 16))
  if thr = 0 || flowF s f 13 9 1 = 1 then s
  else
    let old := ((aget s.fh.viol f).getD []).filter (fun v => s.now < v.1 + w)
    let s := setFh s { s.fh with viol := aset s.fh.viol f (old ++ [(s.now, k)]) }
    if thr < violSum s (old ++ [(s.now, k)]) w then quarantine s f else s

/-- A duplicate message (R283). -/
def fhDup (s : State) (f : Nat) : State :=
  violate (flowOnce (flowCount s f 4 1) f 4 (laneSrc (flowPort s f)) 0x04 2 f) f 1

/-- A malformed message on lane `l`, attributed to a flow when it is known (R283). -/
def malformed (s : State) (l : Nat) (f : Option Nat) (reason : Nat) : State :=
  let s := (s.bump (F.FH_LANE_CNT0_malformed l) 1).set (F.FH_LANE_CNT2_last_malformed l) reason
  let s := raiseOnce s (F.FH_LANE_CNT0_malformed l) (laneSrc l) 0x02 2 reason
  match f with
  | some f => violate (flowCount s f 8 1) f 1
  | none => grpViolate s l 1

/-- An oversize message or frame (R268, R283). Where no flow is known the lane counts it in `other` (log entry 150). -/
def oversize (s : State) (l : Nat) (f : Option Nat) : State :=
  match f with
  | some f => violate (flowOnce (flowCount s f 7 1) f 7 (laneSrc l) 0x06 3 f) f 1
  | none => raiseOnce (s.bump (F.FH_LANE_CNT1_other l) 1) (F.FH_LANE_CNT1_other l) (laneSrc l) 0x06 3 0x3FFF

/-- A message of no known flow (R283): reported at most once per 10 ms per lane. -/
def unknownFlow (s : State) (l eaxc : Nat) : State :=
  let s := s.bump (F.FH_LANE_CNT1_unknown l) 1
  let s := if (aget s.fh.unknown l).any (fun t => s.now < t + usToTk 10000) then s
    else raise (setFh s { s.fh with unknown := aset s.fh.unknown l s.now }) (laneSrc l) 0x01 3 eaxc
  grpViolate s l 1

/-- A message outside its window (R283): `late` or early. -/
def fhWindow (s : State) (f : Nat) (late : Bool) : State :=
  let i := if late then 3 else 2
  violate (flowOnce (flowCount s f i 1) f i (laneSrc (flowPort s f)) 0x05 3 (f + ofBool late * 65536)) f 1

/-- The release of a closed symbol (R282). -/
def releaseOf (s : State) (o : OpenSym) (missing : Nat) : FhRelease :=
  let f := o.flow
  let j := o.n % flowOutRing s f
  let seq := (o.n * (flowF s f 2 16 4 + 1) + flowF s f 2 20 4) % 2 ^ 32
  ⟨flowClass s f, seq, o.rel, bufUnit s f o.n, flowF s f 7 0 11,
    flowF s f 8 0 23 + j * flowF s f 7 16 11, flowF s f 7 16 11,
    o.sym + o.frame % 1024 * 2 ^ 11 + ofBool (missing != 0) * 2 ^ 21 + ofBool (o.gaps != 0) * 2 ^ 22
      + ofBool o.clipped * 2 ^ 23 + f * 2 ^ 24 + flowF s f 9 0 26 * 2 ^ 38⟩

/-- An open symbol closes (R281, R282): a forced close waits for the writes of what it accepted; the status line is
written and the release waits for its acknowledgement. A symbol of which nothing was accepted is released only under
rel_empty. -/
def closeSym (s : State) (o : OpenSym) (forced : Bool) : State :=
  let f := o.flow
  let s := landAll s o
  let o := (findOpen s f o.n).getD o
  let s := (statusWrite s f o.n forced).2
  let missing := missingMap s o
  let s := setOpens s f (s.fh.opens.filter (fun x => !(x.flow = f && x.n = o.n)))
  let s := if forced then flowCount s f 13 1 else s
  if o.accepted = 0 && !o.failed && flowF s f 0 22 1 = 0 then symMissing s f o.n
  else
    let s := if missing = 0 then s
      else flowOnce (flowCount s f 11 1) f 11 (laneSrc (flowPort s f)) 0x10 3 (f + secBits missing * 65536)
    let s := setLastN (flowCount s f 10 1) f o.n
    setFh s { s.fh with closed := s.fh.closed ++ [⟨laneEngine s (flowPort s f), f, releaseOf s o missing⟩] }

/-- A symbol opens (R281): the ninth closes the oldest by force. -/
def openSym (s : State) (o : OpenSym) : State :=
  let s := match opensOf s o.flow with
    | x :: rest => if 7 ≤ rest.length then closeSym s x true else s
    | [] => s
  setOpens s o.flow (s.fh.opens ++ [o])

/-- A symbol closes when it is complete, or when its window has passed and nothing waits (R281). -/
def symCheck (s : State) (f n : Nat) : State :=
  match findOpen s f n with
  | none => s
  | some o =>
    let ex := expectedMap s f o.sym
    if o.writes ≠ [] then s
    else if ex ≠ 0 && ex &&& o.present = ex then closeSym s o false
    else if fpAfter s.fp o.close then closeSym s o false
    else s

/-- The window of symbol `sym` of frame count `fr` (R278, R298): that of the open symbol n, or as the offsets of the
flow now give it. -/
def symWindow (s : State) (f n fr sym : Nat) : Nat × Nat :=
  match findOpen s f n with
  | some o => (o.opn, o.close)
  | none =>
    let sfp := sfpOf s (flowNum s f) fr sym
    (fpShift sfp (winOpen s f), fpShift sfp (winClose s f))

/-- A symbol that has opened with nothing accepted. -/
def newSym (s : State) (f n fr sym : Nat) (o z : Nat) : OpenSym :=
  let sfp := sfpOf s (flowNum s f) fr sym
  ⟨f, n, fr, sym, sfp, o, z, 0, 0, 0, false, false, false, [], fpShift sfp (flowOffset s f)⟩

/-! Sections (R274, R276, R287 to R290). -/

/-- The compression of a section: its own header when udhdr = 1, else the flow's (R270). -/
def secComp (s : State) (f : Nat) (x : EcpriSec) : Nat × Bool :=
  if flowF s f 0 15 1 = 1 then (x.m, x.bfp) else (flowM s f, flowF s f 0 21 1 = 1)

/-- The bytes of a slice and the number of values clamped (R276, R289, R290). Samples received with no compression
are laid out as R276's first row says, whatever `store` is. -/
def sliceOf (s : State) (f : Nat) (x : EcpriSec) : List Nat × Nat :=
  let c := secComp s f x
  let blk := if c.2 then 1 + 3 * c.1 else 48
  let rows := (List.range x.num).map (fun k => slice x.data (k * blk) blk)
  if flowF s f 0 2 1 = 1 then (x.data, 0)
  else if flowF s f 0 16 1 = 1 && c.2 then ((rows.map (fun r => (r.getD 0 0 % 16) :: r.tail)).flatten, 0)
  else if c.2 then
    let ds := rows.map (fun r => decompress (r.getD 0 0 % 16) (unpackMants c.1 r.tail))
    ((ds.map (fun d => leBytes16 d.1)).flatten, ds.foldl (fun n d => n + d.2) 0)
  else ((rows.map (fun r => leBytes16 (unpackMants 16 r))).flatten, 0)

/-- Section `x` of a message: its index in the flow, or the reason it does not match (7 or 8), or
oversize as 0 (R274). -/
def secMatch (s : State) (f sym : Nat) (x : EcpriSec) : Nat ⊕ Nat :=
  match (List.range (secCount s f)).find?
      (fun i => secCovers s f i sym && bits (secW s (secEntry s f i) 0) 15 12 = x.id) with
  | none => .inr 7
  | some i =>
    let e := secEntry s f i
    let want := bits (secW s e 1) 10 9
    if bits (secW s e 1) 0 10 ≠ x.start || x.num < want then .inr 8
    else if want < x.num then .inr 0
    else .inl i

/-- The sections of a message with their indexes, or the first reason against them. -/
def secsMatch (s : State) (f sym : Nat) : List EcpriSec → List (Nat × EcpriSec) ⊕ Nat
  | [] => .inl []
  | x :: t => match secMatch s f sym x with
    | .inr r => .inr r
    | .inl i => match secsMatch s f sym t with
      | .inr r => .inr r
      | .inl l => .inl ((i, x) :: l)

/-- A section is accepted: its bytes wait for the Loft, and clipped values are counted (R290). -/
def secAccept (s : State) (f n : Nat) (p : Nat × EcpriSec) : State :=
  match findOpen s f n with
  | none => s
  | some o =>
    let d := sliceOf s f p.2
    let s := putOpen s { o with
      accepted := putBit o.accepted p.1 true, clipped := o.clipped || d.2 != 0
      writes := o.writes ++ [⟨p.1, d.1⟩] }
    if d.2 = 0 then s
    else flowOnce (flowCount s f 14 d.2) f 14 (laneSrc (flowPort s f)) 0x12 3 f

/-- Step 8 of R278: the sections that are not yet present are taken; in DORMANT, or during its entry, the accepted
message of a wake group may end the mode (R401, R402). -/
def step8 (s : State) (f n fr sym : Nat) (secs : List (Nat × EcpriSec)) (early : Bool) : State :=
  let x := findOpen s f n
  let w := symWindow s f n fr sym
  let acc := (x.map (fun y => y.accepted)).getD 0
  let fresh := secs.filter (fun p => !bitAt acc p.1)
  if (x.isNone && lastValid s f && n ≤ lastN s f) || (secs != [] && fresh = []) then fhDup s f
  else
    let s := if x.isNone then openSym s (newSym s f n fr sym w.1 w.2) else s
    let s := match findOpen s f n with
      | some y => if early then putOpen s { y with early := true } else s
      | none => s
    let s := flowCount (fresh.foldl (fun t p => secAccept t f n p) s) f 0 1
    let s := symCheck s f n
    if dormantSoon s && s.flag F.RST_WAKE_CFG_frame && wakeGroup s (flowPort s f / 8) then
      wake s 5 else s

/-- The sequence check (R280): whether the message is accepted. -/
def seqCheck (s : State) (f q : Nat) : Bool × State :=
  let x := flowF s f 13 0 8
  let d := (q + 256 - x) % 256
  let init := flowF s f 13 8 1 = 1
  let ids := flowIds s f
  let put := fun (t : State) =>
    let l := flowIds t f ++ [q]
    markDirty (setFh t { t.fh with ids := aset t.fh.ids f (l.drop (l.length - 64)) }) (flowLine f)
  let adv := fun (t : State) => setFlowF (setFlowF t f 13 0 8 ((q + 1) % 256)) f 13 8 1 1
  if !init then (true, adv (put s))
  else if d = 0 then (true, adv (put s))
  else if d < 128 then
    let s := flowOnce (flowCount s f 5 d) f 5 (laneSrc (flowPort s f)) 0x03 3 (f + d * 65536)
    let os := s.fh.opens.map (fun o => if o.flow = f then { o with gaps := o.gaps + d } else o)
    let s := setFh s { s.fh with opens := os }
    let s := adv (put s)
    (true, violate s f d)
  else if 256 - d ≤ 64 && !ids.contains q then (true, put (flowCount s f 6 1))
  else (false, fhDup s f)

/-- An early message is held until O, or dropped (R279). -/
def earlyHold (s : State) (f n fr sym len q : Nat) (near : Bool) (secs : List (Nat × EcpriSec)) : State :=
  let e := laneEngine s (flowPort s f)
  let mine := s.fh.held.filter (fun h => h.engine = e)
  let room := mine.length < 512 && mine.foldl (fun k h => k + h.bytes) len ≤ 262144
  if !near then fhWindow s f false
  else if !room then
    fhWindow (countRaise s (F.FH_ENG_CNT0_early_full e) 1017 0x16 3 e) f false
  else
    let r := seqCheck s f q
    if !r.1 then r.2
    else
      let s := flowCount r.2 f 1 1
      engStatus (setFh s { s.fh with held := s.fh.held ++ [⟨e, f, n, fr, sym, len, secs⟩] })

/-- The valid flow of a port and eAxC (R273, R278). -/
def findFlow (s : State) (port eaxc : Nat) : Option Nat :=
  (flowList s).find? (fun f => flowPort s f = port && flowF s f 1 0 16 = eaxc)

/-- The flow to which a violation is attributed (R284): an ingress flow. -/
def faultFlow (s : State) (fl : Option Nat) : Option Nat := fl.filter (fun f => !flowEgress s f)

/-- The dataDirection of message `m` is not that of its flow as the partner sees it (R270): the partner sends what
an ingress flow receives. -/
def dirBad (s : State) (m : Ecpri) (fl : Option Nat) : Bool := fl.any (fun f => m.egress = flowEgress s f)

/-- The reason of R269 and R270 that needs no symbol, 0 for none. -/
def headReason (s : State) (m : Ecpri) (fl : Option Nat) : Nat :=
  if m.revision ≠ 1 || m.concat then 1
  else if !m.sizeOk then 3
  else if m.msgType ≠ 0 && m.msgType ≠ 2 then 4
  else if m.fragment then 2
  else if m.version ≠ 1 || dirBad s m fl then 5
  else if m.msgType = 2 && m.secType ≠ 1 && m.secType ≠ 3 then 10
  else if m.secs.any (fun x => x.num = 0) then 8
  else 0

/-- A compression that is not supported (R270). -/
def compBad (s : State) (f : Nat) (m : Ecpri) : Bool :=
  m.msgType = 0 && flowF s f 0 15 1 = 1 && m.secs.any (fun x =>
    !x.known || (x.bfp && (x.m < 7 || 16 < x.m)) || (!x.bfp && x.m != 16))

/-- The address registers of lane `l`'s port: source and destination (R293). -/
def macSrc (s : State) (l : Nat) : Nat :=
  s.get (F.FH_LANE_MAC_SRC_LO_mac l) + s.get (F.FH_LANE_MAC_SRC_HI_mac l) * 2 ^ 32
def macDst (s : State) (l : Nat) : Nat :=
  s.get (F.FH_LANE_MAC_DST_LO_mac l) + s.get (F.FH_LANE_MAC_DST_HI_mac l) * 2 ^ 32

/-- The answer to a one-way delay request with measurement ID `id` that arrived at count `a` and `frac` sixteenths
(R269): action 2, its receive timestamp as PTP time; the port's addresses are those of its messages (log entry 153). -/
def owdAnswer (s : State) (l a frac id : Nat) : OwdMsg :=
  { lane := l, src := macSrc s l, dst := macDst s l, revision := 1, msgType := 5, action := 2, meas := id,
    time := ptpTime s a frac }

/-- An eCPRI message on the port of lowest lane `l` whose first bit crossed the ball at count `a` and `frac`
sixteenths (R269 to R280). A message on an egress flow's key has no window: it is of no known flow (log entry 151). -/
def ecpriRx (s : State) (l len a frac : Nat) (m : Ecpri) : State :=
  let named := findFlow s l m.eaxc
  let fl := faultFlow s named
  if m.revision = 1 && !m.concat && m.sizeOk && m.msgType = 5 then
    if m.action = 0 then setFh s { s.fh with owdReply := some (owdAnswer s l a frac m.meas) }
    else s.bump (F.FH_LANE_CNT1_other l) 1
  else
    let r := headReason s m named
    if r ≠ 0 then malformed s l fl r
    else match fl with
      | none => unknownFlow s l m.eaxc
      | some f =>
        let k := flowNum s f
        let sym := (m.subframe * numSlots s k + m.slot) * numPerSlot s k + m.symbol
        let fr := frameOf a m.frame
        let frn := (fr % (frameSpan : Int)).toNat
        let n := frn * numSym s k + sym
        if numSlots s k ≤ m.slot || numPerSlot s k ≤ m.symbol || numSym s k ≤ sym then malformed s l fl 6
        else if compBad s f m then malformed s l fl 9
        else if !flowOn s f || (flowF s f 0 2 1 = 1) != (m.msgType = 2) then unknownFlow (flowFetch s f) l m.eaxc
        else if !s.flag F.TB_STATUS_fp_valid then s.bump (F.FH_LANE_CNT2_notime l) 1
        else if flowF s f 13 9 1 = 1 then flowCount s f 9 1
        else match secsMatch s f sym m.secs with
          | .inr 0 => oversize s l fl
          | .inr r => malformed s l fl r
          | .inl secs =>
            let w := symWindow s f n frn sym
            if fpAfter a w.2 then fhWindow s f true
            else if fpAfter w.1 a then
              earlyHold s f n frn sym len (m.seq % 256)
                (w.1 - a ≤ s.get (F.FH_ENG_CFG_hold_max_tk (laneEngine s l))) secs
            else
              let c := seqCheck s f (m.seq % 256)
              if !c.1 then c.2
              else if flowF c.2 f 13 9 1 = 1 then c.2
              else step8 c.2 f n frn sym secs false

/-- The flow a frame's eAxC names, for a frame that is dropped whole. -/
def frameFlow (s : State) (p : Nat) (f : EthFrame) : Option Nat :=
  match f.body with
  | .ecpri m => faultFlow s (findFlow s p m.eaxc)
  | _ => none

/-- A frame of a best-effort priority dropped in a PFC episode (R223). The lane's first drop in an episode raises
THM_PFC_ENFORCE, unless it was raised since the counter was last read or cleared (R148, R234). -/
def pfcDrop (s : State) (l : Nat) : State :=
  let s := s.bump (F.THM_PFC_DROP_CNT_count l) 1
  if s.thm.pfcLanes.contains l then s
  else raiseOnce (setThm s { s.thm with pfcLanes := l :: s.thm.pfcLanes }) (F.THM_PFC_DROP_CNT_count l) (laneSrc l) 0x22 3
    (s.get (F.THM_PFC_LANE_be_prio l))

/-- PTP and ESMC frames. -/
def isTime : FrameBody → Bool
  | .ptp .. => true
  | .esmc _ => true
  | _ => false

/-- ETH_FRAME_RX (R223, R267, R268, R296, R385): a frame that the engine holds at `f.held`, on the port that lane `lane`
belongs to; the port is known by its lowest lane. Its arrival is the tick in which its first bit crossed the ball
(R247, R267). -/
def ethFrameRx (s : State) (lane : Nat) (f : EthFrame) : State :=
  let l := lowLane s lane
  let e := laneEngine s l
  if s.flag (F.LN_CFG_sink l) || !isEthernet s l || s.mode = Mode.load || s.mode = Mode.safe then s
  else
    let s := s.atFp f.held
    let a := rxBallOf s lane f.elastic f.held
    if !f.fcsOk || s.lane l ≠ Ln.up then s.bump (F.FH_LANE_CNT0_fcs l) 1
    else if s.flag F.THM_STATUS_enforce && s.flag (F.THM_PFC_LANE_pfc_en l) && !isTime f.body
      && bitAt (s.get (F.THM_PFC_LANE_be_prio l)) f.prio then pfcDrop s l
    else if !engOpen s e then s.bump (F.FH_ENG_CNT1_gated e) 1
    else if s.get (F.FH_LANE_CFG_max_frame l) < f.length then oversize s l (frameFlow s l f)
    else if 2 ≤ f.tags then s.bump (F.FH_LANE_CNT1_other l) 1
    else match f.body with
      | .ptp kind domain twoStep time selects =>
        ptpMessageRx s l kind domain twoStep time selects a f.frac
      | .esmc ql => if (portLanes s l).contains (s.get F.TB_SYNCE_CFG_lane) || l = s.get F.TB_SYNCE_CFG_lane then esmcRx s ql
        else s
      | .other => s.bump (F.FH_LANE_CNT1_other l) 1
      | .ecpri m =>
        if s.mode = Mode.standby then s.bump (F.FH_ENG_CNT1_gated e) 1
        else ecpriRx s l f.length a f.frac m

/-- ETH_FRAME_RX. -/
def execEthFrameRx (l : Nat) (f : EthFrame) (s : State) : Res :=
  checked (.ethFrameRx l f) (ethFrameRx s l f)

/-! Pause frames (R286). -/

/-- A lane's pause record in the present second of frame time: a pause that runs on from an earlier second is honoured
in this one. -/
def pauseOf (s : State) (l : Nat) : PauseRun :=
  let sec := s.fp / secTk
  match aget s.fh.pause l with
  | some p => if p.second = sec then p
    else ⟨sec, (p.until'.map (fun t => t - (s.now - s.fp % secTk))).getD 0, false, p.until'⟩
  | none => ⟨sec, 0, false, none⟩

/-- A lane's pause record is replaced. -/
def setPause (s : State) (l : Nat) (p : PauseRun) : State :=
  setFh s { s.fh with pause := aset s.fh.pause l p }

/-- The ticks of a pause of `n` ticks that are honoured (R286) when `left` ticks of the second's allowance `cap` are
left and the second ends in `e` ticks: a pause that lasts past the end of the second takes from the next one's. -/
def pauseGrant (n left cap e : Nat) : Nat := if e ≤ left then min n (e + cap) else min n left

/-- PAUSE_FRAME_RX (R286): a pause of `us` µs on the port of lane `lane` replaces what is left of the pause before it;
it is honoured within the second's allowance, or ignored once that allowance has been honoured. -/
def execPauseFrameRx (lane us : Nat) (s : State) : Res :=
  checked (.pauseFrameRx lane us) <|
    let l := lowLane s lane
    if s.flag (F.LN_CFG_sink l) || !isEthernet s l || s.lane l ≠ Ln.up then s
    else
      let p := pauseOf s l
      let rest := (p.until'.map (fun t => t - s.now)).getD 0
      let used := p.used - rest
      let cap := usToTk (s.get (F.FH_LANE_CFG_pause_max_us l))
      if cap ≤ used then
        let s := s.bump (F.FH_LANE_CNT2_pause_ignored l) 1
        if p.raised then setPause s l p
        else raise (setPause s l { p with raised := true }) (laneSrc l) 0x0B 4 (satNat 32 us)
      else
        let n := pauseGrant (usToTk us) (cap - used) cap (secTk - s.fp % secTk)
        setPause s l { p with used := used + n, until' := if n = 0 then none else some (s.now + n) }

/-- PAUSE_TIME_EXPIRY (R286): the honoured pause runs out. -/
def execPauseTimeExpiry (l : Nat) (s : State) : Res :=
  checked (.pauseTimeExpiry l) <|
    match (pauseOf s l).until' with
    | none => s
    | some t => let s := s.atNow t; setPause s l { pauseOf s l with until' := none }

/-! Windows and writes. -/

/-- The held messages of a symbol are taken in arrival order (R279). -/
def heldTake (s : State) (h : HeldMsg) : State :=
  if !flowOn s h.flow then
    (flowFetch s h.flow).bump (F.FH_LANE_CNT1_unknown (flowPort s h.flow)) 1
  else if flowF s h.flow 13 9 1 = 1 then flowCount s h.flow 9 1
  else step8 s h.flow h.n h.frame h.sym h.secs true

/-- HELD_MESSAGE_RELEASE (R279). -/
def execHeldMessageRelease (f n : Nat) (s : State) : Res :=
  checked (.heldMessageRelease f n) <|
    let hs := s.fh.held.filter (fun h => h.flow = f && h.n = n)
    match hs with
    | [] => s
    | h :: _ =>
      let s := s.atFp (symWindow s f n h.frame h.sym).1
      let s := engStatus (setFh s { s.fh with
        held := s.fh.held.filter (fun x => !(x.flow = f && x.n = n)) })
      hs.foldl heldTake s

/-- The engines run ingress for flow `f`. -/
def ingressRuns (s : State) (f : Nat) : Bool :=
  flowOn s f && !flowEgress s f && s.flag F.TB_STATUS_fp_valid && s.mode != Mode.standby
    && s.mode != Mode.load && s.mode != Mode.safe && engOpen s (laneEngine s (flowPort s f))

/-- SYMBOL_WINDOW_OPEN (R281): at O a symbol of a rel_empty flow opens. -/
def execSymbolWindowOpen (f n : Nat) (s : State) : Res :=
  checked (.symbolWindowOpen f n) <|
    let k := flowNum s f
    let fr := n / max 1 (numSym s k)
    let sym := n % max 1 (numSym s k)
    if !ingressRuns s f || flowF s f 0 22 1 = 0 || flowF s f 13 9 1 = 1 || (findOpen s f n).isSome
      || (lastValid s f && n ≤ lastN s f) || expectedMap s f sym = 0 then s
    else
      let sfp := sfpOf s k fr sym
      let o := fpShift sfp (winOpen s f)
      openSym (s.atFp o) (newSym s f n fr sym o (fpShift sfp (winClose s f)))

/-- SECTION_WRITE_ACK (R275, R281, R289): the oldest section write of symbol n of flow `f` is
acknowledged by the Loft; an error response marks the status word and counts loft_err. -/
def execSectionWriteAck (f n : Nat) (s : State) : Res :=
  checked (.sectionWriteAck f n) <|
    match findOpen s f n with
    | none => s
    | some o => match o.writes with
      | [] => s
      | w :: rest => symCheck (landWrite s o w rest) f n

/-- Z passes for symbol n of flow `f`, which has not opened (R281): nothing of it arrived, and without rel_empty it is
missing. -/
def symPassed (s : State) (f n : Nat) : State :=
  let sym := n % max 1 (numSym s (flowNum s f))
  if !ingressRuns s f || flowF s f 0 22 1 = 1 || flowF s f 13 9 1 = 1 || (lastValid s f && n ≤ lastN s f)
    || expectedMap s f sym = 0 then s
  else symMissing s f n

/-- Z of symbol n of flow `f`. -/
def symZ (s : State) (f n : Nat) : Nat :=
  (symWindow s f n (n / max 1 (numSym s (flowNum s f))) (n % max 1 (numSym s (flowNum s f)))).2

/-- SYMBOL_WINDOW_CLOSE (R281): Z passes. -/
def execSymbolWindowClose (f n : Nat) (s : State) : Res :=
  checked (.symbolWindowClose f n) <|
    if !flowValid s f || flowEgress s f then s
    else
      let s := s.atFp (fpAdd (symZ s f n) 1)
      match findOpen s f n with
      | none => symPassed s f n
      | some _ => symCheck s f n

/-- STATUS_LINE_ACK (R282): the flow's oldest closed symbol queues its release; a full queue of 256
discards it. -/
def execStatusLineAck (f : Nat) (s : State) : Res :=
  checked (.statusLineAck f) <|
    match s.fh.closed.find? (fun c => c.flow = f) with
    | none => s
    | some c =>
      let s := setFh s { s.fh with closed := s.fh.closed.eraseP (fun x => x.flow = f) }
      if 256 ≤ (s.fh.queue.filter (fun q => q.1 = c.engine)).length then
        raise (s.bump (F.FH_ENG_CNT0_rel_drop c.engine) 1) 1017 0x15 5 (c.engine + c.item.cls * 256)
      else
        let t := max (s.now + 1) ((aget s.fh.relFree c.engine).getD 0)
        let free := if s.fh.queue.any (fun q => q.1 = c.engine) then s.fh.relFree else aset s.fh.relFree c.engine t
        engStatus (setFh s { s.fh with queue := s.fh.queue ++ [(c.engine, c.item)], relFree := free })

/-- FRONTHAUL_RELEASE (R282): the engine hands on its oldest release as an item of origin 1, in the tick after its
acknowledgement or after the engine's last release. -/
def execFronthaulRelease (e : Nat) (s : State) : Res :=
  checked (.fronthaulRelease e) <|
    match s.fh.queue.find? (fun q => q.1 = e) with
    | none => s
    | some q =>
      let s := s.atNow ((aget s.fh.relFree e).getD 0)
      let s := engStatus (setFh s { s.fh with
        queue := s.fh.queue.eraseP (fun x => x.1 = e), relFree := aset s.fh.relFree e (s.now + 1) })
      let r := q.2
      (itemCreate s ⟨r.cls, 1, some r.seq, r.release, r.inLen, r.outLen, r.inAddr, r.outAddr, r.arg⟩).2

/-- QUARANTINE_END (R284). -/
def execQuarantineEnd (f : Nat) (s : State) : Res :=
  checked (.quarantineEnd f) <|
    match aget s.fh.quarEnd f with
    | none => s
    | some t =>
      let s := s.atNow t
      let s := setFh s { s.fh with quarEnd := adel s.fh.quarEnd f }
      let s := setFlowF (setFlowF s f 13 9 1 0) f 13 8 1 0
      raise s (laneSrc (flowPort s f)) 0x08 3 f

/-- PARTNER_FAULT_CLEAR (R285). -/
def execPartnerFaultClear (g : Nat) (s : State) : Res :=
  checked (.partnerFaultClear g) <|
    let n := grpSum s g
    if s.flag (F.FH_GRP_STATUS_faulty g) && grpQuiet s g then
      raise ((s.set (F.FH_GRP_STATUS_violations g) (satNat 16 n)).set (F.FH_GRP_STATUS_faulty g) 0)
        (32 * g + 3) 0x0A 3 g
    else s

/-! Egress (R291 to R295). -/

/-- The engines run egress for flow `f` (R273, R296, R385). -/
def egressRuns (s : State) (f : Nat) : Bool :=
  flowOn s f && flowEgress s f && s.flag F.TB_STATUS_fp_valid && s.mode != Mode.standby
    && s.mode != Mode.load && s.mode != Mode.safe && engOpen s (laneEngine s (flowPort s f))

/-- A drain whose output reference starts at an egress buffer arms it; a buffer whose check tick has
passed for its X takes no arm (R292). -/
def egressArm (s : State) (unit : Nat) : State :=
  ((flowList s).filter (flowEgress s)).foldl (fun t f =>
    match (List.range (flowRing t f)).find? (fun j => bufUnit t f j = unit) with
    | none => t
    | some j =>
      let k := 256 * f + j
      if t.fh.checked.contains k then flowCount t f 2 1
      else setFh t { t.fh with arms := nins k t.fh.arms }) s

/-- DRAIN_ACK_COMPLETE (R175, R292). -/
def execDrainAckComplete (p slot : Nat) (s : State) : Res :=
  checked (.drainAckComplete p slot) <|
    match sentDrain s p slot with
    | none => s
    | some d =>
      let s := drainAcked s d
      if d.err || d.total = 0 then s else egressArm s (d.beat / 2)

/-- The words of a slice read under the flow's owner (R293, R320): each with its status, 0 done, 1
error response, 2 poisoned. -/
def readSlice (owner : Nat) : List Nat → State → List (Nat × Nat) × State
  | [], s => ([], s)
  | w :: ws, s =>
    let j := judge s owner (wLBank w) false
    let r : (Nat × Nat) × State := if !j.1 then ((1, 0), j.2)
      else
        let x := readWord j.2 w owner
        match x.1 with
        | some d => ((0, d), x.2)
        | none => ((2, 0), x.2)
    let t := readSlice owner ws r.2
    (r.1 :: t.1, t.2)

/-- The bytes of words, least significant first. -/
def wordBytes (l : List (Nat × Nat)) : List Nat :=
  l.flatMap (fun w => (List.range 8).map (fun i => bits w.2 (8 * i) 8))

/-- One PRB for the wire (R290, R293): its bytes, whether it saturated, and whether it was replaced. -/
def prbOut (s : State) (f : Nat) (ws : List (Nat × Nat)) : List Nat × Bool × Bool :=
  let m := flowM s f
  let bfp := flowF s f 0 21 1 = 1
  if ws.any (fun w => w.1 != 0) then ((List.range (if bfp then 1 + 3 * m else 48)).map (fun _ => 0), false, true)
  else
    let v := (leVals16 (wordBytes ws)).map (fun x => roundHalfEven (x * (flowF s f 10 0 16 : Int)) 256)
    if bfp then let b := compress m v; (wireBlock m b, b.sat, false)
    else ((v.flatMap (fun x => [ofInt 16 (clamp16 x) / 256, ofInt 16 (clamp16 x) % 256])),
      v.any (fun x => clamp16 x != x), false)

/-- The first `n` groups of six words. -/
def prbWords (l : List (Nat × Nat)) : Nat → List (List (Nat × Nat))
  | 0 => []
  | n + 1 => l.take 6 :: prbWords (l.drop 6) n

/-- The headers of the message of section `i` in symbol n of flow `f` (R272, R293). -/
def txHead (s : State) (f n i : Nat) : TxHead :=
  let p := flowPort s f
  let k := flowNum s f
  let ns := max 1 (numSym s k)
  let sym := n % ns
  let e := secEntry s f i
  { revision := 1
    msgType := if flowF s f 0 2 1 = 1 then 2 else 0
    eBit := 1
    src := macSrc s p
    dst := macDst s p
    vlan := if flowF s f 10 31 1 = 1 then some (flowF s f 10 16 12, flowF s f 10 28 3) else none
    frame := n / ns % 256
    subframe := sym / (numSlots s k * numPerSlot s k)
    slot := sym / numPerSlot s k % numSlots s k
    symbol := sym % numPerSlot s k
    eaxc := flowF s f 1 0 16
    id := bits (secW s e 0) 15 12
    start := bits (secW s e 1) 0 10
    num := bits (secW s e 1) 10 9
    comp := if flowF s f 0 15 1 = 1 then some (flowM s f, flowF s f 0 21 1 = 1) else none }

/-- A section of an egress symbol is read, scaled, compressed and sent as one message (R292, R293). -/
def sendSection (f n : Nat) (s : State) (i : Nat) : State :=
  let e := secEntry s f i
  let u := bufUnit s f n + bits (secW s e 2) 16 11
  let cplane := flowF s f 0 2 1 = 1
  let num := bits (secW s e 1) 10 9
  let cnt := if cplane then 8 * bits (secW s e 3) 0 11 else 6 * num
  let r := readSlice (flowOwner s f) ((List.range cnt).map (fun k => 8 * u + k)) s
  let s := r.2
  let errs := (r.1.filter (fun w => w.1 = 1)).length
  let s := if errs = 0 then s else flowCount s f 5 1
  let prbs := (prbWords r.1 num).map (prbOut s f)
  let data := if cplane then wordBytes r.1 else (prbs.map (fun b => b.1)).flatten
  let sat := (prbs.filter (fun b => b.2.1)).length
  let bad := if cplane then (r.1.filter (fun w => w.1 != 0)).length else (prbs.filter (fun b => b.2.2)).length
  let src := laneSrc (flowPort s f)
  let s := if sat = 0 || cplane then s else flowOnce (flowCount s f 3 sat) f 3 src 0x11 4 f
  let s := if bad = 0 then s else flowOnce (flowCount s f 4 bad) f 4 src 0x14 4 f
  let q := (aget s.fh.txSeq f).getD 0
  setFh s { s.fh with
    txSeq := aset s.fh.txSeq f ((q + 1) % 256)
    lastTx := s.fh.lastTx ++ [⟨txHead s f n i, f, n, q, e, data, bad != 0 && flowF s f 0 15 1 = 1⟩] }

/-- X of symbol n of flow `f` (R291). -/
def egressX (s : State) (f n : Nat) : Nat :=
  let k := flowNum s f
  fpShift (sfpOf s k (n / max 1 (numSym s k)) (n % max 1 (numSym s k))) (flowOffset s f)

/-- Symbol n of egress flow `f` has sections and has not been sent (R291). -/
def egressDue (s : State) (f n : Nat) : Bool :=
  egressRuns s f && expectedMap s f (n % max 1 (numSym s (flowNum s f))) != 0
    && !(lastValid s f && n ≤ lastN s f)

/-- Missed symbols (R292, R296). A step's misses are reported whatever was reported before. -/
def egressMiss (s : State) (f k : Nat) (step : Bool) : State :=
  let s := flowCount s f 1 k
  let src := laneSrc (flowPort s f)
  let data := f + satNat 15 (flowCnt s f 1) * 65536 + ofBool step * 2 ^ 31
  if step then raise s src 0x13 5 data else flowOnce s f 1 src 0x13 5 data

/-- The check tick of symbol n of egress flow `f` (R292). -/
def egressCheckAt (s : State) (f n : Nat) : Nat :=
  fpShift (egressX s f n) (-((s.get (F.LN_LAT_tx_base (flowPort s f)) + 1536 : Nat) : Int))

/-- EGRESS_CHECK (R291 to R293): at X − tx_base − 1,536 the symbol is sent or missed. -/
def execEgressCheck (f n : Nat) (s : State) : Res :=
  checked (.egressCheck f n) <|
    if !egressDue s f n || flowF s f 0 29 1 = 1 then (if flowValid s f && flowEgress s f then flowFetch s f else s)
    else
      let s := s.atFp (egressCheckAt s f n)
      let k := 256 * f + n % flowRing s f
      if s.fh.arms.contains k then
        let s := setFh s { s.fh with arms := ndel s.fh.arms k, checked := nins k s.fh.checked, lastTx := [] }
        let sym := n % max 1 (numSym s (flowNum s f))
        let is := (List.range (secCount s f)).filter (fun i => secCovers s f i sym)
        setLastN (flowCount (is.foldl (sendSection f n) s) f 0 1) f n
      else egressMiss (setFh s { s.fh with checked := nins k s.fh.checked }) f 1 false

/-- EGRESS_ARM_EXPIRY (R292): X passes and the buffer's arming clears, whether the flow runs or not. -/
def execEgressArmExpiry (f n : Nat) (s : State) : Res :=
  checked (.egressArmExpiry f n) <|
    if !flowValid s f || !flowEgress s f then s
    else
      let s := s.atFp (egressX s f n)
      let k := 256 * f + n % flowRing s f
      setFh s { s.fh with arms := ndel s.fh.arms k, checked := ndel s.fh.checked k }

/-- A word of two complex samples for a JESD204C block: each value scaled by the flow's gain (R290, R295); a word that
failed or is poisoned gives zeros (R293). -/
def jesdWord (s : State) (f : Nat) (w : Nat × Nat) : Nat :=
  if w.1 ≠ 0 then 0
  else
    let v := (leVals16 (wordBytes [w])).map (fun x => roundHalfEven (x * (flowF s f 10 0 16 : Int)) 256)
    (v.zip [0, 16, 32, 48]).foldl (fun n x => n + ofInt 16 (clamp16 x.1) * 2 ^ x.2) 0

/-- JESD_EGRESS_SPAN (R295): the span from X(s) to X(s + 1) takes `blocks` block payloads of two
samples; a buffer not armed or too short is padded with zeros and counted; words that fail are counted (R293). -/
def execJesdEgressSpan (f n blocks : Nat) (s : State) : Res :=
  checked (.jesdEgressSpan f n blocks) <|
    if !egressDue s f n || flowF s f 0 29 1 = 0 then (if flowValid s f && flowEgress s f then flowFetch s f else s)
    else
      let s := s.atFp (egressX s f n)
      let k := 256 * f + n % flowRing s f
      let armed := s.fh.arms.contains k
      let sym := n % max 1 (numSym s (flowNum s f))
      let is := (List.range (secCount s f)).filter (fun i => secCovers s f i sym)
      let ws := is.flatMap (fun i =>
        let e := secEntry s f i
        (List.range (6 * bits (secW s e 1) 10 9)).map
          (fun j => 8 * (bufUnit s f n + bits (secW s e 2) 16 11) + j))
      let r : List (Nat × Nat) × State := if armed then readSlice (flowOwner s f) (ws.take blocks) s else ([], s)
      let s := setFh r.2 { r.2.fh with
        arms := ndel r.2.fh.arms k
        lastJesd := (List.range blocks).map (fun i => ((r.1.map (jesdWord s f)).getD i 0)) }
      let errs := (r.1.filter (fun w => w.1 = 1)).length
      let bad := (r.1.filter (fun w => w.1 != 0)).length
      let s := if errs = 0 then s else flowCount s f 5 1
      let s := if bad = 0 then s else flowOnce (flowCount s f 4 bad) f 4 (laneSrc (flowPort s f)) 0x14 4 f
      let s := if armed then setLastN s f n else s
      if armed && blocks ≤ ws.length then flowCount s f 0 1 else egressMiss s f 1 false

/-- The symbol counts of flow `f` in the frames around the span from count `a` to count `b`. -/
def spanSyms (s : State) (f a b : Nat) : List Nat :=
  let ns := numSym s (flowNum s f)
  let f0 := (a / frameTk) - 1
  (List.range (b / frameTk + 2 - f0)).flatMap (fun i => (List.range ns).map (fun y => (f0 + i) * ns + y))

/-- A forward step skips instant `x`. -/
def skips (s : State) (n0 x : Nat) : Bool := !fpAfter n0 x && fpAfter s.fp x

/-- A forward step from `n0` and egress flow `f` (R292, R296): the arms of the symbols whose X it skipped clear, and
those that had not been missed at their check tick are missed. -/
def egressStep (n0 : Nat) (s : State) (f : Nat) : State :=
  let cnt := (spanSyms s f n0 s.fp).filter (fun n => egressDue s f n && skips s n0 (egressX s f n))
  let ks := cnt.map (fun n => 256 * f + n % flowRing s f)
  let gone := cnt.filter (fun n => !(s.fh.checked.contains (256 * f + n % flowRing s f)
    && !fpAfter (egressCheckAt s f n) n0))
  let s := setFh s { s.fh with
    arms := s.fh.arms.filter (fun k => !ks.contains k), checked := s.fh.checked.filter (fun k => !ks.contains k) }
  if gone = [] then s else egressMiss s f gone.length true

/-- A forward step (R296): symbols whose Z it skipped close, those that had not opened are missing, and egress symbols
whose X it skipped are missed. `n0` is the count before the step. -/
def fhStep (s : State) (n0 : Nat) : State :=
  let s := (s.fh.opens.filter (fun o => skips s n0 o.close)).foldl (fun t o => symCheck t o.flow o.n) s
  let s := ((flowList s).filter (ingressRuns s)).foldl (fun t f =>
    ((spanSyms t f n0 t.fp).filter (fun n => (findOpen t f n).isNone && skips t n0 (symZ t f n))).foldl
      (fun u n => symPassed u f n) t) s
  ((flowList s).filter (egressRuns s)).foldl (egressStep n0) s

/-! Table commands (R298). -/

/-- The copy of a register that requester `who` holds. -/
def mine (who : Requester) (f : Fld) : Fld := f.copy (reqNum who)

/-- FLOW_READ (R298). -/
def flowRead (s : State) (who : Requester) : State :=
  if s.flag (mine who F.FH_FLOW_STATUS_busy) then s
  else
    let f := s.get (mine who F.FH_FLOW_INDEX_index)
    s.setAll ((List.range 16).map (fun i => (mine who (F.FH_FLOW_DATA_data i), flowW s f i)))

/-- FLOW_READ. -/
def execFlowRead (who : Requester) (s : State) : Res :=
  checked (.flowRead who) (asked s who F.FH_FLOW_CMD_read.addr 2 (flowRead · who))

/-- The bits of flow word `i` that may be rewritten at run time (R273). -/
def flowStar (i : Nat) : Nat :=
  if i = 0 then 2 else if i = 3 || i = 4 || i = 5 || i = 11 then 2 ^ 32 - 1
  else if i = 10 || i = 12 then 65535 else 0

/-- A commit is refused (R273, R276, R298): a fixed field changes, a window offset or a transmit
offset lies outside ±4,915,200 tk, or win_open > win_close. -/
def commitBad (s : State) (f : Nat) (d : List Nat) : Bool :=
  let w := fun i => d.getD i 0
  let far := fun i => 4915200 < (toInt 32 (w i)).natAbs
  (List.range 16).any (fun i => (w i ^^^ flowW s f i) ||| flowStar i != flowStar i)
    || far 3 || far 4 || (bitAt (w 0) 3 && far 5) || toInt 32 (w 4) < toInt 32 (w 3)

/-- FLOW_COMMIT (R298): the register port's commit is checked; it takes effect 8 tk later. -/
def flowCommit (s : State) : State :=
  let m := mine .regPort
  if s.flag (m F.FH_FLOW_STATUS_busy) then s
  else
    let f := s.get (m F.FH_FLOW_INDEX_index)
    let d := (List.range 16).map (fun i => s.get (m (F.FH_FLOW_DATA_data i)))
    if commitBad s f d then
      raise (s.set (m F.FH_FLOW_STATUS_last_refused) 1) 1017 0x17 3 (1 + f * 65536)
    else
      let s := (s.set (m F.FH_FLOW_STATUS_last_refused) 0).set (m F.FH_FLOW_STATUS_busy) 1
      setFh s { s.fh with commit := some (f, d, s.now + 8) }

/-- FLOW_COMMIT. -/
def execFlowCommit (s : State) : Res :=
  checked .flowCommit (asked s .regPort F.FH_FLOW_CMD_read.addr 2 flowCommit)

/-- FLOW_COMMIT_EFFECT (R298, R320): the entry changes and its poisoned words are rewritten; the state words
keep their values. -/
def execFlowCommitEffect (s : State) : Res :=
  checked .flowCommitEffect <|
    match s.fh.commit with
    | none => s
    | some (f, d, t) =>
      let s := s.atNow t
      let s := (List.range 13).foldl (fun u i => setFlowW u f i (d.getD i 0)) s
      let left := s.fh.poisoned.filter (fun w => w / 8 != f)
      (setFh s { s.fh with commit := none, poisoned := left }).set (mine .regPort F.FH_FLOW_STATUS_busy) 0

/-- FLOW_CNT_READ (R298): the register port loads and clears a flow's counters. -/
def flowCntRead (s : State) : State :=
  let m := mine .regPort
  if s.flag (m F.FH_FLOW_STATUS_busy) then s
  else
    let f := s.get (m F.FH_FLOW_INDEX_index)
    let s := s.setAll ((List.range 16).map (fun i => (m (F.FH_FLOW_CNT_count i), flowCnt s f i)))
    let lo := flowKey f 0 0
    let s := { s with reported := s.reported.filter (fun k => !(lo ≤ k && k < lo + 4096)) }
    setFh s { s.fh with cnt := s.fh.cnt.filter (fun p => p.1 / 16 != f) }

/-- FLOW_CNT_READ. -/
def execFlowCntRead (s : State) : Res :=
  checked .flowCntRead (asked s .regPort F.FH_FLOW_CMD_read.addr 2 flowCntRead)

/-- SECTION_READ (R298). -/
def sectionRead (s : State) (who : Requester) : State :=
  let e := s.get (mine who F.FH_SEC_INDEX_index)
  s.setAll ((List.range 4).map (fun i => (mine who (F.FH_SEC_DATA_data i), secW s e i)))

/-- SECTION_READ. -/
def execSectionRead (who : Requester) (s : State) : Res :=
  checked (.sectionRead who) (asked s who F.FH_SEC_CMD_read.addr 2 (sectionRead · who))

end Sys2Proof.Machine
end

