-- ==== Sys2Proof/Machine/Monitors.lean ====
section
/-! DEFINITION. The clock monitors (R81 to R85, R92): gates, stops, the comparison of the oscillators
with the time reference, and what a lost or qualified clock does. -/

namespace Sys2Proof.Machine

/-- The running counts of monitor `m`. -/
def State.mon (s : State) (m : Nat) : MonRun := (aget s.clk.mons m).getD ⟨0, 0, 0, 0⟩

/-- The running counts of monitor `m` are replaced. -/
def setMon (s : State) (m : Nat) (x : MonRun) : State :=
  { s with clk := { s.clk with mons := aset s.clk.mons m x } }

/-- XSPI runs at TICK / 5, and not at AON / 2 (R79). Once CLK_BOOT_SLOW has been raised it stays at AON / 2
until the attempt ends: the rules do not say that it moves when TICK qualifies after that (log entry 98). -/
def xspiFast (s : State) : Bool :=
  !s.clk.slow && monQual s 34 && s.cfg.load.all (fun r => r.hdr.isSome)

/-- The nominal frequency of monitor `m`'s clock in 2^-16 Hz (R78, R79, R82, R87, R100); 0 where the
configuration names none. -/
def nomFreq (s : State) (m : Nat) : Nat :=
  if m < 34 then s.get (F.CLK_MON_FREQ_LO_freq_lo m) + s.get (F.CLK_MON_FREQ_HI_freq_hi m) * 2 ^ 32
  else if m = 34 then 983040000 * 65536
  else if m ≤ 36 then 491520000 * 65536
  else if m ≤ 40 then s.get (F.CLK_AUX_CFG_out_freq (m - 37)) * 4096000
  else if m = 41 then (if xspiFast s then 196608000 else 16000000) * 65536
  else 32000000 * 65536

/-- The monitor of the time-base PLL's present input (R80), none in hold. -/
def pllInput (s : State) : Option Nat :=
  let i := s.get F.CLK_TB_STATUS_input
  if i ≤ 1 then some i else if i = 2 then some (fbMonitor s) else none

/-- The fine reference of monitor `m` (R82, R100), none for 0x3F; TICK's default is the present PLL
input (log entry 9). -/
def fineRef (s : State) (m : Nat) : Option Nat :=
  let r := s.get (F.CLK_MON_CFG_fine_ref m)
  if r ≠ 63 then some r
  else if m = 34 then pllInput s
  else none

/-- The fine reference of monitor `m`, when it is QUALIFIED (R84). -/
def goodRef (s : State) (m : Nat) : Option Nat := (fineRef s m).filter (fun r => monQual s r)

/-- Monitor `m` runs: it is enabled, or ignores its enable, and its clock has a nominal frequency (R100). -/
def monRuns (s : State) (m : Nat) : Bool :=
  ([34, 35, 36, 42].contains m || s.flag (F.CLK_MON_CFG_enable m)) && nomFreq s m != 0

/-- A count of a gate passes (R83): within `tol` parts of `unit` of 65,536 · f_fast / f_slow. -/
def gatePass (fa fb count tol unit : Nat) : Bool :=
  let ff := max fa fb
  let fs := min fa fb
  let e := 65536 * ff
  let c := count * fs
  fs != 0 && (max c e - min c e) * unit ≤ e * tol

/-- The coarse tolerance of monitor `m` in 0.1 % (R100). Values above the stated 200 act as written, which the
rules leave open (log entry 99). -/
def coarseTol (s : State) (m : Nat) : Nat :=
  if m = 42 then 100 else max 1 (s.get (F.CLK_MON_CFG_coarse_tol m))

/-- The fine tolerance of monitor `m` in ppm (R100). -/
def fineTol (s : State) (m : Nat) : Nat := max 1 (s.get (F.CLK_MON_CFG_fine_tol m))

/-- A monitor's event is raised at its source (R99): the lane group's lowest lane for LREF and the
recovered clocks. -/
def monRaise (s : State) (m code sev data : Nat) : State :=
  if 2 ≤ m && m ≤ 17 then raise s (32 * (m - 2)) (0x60 + code) sev data
  else if 18 ≤ m && m ≤ 33 then raise s (32 * (m - 18)) (0x60 + code) sev data
  else raise s 1021 code sev data

/-- The monitors that name each other as fine references with `m` (R85). -/
def mutualRef (s : State) (m : Nat) : Option Nat := (fineRef s m).filter (fun r => fineRef s r = some m)

/-- The fallback input of the time-base PLL runs from monitor `m`. -/
def fbFrom (s : State) (m : Nat) : Bool := s.flag F.CLK_TB_CFG_fb_en && fbMonitor s = m

/-- The device enters SAFE for a clock: a load that runs ends (R81, R403). -/
def clockSafe (s : State) : State := setLoad (toSafe s false) none

/-- What a lost clock does (R81, R92): the domains that run from it are forced safe. An oscillator or TICK that
was not QUALIFIED, as `was` says, has nothing more to lose. `count` is the last count. -/
def lostEffects (s : State) (m count : Nat) (was : Bool) : State :=
  let s := (muxesOf s m).foldl (fun t x => sourceFail t x m) s
  if !was && m ≤ 34 then s
  else
    if m ≤ 1 then refLost s (4 + m) 7
    else if m = 34 then clockSafe (raise s 1021 0x0A 7 (s.get F.CLK_TB_STATUS_input))
    else if m = 35 || m = 36 then clockSafe (raise s 1021 0x0B 7 m)
    else if m = 41 then
      if s.mode = Mode.load && s.cfg.load.isSome then
        let slot := s.get F.CFG_STATUS_alt_tried
        loadFail (raiseCrit s true 1021 0x0D 6 slot) 2 0x0D 0 0
      else s
    else if m = 42 then raise s 1021 0x0C 6 count
    else if fbFrom s m then pllJudge s
    else s

/-- The disagreement of two monitors ends, and with it their comparison with the time reference (R85). -/
def disagreeEnd (s : State) (m r : Nat) : State :=
  let s := s.setAll [(F.CLK_MON_STATUS_disagree m, 0), (F.CLK_MON_STATUS_disagree r, 0)]
  setMon (setMon s m { s.mon m with ref := 0 }) r { s.mon r with ref := 0 }

/-- Monitor `m` alone moves to LOST (R84, R85): reasons 0 time reference, 1 stop, 2 coarse, 3 fine. A
disagreement ends. -/
def moveLost1 (s : State) (m reason count : Nat) : State :=
  let was := monQual s m
  let s := match mutualRef s m with
    | some o => disagreeEnd s m o
    | none => s
  let s := s.setAll [(F.CLK_MON_STATUS_state m, 0), (F.CLK_MON_STATUS_coarse_only m, 0),
    (F.CLK_MON_STATUS_disagree m, 0), (F.CLK_MON_STATUS_stopped m, ofBool (reason = 1))]
  let s := (setMon s m ⟨0, 0, 0, 0⟩).bump (F.CLK_MON_LOSS_CNT_losses m) 1
  lostEffects (monRaise s m 1 4 (m + reason * 256)) m count was

/-- Monitor `m` moves to LOST (R84), and the auxiliary PLLs that take it as their reference are declared lost
through their own monitors (R87); the reason they name is not stated, a free value (log entry 5). -/
def moveLost (s : State) (m reason count : Nat) : State :=
  let s := moveLost1 s m reason count
  ((List.range 4).filter (fun k => muxMon (116 + k) (muxSrc s (116 + k)) = m)).foldl (fun t k =>
    if t.get (F.CLK_MON_STATUS_state (37 + k)) = 0 then t
    else moveLost1 t.useFree (37 + k) (t.free % 4) (t.get (F.CLK_MON_COUNT_count (37 + k)))) s

/-- Monitor `m` moves to QUALIFIED (R84); domains that wait for it are released (R92). -/
def moveQualified (s : State) (m : Nat) : State :=
  let coarse := (goodRef s m).isNone
  let s := (s.set (F.CLK_MON_STATUS_state m) 2).set (F.CLK_MON_STATUS_coarse_only m) (ofBool coarse)
  let s := monRaise (setMon s m ⟨3, 0, 0, 0⟩) m 2 2 (m + ofBool coarse * 256)
  let s := requalify s m
  if m ≤ 1 then pllJudge (refQualified s (4 + m))
  else if m = 34 then loadAdvance s
  else if fbFrom s m then pllJudge s
  else s

/-- Every monitor in CHECKING with no qualified fine reference is QUALIFIED at once (R84). -/
def monSettle (s : State) : State :=
  (List.range 43).foldl (fun t m =>
    if t.get (F.CLK_MON_STATUS_state m) = 1 && (goodRef t m).isNone then moveQualified t m else t) s

/-- A coarse gate of monitor `m` ends (R83, R84). QUALIFIED TICK is lost only on a PLL fault (R81). -/
def coarseGate (s : State) (m count : Nat) : State :=
  let ref := if m = 42 then 36 else 42
  let s := if (fineRef s m).isNone then s.set (F.CLK_MON_COUNT_count m) count else s
  let st := s.get (F.CLK_MON_STATUS_state m)
  let x := s.mon m
  if gatePass (nomFreq s m) (nomFreq s ref) count (coarseTol s m) 1000 then
    if st = 0 then
      if x.coarse < 2 then setMon s m { x with coarse := x.coarse + 1 }
      else (setMon s m ⟨3, 0, 0, 0⟩).set (F.CLK_MON_STATUS_state m) 1
    else s
  else if st = 0 then setMon s m ⟨0, 0, 0, 0⟩
  else if m = 34 && st = 2 then s
  else moveLost s m 2 count

/-- A fine gate of monitor `m` against `r` ends (R83 to R85). QUALIFIED TICK fails only against the present
input of its PLL (R81). coarse_only stays as it was until the clock is lost: the rules do not say that later
fine passes clear it (log entry 100). -/
def fineGate (s : State) (m r count : Nat) : State :=
  let s := s.set (F.CLK_MON_COUNT_count m) count
  let pass := fun (k : Nat) => gatePass (nomFreq s m) (nomFreq s r) count (fineTol s k) 1000000
  let pair := mutualRef s m = some r
  let x := s.mon m
  let st := s.get (F.CLK_MON_STATUS_state m)
  if pass m then
    let s := if pair && pass r then disagreeEnd s m r else s
    let x := s.mon m
    if st = 1 then
      if x.fine < 2 then setMon s m { x with fine := x.fine + 1, fails := 0 } else moveQualified s m
    else setMon s m { x with fails := 0 }
  else if pair && st = 2 && !pass r then
    let known := s.flag (F.CLK_MON_STATUS_disagree m) && s.flag (F.CLK_MON_STATUS_disagree r)
    let s := (s.set (F.CLK_MON_STATUS_disagree m) 1).set (F.CLK_MON_STATUS_disagree r) 1
    if known then s else monRaise s m 3 4 (min m r + max m r * 256)
  else if st = 1 then setMon s m { x with fine := 0 }
  else if m = 34 && pllInput s ≠ some r then s
  else if x.fails = 0 then setMon s m { x with fails := 1 }
  else moveLost s m 3 count

/-- A monitor that does not run is held at LOST (R100), for a reason the rules do not give (log entry 5). -/
def monsHeld (s : State) : State :=
  (List.range 43).foldl (fun t m =>
    if monRuns t m || t.get (F.CLK_MON_STATUS_state m) = 0 then t
    else moveLost t.useFree m (t.free % 4) (t.get (F.CLK_MON_COUNT_count m))) s

/-- After the configuration of the monitors or of their clocks has changed: those that do not run are LOST, and those in
CHECKING that no longer have a qualified fine reference are QUALIFIED at once (R84, R100). -/
def monFollow (s : State) : State := monSettle (monsHeld s)

/-- HEADER_READ (R79, R334 to R336, R346): the frequencies that the clock section names, or that a failed attempt
clears, also hold the monitors without one. -/
def execHeaderRead (h : Header) (s : State) : Res := checked (.headerRead h) (monFollow (headerRead s h))

/-- FIRMWARE_READ (R332, R346, R434): a failed attempt clears the configuration of the monitors with the rest. -/
def execFirmwareRead (f : Firmware) (s : State) : Res := checked (.firmwareRead f) (monFollow (firmwareRead s f))

/-- FLASH_FRAME_READ (R100, R336, R348): what the frame sets also disables the monitors it names. -/
def execFlashFrameRead (f : Frame) (s : State) : Res :=
  checked (.flashFrameRead f) (monFollow (flashFrameRead s f))

/-- MONITOR_GATE_COMPLETE (R83 to R85): a coarse gate, or a fine gate against a qualified reference. A
monitor that does not run is held at LOST (R100), for a reason the rules do not give. -/
def execMonitorGateComplete (m : Nat) (coarse : Bool) (count : Nat) (s : State) : Res :=
  checked (.monitorGateComplete m coarse count) <|
    if !monRuns s m then
      if s.get (F.CLK_MON_STATUS_state m) = 0 then s else monSettle (moveLost s.useFree m (s.free % 4) count)
    else if coarse then monSettle (coarseGate s m count)
    else if s.get (F.CLK_MON_STATUS_state m) = 0 then s
    else match goodRef s m with
      | some r => monSettle (fineGate s m r count)
      | none => s

/-- CLOCK_STOP_DETECT (R83, R84, R92): no stop is detected while AON is not qualified. -/
def execClockStopDetect (m : Nat) (s : State) : Res :=
  checked (.clockStopDetect m) <|
    if !monQual s 42 || !monRuns s m then s
    else
      let st := s.get (F.CLK_MON_STATUS_state m)
      if st = 0 then (setMon s m ⟨0, 0, 0, 0⟩).set (F.CLK_MON_STATUS_stopped m) 1
      else if m = 34 && st = 2 then s.set (F.CLK_MON_STATUS_stopped m) 1
      else monSettle (moveLost s m 1 (s.get (F.CLK_MON_COUNT_count m)))

/-- Oscillator `m`'s gate against the time reference (R85): beyond half the fine tolerance for two gates
running it is to blame. -/
def trefGate (s : State) (m count : Nat) : State × Bool :=
  if gatePass (nomFreq s 34) (nomFreq s m) count (fineTol s m) 2000000 then
    (setMon s m { s.mon m with ref := 0 }, false)
  else if (s.mon m).ref = 0 then (setMon s m { s.mon m with ref := 1 }, false)
  else (setMon s m { s.mon m with ref := 2 }, true)

/-- TREF_COMPARE_GATE (R85): the counts of TICK over 2^16 cycles of TREF0 and of TREF1. -/
def execTrefCompareGate (c0 c1 : Nat) (s : State) : Res :=
  checked (.trefCompareGate c0 c1) <|
    if !(s.flag (F.CLK_MON_STATUS_disagree 0) && s.flag (F.CLK_MON_STATUS_disagree 1))
        || s.get F.TB_STATUS_state ≠ Tb.locked then s
    else
      let a := trefGate s 0 c0
      let b := trefGate a.1 1 c1
      let s := if a.2 then moveLost b.1 0 0 c0 else b.1
      let s := if b.2 then moveLost s 1 0 c1 else s
      monSettle s

/-- TICK_PLL_FAULT (R81): the PLL loses lock while an input is present, or LOFT or KEEP is lost; `reason`
is that of CLK_SRC_LOST. TICK is declared lost from CHECKING as well as from QUALIFIED. -/
def execTickPllFault (m reason : Nat) (s : State) : Res :=
  checked (.tickPllFault m reason) <|
    if m = 34 && s.get F.CLK_TB_STATUS_input = 3 then s
    else
      let was := monQual s m
      let s := if m = 34 then s.set F.CLK_TB_STATUS_pll_lock 0 else s
      if s.get (F.CLK_MON_STATUS_state m) = 0 then s
      else
        let s := moveLost s m reason (s.get (F.CLK_MON_COUNT_count m))
        monSettle (if m = 34 && !was then clockSafe (raise s 1021 0x0A 7 (s.get F.CLK_TB_STATUS_input)) else s)

end Sys2Proof.Machine
end

