-- ==== Sys2Proof/Machine/RegAccess.lean ====
section
/-! DEFINITION. The address map as its requesters see it (R11 to R14, R43, R484 to R489, R510): blocks, copies,
the fields that follow the state at each read, the ledger window, and a read by any requester. -/

namespace Sys2Proof.Machine

/-! Blocks (R489) and requesters. -/

/-- The address lies in a block and is aligned (R481, R488). -/
def addrOk (a : Nat) : Bool := (blockOf a).isSome && a % 4 = 0

/-- The bit that stands for a requester in a row's writers and copies. -/
def reqBit : Requester → Nat
  | .keeper => 1
  | .regPort => 2
  | .mgmt => 4

/-- The requester reaches the field: it is no copied register, or the requester holds a copy (R510). -/
def RegRow.reaches (r : RegRow) (who : Requester) : Bool := r.copies = 0 || r.copies / reqBit who % 2 = 1

/-- The field of row `r` at `a` that the requester reaches (R510). -/
def RegRow.mineAt (r : RegRow) (a : Nat) (who : Requester) : Fld :=
  if r.copies = 0 then r.fld a else (r.fld a).copy (reqNum who)

/-- The rows of the register at `a` that the requester reaches. -/
def rowsFor (a : Nat) (who : Requester) : List RegRow := (rowsAt a).filter (fun r => r.reaches who)

/-- The channel of the DMA registers at `a` (R330), 64 elsewhere. -/
def dmaChannel (a : Nat) : Nat := if 0x304000 ≤ a && a < 0x304800 then (a - 0x304000) / 32 else 64

/-- The access ends in the terminator (R97, R98): the DMA channels' registers lie behind gate 316. -/
def gateStops (s : State) (a : Nat) : Bool := dmaChannel a < 64 && !gateOpen s 316

/-! Fields that follow the state. -/

/-- The class that an item's entry counts against (R169): the owner of the reservation it lies in, its own class in
the shared part. -/
def entryClass (i : Item) : Nat := if i.entry < 64 then i.entry else i.cls

/-- Items in one of the states `p` whose entries class `k` owns (R169). -/
def classCount (s : State) (k : Nat) (p : Item → Bool) : Nat :=
  (s.sch.items.filter (fun i => entryClass i = k && p i)).length

/-- BOUND, RUN and HOLD entries of class `k` (R169, R184): those of its items, those reserved for their successors,
and those of records that wait to be handed on, by the reservation or, in the shared part, the record's class. -/
def classHeld (s : State) (k : Nat) : Nat :=
  classCount s k (fun i => i.st != .waiting)
    + s.sch.items.foldl (fun n i => n + (if i.cls = k then i.holdRes + i.holdSh else 0)) 0
    + ((handed s).filter (fun h => (if h.entry < 64 then h.entry else bits h.record 96 6) = k)).length

/-- The eligible items of a pool that satisfy `p` (R170, R184). -/
def poolWait (s : State) (pool : Nat) (p : Item → Bool) : Nat :=
  (s.sch.items.filter (fun i => eligible s i && classPool s i.cls = pool && p i)).length

/-- The idle bins of a pool (R184). -/
def poolIdle (s : State) (pool : Nat) : Nat :=
  ((poolBins s pool).filter (fun l => seqView s (physOf s l) = Seq.idle)).length

/-- The µs since group `g` completed its last lap (R317). -/
def lapRun (s : State) (g : Nat) : Nat := tkToUs (s.now - (aget s.loft.lapStart g).getD 0)

/-- Group `g`'s lap field shows the running time (R317): its scrubber runs and has been longer under way than the last
lap took. -/
def lapStale (s : State) (g : Nat) : Bool :=
  s.get (F.LFT_GRP_STATUS_power g) = 1 && gateOpen s (280 + g) && s.get (F.LFT_GRP_LAP_lap_us g) < lapRun s g

/-- The value of a field that a register table defines by the present state, by the field's key: `fp` is the
register of the frame position, `who` the requester (R77, R100, R130, R157, R184, R300, R396). -/
def liveField (s : State) (who : Requester) (f : Fld) : Option Nat :=
  let is : Fld → Bool := fun g => f.key = g.key
  let a := f.addr
  if a < 0x20000 then
    if is F.TB_FP_LO_fp_lo then some (fpPack s.fp % 2 ^ 32) else none
  else if a < 0x40000 then
    let m := (a - 0x20300) / 8
    if a < 0x20300 || 43 ≤ m || m < 34 then none
    else if is (F.CLK_MON_FREQ_LO_freq_lo m) then some (nomFreq s m % 2 ^ 32)
    else if is (F.CLK_MON_FREQ_HI_freq_hi m) then some (nomFreq s m / 2 ^ 32 % 2 ^ 16) else none
  else if a < 0x50000 then
    let k := (a - 0x41000) / 128
    let p := (a - 0x43000) / 64
    if is F.SCH_STATUS_used then some (s.sch.items.foldl (fun n i => n + 1 + i.holdRes + i.holdSh) 0 + (handed s).length)
    else if is F.SCH_STATUS_shared_free then some (freeShared s)
    else if a < 0x41000 || 32 ≤ p then none
    else if is (F.SCH_CLASS_STATE_waiting k) then some (classCount s k (fun i => i.st = .waiting))
    else if is (F.SCH_CLASS_STATE_held k) then some (classHeld s k)
    else if is (F.SCH_POOL_STATUS_idle p) then some (poolIdle s p)
    else if is (F.SCH_POOL_WAIT_deadline p) then some (poolWait s p (conforming s))
    else if is (F.SCH_POOL_WAIT_other p) then some (poolWait s p (fun i => !conforming s i)) else none
  else if a < 0x300000 then
    let e := s.get (mine who F.FH_NUM_INDEX_entry)
    let w := (aget s.fh.num e).getD 0
    let g := (a - 0x203100) / 4
    if is F.FH_NUM_CFG_n_sym then some (bits w 0 11)
    else if is F.FH_NUM_CFG_sym_per_slot then some (bits w 16 6)
    else if is F.FH_NUM_CFG_slots_per_sf then some (bits w 24 6)
    else if is F.FH_NUM_OFF_off then
      some ((aget s.fh.off (1280 * e + s.get (mine who F.FH_NUM_INDEX_symbol))).getD 0 % 2 ^ 24)
    else if g < 16 && is (F.FH_GRP_STATUS_violations g) then some (satNat 16 (grpSum s g)) else none
  else if a < 0x301000 then
    let g := (a - 0x300100) / 32
    if a < 0x300100 || 32 ≤ g || !lapStale s g then none
    else if is (F.LFT_GRP_LAP_lap_us g) then some (satNat 24 (lapRun s g))
    else if is (F.LFT_GRP_LAP_stale g) then some 1 else none
  else if a < 0x500000 then
    let p := (a - 0x400000) / 256
    let c := (a - 0x491000) / 32
    if p < 264 && is (F.BIN_SEQ_STATUS_state p) then some (seqView s p)
    else if p < 264 && (is (F.BIN_SEQ_STATUS_ctx p) || is (F.FAB_BIN_STATUS_ctx p)) then some (ctxNow s p)
    else if p < 264 && is (F.BIN_BUDGET_LEFT_left p) then some (budgetLeft s p % 2 ^ 32)
    else if c < 132 && is (F.FAB_HATCH_CONT_INFO_held_cnt c) then
      some (satNat 8 (s.cfg.wireHeld.filter (fun w => w / 192 = c)).length)
    else none
  else if is F.TW_STATUS_lanes_up then
    some ((List.range 8).foldl (fun n k => n + ofBool (s.lane (120 + k) = Ln.up) * 2 ^ k) 0)
  else none

/-- What a read of the field at `a` returns to the requester: 0 for a write-only field (R11). -/
def RegRow.value (r : RegRow) (s : State) (a : Nat) (who : Requester) : Nat :=
  if r.acc = .wo then 0
  else (liveField s who (r.fld a)).getD (s.get (r.mineAt a who))

/-- The register at `a` as the requester reads it; unassigned offsets read 0 (R488). -/
def regWord (s : State) (a : Nat) (who : Requester) : Nat :=
  (rowsFor a who).foldl (fun n r => n + r.value s a who * 2 ^ (r.fld a).lo) 0

/-! The ledger window (R437, R443). -/

/-- The word of a sector image at `a`: the sector's header or a stored entry's, none in slots that hold no entry. -/
def sectorWord (s : State) (a : Nat) : Option Nat :=
  let o := a - 0x901000
  let sec := o / 4096
  let w := o % 4096 / 4
  if w < 8 then some (Config.sectorHead sec (s.get (F.LED_ERASE_role sec)) (s.get (F.LED_ERASE_erases sec)) w % 2 ^ 32)
  else match s.led.stored.find? (fun x => x.sector = sec && 8 + 8 * x.slot ≤ w && w < 8 + 8 * (x.slot + x.entry.slots)) with
  | none => none
  | some x => (ledImage x.entry)[w - 8 - 8 * x.slot]?

/-! A read (R11, R43, R484, R488). -/

/-- The fields of the register that a clearing read clears, and the counters whose events are due again
(R11, R148). -/
def clearRead (s : State) (a : Nat) (who : Requester) : State :=
  ((rowsFor a who).filter (fun r => r.acc = .rc)).foldl (fun t r =>
    let f := r.mineAt a who
    let t := t.set f f.reset
    { t with reported := t.reported.filter (fun k => k / 256 != f.key) }) s

/-- A requester reads the register at `a`: a read of TB_FP_LO captures for it (R43), reads by the keeper and
the register port clear RC fields and those by the management port do not (R484). -/
def regRead (s : State) (who : Requester) (a : Nat) : State × Nat :=
  if 0x901000 ≤ a && a < 0x941000 then
    match sectorWord s a with
    | some w => (s, w)
    | none => (s.useFree, s.free % 2 ^ 32)
  else
    let v := regWord s a who % 2 ^ 32
    let s := if a = F.TB_FP_LO_fp_lo.addr then
        s.setAll [(F.TB_FP_HI_fp_hi.copy (reqNum who), fpPack s.fp / 2 ^ 32),
          (F.TB_FP_FRAC_frac.copy (reqNum who), 0)]
      else s
    (if who = .mgmt then s else clearRead s a who, v)

/-- READ_CLEAR (R11, R148, R484): the requester reads the register at `a`; an address outside every block and
one behind a closed gate give 0. -/
def execReadClear (who : Requester) (a : Nat) (s : State) : Res :=
  checked (.readClear who a) <| asked s who a 1 fun s =>
    if !addrOk a then { s with ports := { s.ports with read := 0 } }
    else if gateStops s a then
      { shutCount s 316 with ports := { s.ports with read := 0 } }
    else
      let r := regRead s who a
      { r.1 with ports := { r.1.ports with read := r.2 } }

end Sys2Proof.Machine
end

