-- ==== Sys2Proof/Machine/Triggers.lean ====
section
/-! DEFINITION. Timing triggers and steps of the FP (R55, R68 to R72, R163, R178). -/

namespace Sys2Proof.Machine

/-! Firing (R71, R72). -/

/-- Triggers fire in ACTIVE, STANDBY, DOZE and DORMANT while fp_valid = 1 (R72). -/
def trgFires (s : State) : Bool :=
  s.flag F.TB_STATUS_fp_valid && s.mode ≠ Mode.load && s.mode ≠ Mode.safe

/-- A word of trigger entry `i` is poisoned in the Cellar tables' store (R318, R320). -/
def trgPoisoned (s : State) (i : Nat) : Bool :=
  s.fh.poisoned.any (fun w => 272400 + 4 * i ≤ w && w < 272404 + 4 * i)

/-- A poisoned trigger entry is read as its firing comes (R320); no owner ID stands for the time base (log entry 47). -/
def trgRead (s : State) (i : Nat) : State :=
  match s.fh.poisoned.find? (fun w => 272400 + 4 * i ≤ w && w < 272404 + 4 * i) with
  | none => s
  | some w => tablePoison s w 1023

/-- The time base record is replaced. -/
def setTbase (s : State) (t : TimeBase) : State := { s with tb := t }

/-- A UIO pin that a trigger drives takes a level. -/
def setPin (s : State) (pin : Nat) (b : Bool) : State :=
  { s with pins := { s.pins with uioLevel := aset s.pins.uioLevel pin b } }

/-- The pin action (R71): a pulse to the active level, or a toggle; a pin that was never driven rests at its
inactive level. -/
def pinAct (s : State) (i : Nat) (e : TrgEntry) : State :=
  if e.width = 0 then
    setPin s e.pin (!((aget s.pins.uioLevel e.pin).getD (!e.polarity)))
  else
    let others := s.tb.pulses.filter (fun y => !(y.1 = i && y.2.pin = e.pin))
    setPin (setTbase s { s.tb with pulses := others ++ [(i, ⟨s.now + e.width, e.pin, e.polarity⟩)] }) e.pin e.polarity

/-- One item is released by a trigger (R71, R163): its references come from the class's template, whose
position moves on. In STANDBY nothing is created (R385). -/
def trgItem (p : Nat) (e : TrgEntry) (s : State) (i : Nat) : State :=
  if s.mode = Mode.standby || s.twin.handoff then s
  else
    let k := e.cls
    let q := s.get (F.SCH_CLASS_TPL_RING_pos k)
    let r := max 1 (s.get (F.SCH_CLASS_TPL_RING_depth k))
    let ia := s.get (F.SCH_CLASS_TPL_IN_in_addr k) + q * s.get (F.SCH_CLASS_TPL_STRIDE_in_stride k)
    let oa := s.get (F.SCH_CLASS_TPL_OUT_out_addr k) + q * s.get (F.SCH_CLASS_TPL_STRIDE_out_stride k)
    let c : Creation := ⟨k, 0, none, p, s.get (F.SCH_CLASS_TPL_LEN_in_len k),
      s.get (F.SCH_CLASS_TPL_LEN_out_len k), ia, oa, (e.arg + i) % 2 ^ 64⟩
    (itemCreate (markDirty (s.set (F.SCH_CLASS_TPL_RING_pos k) ((q + 1) % r)) (classLine k 0)) c).2

/-- The commit action (R71): at most one commit takes effect in a tick. -/
def trgCommitAct (s : State) (i : Nat) : State :=
  if s.tb.lastCommitN = some s.fp then raise s 977 0x25 4 i
  else commitBegin (setTbase s { s.tb with lastCommitN := some s.fp }) i

/-- Trigger `i` with entry `e` fires for the instance at count `p` (R71): pin, release, event, commit,
wake. -/
def fire (s : State) (i : Nat) (e : TrgEntry) (p : Nat) : State :=
  let s := if e.actPin then pinAct s i e else s
  let s := if e.actRelease then (List.range e.count).foldl (trgItem p e) s else s
  let s := if e.actEvent then raise s 977 0x20 e.severity (e.word 5) else s
  let s := if e.actCommit then trgCommitAct s i else s
  if e.wake then wake s 2 else s

/-- The pending firing of an entry moves to its next instance; a one-shot has none. -/
def trgAdvance (s : State) (i n : Nat) : State :=
  let e := s.trg i
  setTrg s i { e with next := if e.period = 0 then none else some (fpAdd n e.period) }

/-- Trigger `i` fires its instance at count `n`, which is now (R71). A poisoned entry lets it pass (R320). -/
def fireAt (n : Nat) (s : State) (i : Nat) : State :=
  let e := s.trg i
  let s := trgAdvance s i n
  if trgPoisoned s i then trgRead s i else fire s i e n

/-- The enabled triggers whose next instance lies at count `n`, in ascending index (R71). -/
def dueAt (s : State) (n : Nat) : List Nat :=
  (s.tb.trgs.filter (fun x => x.2.enable && x.2.next = some n)).map Prod.fst

/-- TRIGGER_FIRE (R71): the FP reaches the next instance of trigger `i`. Every trigger due in that tick fires
then, in ascending index; the TRIGGER_FIRE of another of them that follows in the same tick finds its firing
done. -/
def triggerFire (s : State) (i : Nat) : State :=
  if s.tb.fired.contains i && s.tb.firedN = s.fp then
    setTbase s { s.tb with fired := ndel s.tb.fired i }
  else match (s.trg i).next with
    | none => s
    | some n =>
      if !(s.trg i).enable || !trgFires s then s
      else
        let due := dueAt s n
        let s := setTbase (s.atFp n) { s.tb with fired := ndel due i, firedN := n }
        due.foldl (fireAt n) s

/-- TRIGGER_FIRE. -/
def execTriggerFire (i : Nat) (s : State) : Res := checked (.triggerFire i) (triggerFire s i)

/-- The pulse of trigger `i` that ends first: it has one on each pin it drives (R71). -/
def firstPulse (l : List (Nat × PinPulse)) (i : Nat) : Option PinPulse :=
  (l.filter (fun y => y.1 = i)).foldl (fun o y => match o with
    | none => some y.2
    | some x => if y.2.till < x.till then some y.2 else some x) none

/-- TRIGGER_PULSE_END (R71): after width_tk the pulse of trigger `i` ends on the pin it drove; the pin returns
to its inactive level unless another pulse on it is active. -/
def pulseEnd (s : State) (i : Nat) : State :=
  match firstPulse s.tb.pulses i with
  | none => s
  | some x =>
    let s := s.atNow x.till
    let s := setTbase s { s.tb with pulses := s.tb.pulses.filter (fun y => y ≠ (i, x)) }
    if s.tb.pulses.any (fun y => y.2.pin = x.pin) then s else setPin s x.pin (!x.level)

/-- TRIGGER_PULSE_END. -/
def execTriggerPulseEnd (i : Nat) (s : State) : Res := checked (.triggerPulseEnd i) (pulseEnd s i)

/-! Reads and commits (R69, R70). -/

/-- TRG_READ (R69): the entry named by TB_TRG_INDEX goes to the data registers; ignored while busy. -/
def execTrgRead (s : State) : Res :=
  checked .trgRead <|
    if s.flag F.TB_TRG_STATUS_busy then s
    else
      let e := s.trg (s.get F.TB_TRG_INDEX_index)
      s.setAll ((List.range 8).map (fun k => (F.TB_TRG_DATA_data k, e.word k)))

/-- TRG_COMMIT (R69): the data registers are checked and the commit scheduled 8 tk later, or refused. -/
def trgCommit (s : State) (keep : Bool) : State :=
  if s.flag F.TB_TRG_STATUS_busy then s
  else
    let i := s.get F.TB_TRG_INDEX_index
    let d := (List.range 8).map (fun k => s.get (F.TB_TRG_DATA_data k))
    let r := trgRefusal s i d
    if r ≠ 0 then
      let s := s.set F.TB_TRG_STATUS_last_refused 1
      if r = 6 then raise s 968 6 3 0x204 else raise s 977 r 3 i
    else
      let s := s.setAll [(F.TB_TRG_STATUS_last_refused, 0), (F.TB_TRG_STATUS_busy, 1)]
      setTbase s { s.tb with trgPend := some ⟨i, d, keep, fpAdd s.fp 8⟩ }

/-- TRG_COMMIT. -/
def execTrgCommit (keep : Bool) (s : State) : Res := checked (.trgCommit keep) (trgCommit s keep)

/-- An entry has an instance at count `n` (R10): a pending firing below its first instance shows that the epoch has
wrapped since. -/
def TrgEntry.hits (e : TrgEntry) (n : Nat) : Bool :=
  let f := fpUnpack e.fpWord
  f = n || (e.period ≠ 0 && (if n < f then e.next.any (· < f) && (n + fpSpan - f) % e.period = 0
    else (n - f) % e.period = 0))

/-- The data words of an entry whose fp is replaced by count `n`. -/
def withFp (d : List Nat) (n : Nat) : List Nat :=
  (d.set 0 (fpPack n % 2 ^ 32)).set 1 (fpPack n / 2 ^ 32)

/-- TRG_COMMIT_EFFECT (R70): at FP_c the entry takes the committed data. A firing of the old entry in that
tick comes first, and the new entry then does not fire in it: its first firing is the first instance after
FP_c. A one-shot whose fp is FP_c has none, and it is disabled as one that is past; the rules do not speak of
it (log entry 97). -/
def trgEffect (s : State) : State :=
  match s.tb.trgPend with
  | none => s
  | some x =>
    let s := s.atFp x.at'
    let i := x.index
    let s := if (s.trg i).next = some x.at' && !(s.tb.fired.contains i && s.tb.firedN = s.fp) then
        triggerFire s i else s
    let old := s.trg i
    let hit := old.enable && trgFires s && !trgPoisoned s i && old.hits x.at'
    let new : TrgEntry := ⟨x.data, none⟩
    let left := s.fh.poisoned.filter (fun w => !(272400 + 4 * i ≤ w && w < 272404 + 4 * i))
    let s := setFh (setTbase s { s.tb with trgPend := none }) { s.fh with poisoned := left }
    let s := s.set F.TB_TRG_STATUS_busy 0
    match x.keep && old.enable && old.period ≠ 0 && new.enable && new.period ≠ 0, old.next with
    | true, some f => setTrg s i ⟨withFp x.data f, some f⟩
    | _, _ =>
      let s := setTrg s i new
      if s.flag F.TB_STATUS_fp_valid then armTrg s i (if hit then x.at' + 1 else x.at') else s

/-- TRG_COMMIT_EFFECT. -/
def execTrgCommitEffect (s : State) : Res := checked .trgCommitEffect (trgEffect s)

/-! Steps of the FP (R55, R178). -/

/-- The instances of an entry, from its pending firing `f`, that lie before count `n`. -/
def skipped (e : TrgEntry) (f n : Nat) : Nat :=
  if n ≤ f then 0 else if e.period = 0 then 1 else ceilDiv (n - f) e.period

/-- A forward step to the present FP passes trigger `i` (R55): its skipped instances and one at the new FP
merge into one firing; TB_TRG_SKIP gives the number skipped. -/
def trgSkip (s : State) (i : Nat) : State :=
  let e := s.trg i
  match e.next with
  | none => s
  | some f =>
    if !e.enable || !trgFires s || s.fp < f then s
    else
      let k := skipped e f s.fp
      let on := f + k * e.period = s.fp && (e.period ≠ 0 || k = 0)
      let p := if on then s.fp else fpAdd f ((k - 1) * e.period)
      let s := setTrg s i { e with next := if e.period = 0 then none else some (fpAdd f ((k + (if on then 1 else 0)) * e.period)) }
      if trgPoisoned s i then trgRead s i
      else
        let s := fire s i e p
        if k = 0 then s else raise s 977 0x27 4 (i + satNat 20 k * 4096)

/-- STEP_APPLY (R55): at the next frame boundary the FP jumps by Δ; the state becomes ACQUIRING, or FREE when
no time reference is in use. -/
def stepApply (s : State) : State :=
  if !s.tb.stepAccepted || !s.flag F.TB_STATUS_step_pending then s
  else
    let n0 := nextMult s.fp 0 frameTk
    let s := s.atFp n0
    let d := nsToTk (toInt 32 (s.get F.TB_STEP_PENDING_offset_ns))
    let s := setTbase { s with fp := fpShift n0 d } { s.tb with stepAccepted := false, exch := ⟨none, none, none⟩ }
    let s := raise (s.set F.TB_STATUS_step_pending 0) 968 5 5 (ofInt 32 d)
    let s := setTb s (if s.get F.TB_STATUS_phase_ref ≠ 0 then Tb.acquiring else Tb.free)
    if d ≤ 0 then s
    else
      let s := stepLate s (fpShift n0 (-1))
      fhStep ((s.tb.trgs.map Prod.fst).foldl trgSkip s) n0

/-- STEP_APPLY. -/
def execStepApply (s : State) : Res := checked .stepApply (stepApply s)

end Sys2Proof.Machine
end

