-- ==== Sys2Proof/Machine/RegWrite.lean ====
section
/-! DEFINITION. A register write by any requester (R11, R12, R14, R483, R486, R488, R510): its judgement as a whole
word, then what its target register does. -/

namespace Sys2Proof.Machine

/-- The state a command leaves, or `s` where it answers none. -/
def Res.after (r : Res) (s : State) : State :=
  match r with
  | .next t => t
  | _ => s

/-! The judgement (R14). -/

/-- The requester may write the field: it is among the row's writers; a DMA channel's registers belong to the
requester the channel is assigned to (R324), the self-rewrite port needs CFG_PR_CFG.enable (R352), but a stage written
without it is refused by the loader (R355). -/
def mayWrite (s : State) (who : Requester) (a : Nat) (r : RegRow) : Bool :=
  r.may (reqBit who)
    && (dmaChannel a = 64 || dmaMine s (dmaChannel a) who)
    && (!(F.CFG_PR_SRC_addr.addr ≤ a && a ≤ F.CFG_PR_CMD_stage.addr) || s.flag F.CFG_PR_CFG_enable
      || r.fld a = F.CFG_PR_CMD_stage)

/-- Writing `v` would change the field (R14): a nonzero value to a WO field, another value to an RW field. -/
def RegRow.changes (r : RegRow) (s : State) (who : Requester) (a v : Nat) : Bool :=
  (r.acc = .wo && (r.fld a).of v != 0) || (r.acc = .rw && (r.fld a).of v != s.get (r.mineAt a who))

/-- The answer of a write before its target acts: 0 done, 1 outside every block or misaligned, 2 against the
writable set; a write with 2 that only sets reserved bits still takes place. -/
inductive Judged where
  | outside | unassigned | foreign | reserved | ok
  deriving DecidableEq, Repr

/-- The judgement of a write of `v` at `a` (R14, R488, R510). -/
def judgeWrite (s : State) (who : Requester) (a v : Nat) : Judged :=
  if !addrOk a then .outside
  else
    let rows := rowsFor a who
    if rows.isEmpty then .unassigned
    else if rows.any (fun r => r.changes s who a v && !mayWrite s who a r) then .foreign
    else if reservedOf rows a v ≠ 0 then .reserved
    else .ok

/-! What targets do. -/

/-- The RW fields that the requester may write take their values. -/
def plainWrite (s : State) (who : Requester) (a v : Nat) : State :=
  ((rowsFor a who).filter (fun r => r.acc = .rw && mayWrite s who a r)).foldl
    (fun t r => t.set (r.mineAt a who) ((r.fld a).of v)) s

/-- A write of a reference's settings (R44, R47, R48): a qualified reference that the new settings remove or
disable is lost with reason 8, and the PLL's input is judged again. -/
def refWrite (s : State) (who : Requester) (a v : Nat) : State :=
  let t := plainWrite s who a v
  let same : Fld → Bool := fun f => s.get f = t.get f
  let on := (prioList t).contains
  let t := if s.qual 0 && !(on 1 && ptpSet t && same F.TB_PTP_CFG_slave_lane && same F.TB_PTP_CFG_domain)
    then refLost t 0 8 else t
  let t := if s.qual 1 && !on 2 then refLost t 1 8 else t
  let t := if s.qual 2 && !on 3 then refLost t 2 8 else t
  let t := if s.qual 3 && !(on 4 && t.flag F.TB_SYNCE_CFG_enable && same F.TB_SYNCE_CFG_lane)
    then refLost t 3 8 else t
  pllJudge (setFreqSrc t)

/-- Writes in the Time base block. -/
def timeWrite (s : State) (who : Requester) (a v : Nat) : State :=
  let k := (a - (F.TB_RCLK_CFG_src 0).addr) / 4
  if a = F.TB_REF_PRIO_prio0.addr || a = F.TB_PTP_CFG_enable.addr || a = F.TB_SYNCE_CFG_enable.addr then
    refWrite s who a v
  else if a = F.TB_CTRL_step_accept.addr then
    if bitAt v 0 then (execStepAccept s).after s else s
  else if a = F.TB_MODEL_CMD_export.addr then
    let i := bits v 3 1
    let s := if bitAt v 0 then (execModelExport i s).after s else s
    let s := if bitAt v 1 then (execModelImport i s).after s else s
    if bitAt v 2 then (execModelDiscard i s).after s else s
  else if a = F.TB_TRG_CMD_read.addr then
    let s := if bitAt v 0 then (execTrgRead s).after s else s
    if bitAt v 1 then trgCommit s (bitAt v 2) else s
  else if a = F.TB_SYSREF_ARM_arm.addr then (execSysrefArm (v % 16) s).after s
  else if (F.TB_RCLK_CFG_src 0).addr ≤ a && a ≤ (F.TB_RCLK_CFG_src 3).addr then
    rclkCfgWrite s k (bits v 0 5) (bits v 8 8)
  else if a = (F.TB_TRG_DATA_data 0).addr && !fpLegal v then raise s 968 6 3 (a % 65536)
  else match sysrefBad s a v with
    | some j => raise s 978 0x30 3 j
    | none => plainWrite s who a v

/-- Writes in the Clocks block, modes and resets among them (R86, R87, R90, R95, R398, R405): RST_CTRL carries
out the resets its word names, the strongest first. -/
def clockWrite (s : State) (who : Requester) (a v : Nat) : State :=
  let t := (a - 0x20704) / 16
  let i := (a - 0x20704) % 16 / 4
  if 0x20704 ≤ a && t < 32 && i < 3 then rcCfgWrite s t i (bits v 0 5) (bits v 5 3) (bits v 8 5)
  else if 0x20900 ≤ a && a < 0x20940 then
    lgrpCfgWrite s ((a - 0x20900) / 4) (bits v 0 2) (bits v 4 4) (bits v 8 2) (bits v 12 4)
  else if 0x20610 ≤ a && a < 0x20620 then
    auxCfgWrite s ((a - 0x20610) / 4) (bits v 0 25) (bits v 26 5) (bitAt v 25)
  else if 0x20A00 ≤ a && a < 0x20F04 then
    gateEnWrite s ((a - 0x20A00) / 4) (bitAt v 0) (bitAt v 1) (bitAt v 2)
  else if a = F.RST_MODE_REQ_req.addr then modeRequest s who (bits v 0 3)
  else if a = F.RST_CTRL_warm.addr then
    let s := if bitAt v 0 then resetRequest s 1 0 else s
    let s := if bitAt v 1 then resetRequest s 2 0 else s
    let s := if bitAt v 2 then resetRequest s 2 1 else s
    let s := if bitAt v 3 then resetRequest s 3 (bits v 4 8) else s
    if bitAt v 12 then resetRequest s 4 (bits v 13 4) else s
  else plainWrite s who a v

/-- Writes in the Thermal and power block (R200, R217). -/
def thermWrite (s : State) (who : Requester) (a v : Nat) : State :=
  if a = F.THM_CAP_cap.addr then capWrite s (bits v 0 11)
  else if a = F.THM_THRESH_warn.addr then
    (execThreshWrite (toInt 8 (bits v 0 8)) (toInt 8 (bits v 8 8)) (toInt 8 (bits v 16 8)) s).after s
  else plainWrite s who a v

/-- A write of LN_CTRL of lane `l` (R257, R259, R260): each field that changes acts, then restart. -/
def laneWrite (s : State) (l v : Nat) : State :=
  let en := bitAt v 0
  let s := if en != s.flag (F.LN_CTRL_enable l) then laneEnable s l en else s
  let loop := bits v 2 2
  let drive := bitAt v 4
  let s := if loop ≠ 0 || loop ≠ s.get (F.LN_CTRL_loop l) || drive != s.flag (F.LN_CTRL_loop_tx_drive l)
    then loopSelect s l loop drive else s
  let s := prbsChk (prbsGen s l (bits v 5 2)) l (bits v 7 2)
  if bitAt v 1 then laneRestart s l else s

/-- Writes in the Fronthaul tables window (R298, R300). -/
def tableWrite (s : State) (who : Requester) (a v : Nat) : State :=
  if a = F.FH_FLOW_CMD_read.addr then
    let s := if bitAt v 0 then flowRead s who else s
    let s := if bitAt v 1 then flowCommit s else s
    if bitAt v 2 then flowCntRead s else s
  else if a = F.FH_SEC_CMD_read.addr then if bitAt v 0 then sectionRead s who else s
  else plainWrite s who a v

/-- Writes in the Loft block (R309, R326). -/
def loftWrite (s : State) (who : Requester) (a v : Nat) : State :=
  let g := (a - 0x300108) / 32
  let c := dmaChannel a
  if 0x300108 ≤ a && g < 32 && (a - 0x300108) % 32 = 0 then
    if bitAt v 11 then groupHandover s ⟨true, g, bits v 0 10, bitAt v 10, false, s.now⟩ else s
  else if 0x301000 ≤ a && a < 0x302000 then
    if bitAt v 21 then bankHandover s ⟨false, (a - 0x301000) / 4, bits v 10 10, bitAt v 20, false, s.now⟩ else s
  else if c < 64 && (a - 0x304000) % 32 = 12 then
    let s := if bitAt v 0 then dmaGo s c who (bitAt v 1) (bitAt v 2) (bitAt v 3) else plainWrite s who a v
    if bitAt v 4 then dmaAbort s c who else s
  else plainWrite s who a v

/-- Writes in the Configuration and Twin blocks (R353, R355, R383, R392). -/
def cfgWrite (s : State) (who : Requester) (a v : Nat) : State :=
  if a = F.CFG_PR_CMD_stage.addr then
    let s := if bitAt v 0 then prStage s else s
    if bitAt v 1 then prDiscard s else s
  else if a = F.TW_REQ_req.addr then
    let r := bits v 0 2
    let s := if r = 1 then twinHandoff s else if r = 2 then twinDetach s else if r = 3 then twinPair s else s
    if bitAt v 2 then twinRekey s else s
  else plainWrite s who a v

/-- Writes in the Life cycle block (R425, R426, R435): a go starts the command of the requester's buffer. -/
def secWrite (s : State) (who : Requester) (a v : Nat) (x : WriteFacts) : State :=
  if a = F.SEC_CMD_GO_go.addr then
    let op := bufBytes s (reqNum who) 0 2
    if !bitAt v 0 then s
    else if 1 ≤ op && op ≤ 10 then ownerCommand s who op x.tk x.secret x.vfuse
    else (execSecCmdUnknownOpcode who s).after s
  else if a = F.SEC_DBG_CTRL_lock.addr then if bitAt v 0 then closeDebug s 1 else s
  else if a = F.SEC_ATT_CMD_go.addr then if bitAt v 0 then (execAttestGo who s).after s else s
  else plainWrite s who a v

/-- The target of the register at `a` acts on a write that its judgement lets through. -/
def targetWrite (s : State) (who : Requester) (a v : Nat) (x : WriteFacts) : State :=
  match blockOf a with
  | some 1 => timeWrite s who a v
  | some 2 => clockWrite s who a v
  | some 3 => thermWrite s who a v
  | some 4 =>
    if a = F.SCH_SUBMIT_CMD_go.addr then
      if bitAt v 0 then (execSubmitGo who (bitAt v 1) s).after s else s
    else plainWrite s who a v
  | some 6 =>
    if a < 0x120000 && a % 1024 = 0x40 then laneWrite s ((a - 0x100000) / 1024) v else plainWrite s who a v
  | some 7 => tableWrite s who a v
  | some 8 => loftWrite s who a v
  | some 9 =>
    if a = F.SPR_BANK_PERMIT_permit.addr then (execBankPermitWrite (v % 2 ^ 32) s).after s
    else plainWrite s who a v
  | some 10 => cfgWrite s who a v
  | some 11 => cfgWrite s who a v
  | some 12 => secWrite s who a v x
  | some 13 =>
    if a = F.EV_ACK_index.addr then (evAck s (bits v 0 12)).1
    else if a = F.EV_KP_ACK_index.addr then evKpAck s (bits v 0 12)
    else if a = F.EV_PORT_POP_pop.addr then if bitAt v 0 then evPop s else s
    else plainWrite s who a v
  | _ => s

/-- The target register's own rule refuses a write by the management port (R402, R392, R478, R485): `t` is the
state the write left. -/
def targetRefuses (s t : State) (a v : Nat) : Bool :=
  if a = F.EV_ACK_index.addr then (evAck s (bits v 0 12)).2
  else if a = F.RST_MODE_REQ_req.addr then modeReason s (bits v 0 3) != 0
  else if a = F.TW_REQ_req.addr then bits v 0 2 != 0 && t.flag F.TW_REQ_STATUS_refused
  else false

/-- What a write is answered: 0 done, 1 error response, 2 against the writable set, 3 refused (R481). -/
def regWrite (s : State) (who : Requester) (a v : Nat) (x : WriteFacts) : State × Nat :=
  match judgeWrite s who a v with
  | .outside => (s, 1)
  | .unassigned => (s, 2)
  | .foreign => (s, 2)
  | j =>
    if gateStops s a then (shutCount s 316, 1)
    else
      let writes := (rowsFor a who).any (fun r => mayWrite s who a r)
      let t := if writes then targetWrite s who a v x else s
      (t, if j = .reserved then 2 else if targetRefuses s t a v then 3 else 0)

/-- REGISTER_WRITE (R14): a requester writes a word. -/
def execRegisterWrite (who : Requester) (a v : Nat) (x : WriteFacts) (s : State) : Res :=
  checked (.registerWrite who a v x) (asked s who a 2 fun s => (regWrite s who a v x).1)

end Sys2Proof.Machine
end

