-- ==== Sys2Proof/Machine/Ports.lean ====
section
/-! DEFINITION. The management port's frames and the register port's requests (R481 to R488). -/

namespace Sys2Proof.Machine

/-! The management port (R481 to R484). -/

/-- One status and data of a read frame (R481, R484, R488): 0x01 for an address outside every block, a
misaligned one or one behind a closed gate, with data the rules do not state. -/
def mgmtReadOne (s : State) (a : Nat) : State × (Nat × Nat) :=
  if !addrOk a then (s.useFree, (1, s.free % 2 ^ 32))
  else if gateStops s a then ((shutCount s 316).useFree, (1, s.free % 2 ^ 32))
  else
    let r := regRead s .mgmt a
    (r.1, (0, r.2))

/-- The statuses and data of a read frame over `n` words from `a`. -/
def mgmtReads (a : Nat) : Nat → State → State × List (Nat × Nat)
  | 0, s => (s, [])
  | n + 1, s =>
    let r := mgmtReadOne s a
    let q := mgmtReads ((a + 4) % 2 ^ 32) n r.1
    (q.1, r.2 :: q.2)

/-- MGMT_READ (R481, R482, R484): a read frame held for `n` words; a frame that WARM or a reset holds is ignored,
and the device sends 0xFF. -/
def execMgmtRead (a n : Nat) (s : State) : Res :=
  checked (.mgmtRead a n) <|
    if !mgmtUp s then mgmtSend s []
    else
      let r := mgmtReads a n s
      mgmtSend r.1 r.2

/-- A write frame (R481, R483): the write, and its status. -/
def mgmtWrite (s : State) (a v : Nat) (x : WriteFacts) : State × Nat :=
  if mgmtUp s then regWrite s .mgmt a v x else (s, 0)

/-- MGMT_WRITE. -/
def execMgmtWrite (a v : Nat) (x : WriteFacts) (s : State) : Res :=
  checked (.mgmtWrite a v x) <|
    let r := mgmtWrite s a v x
    mgmtSend r.1 (if mgmtUp s && mgmtUp r.1 then [(r.2, 0)] else [])

/-- MGMT_UNKNOWN_OPCODE (R481): status 0x01 for the rest of the frame. -/
def execMgmtUnknownOpcode (op : Nat) (s : State) : Res :=
  checked (.mgmtUnknownOpcode op) (mgmtSend s (if mgmtUp s then [(1, 0)] else []))

/-- MGMT_FRAME_ABORT (R482): MG_CS_N rises early; only a write whose 32nd data bit was received takes effect,
and no status is read. -/
def execMgmtFrameAbort (op a v dataBits : Nat) (x : WriteFacts) (s : State) : Res :=
  checked (.mgmtFrameAbort op a v dataBits x) <|
    mgmtSend (if op = 2 && 32 ≤ dataBits then (mgmtWrite s a v x).1 else s) []

/-! The register port (R486, R487). -/

/-- The response word of R486. -/
def respWord (data : Nat) (err denied : Bool) (tag : Nat) : Nat :=
  data % 2 ^ 32 + 2 ^ 64 + ofBool err * 2 ^ 65 + ofBool denied * 2 ^ 66 + tag % 64 * 2 ^ 67

/-- The port sends a response. -/
def respond (s : State) (data : Nat) (err denied : Bool) (tag : Nat) : State :=
  { s with ports := { s.ports with resp := some (respWord data err denied tag) } }

/-- A request reaches the port while `out` others are outstanding (R486): with 8 it is ignored and counted;
else `serve` answers it, with err outside every block and denied beyond its right (R487). Once answered, the
`out` others stay outstanding. -/
def portRequest (s : State) (a tag out need : Nat) (serve : State → State) : State :=
  if !regPortUp s then s
  else if 8 ≤ out then (s.set F.EV_RP_STATUS_outstanding 8).bump F.EV_RP_CNT_ignored 1
  else
    let s := s.set F.EV_RP_STATUS_outstanding (out + 1)
    let s := match portRight s a with
      | none => respond s 0 true false tag
      | some r =>
        if r < need then respond (s.bump F.EV_RP_CNT_denied 1) 0 false true tag
        else serve s
    if regPortUp s then s.set F.EV_RP_STATUS_outstanding out else s

/-- REGPORT_READ (R486, R487). -/
def execRegportRead (a tag out : Nat) (s : State) : Res :=
  checked (.regportRead a tag out) <|
    portRequest s a tag out 1 (fun s =>
      if a % 4 ≠ 0 then respond s 0 true false tag
      else if gateStops s a then respond (shutCount s 316) 0 true false tag
      else
        let r := regRead s .regPort a
        respond r.1 r.2 false false tag)

/-- REGPORT_WRITE (R486, R487): a target's own refusal stands in its status registers, and err is 0 for it. A
write whose effect resets the port's bin loses its response. -/
def execRegportWrite (a v tag out : Nat) (x : WriteFacts) (s : State) : Res :=
  checked (.regportWrite a v tag out x) <|
    portRequest s a tag out 2 (fun s =>
      let r := regWrite s .regPort a v x
      if regPortUp r.1 then respond r.1 0 (r.2 = 1 || r.2 = 2) false tag else r.1)

end Sys2Proof.Machine
end

