-- ==== Sys2Proof/Machine/Dispatch.lean ====
section
/-! DEFINITION. The dispatch of a command to its meaning, one arm per constructor. -/

namespace Sys2Proof.Machine

open Sys2Proof

def exec (i : Instr) (s : State) : Host.Outcome State Fault Refusal :=
  match i with
  | .porRelease order hot vbak => Sys2Proof.Machine.execPorRelease order hot vbak s
  | .coreRailLoss => Sys2Proof.Machine.execCoreRailLoss s
  | .railLost rail => Sys2Proof.Machine.execRailLost rail s
  | .porstNLow aborted => Sys2Proof.Machine.execPorstNLow aborted s
  | .porstNShortPulse cycles => Sys2Proof.Machine.execPorstNShortPulse cycles s
  | .selfTestComplete t => Sys2Proof.Machine.execSelfTestComplete t s
  | .headerRead h => Sys2Proof.Machine.execHeaderRead h s
  | .bootSlowTimeout => Sys2Proof.Machine.execBootSlowTimeout s
  | .flashFrameRead f => Sys2Proof.Machine.execFlashFrameRead f s
  | .firmwareRead f => Sys2Proof.Machine.execFirmwareRead f s
  | .monitorGateComplete m coarse count => Sys2Proof.Machine.execMonitorGateComplete m coarse count s
  | .clockStopDetect m => Sys2Proof.Machine.execClockStopDetect m s
  | .trefCompareGate c0 c1 => Sys2Proof.Machine.execTrefCompareGate c0 c1 s
  | .tickPllFault m reason => Sys2Proof.Machine.execTickPllFault m reason s
  | .rcCfgWrite t k src div fb => Sys2Proof.Machine.execRcCfgWrite t k src div fb s
  | .muxSwitchComplete m => Sys2Proof.Machine.execMuxSwitchComplete m s
  | .switchWatchdogExpiry m => Sys2Proof.Machine.execSwitchWatchdogExpiry m s
  | .switchRecoveryRelease m => Sys2Proof.Machine.execSwitchRecoveryRelease m s
  | .gateEnWrite g run sleep deep => Sys2Proof.Machine.execGateEnWrite g run sleep deep s
  | .gateBusIdle g => Sys2Proof.Machine.execGateBusIdle g s
  | .gateCloseTimeout g requester => Sys2Proof.Machine.execGateCloseTimeout g requester s
  | .ptpMessageRx lane kind domain twoStep time m => Sys2Proof.Machine.execPtpMessageRx lane kind domain twoStep time m s
  | .ptpMessageSend lane m => Sys2Proof.Machine.execPtpMessageSend lane m s
  | .ptpSyncTimeout => Sys2Proof.Machine.execPtpSyncTimeout s
  | .announceReceiptTimeout => Sys2Proof.Machine.execAnnounceReceiptTimeout s
  | .ppsEdge n offset => Sys2Proof.Machine.execPpsEdge n offset s
  | .ppsEdgeMissing n => Sys2Proof.Machine.execPpsEdgeMissing n s
  | .todMessageRx n agrees => Sys2Proof.Machine.execTodMessageRx n agrees s
  | .esmcRx ql => Sys2Proof.Machine.execEsmcRx ql s
  | .syncEQualifyTimer inWindow => Sys2Proof.Machine.execSyncEQualifyTimer inWindow s
  | .waitToRestoreExpiry which => Sys2Proof.Machine.execWaitToRestoreExpiry which s
  | .lockTimeExpiry freqErr => Sys2Proof.Machine.execLockTimeExpiry freqErr s
  | .lockLossTimeout => Sys2Proof.Machine.execLockLossTimeout s
  | .loopSecondSample mean => Sys2Proof.Machine.execLoopSecondSample mean s
  | .teEstEval => Sys2Proof.Machine.execTeEstEval s
  | .stepAccept => Sys2Proof.Machine.execStepAccept s
  | .stepApply => Sys2Proof.Machine.execStepApply s
  | .modelSample => Sys2Proof.Machine.execModelSample s
  | .modelRefit => Sys2Proof.Machine.execModelRefit s
  | .btempRead raw => Sys2Proof.Machine.execBtempRead raw s
  | .modelSnapshot => Sys2Proof.Machine.execModelSnapshot s
  | .modelExport idx => Sys2Proof.Machine.execModelExport idx s
  | .modelImport idx => Sys2Proof.Machine.execModelImport idx s
  | .modelDiscard idx => Sys2Proof.Machine.execModelDiscard idx s
  | .fpCapture who => Sys2Proof.Machine.execFpCapture who s
  | .trgRead => Sys2Proof.Machine.execTrgRead s
  | .trgCommit keep => Sys2Proof.Machine.execTrgCommit keep s
  | .trgCommitEffect => Sys2Proof.Machine.execTrgCommitEffect s
  | .triggerFire index => Sys2Proof.Machine.execTriggerFire index s
  | .triggerPulseEnd index => Sys2Proof.Machine.execTriggerPulseEnd index s
  | .ppsOutPulse => Sys2Proof.Machine.execPpsOutPulse s
  | .todOutSend => Sys2Proof.Machine.execTodOutSend s
  | .sysrefArm mask => Sys2Proof.Machine.execSysrefArm mask s
  | .sysrefGappedStart k => Sys2Proof.Machine.execSysrefGappedStart k s
  | .hatchContention c w => Sys2Proof.Machine.execHatchContention c w s
  | .contextSelect p => Sys2Proof.Machine.execContextSelect p s
  | .itemDone p tick nj => Sys2Proof.Machine.execItemDone p tick nj s
  | .itemEndingComplete p nj => Sys2Proof.Machine.execItemEndingComplete p nj s
  | .budgetKill p => Sys2Proof.Machine.execBudgetKill p s
  | .trayRead p slot line => Sys2Proof.Machine.execTrayRead p slot line s
  | .trayWrite p slot line mask data => Sys2Proof.Machine.execTrayWrite p slot line mask data s
  | .spawn p record => Sys2Proof.Machine.execSpawn p record s
  | .userEvent p code sev data => Sys2Proof.Machine.execUserEvent p code sev data s
  | .contextSelectStatic p ctx init => Sys2Proof.Machine.execContextSelectStatic p ctx init s
  | .hatchRead p beat beatsM1 tag => Sys2Proof.Machine.execHatchRead p beat beatsM1 tag s
  | .hatchWrite p beat beatsM1 tag data => Sys2Proof.Machine.execHatchWrite p beat beatsM1 tag data s
  | .hatchReadBeat p => Sys2Proof.Machine.execHatchReadBeat p s
  | .hatchWriteAccept p => Sys2Proof.Machine.execHatchWriteAccept p s
  | .spawnHandOn p => Sys2Proof.Machine.execSpawnHandOn p s
  | .submitGo who autoSeq => Sys2Proof.Machine.execSubmitGo who autoSeq s
  | .decisionStart pool => Sys2Proof.Machine.execDecisionStart pool s
  | .decisionBind p slot => Sys2Proof.Machine.execDecisionBind p slot s
  | .fillBeat p slot => Sys2Proof.Machine.execFillBeat p slot s
  | .drainBeat p slot => Sys2Proof.Machine.execDrainBeat p slot s
  | .drainAckComplete p slot => Sys2Proof.Machine.execDrainAckComplete p slot s
  | .lateDropLs id => Sys2Proof.Machine.execLateDropLs id s
  | .deadlinePass id => Sys2Proof.Machine.execDeadlinePass id s
  | .pauseTimerExpiry p => Sys2Proof.Machine.execPauseTimerExpiry p s
  | .capWrite cap => Sys2Proof.Machine.execCapWrite cap s
  | .threshWrite warn throttle crit => Sys2Proof.Machine.execThreshWrite warn throttle crit s
  | .thermalSample x => Sys2Proof.Machine.execThermalSample x s
  | .shutdownComparatorTrip n temp => Sys2Proof.Machine.execShutdownComparatorTrip n temp s
  | .pfcRefresh => Sys2Proof.Machine.execPfcRefresh s
  | .pfcGraceExpiry => Sys2Proof.Machine.execPfcGraceExpiry s
  | .shedStep => Sys2Proof.Machine.execShedStep s
  | .restoreStep => Sys2Proof.Machine.execRestoreStep s
  | .recalStart => Sys2Proof.Machine.execRecalStart s
  | .recalComplete d => Sys2Proof.Machine.execRecalComplete d s
  | .signalDetect l => Sys2Proof.Machine.execSignalDetect l s
  | .eqTrialComplete l eyes => Sys2Proof.Machine.execEqTrialComplete l eyes s
  | .cdrLock l => Sys2Proof.Machine.execCdrLock l s
  | .polarityDetect l inverted => Sys2Proof.Machine.execPolarityDetect l inverted s
  | .blockLock l => Sys2Proof.Machine.execBlockLock l s
  | .laneOrderDetect l pos => Sys2Proof.Machine.execLaneOrderDetect l pos s
  | .deskew l skew => Sys2Proof.Machine.execDeskew l skew s
  | .bringupStepTimeout l => Sys2Proof.Machine.execBringupStepTimeout l s
  | .bringupRetry l => Sys2Proof.Machine.execBringupRetry l s
  | .laneLinkLoss l cause => Sys2Proof.Machine.execLaneLinkLoss l cause s
  | .groupPllLock g outside => Sys2Proof.Machine.execGroupPllLock g outside s
  | .groupPllUnlock g => Sys2Proof.Machine.execGroupPllUnlock g s
  | .laneEnableWrite l en => Sys2Proof.Machine.execLaneEnableWrite l en s
  | .laneRestart l => Sys2Proof.Machine.execLaneRestart l s
  | .loopSelect l loop drive => Sys2Proof.Machine.execLoopSelect l loop drive s
  | .prbsGenSelect l gen => Sys2Proof.Machine.execPrbsGenSelect l gen s
  | .prbsChkSelect l chk => Sys2Proof.Machine.execPrbsChkSelect l chk s
  | .laneBlockRx l b => Sys2Proof.Machine.execLaneBlockRx l b s
  | .laneTxTake l bundle x => Sys2Proof.Machine.execLaneTxTake l bundle x s
  | .fomWindow l eye => Sys2Proof.Machine.execFomWindow l eye s
  | .ethFrameRx l f => Sys2Proof.Machine.execEthFrameRx l f s
  | .pauseFrameRx l us => Sys2Proof.Machine.execPauseFrameRx l us s
  | .heldMessageRelease f n => Sys2Proof.Machine.execHeldMessageRelease f n s
  | .symbolWindowOpen f n => Sys2Proof.Machine.execSymbolWindowOpen f n s
  | .sectionWriteAck f n => Sys2Proof.Machine.execSectionWriteAck f n s
  | .symbolWindowClose f n => Sys2Proof.Machine.execSymbolWindowClose f n s
  | .statusLineAck f => Sys2Proof.Machine.execStatusLineAck f s
  | .fronthaulRelease e => Sys2Proof.Machine.execFronthaulRelease e s
  | .quarantineEnd f => Sys2Proof.Machine.execQuarantineEnd f s
  | .partnerFaultClear g => Sys2Proof.Machine.execPartnerFaultClear g s
  | .egressCheck f n => Sys2Proof.Machine.execEgressCheck f n s
  | .egressArmExpiry f n => Sys2Proof.Machine.execEgressArmExpiry f n s
  | .jesdEgressSpan f n blocks => Sys2Proof.Machine.execJesdEgressSpan f n blocks s
  | .flowRead who => Sys2Proof.Machine.execFlowRead who s
  | .flowCommit => Sys2Proof.Machine.execFlowCommit s
  | .flowCommitEffect => Sys2Proof.Machine.execFlowCommitEffect s
  | .flowCntRead => Sys2Proof.Machine.execFlowCntRead s
  | .sectionRead who => Sys2Proof.Machine.execSectionRead who s
  | .loftRequestEnqueue r => Sys2Proof.Machine.execLoftRequestEnqueue r s
  | .loftBankServe b u => Sys2Proof.Machine.execLoftBankServe b u s
  | .correctionWriteBack b => Sys2Proof.Machine.execCorrectionWriteBack b s
  | .poisonWrite b => Sys2Proof.Machine.execPoisonWrite b s
  | .idleScrub b u => Sys2Proof.Machine.execIdleScrub b u s
  | .bgScrub e find => Sys2Proof.Machine.execBgScrub e find s
  | .groupHandover g owner clear => Sys2Proof.Machine.execGroupHandover g owner clear s
  | .bankHandover b owner clear => Sys2Proof.Machine.execBankHandover b owner clear s
  | .handoverQuiesce group index => Sys2Proof.Machine.execHandoverQuiesce group index s
  | .handoverClearDone group index => Sys2Proof.Machine.execHandoverClearDone group index s
  | .groupWakeComplete g bad spareBad => Sys2Proof.Machine.execGroupWakeComplete g bad spareBad s
  | .dmaGo c who srcTray dstTray evDone => Sys2Proof.Machine.execDmaGo c who srcTray dstTray evDone s
  | .dmaAbort c who => Sys2Proof.Machine.execDmaAbort c who s
  | .dmaCommandComplete c => Sys2Proof.Machine.execDmaCommandComplete c s
  | .prStage => Sys2Proof.Machine.execPrStage s
  | .prStageComplete h fs => Sys2Proof.Machine.execPrStageComplete h fs s
  | .prDiscard => Sys2Proof.Machine.execPrDiscard s
  | .prCommitWriteStart bad => Sys2Proof.Machine.execPrCommitWriteStart bad s
  | .prCommitEnd bad => Sys2Proof.Machine.execPrCommitEnd bad s
  | .cfgScrubWord e u wire voted => Sys2Proof.Machine.execCfgScrubWord e u wire voted s
  | .cfgScrubRepair flashOk => Sys2Proof.Machine.execCfgScrubRepair flashOk s
  | .cfgScrubLapEnd e flip => Sys2Proof.Machine.execCfgScrubLapEnd e flip s
  | .cfgScrubStall e => Sys2Proof.Machine.execCfgScrubStall e s
  | .twinHeartbeatRx f => Sys2Proof.Machine.execTwinHeartbeatRx f s
  | .twinMirrorRx f => Sys2Proof.Machine.execTwinMirrorRx f s
  | .twinAckRx f => Sys2Proof.Machine.execTwinAckRx f s
  | .twinLineReqRx f => Sys2Proof.Machine.execTwinLineReqRx f s
  | .twinControlRx f => Sys2Proof.Machine.execTwinControlRx f s
  | .twinFaultRx f => Sys2Proof.Machine.execTwinFaultRx f s
  | .twinAckTimer => Sys2Proof.Machine.execTwinAckTimer s
  | .twinResendTimeout vc seq => Sys2Proof.Machine.execTwinResendTimeout vc seq s
  | .twinHeartbeatSend => Sys2Proof.Machine.execTwinHeartbeatSend s
  | .sidebandEdge => Sys2Proof.Machine.execSidebandEdge s
  | .heartbeatPathTimeout link => Sys2Proof.Machine.execHeartbeatPathTimeout link s
  | .pairWaitExpiry => Sys2Proof.Machine.execPairWaitExpiry s
  | .pairStepTimeout => Sys2Proof.Machine.execPairStepTimeout s
  | .pairRetry => Sys2Proof.Machine.execPairRetry s
  | .mirrorLineSend bulk => Sys2Proof.Machine.execMirrorLineSend bulk s
  | .twinRekey => Sys2Proof.Machine.execTwinRekey s
  | .sessionRekeyRetry => Sys2Proof.Machine.execSessionRekeyRetry s
  | .twinHandoff => Sys2Proof.Machine.execTwinHandoff s
  | .twinDetach => Sys2Proof.Machine.execTwinDetach s
  | .twinPair => Sys2Proof.Machine.execTwinPair s
  | .groupConvertComplete g => Sys2Proof.Machine.execGroupConvertComplete g s
  | .runRequest who => Sys2Proof.Machine.execRunRequest who s
  | .dozeRequest who => Sys2Proof.Machine.execDozeRequest who s
  | .dormantRequest who => Sys2Proof.Machine.execDormantRequest who s
  | .dormantEntryComplete => Sys2Proof.Machine.execDormantEntryComplete s
  | .wakeComplete => Sys2Proof.Machine.execWakeComplete s
  | .warmReset => Sys2Proof.Machine.execWarmReset s
  | .warmResetEnd us aborted => Sys2Proof.Machine.execWarmResetEnd us aborted s
  | .shelfReset h => Sys2Proof.Machine.execShelfReset h s
  | .shelfResetRelease h => Sys2Proof.Machine.execShelfResetRelease h s
  | .binReset l => Sys2Proof.Machine.execBinReset l s
  | .binResetRelease p => Sys2Proof.Machine.execBinResetRelease p s
  | .lgrpReset g => Sys2Proof.Machine.execLgrpReset g s
  | .lgrpResetRelease g => Sys2Proof.Machine.execLgrpResetRelease g s
  | .keeperWatchdogExpiry aborted => Sys2Proof.Machine.execKeeperWatchdogExpiry aborted s
  | .cellarHeartbeatLoss d => Sys2Proof.Machine.execCellarHeartbeatLoss d s
  | .provision who tk vfuse => Sys2Proof.Machine.execProvision who tk vfuse s
  | .toField who tk vfuse => Sys2Proof.Machine.execToField who tk vfuse s
  | .toReturn who tk vfuse => Sys2Proof.Machine.execToReturn who tk vfuse s
  | .addOwnerKey who tk vfuse => Sys2Proof.Machine.execAddOwnerKey who tk vfuse s
  | .revokeOwnerKey who tk vfuse => Sys2Proof.Machine.execRevokeOwnerKey who tk vfuse s
  | .setStreamKey who tk secret vfuse => Sys2Proof.Machine.execSetStreamKey who tk secret vfuse s
  | .revokeStreamKey who tk vfuse => Sys2Proof.Machine.execRevokeStreamKey who tk vfuse s
  | .eraseBbramKey who tk => Sys2Proof.Machine.execEraseBbramKey who tk s
  | .debugUnlock who tk => Sys2Proof.Machine.execDebugUnlock who tk s
  | .fwKeyRevoke who tk vfuse => Sys2Proof.Machine.execFwKeyRevoke who tk vfuse s
  | .fuseCommandResume vfuse => Sys2Proof.Machine.execFuseCommandResume vfuse s
  | .returnResume vfuse => Sys2Proof.Machine.execReturnResume vfuse s
  | .debugLock => Sys2Proof.Machine.execDebugLock s
  | .jtagInstruction n => Sys2Proof.Machine.execJtagInstruction n s
  | .attestGo who => Sys2Proof.Machine.execAttestGo who s
  | .attestComplete who => Sys2Proof.Machine.execAttestComplete who s
  | .ledgerAppendComplete => Sys2Proof.Machine.execLedgerAppendComplete s
  | .ledgerEraseComplete => Sys2Proof.Machine.execLedgerEraseComplete s
  | .canaryMeasure p slack => Sys2Proof.Machine.execCanaryMeasure p slack s
  | .binSubstitutionPrep => Sys2Proof.Machine.execBinSubstitutionPrep s
  | .binSubstitutionComplete => Sys2Proof.Machine.execBinSubstitutionComplete s
  | .hatchCanaryMeasure c seg margin group wire => Sys2Proof.Machine.execHatchCanaryMeasure c seg margin group wire s
  | .bankCeHour b => Sys2Proof.Machine.execBankCeHour b s
  | .fomHour l idle => Sys2Proof.Machine.execFomHour l idle s
  | .bankPermitWrite mask => Sys2Proof.Machine.execBankPermitWrite mask s
  | .bankCopyComplete => Sys2Proof.Machine.execBankCopyComplete s
  | .coverShedStep pool => Sys2Proof.Machine.execCoverShedStep pool s
  | .coverRestoreStep pool => Sys2Proof.Machine.execCoverRestoreStep pool s
  | .thmLife => Sys2Proof.Machine.execThmLife s
  | .eventDispatch => Sys2Proof.Machine.execEventDispatch s
  | .evAckWrite v => Sys2Proof.Machine.execEvAckWrite v s
  | .evKpAckWrite v => Sys2Proof.Machine.execEvKpAckWrite v s
  | .evPortPop => Sys2Proof.Machine.execEvPortPop s
  | .mgmtRead addr words => Sys2Proof.Machine.execMgmtRead addr words s
  | .mgmtWrite addr data x => Sys2Proof.Machine.execMgmtWrite addr data x s
  | .mgmtUnknownOpcode op => Sys2Proof.Machine.execMgmtUnknownOpcode op s
  | .mgmtFrameAbort op addr data dataBits x => Sys2Proof.Machine.execMgmtFrameAbort op addr data dataBits x s
  | .regportRead addr tag out => Sys2Proof.Machine.execRegportRead addr tag out s
  | .regportWrite addr data tag out x => Sys2Proof.Machine.execRegportWrite addr data tag out x s
  | .registerWrite who addr data x => Sys2Proof.Machine.execRegisterWrite who addr data x s
  | .readClear who addr => Sys2Proof.Machine.execReadClear who addr s
  | .porstNRise => Sys2Proof.Machine.execPorstNRise s
  | .secCmdUnknownOpcode who => Sys2Proof.Machine.execSecCmdUnknownOpcode who s
  | .fuseBurnComplete e => Sys2Proof.Machine.execFuseBurnComplete e s
  | .pauseTimeExpiry l => Sys2Proof.Machine.execPauseTimeExpiry l s
  | .takeoverTablesWritten => Sys2Proof.Machine.execTakeoverTablesWritten s

end Sys2Proof.Machine
end

