-- ==== Sys2Proof/Machine/FabricRun.lean ====
section
/-! DEFINITION. The fabric in a tick (R101 to R114, R123 to R128, R131 to R134, R139 to R141, R154, R417): the bin
crossbar's sources, the registers that every bin, corridor channel and user hatch wire captures, and the commands that
the bin ports' control and hatch command registers then spell. -/

namespace Sys2Proof.Machine

/-! Clocks (R88, R124). -/

/-- The output, RC0 to RC3, that clocks tile `t` of bin `p` (R124). -/
def tileRc (s : State) (p t : Nat) : Nat :=
  if t < 16 then bits (s.get (F.FAB_TILE_CLK0_clk p)) (2 * t) 2 else bits (s.get (F.FAB_TILE_CLK1_clk p)) (2 * (t - 16)) 2

/-- The divider of R88 by its code. -/
def rcDiv (c : Nat) : Nat := [1, 2, 3, 4, 6, 8, 16].getD c 1

/-- The edges of output RC `i` of tree `k` in the present tick: one every divider ticks when it comes from TICK, at a
phase the rules leave open, and a number they leave open when it comes from another clock (log entry 108). -/
def rcEdges (s : State) (k i : Nat) : Nat :=
  if i = 0 then 1
  else if s.get (if i = 1 then F.CLK_RC_STATUS_rc1_src k else if i = 2 then F.CLK_RC_STATUS_rc2_src k
      else F.CLK_RC_STATUS_rc3_src k) = 0 then
    let d := rcDiv ((aget s.clk.divs (3 * k + i - 1)).getD 0)
    if d = 1 || (s.now + Config.rcPhase k i) % d = 0 then 1 else 0
  else Config.rcEdges k i s.now

/-! The corridors and the user hatch wires (R112, R113, R126, R128). -/

/-- The outbound channel that feeds an inbound channel of bin `p`, by the numbers of `Mesh`; none at the edge of the
grid, where the channel receives 0 (R112). -/
def feeder (p i : Nat) : Option Nat :=
  let q := p % 132
  let k := i % 4
  let d := i / 4
  if d = 0 then (if q / 12 = 0 then none else some (16 * (p - 12) + 8 + k))
  else if d = 1 then (if q % 12 = 11 then none else some (16 * (p + 1) + 12 + k))
  else if d = 2 then (if q / 12 = 10 then none else some (16 * (p + 12) + k))
  else if q % 12 = 0 then none else some (16 * (p - 1) + 4 + k)

/-- The value of a channel or hatch word after its pad registers (R115). -/
def meshOut (m : Mesh) (k : Nat) : Nat :=
  match aget m.pads k with
  | some (v :: _) => v
  | _ => (aget m.chan k).getD 0

/-- The number of user hatch word `w` of column `c` as shelf `e` receives it. -/
def hatchKey (c e w : Nat) : Nat := 16 * (1000 + c) + 4 * e + w

/-- The disabled wires among the 64 of word `w` of column `c` (R126). -/
def wiresOff (s : State) (c w : Nat) : Nat :=
  s.get (F.FAB_HATCH_CONT_disabled c (2 * w)) + 2 ^ 32 * s.get (F.FAB_HATCH_CONT_disabled c (2 * w + 1))

/-- `v` without the bits that `m` names. -/
def andNot (v m : Nat) : Nat := v - (v &&& m)

/-- The 64 bits of inbound channel `i` of bin `p` as its crossbar sees them (R112, R115). -/
def inbound (s : State) (p i : Nat) : Nat :=
  match feeder p i with
  | some k => meshOut s.mesh k
  | none => 0

/-- The 64 bits of user hatch word `w` that bin `p` receives; disabled wires read 0 (R126). -/
def hatchIn (s : State) (p w : Nat) : Nat :=
  andNot (meshOut s.mesh (hatchKey (p % 132) (shelfOf p) w)) (wiresOff s (p % 132) w)

/-! The bin crossbar (R110, R111). -/

/-- The bundle of the lane attached to bin `p`, 0 for none (R123, R248). -/
def laneIn (s : State) (p : Nat) : Nat :=
  if s.flag (F.FAB_BIN_STATUS_lane_att p) then
    laneBundle s (s.get (F.FAB_LANE_lane p))
  else 0

/-- The sources of bin `p`'s crossbar (R111); `e` are the settings of the context that drives it. -/
def xbarSrc (s : State) (p : Nat) (e : List FabElem) (i : Nat) : Nat :=
  let b := s.bin p
  if i < 64 then
    if tileRc s p (i / 2) = 0 then portOut e b.fab false (i / 2) (i % 2) else b.fab.gave (i / 2) 1 (i % 2) % 2 ^ 64
  else if i < 80 then inbound s p (i - 64)
  else if i < 82 then bits (laneIn s p) (64 * (i - 80)) (if i = 80 then 64 else 32)
  else if i < 85 then hatchIn s p (i - 82)
  else if i < 89 then ((runItem s p).map (fun x => descWord x (i - 85))).getD 0
  else if i < 97 then bits (lineShown s p) (64 * (i - 89)) 64
  else if i = 97 then statusWord s p
  else bits ((b.rdBeat.map (fun x => if x.at' = s.now then x.data else 0)).getD 0) (64 * (i - 98)) 64

/-- The width of a sink: lane TX bits [95:64] have 32 bits (R111). -/
def sinkWidth (i : Nat) : Nat := if i = 81 then 32 else 64

/-- The source that a sink selects; a sink without a setting takes the constant 0. -/
def sinkSel (e : List FabElem) (i : Nat) : Nat :=
  (e.findSome? (fun x => match x with
    | .sink j s => if j = i then some s else none
    | _ => none)).getD 127

/-- What sink `i` of bin `p` captures at the end of the present tick (R110, R111). -/
def xbarSink' (s : State) (p : Nat) (e : List FabElem) (i : Nat) : Nat :=
  xbarRead (xbarSrc s p e) (sinkSel e i) % 2 ^ sinkWidth i

/-! A bin (R101 to R107, R133, R134, R154). -/

/-- Bin `p`'s logic runs: its user logic is clocked (R137, R140). -/
def fabRuns (s : State) (p : Nat) : Bool :=
  if binKind s p = Kind.static then wordOk s p
  else (runItem s p).isSome && (s.seqSt p = Seq.select || s.seqSt p = Seq.ending)

/-- The item tick of a scheduled bin; 3 and above is the run (R133). -/
def entryTick (s : State) (p : Nat) : Nat := if binKind s p = Kind.scheduled then itemTick s p else 3

/-- The present tick loads the initial values of a ctx_init select, tk 1 of R154. -/
def loadsInit (s : State) (p : Nat) : Bool := (s.bin p).initAt.any (fun t => t < s.now)

/-- An entry of a FIFO: 64 bits with the valid bit at 64. -/
def fifoEntry (v : Nat) : Nat := 2 ^ 64 + v % 2 ^ 64

/-- A FIFO's read: the oldest entry, or none with the last entry's valid bit at 0 (R417). -/
def fifoTake (l : List Nat) (last : Nat) : Nat × List Nat :=
  match l with
  | [] => (last % 2 ^ 64, [])
  | x :: t => (x, t)

/-- A FIFO's write: a write to a full FIFO waits (R417). -/
def fifoPut (l : List Nat) (v : Nat) : List Nat := if l.length < 8 then l ++ [v] else l

/-- A number stored under a key, left out when it is 0. -/
def zset (l : List (Nat × Nat)) (k v : Nat) : List (Nat × Nat) := if v = 0 then adel l k else aset l k v

/-- A list stored under a key, left out when it is empty. -/
def lset (l : List (Nat × List Nat)) (k : Nat) (v : List Nat) : List (Nat × List Nat) :=
  if v = [] then adel l k else aset l k v

/-- One clock edge of a tile on RC1 to RC3 (R417): it takes an entry of each input FIFO, steps, and writes its output
ports. -/
def crossStep (e : List FabElem) (t : Nat) (r : BinFab) : BinFab :=
  let take := fun (r : BinFab) p =>
    let x := fifoTake (r.fifo t 0 p) (r.gave t 0 p)
    { r with fifos := lset r.fifos (4 * t + p) x.2, given := zset r.given (4 * t + p) x.1 }
  let r := take (take r 0) 1
  let outs := (portOut e r true t 0, portOut e r true t 1)
  let r := tileStep e true t r
  let put := fun (r : BinFab) p v => { r with fifos := lset r.fifos (4 * t + 2 + p) (fifoPut (r.fifo t 1 p) (fifoEntry v)) }
  put (put r 0 outs.1) 1 outs.2

/-- The crossbar's side of such a tile's FIFOs in a tick: its sinks are written into the input FIFOs, and its sources
take an entry of the output FIFOs (R417). -/
def crossSide (t : Nat) (r : BinFab) : BinFab :=
  (List.range 2).foldl (fun r p =>
    let x := fifoTake (r.fifo t 1 p) (r.gave t 1 p)
    let r := { r with fifos := lset r.fifos (4 * t + 2 + p) x.2, given := zset r.given (4 * t + 2 + p) x.1 }
    { r with fifos := lset r.fifos (4 * t + p) (fifoPut (r.fifo t 0 p) (fifoEntry (r.sink (2 * t + p)))) }) r

/-- The tiles that settings name. -/
def elemTile : FabElem → Option Nat
  | .lut t _ _ _ _ _ => some t
  | .carry t _ _ _ _ => some t
  | .ff t _ _ _ _ _ _ => some t
  | .mac t _ _ _ _ _ _ _ _ _ _ _ => some t
  | .out t _ _ _ => some t
  | .sink i _ => if i < 64 then some (i / 2) else none

/-- Every tile of bin `p` steps on the edges of its clock. -/
def tilesStep (s : State) (p : Nat) (e : List FabElem) (r : BinFab) : BinFab :=
  (e.foldl (fun l x => match elemTile x with
    | some t => nins t l
    | none => l) []).foldl (fun r t =>
      let rc := tileRc s p t
      if rc = 0 then tileStep e false t r
      else crossSide t ((List.range (rcEdges s (treeOf p) rc)).foldl (fun r _ => crossStep e t r) r)) r

/-- The sink registers that settings name. -/
def elemSinks (e : List FabElem) : List Nat :=
  e.foldl (fun l x => match x with
    | .sink i _ => nins i l
    | _ => l) []

/-- The sink registers of bin `p` after the tick; the corridor and hatch-wire sinks register in the mesh. -/
def sinksStep (s : State) (p : Nat) (e : List FabElem) : List (Nat × Nat) :=
  ((elemSinks e).filter (fun i => !((64 ≤ i && i < 80) || (82 ≤ i && i < 85)))).foldl
    (fun l i => zset l i (xbarSink' s p e i)) []

/-- Bin `p`'s registers after the present tick (R101 to R107, R133, R134, R154): in an entry's first tick they hold
their initial values, in its second the sinks capture except the control and hatch command registers. In tk 1 of a
ctx_init select every register loads its initial value, the sinks 0 (log entry 146). -/
def binStep (s : State) (p : Nat) : BinFab :=
  let r := (s.bin p).fab
  let e := ctxElems s p (ctxNow s p)
  let n := entryTick s p
  if loadsInit s p then fabInit e
  else if n ≤ 1 then r
  else if n = 2 then { r with sinks := (sinksStep s p e).filter (fun x => x.1 ≠ 97 && x.1 ≠ 102) }
  else
    let t := tilesStep s p e r
    { t with sinks := sinksStep s p e }

/-! The corridors and hatch wires in a tick. -/

/-- What bin `p` drives into outbound channel or hatch word `i` of its crossbar, whose register holds `old`: 0 while it
is in reset (R128) or held (R93), while its die has lost the heartbeat (R411), and in the tick that loads initial
values (R134, R154); `old` while its clock stands still (R95); else what the sink captures. -/
def drives (s : State) (p i old : Nat) : Nat :=
  if (s.bin p).rst || s.flag (F.FAB_BIN_STATUS_held p) || s.modes.deadDies.contains (1 + shelfOf p) || loadsInit s p then 0
  else if !fabRuns s p then old
  else xbarSink' s p (ctxElems s p (ctxNow s p)) i

/-- A channel register and its pad registers take the next value (R112, R115); `m` are the registers before the
tick, `out` those after it. -/
def meshPut (m out : Mesh) (k pad v : Nat) : Mesh :=
  let l := List.replicate pad 0 ++ (aget m.pads k).getD [] ++ [(aget m.chan k).getD 0]
  { chan := zset out.chan k v, pads := if pad = 0 then out.pads else aset out.pads k (l.drop (l.length - pad)) }

/-- The channels of a route in a tick (R112, R113, R115): the source drives the first, each later one takes the one
before it, the hatch word crosses last, and the pad lies at the destination. `m` are the registers before the tick. -/
def routeStep (s : State) (m : Mesh) (r : RoutePlan) (out : Mesh) : Mesh :=
  let a := physOf s r.src
  let e := shelfOf (physOf s r.dst)
  let step := fun (x : Mesh × Option Nat) (h : Nat × Nat) =>
    let cross := 1000 ≤ h.1
    let k := if cross then hatchKey (h.1 - 1000) e h.2 else 16 * h.1 + h.2
    let v := match x.2 with
      | some j => (aget m.chan j).getD 0
      | none => drives s a (if cross then 82 + h.2 else 64 + h.2) ((aget m.chan k).getD 0)
    let v := if !cross && s.modes.shelfRst.contains (shelfOf h.1) then 0 else v
    (meshPut m x.1 k (if r.hops.getLast? = some h then r.pad else 0) v, some k)
  (r.hops.foldl step (out, none)).1

/-- The wires of column `c` that routes drive from shelf `e` (R113), as a mask of 192. -/
def routeWires (s : State) (c e : Nat) : Nat :=
  s.cfg.routes.foldl (fun n r => match r.hops.getLast? with
    | some h => if h.1 = 1000 + c && shelfOf (physOf s r.src) = e then n ||| ((2 ^ 64 - 1) * 2 ^ (64 * h.2)) else n
    | none => n) 0

/-- The wires that the bin of shelf `e` of column `c` drives (R113, R126): its enables are no part of a context (R131),
so that those of all its records act together. -/
def binWires (s : State) (c e : Nat) : Nat :=
  let l := logOf s (c + 132 * e)
  (s.cfg.enables.filter (fun x => x.1 / 8 = l)).foldl (fun n x => n ||| x.2) 0

/-- The user hatch wires of column `c` that its bins drive, in a tick: each end receives what the other drives, and a
wire that both drive, or that is disabled, is 0 (R113, R126). A wire that nobody drives is 0 (log entry 147). -/
def columnStep (s : State) (c : Nat) (m : Mesh) : Mesh :=
  let one := fun (m : Mesh) (e : Nat) =>
    let mine := andNot (binWires s c e) (binWires s c (1 - e) ||| routeWires s c (1 - e) ||| routeWires s c e)
    (List.range 3).foldl (fun m w =>
      let mask := andNot (bits mine (64 * w) 64) (wiresOff s c w)
      let k := hatchKey c (1 - e) w
      if mask = 0 then m
      else { m with chan := zset m.chan k ((aget m.chan k).getD 0 ||| (drives s (c + 132 * e) (82 + w) ((aget s.mesh.chan k).getD 0) &&& mask)) }) m
  one (one m 0) 1

/-- The columns with a bin that enables hatch wires. -/
def wiredColumns (s : State) : List Nat :=
  s.cfg.enables.foldl (fun l x => nins (physOf s (x.1 / 8) % 132) l) []

/-- The corridors and the hatch wires after the present tick. -/
def meshStep (s : State) : Mesh :=
  let m := s.cfg.routes.foldl (fun m r => routeStep s s.mesh r m) ⟨[], []⟩
  (wiredColumns s).foldl (fun m c => columnStep s c m) m

/-! The user I/O balls (R34, R71, R93, R341, R345, R385). -/

/-- What a user I/O ball shows: high impedance, high impedance with the weak pull-down, a level, or what the user
logic that drives it gives. -/
inductive Ball where
  | highZ | pullDown
  | level (b : Bool)
  | logic
  deriving DecidableEq, Repr

/-- A pin's configured safe level (R93, R341). -/
def uioSafe (s : State) (pin : Nat) : Ball :=
  let c := bits ((aget s.cfg.uio pin).getD 4) 4 2
  if c = 1 then .level false else if c = 2 then .level true else .pullDown

/-- The static bin that drives a user pin is held, out of place or not released (R93, R453). The rules do not say which
bin drives a pin (log entry 110). -/
def uioHeld (s : State) (pin : Nat) : Bool :=
  let p := physOf s (Config.uioBin pin)
  binKind s p = Kind.static && ((s.bin p).rst || s.flag (F.FAB_BIN_STATUS_held p) || isRetired s p)

/-- UIO ball `pin`: high impedance while VCCAUX is out (R34); in LOAD the pull-down (R345); in SAFE and STANDBY its
safe level (R93, R385); else by its role: user logic, with the safe level while its bin is held, the trigger level of
R71, or unused. -/
def uioBall (s : State) (pin : Nat) : Ball :=
  let role := bits ((aget s.cfg.uio pin).getD 4) 0 2
  if s.pins.highZ then .highZ
  else if s.mode = Mode.load then .pullDown
  else if safeOutputs s || s.mode = Mode.standby then uioSafe s pin
  else if role = 1 then .level ((aget s.pins.uioLevel pin).getD false)
  else if role = 2 then .pullDown
  else if uioHeld s pin then uioSafe s pin
  else .logic

/-! The whole fabric, and the words of the bin ports. -/

/-- The bins whose context that drives them has settings. -/
def fabBins (s : State) : List Nat :=
  ((s.cfg.mem.filter (fun e => e.1 % 8 = ctxNow s (e.1 / 8) && imageElems s e.2 != [])).map (fun e => e.1 / 8)).filter
    (fabRuns s)

/-- The commands that bin `p`'s control register spells (R140): the read before the write of one word; a word with a
spawn record or an event writes no line (R146); DONE last. In a static bin `done` and `spawn` of one word are one
ignored use (R155). `nj` stands for the energy of an item that ends. -/
def ctrlCmds (s : State) (p nj : Nat) : List Instr :=
  let r := (s.bin p).fab
  let w := ctrlSplit (r.sink 97)
  let d := ((List.range 8).map (fun i => r.sink (85 + i) * 2 ^ (64 * i))).foldl (· + ·) 0
  (if w.rdEn then [.trayRead p w.rdSlot w.rdLine] else [])
  ++ (if w.spawn then [.spawn p (d % 2 ^ 256)] else [])
  ++ (if w.event then [.userEvent p w.evCode w.evSev (bits d 256 32)] else [])
  ++ (if w.wrEn && !w.spawn && !w.event then [.trayWrite p w.wrSlot w.wrLine w.wrMask d] else [])
  ++ (if w.ctxSel then [.contextSelectStatic p w.ctx w.ctxInit] else [])
  ++ (if w.done && !(w.spawn && binKind s p = Kind.static) then [.itemDone p (itemTick s p) nj] else [])

/-- The beat that the hatch write data registers hold. -/
def hatchBeatOut (r : BinFab) : Nat :=
  r.sink 98 + r.sink 99 * 2 ^ 64 + r.sink 100 * 2 ^ 128 + r.sink 101 * 2 ^ 192

/-- The command that bin `p`'s hatch command register spells (R149); a write's later beats follow in their ticks. -/
def hatchCmds (s : State) (p : Nat) : List Instr :=
  let r := (s.bin p).fab
  let w := hatchSplit (r.sink 102)
  if !w.valid then []
  else if w.wr then [.hatchWrite p w.addr w.beatsM1 w.tag (hatchBeatOut r :: List.replicate w.beatsM1 0)]
  else [.hatchRead p w.addr w.beatsM1 w.tag]

/-- The data beats that a write of bin `p`'s own takes from its sinks in the present tick (R149). -/
def hatchData (s : State) (p : Nat) : State :=
  let b := s.bin p
  setBin s p { b with hatch := b.hatch.map (fun c =>
    if c.wr && c.own && c.at' < s.now && s.now < c.at' + c.beats then
      { c with data := c.data.set (s.now - c.at') (hatchBeatOut b.fab) } else c) }

/-- One tick of the fabric: every register captures at once, and the commands that the ports' registers then hold join
the queue (log entry 107). The tick has advanced when they are spelt. -/
def fabTick (s : State) : State :=
  let bs := fabBins s
  let next := bs.map (fun p => (p, binStep s p))
  let m := meshStep s
  let t := s.later 1
  let t := next.foldl (fun u x => hatchData (setBin u x.1 { u.bin x.1 with
    fab := x.2, initAt := if loadsInit s x.1 then none else (u.bin x.1).initAt }) x.1) { t with mesh := m }
  let cmds := bs.flatMap (fun p => hatchCmds t p ++ ctrlCmds t p (Config.freeValue t.fresh % 2 ^ 32))
  { t with pending := t.pending ++ cmds, fresh := if cmds = [] then t.fresh else t.fresh + 1 }

end Sys2Proof.Machine
end

