-- ==== Sys2Proof/Machine/Step.lean ====
section
/-! DEFINITION. The step: the command at the front of the queue runs, and on an empty queue a tick passes. -/

namespace Sys2Proof.Machine

/-- One TICK cycle in which nothing arrives (R40, R41; log entry 7): the frame position counts, except while the device
is held in reset, and the fabric's registers capture while the shelves are clocked, which they are not in LOAD (R347)
and SAFE (R95). -/
def tick (s : State) : State :=
  if s.modes.por || !s.pins.porstN then s
  else if s.mode = Mode.load || s.mode = Mode.safe then s.later 1
  else fabTick s

/-- The step of the block: the front command with the rest of the queue, or a tick. -/
def step (s : State) : Host.Outcome State Fault Refusal :=
  match s.pending with
  | [] => .next (settle (tick s))
  | c :: rest => exec c { s with pending := rest }

/-- The command that a word spells is put at the front of the queue; a word that spells none changes nothing. -/
def State.withFetchWord (s : State) (nbits w : Nat) : State :=
  match decodeTableWord nbits w with
  | some c => { s with pending := c :: s.pending }
  | none => s

end Sys2Proof.Machine
end

