-- ==== Sys2Proof/Safety.lean ====
section
/-! DEFINITION. What counts as a good state and a good answer, in the terms the claims use. -/

namespace Sys2Proof.Machine

/-- The signals that are functions of the state agree with it: MG_ALERT_N and EV_STATUS.alert with the ring
(R477, R479), TB_TRG_STATUS.armed with fp_valid (R77), the outputs with the mode (R93, R345), PPS_OUT with its pulse
(R73), and the frame position lies in its range (R9, R10). -/
structure Settled (s : State) : Prop where
  alertPin : s.pins.alertN = !alertLow s
  alertFlag : s.get F.EV_STATUS_alert = ofBool (alertLow s)
  armed : s.get F.TB_TRG_STATUS_armed = s.get F.TB_STATUS_fp_valid
  outputs : safeOutputs s = s.pins.outputsSafe
  pps : s.pins.ppsOut = ppsHigh s
  position : s.fp < fpSpan

/-- The memories are in their canonical form. -/
def State.memOk (s : State) : Bool := s.loft.data.wf && s.loft.check.wf && s.loft.valid.wf && s.trays.wf

/-- A command's answer is no stop. -/
def goesOn (r : Res) : Prop := ∃ t, r = .next t

/-! What a command leaves unchanged. -/

/-- The parts of the state beside the queue and the registers. -/
inductive Part where
  | now
  | fp
  | fresh
  | reported
  | warm
  | ev
  | led
  | pins
  | tb
  | loft
  | twin
  | sch
  | bins
  | trays
  | trayValid
  | mesh
  | clk
  | lanes
  | modes
  | shedThm
  | shedCov
  | adm
  | thm
  | fh
  | cfg
  | sec
  | spr
  | ports
  deriving DecidableEq, Repr

/-- A part is the same in two states; the frame position is cut to its 64 bits, and of the pins the three that follow
other state may change (R9, R73, R93, R479). -/
def Part.same : Part → State → State → Prop
  | .now, s, t => t.now = s.now
  | .fp, s, t => t.fp = s.fp % fpSpan
  | .fresh, s, t => t.fresh = s.fresh
  | .reported, s, t => t.reported = s.reported
  | .warm, s, t => t.warm = s.warm
  | .ev, s, t => t.ev = s.ev
  | .led, s, t => t.led = s.led
  | .pins, s, t => t.pins = { s.pins with
      alertN := t.pins.alertN, outputsSafe := t.pins.outputsSafe, ppsOut := t.pins.ppsOut }
  | .tb, s, t => t.tb = s.tb
  | .loft, s, t => t.loft = s.loft
  | .twin, s, t => t.twin = s.twin
  | .sch, s, t => t.sch = s.sch
  | .bins, s, t => t.bins = s.bins
  | .trays, s, t => t.trays = s.trays
  | .trayValid, s, t => t.trayValid = s.trayValid
  | .mesh, s, t => t.mesh = s.mesh
  | .clk, s, t => t.clk = s.clk
  | .lanes, s, t => t.lanes = s.lanes
  | .modes, s, t => t.modes = s.modes
  | .shedThm, s, t => t.shedThm = s.shedThm
  | .shedCov, s, t => t.shedCov = s.shedCov
  | .adm, s, t => t.adm = s.adm
  | .thm, s, t => t.thm = s.thm
  | .fh, s, t => t.fh = s.fh
  | .cfg, s, t => t.cfg = s.cfg
  | .sec, s, t => t.sec = s.sec
  | .spr, s, t => t.spr = s.spr
  | .ports, s, t => t.ports = s.ports

/-- The registers that follow other state in every answer: EV_STATUS.alert and TB_TRG_STATUS.armed (R77, R479). -/
def followers : List Fld := [F.EV_STATUS_alert, F.TB_TRG_STATUS_armed]

/-- The registers that raising an event may write: the event unit's sequence and loss counts, and the waiting
counts and losses of the ledger (R476, R443). -/
def evRegs : List Fld :=
  [F.EV_WR_next_seq, F.EV_CNT_lost, F.RST_EV_LOST_count, F.LED_STATUS_queued_crit, F.LED_STATUS_queued_info,
    F.LED_LOST_lost]

/-- The frame of a command: the queue, every part outside `ps` and every register outside `fs` are unchanged, but
for the two registers that follow other state. -/
structure Frame (s t : State) (ps : List Part) (fs : List Fld) : Prop where
  queue : t.pending = s.pending
  parts : ∀ p : Part, p ∉ ps → p.same s t
  regs : ∀ f : Fld, f.key ∉ (followers ++ fs).map Fld.key → t.get f = s.get f

/-- Room in the event unit's input queue for `n` records, outside a WARM reset (R476, R407). -/
def State.evRoom (s : State) (n : Nat) : Prop := s.warm = false ∧ s.ev.inq.length + n ≤ 512

/-- The records with this source, code, severity and data in the event unit's input queue (R475, R476). -/
def State.records (s : State) (source code sev data : Nat) : Nat :=
  s.ev.inq.countP (fun r => r.source = source && r.code = code && r.sev = sev && r.data = data % 2 ^ 32)

/-- Between `s` and `t` a record with this source, code, severity and data entered the event unit (R475, R476). -/
def reports (s t : State) (source code sev data : Nat) : Prop :=
  s.records source code sev data < t.records source code sev data

end Sys2Proof.Machine
end

