-- ==== Sys2Proof/Certificates/Slice0/Obligations.lean ====
section
/-! DEFINITION. The statements for the provers. -/

open Sys2Proof Sys2Proof.Machine

/-- On the slave lane with a master selected, a Sync starts an exchange with its time at the ball, and its own
timestamp when it is one-step; a Follow_Up brings the timestamp of a two-step one; a Delay_Req that leaves adds
its time at the ball; the Delay_Resp ends the exchange, and the offset it gives, when within the step limit,
joins the run of offsets and drives the loop when PTP is in use; the eighth that agrees with the others
qualifies PTP. An Announce sets whether a master is selected; a Delay_Req on a served master lane is answered;
Syncs and Announces leave the served master lanes in ACTIVE with the frame position at the ball. A PPS edge
within the step limit marks its second, drives the loop when that PPS is in use, and breaks the run of seconds
when the last second brought no message or no edge; an agreeing message after an edge adds its second, and the
third qualifies PPSn. The sync and Announce timeouts, a missing edge, a level that becomes DNU and a frequency
out of the window lose their reference, and one that is not in use with the reason of R511; an accepted level is
stored, and the qualification timer qualifies synchronous Ethernet. Derived: which messages begin and end an
exchange (log entry 134), when a second brought no edge (log entry 135), the order of quality levels and the
judgement of the window by the timer (log entry 12) are the model's. -/
def Obligations.TimeReferenceMeasurements : Prop :=
  ∀ s : State,
    (∀ lane time sel el fr two, lane < 128 → fr < 16 → ptpOn s = true → ptpLane s lane = true →
      lane = s.get F.TB_PTP_CFG_slave_lane → s.tb.master = true →
      exec (.ptpMessageRx lane 0 (s.get F.TB_PTP_CFG_domain) two time ⟨sel, el, fr⟩) s
          = .next (settle (setExch s
              ⟨if two then none else some time, some (ptpTime s (rxBall s lane el) fr), none⟩))
      ∧ (s.tb.exch.t2.isSome = true →
        exec (.ptpMessageRx lane 1 (s.get F.TB_PTP_CFG_domain) two time ⟨sel, el, fr⟩) s
          = .next (settle (setExch s { s.tb.exch with t1 := some time }))))
    ∧ (∀ lane time sel el fr two t1 t2 t3 off u, lane < 128 → fr < 16 → ptpOn s = true → ptpLane s lane = true →
      lane = s.get F.TB_PTP_CFG_slave_lane → s.tb.master = true → s.tb.exch = ⟨some t1, some t2, some t3⟩ →
      off = ptpOffset t1 time t2 t3 → u = setExch s ⟨none, none, none⟩ → beyondLimit s off = false →
      (s.tb.ptp.offs.length < 7 → s.get F.TB_STATUS_phase_ref ≠ 1 →
        exec (.ptpMessageRx lane 2 (s.get F.TB_PTP_CFG_domain) two time ⟨sel, el, fr⟩) s
          = .next (settle (setRef u 1
              { s.tb.ptp with run := 0, offs := off :: s.tb.ptp.offs, lastOff := off, rejSince := none })))
      ∧ (s.tb.ptp.offs.length < 7 → s.get F.TB_STATUS_phase_ref = 1 →
        exec (.ptpMessageRx lane 2 (s.get F.TB_PTP_CFG_domain) two time ⟨sel, el, fr⟩) s
          = .next (settle (loopUpdate (setRef u 1
              { s.tb.ptp with run := 0, offs := off :: s.tb.ptp.offs, lastOff := off, rejSince := none }) off)))
      ∧ (offsAgree s ((off :: s.tb.ptp.offs).take 8) = true → (prioList s).contains 1 = true →
        s.get F.TB_STATUS_phase_ref ≠ 1 →
        exec (.ptpMessageRx lane 2 (s.get F.TB_PTP_CFG_domain) two time ⟨sel, el, fr⟩) s
          = .next (settle (refQualified (setRef u 1 { s.tb.ptp with
              run := 0, offs := (off :: s.tb.ptp.offs).take 8, lastOff := off, rejSince := none }) 0))))
    ∧ (∀ lane time sel el fr two, lane < 128 → fr < 16 → ptpOn s = true → ptpLane s lane = true →
      lane = s.get F.TB_PTP_CFG_slave_lane →
      exec (.ptpMessageRx lane 3 (s.get F.TB_PTP_CFG_domain) two time ⟨sel, el, fr⟩) s
        = .next (settle { s with tb := { s.tb with master := sel } }))
    ∧ (∀ lane time sel el fr two, lane < 128 → fr < 16 → ptpOn s = true → ptpMasterLane s lane = true →
      s.mode = Mode.active →
      exec (.ptpMessageRx lane 4 (s.get F.TB_PTP_CFG_domain) two time ⟨sel, el, fr⟩) s
        = .next (settle { s with tb := { s.tb with
            ptpSent := some ⟨lane, 2, fpPack (rxBall s lane el), fr⟩ } }))
    ∧ (∀ lane kind el fr, lane < 128 → fr < 16 → kind = 0 ∨ kind = 3 → ptpOn s = true → ptpMasterLane s lane = true →
      s.mode = Mode.active →
      exec (.ptpMessageSend lane ⟨kind, el, fr⟩) s
        = .next (settle { s with tb := { s.tb with ptpSent := some ⟨lane, kind, fpPack (txBall s lane el), fr⟩ } }))
    ∧ (∀ lane el fr, lane < 128 → fr < 16 → ptpOn s = true → ptpLane s lane = true → s.tb.master = true →
      lane = s.get F.TB_PTP_CFG_slave_lane → s.mode ≠ Mode.load → s.mode ≠ Mode.safe →
      exec (.ptpMessageSend lane ⟨4, el, fr⟩) s
        = .next (settle { s with tb := { s.tb with
            ptpSent := some ⟨lane, 4, fpPack (txBall s lane el), fr⟩
            exch := if s.tb.exch.t2.isSome then { s.tb.exch with t3 := some (ptpTime s (txBall s lane el) fr) }
              else s.tb.exch } }))
    ∧ (∀ n off x, n < 2 → x = s.tb.ref (2 + n) → beyondLimit s off = false →
      (∀ run, run = (if x.edgeSeen || x.lastEdge.any (fun t => 3 * 983040000 < 2 * (s.now - t)) then 0 else x.run) →
        (s.get F.TB_STATUS_phase_ref ≠ 2 + n →
          exec (.ppsEdge n off) s = .next (settle (setRef s (2 + n)
            { x with run := run, offs := [], lastOff := off, rejSince := none, edgeSeen := true, lastEdge := some s.now })))
        ∧ (s.get F.TB_STATUS_phase_ref = 2 + n →
          exec (.ppsEdge n off) s = .next (settle (setRef (loopUpdate (setRef s (2 + n)
            { x with run := run, offs := [], lastOff := off, rejSince := none }) off) (2 + n)
            { x with run := run, offs := [], lastOff := off, rejSince := none, edgeSeen := true,
                     lastEdge := some s.now })))))
    ∧ (∀ n, n < 2 → (s.tb.ref (2 + n)).edgeSeen = true →
      ((s.tb.ref (2 + n)).run = 2 → (prioList s).contains (2 + n) = true →
        exec (.todMessageRx n true) s = .next (settle (refQualified (setRef s (2 + n)
          { s.tb.ref (2 + n) with run := 3, edgeSeen := false, todBad := 0 }) (1 + n))))
      ∧ ((s.tb.ref (2 + n)).run < 2 →
        exec (.todMessageRx n true) s = .next (settle (setRef s (2 + n)
          { s.tb.ref (2 + n) with run := (s.tb.ref (2 + n)).run + 1, edgeSeen := false, todBad := 0 }))))
    ∧ (∀ c bit reason, (c, bit, reason) ∈ [(Instr.ptpSyncTimeout, 0, 1), (.announceReceiptTimeout, 0, 1),
        (.ppsEdgeMissing 0, 1, 1), (.ppsEdgeMissing 1, 2, 1), (.syncEQualifyTimer false, 3, 5), (.esmcRx 15, 3, 4)] →
      s.qual bit = true → s.get F.TB_STATUS_phase_ref ≠ bit + 1 → s.tb.ql ≠ 15 →
      s.get F.TB_STATUS_state ≠ Tb.holdover → s.evRoom 1 →
      ∃ t, exec c s = .next t ∧ t.qual bit = false ∧ reports s t (969 + bit) 3 4 reason ∧
        Frame s t [.ev, .led, .tb] (evRegs ++ [F.TB_REF_QUAL_qual, F.TB_STATUS_freq_src]))
    ∧ (exec .ptpSyncTimeout s = .next (settle (refLost s 0 1)))
    ∧ (exec .announceReceiptTimeout s = .next (settle (refLost { s with tb := { s.tb with master := false } } 0 1)))
    ∧ (∀ n, n < 2 → exec (.ppsEdgeMissing n) s = .next (settle (refLost (setRef s (2 + n)
        { s.tb.ref (2 + n) with run := 0, edgeSeen := false, lastEdge := none }) (1 + n) 1)))
    ∧ (∀ ql, ql < 15 → qlOk s ql = true →
      exec (.esmcRx ql) s = .next (settle { s with tb := { s.tb with ql := ql } }))
    ∧ (s.flag F.TB_SYNCE_CFG_enable = true → (prioList s).contains 4 = true → qlOk s s.tb.ql = true →
      5 ≤ s.get (F.LN_STATUS_state (s.get F.TB_SYNCE_CFG_lane)) → s.qual 3 = false →
      s.get F.TB_STATUS_phase_ref ≠ 0 →
      exec (.syncEQualifyTimer true) s
        = .next (settle (syncETake (setFreqSrc (raise (setQual s 3 true) 972 2 2 0)))))

/-- While fp_valid is 1, a PPS edge, or a finished PTP exchange, whose offset exceeds the step limit updates no loop
value, changes no state and never steps the FP: TB_STEP_REJ_CNT counts it, step_pending is set, TB_STEP_PENDING
takes the offset in ns, TB_STEP_REJECT is raised, and the reference's run starts again. When rejections have
continued for the reference's loss time, the reference is lost, and where it was the last time reference of a
locked time base the state becomes HOLDOVER, or FREE when holdover is not possible. -/
def Obligations.StepRejection : Prop :=
  ∀ (s : State) (off : Int), s.flag F.TB_STATUS_fp_valid = true →
    s.get F.TB_STEP_LIMIT_limit_ns * 49152 < off.natAbs * 3125 →
    (∀ n, n < 2 → (∀ t0, (s.tb.ref (2 + n)).rejSince = some t0 → s.now < t0 + 2 * 983040000) →
      exec (.ppsEdge n off) s = .next (settle (setRef
        (raise (((s.bump F.TB_STEP_REJ_CNT_count 1).set F.TB_STATUS_step_pending 1).set
          F.TB_STEP_PENDING_offset_ns (satInt 32 (phaseNs off))) (970 + n) 4 4 (satInt 32 (phaseNs off)))
        (2 + n) { s.tb.ref (2 + n) with
          run := 0, offs := [], rejSince := some ((s.tb.ref (2 + n)).rejSince.getD s.now) })))
    ∧ (∀ lane time two sel el fr t1 t2 t3 u, lane < 128 → fr < 16 → ptpOn s = true → ptpLane s lane = true →
      lane = s.get F.TB_PTP_CFG_slave_lane → s.tb.master = true → s.tb.exch = ⟨some t1, some t2, some t3⟩ →
      off = ptpOffset t1 time t2 t3 → u = setExch s ⟨none, none, none⟩ →
      (∀ t0, s.tb.ptp.rejSince = some t0 → s.now < t0 + 983040000) →
        exec (.ptpMessageRx lane 2 (s.get F.TB_PTP_CFG_domain) two time ⟨sel, el, fr⟩) s = .next (settle (setRef
          (raise (((u.bump F.TB_STEP_REJ_CNT_count 1).set F.TB_STATUS_step_pending 1).set
            F.TB_STEP_PENDING_offset_ns (satInt 32 (phaseNs off))) 969 4 4 (satInt 32 (phaseNs off)))
          1 { s.tb.ptp with run := 0, offs := [], rejSince := some (s.tb.ptp.rejSince.getD s.now) })))
    ∧ (∀ c r t0, s.evRoom 4 → s.qual (r - 1) = true → (s.tb.ref r).rejSince = some t0 →
      ((∃ n, n < 2 ∧ r = 2 + n ∧ c = Instr.ppsEdge n off ∧ t0 + 2 * 983040000 ≤ s.now)
        ∨ (∃ time two sel el fr t1 t2 t3, r = 1 ∧ fr < 16 ∧ ptpOn s = true ∧ s.get F.TB_PTP_CFG_slave_lane < 128 ∧
          ptpLane s (s.get F.TB_PTP_CFG_slave_lane) = true ∧ s.tb.master = true ∧ t0 + 983040000 ≤ s.now ∧
          s.tb.exch = ⟨some t1, some t2, some t3⟩ ∧ off = ptpOffset t1 time t2 t3 ∧
          c = .ptpMessageRx (s.get F.TB_PTP_CFG_slave_lane) 2 (s.get F.TB_PTP_CFG_domain) two time ⟨sel, el, fr⟩)) →
      ∃ t, exec c s = .next t ∧ t.qual (r - 1) = false ∧ t.fp = s.fp % fpSpan ∧ t.flag F.TB_STATUS_step_pending = true ∧
        t.get F.TB_STEP_PENDING_offset_ns = satInt 32 (phaseNs off) % 2 ^ 32 ∧
        reports s t (968 + r) 4 4 (satInt 32 (phaseNs off)) ∧ reports s t (968 + r) 3 4 2 ∧
        (s.get F.TB_STATUS_state = 2 → s.get F.TB_STATUS_phase_ref = r →
          (∀ q ∈ prioList s, 1 ≤ q → q ≤ 3 → q ≠ r → s.qual (q - 1) = false) →
          t.get F.TB_STATUS_state = (if holdoverPossible s then 3 else 0) ∧ t.get F.TB_STATUS_phase_ref = 0))

/-- With fp_valid 1: the lock time takes ACQUIRING to LOCKED, the loss timeout takes LOCKED to ACQUIRING, the loss
of the only time reference takes LOCKED to HOLDOVER when holdover is possible, and a bound above te_limit takes
HOLDOVER to FREE on a device that does not declare a twin fault on FREE; each raises TB_STATE. -/
def Obligations.TimeBaseTransitions : Prop :=
  ∀ s : State, s.flag F.TB_STATUS_fp_valid = true → s.fh.poisoned = [] → s.tb.tLast.isSome = true →
    (∀ d t, d ≤ 1 → s.tb.lockSince = some t → s.get F.TB_STATUS_state = 1 → s.get F.TB_STATUS_phase_ref ≠ 0 →
      phaseBeyond s 1 = false → (s.model (s.get F.TB_STATUS_tref_active)).unchecked = false →
      exec (.lockTimeExpiry d) s
        = .next (settle (setTb (s.atNow (t + s.get F.TB_LOCK_CFG_lock_time_s * 983040000)) 2)))
    ∧ (∀ t, s.tb.offSince = some t → s.get F.TB_STATUS_state = 2 → phaseBeyond s 4 = true →
      exec .lockLossTimeout s = .next (settle (setTb (s.atNow (t + 10 * 983040000)) 1)))
    ∧ (∀ n, n = 1 ∨ n = 2 → s.get F.TB_STATUS_state ≠ n →
      setTb s n = raise (markDirty ({ s with
        tb := { s.tb with lockSince := none, offSince := none }
        clk := { s.clk with mons := s.clk.mons.map (fun (x : Nat × MonRun) => (x.1, { x.2 with ref := 0 })) } }.set
          F.TB_STATUS_state n) (tbLine 0)) 968 1 3 (n + s.get F.TB_STATUS_state * 4))
    ∧ (s.get F.TB_STATUS_state = 2 → s.qual 0 = true → s.get F.TB_STATUS_phase_ref = 1 →
      (∀ r ∈ prioList s, r = 2 ∨ r = 3 → s.qual (r - 1) = false) → holdoverPossible s = true → s.evRoom 2 →
      ∃ t, exec .ptpSyncTimeout s = .next t ∧ t.get F.TB_STATUS_state = 3 ∧
        t.get F.TB_STATUS_phase_ref = 0 ∧ t.get F.TB_HOLD_TIME_seconds = 0 ∧
        reports s t 969 3 4 1 ∧ reports s t 968 1 5 (3 + 2 * 4))
    ∧ (s.get F.TB_STATUS_state = 3 → s.flag F.TW_CFG_fault_on_free = false →
      s.get F.TB_HOLD_CFG_te_limit_ns
        < satNat 32 (teEst (s.bump F.TB_HOLD_TIME_seconds 1) (s.get F.TB_HOLD_TIME_seconds + 1)) →
      s.get F.TB_HOLD_TIME_seconds + 1 < 2 ^ 32 → s.evRoom 2 →
      ∃ t, exec .teEstEval s = .next t ∧ t.get F.TB_STATUS_state = 0 ∧ t.flag F.TB_STATUS_fp_valid = true ∧
        t.get F.TB_HOLD_TIME_seconds = s.get F.TB_HOLD_TIME_seconds + 1 ∧
        reports s t 968 8 5 (t.get F.TB_TE_EST_te_est_ns) ∧ reports s t 968 1 5 (0 + 3 * 4))

/-- Each second with a time reference in use adds its mean correction, with its tick, to the samples; below te_limit
the bound is only stored; the wait-to-restore expiry of a qualified time reference of higher priority than the
one in use puts it in use, that of synchronous Ethernet lets it set the frequency, and that of the PLL takes its
best input; accepting a pending step marks it; and a step of zero or negative Δ applies at the next frame
boundary, clears step_pending, ends a PTP exchange under way and takes ACQUIRING or FREE; one of positive Δ does
the same and fires what it passes. Derived: the number of samples kept and the rounding of the bound are the
model's (log entry 13). -/
def Obligations.HoldoverSeconds : Prop :=
  ∀ s : State,
    (∀ mean, s.get F.TB_STATUS_phase_ref ≠ 0 →
      exec (.loopSecondSample mean) s
        = .next (settle { s with tb := { s.tb with samples := ((s.now, mean) :: s.tb.samples).take 3700 } }))
    ∧ (s.get F.TB_STATUS_state = 3 →
      satNat 32 (teEst (s.bump F.TB_HOLD_TIME_seconds 1) ((s.bump F.TB_HOLD_TIME_seconds 1).get F.TB_HOLD_TIME_seconds))
        ≤ s.get F.TB_HOLD_CFG_te_limit_ns →
      exec .teEstEval s = .next (settle ((s.bump F.TB_HOLD_TIME_seconds 1).set F.TB_TE_EST_te_est_ns
        (satNat 32 (teEst (s.bump F.TB_HOLD_TIME_seconds 1)
          ((s.bump F.TB_HOLD_TIME_seconds 1).get F.TB_HOLD_TIME_seconds))))))
    ∧ (∀ r, s.get F.TB_STATUS_phase_ref ≠ 0 →
      r ∈ (timeRefs s).takeWhile (· ≠ s.get F.TB_STATUS_phase_ref) →
      exec (.waitToRestoreExpiry r) s = .next (settle (s.set F.TB_STATUS_phase_ref r)))
    ∧ exec (.waitToRestoreExpiry 4) s = .next (settle (syncETake (setFreqSrc s)))
    ∧ exec (.waitToRestoreExpiry 5) s = .next (settle (pllTake s (pllBest s)))
    ∧ (s.flag F.TB_STATUS_step_pending = true →
      exec .stepAccept s = .next (settle { s with tb := { s.tb with stepAccepted := true } }))
    ∧ (s.tb.stepAccepted = true → s.flag F.TB_STATUS_step_pending = true →
      nsToTk (toInt 32 (s.get F.TB_STEP_PENDING_offset_ns)) ≤ 0 →
      exec .stepApply s = .next (settle (setTb (raise
        ({ s.atFp (nextMult s.fp 0 frameTk) with
            fp := fpShift (nextMult s.fp 0 frameTk) (nsToTk (toInt 32 (s.get F.TB_STEP_PENDING_offset_ns)))
            tb := { s.tb with stepAccepted := false, exch := ⟨none, none, none⟩ } }.set F.TB_STATUS_step_pending 0) 968 5 5
          (ofInt 32 (nsToTk (toInt 32 (s.get F.TB_STEP_PENDING_offset_ns)))))
        (if s.get F.TB_STATUS_phase_ref ≠ 0 then 1 else 0))))
    ∧ (∀ n d u, s.tb.stepAccepted = true → s.flag F.TB_STATUS_step_pending = true → n = nextMult s.fp 0 frameTk →
      d = nsToTk (toInt 32 (s.get F.TB_STEP_PENDING_offset_ns)) → 0 < d →
      u = setTb (raise ({ s.atFp n with
            fp := fpShift n d
            tb := { s.tb with stepAccepted := false, exch := ⟨none, none, none⟩ } }.set F.TB_STATUS_step_pending 0)
          968 5 5 (ofInt 32 d)) (if s.get F.TB_STATUS_phase_ref ≠ 0 then 1 else 0) →
      exec .stepApply s = .next (settle (fhStep
        (((stepLate u (fpShift n (-1))).tb.trgs.map Prod.fst).foldl trgSkip (stepLate u (fpShift n (-1)))) n)))

/-- While LOCKED with a valid BTEMP a sample joins its 1 °C bin and 10 s are learned; a refit fits the order the
span allows and closes its words with their CRC; the fourth good reading makes BTEMP valid; a snapshot is
enqueued, outside the ledger window in place of an older one that waits and with TB_SNAP_DEFER; export copies
the words to the window, import loads a window with a correct CRC and format in ACQUIRING, discard clears the
model. Derived: a fit's coefficients are free values (log entry 5). -/
def Obligations.OscillatorModel : Prop :=
  ∀ s : State, s.fh.poisoned = [] →
    (s.get F.TB_STATUS_state = 2 → s.flag F.TB_BTEMP_valid = true → s.get F.CLK_TB_STATUS_input ≤ 1 →
      (∀ i m b, i = s.get F.TB_STATUS_tref_active → m = s.model i →
          b = (toInt 16 (s.get F.TB_BTEMP_temp) / 16 + 64).toNat →
        exec .modelSample s = .next (settle (setModel s i { m with
          bins := aset m.bins b (((aget m.bins b).getD (0, 0)).1 + 1,
            ((aget m.bins b).getD (0, 0)).2 + toInt 32 (s.get F.TB_FREQ_CORR_corr))
          secs := m.secs + 10 })))
      ∧ (∀ i m, i = s.get F.TB_STATUS_tref_active → m = s.model i → m.bins ≠ [] → m.valid = true →
        ∃ t, exec .modelRefit s = .next t ∧
          (t.model i).order = modelOrder (m.span.2 - m.span.1) ∧ (t.model i).words.length = 16 ∧
          (t.model i).words.getD 15 0 = crc32c ((t.model i).words.take 15) ∧
          (t.model i).bins = m.bins ∧ (t.model i).valid = true ∧ t.fresh = s.fresh + 8))
    ∧ (∀ r, r < 65536 → s.flag F.TB_BTEMP_CFG_enable = true →
      btempIn (s.get F.TB_BTEMP_CFG_format) r = true →
      s.tb.btGood = 3 → s.get F.TB_STATUS_state ≠ 3 →
      ∃ t, exec (.btempRead (some r)) s = .next t ∧
        t.tb = { s.tb with
          btGood := 4, btBad := 0, tLast := some (btempValue (s.get F.TB_BTEMP_CFG_format) r) } ∧
        t.get F.TB_BTEMP_temp = ofInt 16 (btempValue (s.get F.TB_BTEMP_CFG_format) r) ∧
        t.flag F.TB_BTEMP_valid = true ∧ t.flag F.TB_STATUS_btemp_ok = true ∧
        Frame s t [.tb] [F.TB_BTEMP_temp, F.TB_BTEMP_valid, F.TB_STATUS_btemp_ok])
    ∧ (s.get F.TB_STATUS_state = 2 → (s.model (s.get F.TB_STATUS_tref_active)).valid = true →
      s.flag F.LED_STATUS_full = false →
      exec .modelSnapshot s = .next (settle (if s.flag F.LED_STATUS_window then
          snapEnqueue s (s.model (s.get F.TB_STATUS_tref_active)).words
        else raise (snapEnqueue (snapDrop s) (s.model (s.get F.TB_STATUS_tref_active)).words) 976 0x15 2 0)))
    ∧ (∀ i, i < 2 →
      exec (.modelExport i) s = .next (settle (s.setAll
        ((List.range 16).map (fun k => (F.TB_MODEL_WIN_word k, (s.model i).words.getD k 0))))))
    ∧ (∀ i, i < 2 → (modelWin s).getD 15 0 = crc32c ((modelWin s).take 15) →
      bits ((modelWin s).getD 0 0) 0 8 = 1 → s.get F.TB_STATUS_state = 1 →
      exec (.modelImport i) s = .next (settle (modelGiven s i (modelWin s))))
    ∧ (∀ i, i < 2 → exec (.modelDiscard i) s = .next (settle (setModel s i OscModel.empty)))

/-- A read copies the entry that TB_TRG_INDEX names to the data registers; an accepted commit schedules its effect 8
tk later; the effect copies the data into an entry that waits for no firing, and arms it once fp_valid is 1
where the old entry was disabled; a trigger whose next instance the FP reaches, alone in its tick, moves to its
next instance and fires with its actions, and one with the event action alone raises TB_TRG_FIRE with its own
data; the end of a trigger's first pulse returns the pin it drove to its inactive level, unless another pulse on
that pin is active. -/
def Obligations.Triggers : Prop :=
  ∀ s : State,
    (s.flag F.TB_TRG_STATUS_busy = false →
      exec .trgRead s = .next (settle (s.setAll ((List.range 8).map (fun k =>
        (F.TB_TRG_DATA_data k, (s.trg (s.get F.TB_TRG_INDEX_index)).word k))))))
    ∧ (∀ keep d, d = (List.range 8).map (fun k => s.get (F.TB_TRG_DATA_data k)) →
      s.flag F.TB_TRG_STATUS_busy = false → trgRefusal s (s.get F.TB_TRG_INDEX_index) d = 0 →
      exec (.trgCommit keep) s = .next (settle
        { s.setAll [(F.TB_TRG_STATUS_last_refused, 0), (F.TB_TRG_STATUS_busy, 1)] with
          tb := { s.tb with trgPend := some ⟨s.get F.TB_TRG_INDEX_index, d, keep, fpAdd s.fp 8⟩ } }))
    ∧ (∀ x, s.tb.trgPend = some x → x.keep = false → s.flag F.TB_STATUS_fp_valid = false →
      (s.trg x.index).next = none → s.fh.poisoned = [] →
      exec .trgCommitEffect s = .next (settle (setTrg
        ({ s.atFp x.at' with tb := { s.tb with trgPend := none } }.set F.TB_TRG_STATUS_busy 0)
        x.index ⟨x.data, none⟩)))
    ∧ (∀ x, s.tb.trgPend = some x → x.keep = false → s.flag F.TB_STATUS_fp_valid = true →
      (s.trg x.index).next = none → (s.trg x.index).enable = false → s.fh.poisoned = [] →
      exec .trgCommitEffect s = .next (settle (armTrg (setTrg
        ({ s.atFp x.at' with tb := { s.tb with trgPend := none } }.set F.TB_TRG_STATUS_busy 0)
        x.index ⟨x.data, none⟩) x.index x.at')))
    ∧ (∀ i n e u, i < 4096 → e = s.trg i → e.next = some n → e.enable = true →
      s.flag F.TB_STATUS_fp_valid = true → s.mode ≠ Mode.load → s.mode ≠ Mode.safe → s.fh.poisoned = [] →
      dueAt s n = [i] → s.tb.fired.contains i = false →
      u = { s.atFp n with tb := { s.tb with fired := [], firedN := n } } →
      exec (.triggerFire i) s = .next (settle (fire (trgAdvance u i n) i e n)))
    ∧ (∀ i n e, i < 4096 → e = s.trg i → e.next = some n → e.enable = true → e.actEvent = true →
      e.actPin = false → e.actRelease = false → e.actCommit = false → e.wake = false →
      s.flag F.TB_STATUS_fp_valid = true → s.mode ≠ Mode.load → s.mode ≠ Mode.safe → s.fh.poisoned = [] →
      dueAt s n = [i] → s.tb.fired.contains i = false →
      exec (.triggerFire i) s = .next (settle (raise
        (setTrg { s.atFp n with tb := { s.tb with fired := [], firedN := n } } i
          { e with next := if e.period = 0 then none else some (fpAdd n e.period) })
        977 0x20 e.severity (e.word 5))))
    ∧ (∀ i x u, i < 4096 → firstPulse s.tb.pulses i = some x →
      u = { s.atNow x.till with tb := { s.tb with pulses := s.tb.pulses.filter (fun y => y ≠ (i, x)) } } →
      exec (.triggerPulseEnd i) s = .next (settle
        (if u.tb.pulses.any (fun y => y.2.pin = x.pin) then u
        else { u with pins := { s.pins with uioLevel := aset s.pins.uioLevel x.pin (!x.level) } })))

/-- A capture gives each requester its own TB_FP_HI and a zero fraction. With PPS_OUT enabled, and in FREE only with
free_en, its pulse comes comp_ns before the next FP where (N + o) mod 983,040,000 is 0 and lasts width_us, 0
acting as 1; TOD_OUT names that edge once, 1 ms later, with the clock status; with either disabled the command
changes nothing. Arming SYSREF_OUT marks the outputs of the mask that are in gapped mode, and an armed one
starts gap_count pulses, 0 being 16, at the next frame boundary. -/
def Obligations.TimeOutputs : Prop :=
  ∀ s : State,
    (∀ who, exec (.fpCapture who) s = .next (settle (s.setAll
      [(F.TB_FP_HI_fp_hi.copy (reqNum who), fpPack s.fp / 2 ^ 32), (F.TB_FP_FRAC_frac.copy (reqNum who), 0)])))
    ∧ (∀ c n u, timeQuiet s = false → s.flag F.TB_PPS_CFG_pps_en = true →
      (s.get F.TB_STATUS_state ≠ 0 ∨ s.flag F.TB_PPS_CFG_free_en = true) →
      c = nsToTk (toInt 16 (s.get F.TB_PPS_CFG_comp_ns)) →
      n = nextMult (fpShift s.fp c) (s.get F.TB_EPOCH_TK_o) secTk → u = s.atFp (fpShift n (-c)) →
      (n + s.get F.TB_EPOCH_TK_o) % secTk = 0
      ∧ (∀ d, d < fpGap (fpShift s.fp c) n → (fpAdd (fpShift s.fp c) d + s.get F.TB_EPOCH_TK_o) % secTk ≠ 0)
      ∧ exec .ppsOutPulse s = .next (settle { u with
          tb := { s.tb with
            ppsEdge := some (n, u.now), todDue := true
            ppsUntil := some (u.now + usToTk (max 1 (s.get F.TB_PPS_CFG_width_us))) } }))
    ∧ ((timeQuiet s = true ∨ s.flag F.TB_PPS_CFG_pps_en = false
        ∨ (s.get F.TB_STATUS_state = 0 ∧ s.flag F.TB_PPS_CFG_free_en = false)) →
      exec .ppsOutPulse s = .next (settle s))
    ∧ (∀ n t0, s.tb.ppsEdge = some (n, t0) → s.tb.todDue = true → s.flag F.TB_PPS_CFG_tod_out_en = true →
      timeQuiet s = false →
      exec .todOutSend s = .next (settle { s.atNow (t0 + 983040) with
        tb := { s.tb with todSent := some (fpPack n * 4 + todStatus s), todDue := false } }))
    ∧ ((s.tb.todDue = false ∨ s.flag F.TB_PPS_CFG_tod_out_en = false ∨ timeQuiet s = true) →
      exec .todOutSend s = .next (settle s))
    ∧ (∀ mask, mask < 16 →
      ∃ t, exec (.sysrefArm mask) s = .next t ∧
        (∀ k, k < 4 → (k ∈ t.tb.sysrefArmed ↔
          k ∈ s.tb.sysrefArmed ∨ (mask.testBit k = true ∧ s.get (F.TB_SYSREF_CFG_mode k) = 2))) ∧
        Frame s t [.tb] [])
    ∧ (∀ k u, k < 4 → k ∈ s.tb.sysrefArmed → timeQuiet s = false → u = s.atFp (nextMult s.fp 0 frameTk) →
      exec (.sysrefGappedStart k) s = .next (settle { u with
        tb := { s.tb with
          sysrefArmed := ndel s.tb.sysrefArmed k
          sysrefBurst := aset s.tb.sysrefBurst k (u.fp, if s.get (F.TB_SYSREF_DLY_gap_count k) = 0 then 16
            else s.get (F.TB_SYSREF_DLY_gap_count k)) } }))

/-- With no monitor in CHECKING: a passing coarse gate of a LOST monitor counts; a failing one, or a stop, takes a
QUALIFIED monitor of a lane group's clock to LOST, counts the loss and raises CLK_SRC_LOST with its reason; a
stop of a LOST monitor shows in its stopped bit and clears its counts, one of TICK waits for the PLL's lock, and
none is detected while AON is not qualified; a comparison in which both oscillators stay within half the
tolerance clears their counts; the loss of LOFT or KEEP raises CLK_DERIVED_FAIL and enters SAFE; and the PLL's
loss of lock with an input present clears pll_lock and takes the QUALIFIED TICK to LOST with its effects.
Derived: a clock nothing uses is taken, and the codes at lane sources are those of R99. -/
def Obligations.ClockMonitors : Prop :=
  ∀ s : State, (∀ m, m < 43 → s.get (F.CLK_MON_STATUS_state m) ≠ 1) →
    (∀ m count, m < 43 → count < 2 ^ 32 → monRuns s m = true → s.get (F.CLK_MON_STATUS_state m) = 0 →
      (s.mon m).coarse < 2 →
      gatePass (nomFreq s m) (nomFreq s (if m = 42 then 36 else 42)) count (coarseTol s m) 1000 = true →
      exec (.monitorGateComplete m true count) s
        = .next (settle (setMon (if (fineRef s m).isNone then s.set (F.CLK_MON_COUNT_count m) count else s) m
            { s.mon m with coarse := (s.mon m).coarse + 1 })))
    ∧ (∀ m c reason, 2 ≤ m → m ≤ 33 → s.get (F.CLK_MON_STATUS_state m) = 2 → monRuns s m = true →
      mutualRef s m = none → muxesOf s m = [] → fbFrom s m = false →
      (∀ k, k < 4 → muxMon (116 + k) (muxSrc s (116 + k)) ≠ m) →
      ((reason = 1 ∧ c = Instr.clockStopDetect m ∧ monQual s 42 = true)
        ∨ (reason = 2 ∧ (fineRef s m).isSome = true ∧ ∃ count, count < 2 ^ 32 ∧
          c = .monitorGateComplete m true count ∧
          gatePass (nomFreq s m) (nomFreq s 42) count (coarseTol s m) 1000 = false)) →
      exec c s = .next (settle (raise (State.bump (setMon (s.setAll
          [(F.CLK_MON_STATUS_state m, 0), (F.CLK_MON_STATUS_coarse_only m, 0), (F.CLK_MON_STATUS_disagree m, 0),
            (F.CLK_MON_STATUS_stopped m, ofBool (reason = 1))]) m ⟨0, 0, 0, 0⟩) (F.CLK_MON_LOSS_CNT_losses m) 1)
        (32 * ((m - 2) % 16)) 0x61 4 (m + reason * 256))))
    ∧ (∀ m, m < 42 →
      (monQual s 42 = false ∨ monRuns s m = false → exec (.clockStopDetect m) s = .next (settle s))
      ∧ (monQual s 42 = true → monRuns s m = true → s.get (F.CLK_MON_STATUS_state m) = 0 →
        exec (.clockStopDetect m) s = .next (settle ((setMon s m ⟨0, 0, 0, 0⟩).set (F.CLK_MON_STATUS_stopped m) 1)))
      ∧ (monQual s 42 = true → monRuns s m = true → m = 34 → s.get (F.CLK_MON_STATUS_state m) = 2 →
        exec (.clockStopDetect m) s = .next (settle (s.set (F.CLK_MON_STATUS_stopped m) 1)))
      ∧ (monQual s 42 = true → monRuns s m = true → m ≠ 34 → s.get (F.CLK_MON_STATUS_state m) = 2 →
        exec (.clockStopDetect m) s
          = .next (settle (monSettle (moveLost s m 1 (s.get (F.CLK_MON_COUNT_count m)))))))
    ∧ (∀ c0 c1, s.flag (F.CLK_MON_STATUS_disagree 0) = true → s.flag (F.CLK_MON_STATUS_disagree 1) = true →
      s.get F.TB_STATUS_state = 2 →
      gatePass (nomFreq s 34) (nomFreq s 0) c0 (fineTol s 0) 2000000 = true →
      gatePass (nomFreq s 34) (nomFreq s 1) c1 (fineTol s 1) 2000000 = true →
      exec (.trefCompareGate c0 c1) s
        = .next (settle (setMon (setMon s 0 { s.mon 0 with ref := 0 }) 1 { s.mon 1 with ref := 0 })))
    ∧ (∀ m reason, m = 35 ∨ m = 36 → 1 ≤ reason → reason ≤ 3 → monQual s m = true → mutualRef s m = none →
      muxesOf s m = [] →
      exec (.tickPllFault m reason) s = .next (settle (monSettle (clockSafe (raise (raise (State.bump (setMon (s.setAll
          [(F.CLK_MON_STATUS_state m, 0), (F.CLK_MON_STATUS_coarse_only m, 0), (F.CLK_MON_STATUS_disagree m, 0),
            (F.CLK_MON_STATUS_stopped m, ofBool (reason = 1))]) m ⟨0, 0, 0, 0⟩) (F.CLK_MON_LOSS_CNT_losses m) 1)
        1021 1 4 (m + reason * 256)) 1021 0x0B 7 m)))))
    ∧ (∀ reason, 1 ≤ reason → reason ≤ 3 → monQual s 34 = true → s.get F.CLK_TB_STATUS_input ≠ 3 →
      exec (.tickPllFault 34 reason) s = .next (settle (monSettle
        (moveLost (s.set F.CLK_TB_STATUS_pll_lock 0) 34 reason (s.get (F.CLK_MON_COUNT_count 34))))))

/-- A write of CLK_RC_CFG is refused with CLK_CFG_REFUSED during a switch or with a reserved code, and with
CLK_SRC_UNQUAL where the source is not QUALIFIED; an accepted one sets the three fields and, to another source
while the present one is not LOST, begins a switch; the switch ends with the multiplexer on its new source; the
watchdog forces a switch that has not completed; the release of a forced recovery releases the domain's bins or
lane group, raises CLK_SWITCH_FORCED with the multiplexer and the old source, and CLK_SWITCH_FORCED_CNT counts. -/
def Obligations.ClockSwitching : Prop :=
  ∀ s : State,
    (∀ t i src div fb, t < 32 → i < 3 → src ≤ 20 → div < 7 → fb ≤ 20 ∨ fb = 31 →
      findMove s (3 * t + i) = none → monQual s (muxMon (3 * t + i) src) = true →
      muxSrc s (3 * t + i) ≠ src →
      s.get (F.CLK_MON_STATUS_state (muxMon (3 * t + i) (muxSrc s (3 * t + i)))) ≠ 0 →
      exec (.rcCfgWrite t i src div fb) s
        = .next (settle (rcBit { s.setAll [(F.CLK_RC_CFG_src t i, src), (F.CLK_RC_CFG_div t i, div),
            (F.CLK_RC_CFG_fb_src t i, fb)] with
              clk := { s.clk with moves := s.clk.moves.filter (fun y => y.mux != 3 * t + i)
                ++ [⟨3 * t + i, src, div, muxSrc s (3 * t + i), false⟩] } }
          (3 * t + i) F.CLK_RC_STATUS_switch_busy true)))
    ∧ (∀ t i src div fb x, t < 32 → i < 3 → src < 32 → div < 8 → fb < 32 → findMove s (3 * t + i) = some x →
      exec (.rcCfgWrite t i src div fb) s
        = .next (settle (muxRaise s (3 * t + i) 6 3 (0x704 + 16 * t + 4 * i))))
    ∧ (∀ t i src div fb, t < 32 → i < 3 → src < 32 → div < 8 → fb < 32 → findMove s (3 * t + i) = none →
      ((div = 7 ∨ 20 < src ∨ (20 < fb ∧ fb ≠ 31)) →
        exec (.rcCfgWrite t i src div fb) s
          = .next (settle (muxRaise s (3 * t + i) 6 3 (0x704 + 16 * t + 4 * i))))
      ∧ (div < 7 → src ≤ 20 → (fb ≤ 20 ∨ fb = 31) → monQual s (muxMon (3 * t + i) src) = false →
        exec (.rcCfgWrite t i src div fb) s
          = .next (settle (muxRaise s (3 * t + i) 5 3 (0x704 + 16 * t + 4 * i))))
      ∧ (div < 7 → src ≤ 20 → (fb ≤ 20 ∨ fb = 31) → monQual s (muxMon (3 * t + i) src) = true →
        exec (.rcCfgWrite t i src div fb) s
          = .next (settle (startMove (s.setAll [(F.CLK_RC_CFG_src t i, src), (F.CLK_RC_CFG_div t i, div),
              (F.CLK_RC_CFG_fb_src t i, fb)]) (3 * t + i) src div))))
    ∧ (∀ m x, m < 120 → findMove s m = some x → x.forced = false →
      exec (.muxSwitchComplete m) s = .next (settle (dropMove (setMuxSrc
        { s with clk := { s.clk with divs := aset s.clk.divs m x.div } } m x.src) m)))
    ∧ (∀ m x, m < 120 → findMove s m = some x → x.forced = false → monQual s 42 = true →
      exec (.switchWatchdogExpiry m) s = .next (settle (forceMove s x)))
    ∧ (∀ m x, m < 120 → findMove s m = some x → x.forced = true →
      exec (.switchRecoveryRelease m) s = .next (settle ((muxRaise
        (if m < 96 then (muxBins (dropMove s m) m).foldl binResetEnd (dropMove s m)
          else if 100 ≤ m ∧ m < 116 then lgrpResetEnd (dropMove s m) (m - 100)
          else dropMove s m) m 4 5 (m + x.old * 256)).bump F.CLK_SWITCH_FORCED_CNT_count 1)))

/-- A write of run_en = 0 for a block that admission counts is refused with CLK_GATE_REFUSED; any other write of
CLK_GATE_EN sets the three enables and the gate follows the enable of the present mode; a gate that waits for
its block's bus closes at the bus-idle indication, and after 256 cycles with its accesses terminated,
CLK_GATE_TERM and CLK_GATE_TERM_INFO, which at a Loft group name the oldest queued request's owner; a hatch wire
that both ends drive is disabled and counted. -/
def Obligations.Gates : Prop :=
  ∀ s : State,
    (∀ g run sleep deep, g < 321 → gateCounted s g = false ∨ run = true →
      exec (.gateEnWrite g run sleep deep) s = .next (settle (gateFollow (s.setAll
        [(F.CLK_GATE_EN_run_en g, ofBool run), (F.CLK_GATE_EN_sleep_en g, ofBool sleep),
          (F.CLK_GATE_EN_deep_en g, ofBool deep)]) g)))
    ∧ (∀ g sleep deep, g < 321 → gateCounted s g = true →
      exec (.gateEnWrite g false sleep deep) s = .next (settle (gateRaise s g 9 3 g)))
    ∧ (∀ g, g < 321 → busWaits s g = true → g ≠ 316 ∨ s.loft.dma = [] →
      exec (.gateBusIdle g) s = .next (settle (closeGate s g))
      ∧ (312 ≤ g → closeGate s g
        = { s with clk := { s.clk with closing := ndel s.clk.closing g } }.set (F.CLK_GATE_EN_open g) 0))
    ∧ (∀ g who, g < 321 → who < 1024 → busWaits s g = true →
      (g < 280 ∨ 311 < g ∨ ∃ q, oldestReq (groupReqs s (g - 280)) = some q ∧ who = q.req.owner) →
      ∀ asker, asker < 1024 → (g < 280 ∨ 311 < g → asker = who) →
      exec (.gateCloseTimeout g asker) s = .next (settle (State.bump (State.setAll
        (gateRaise (closeGate (terminateAll s g) g) g 8 4 (g + who * 65536))
        [(F.CLK_GATE_TERM_INFO_gate, g), (F.CLK_GATE_TERM_INFO_requester, who)]) F.CLK_GATE_TERM_CNT_count 1)))
    ∧ (∀ c w, c < 132 → w < 192 → wireOff s c w = false →
      ∃ t, exec (.hatchContention c w) s = .next t ∧ wireOff t c w = true ∧
        t.get (F.FAB_HATCH_CONT_INFO_last_wire c) = w ∧
        t.get (F.FAB_HATCH_CONT_CNT_count c) = satNat 16 (s.get (F.FAB_HATCH_CONT_CNT_count c) + 1) ∧
        Frame s t [.ev, .led, .cfg] (evRegs ++ [F.FAB_HATCH_CONT_disabled c (w / 32),
          F.FAB_HATCH_CONT_INFO_last_wire c, F.FAB_HATCH_CONT_CNT_count c, F.FAB_CONT_CNT_count c]))

/-- In mode MAC from a zero accumulator, any sequence of at most 65,535 pairs of 16-bit complex operands leaves the
exact sum of its products in both components, with the overflow flag clear, whether the accumulator wraps or
clamps on overflow. -/
def Obligations.MacAccumulates : Prop :=
  ∀ (sat conj : Bool) (l : List (Cplx × Cplx)), l.length ≤ 65535 →
    (∀ x ∈ l, x.1.ok = true ∧ x.2.ok = true) →
    macRun sat conj l ⟨⟨0, 0⟩, false⟩
      = ⟨⟨(l.map (fun x => (macProd conj x.1 x.2).re)).sum, (l.map (fun x => (macProd conj x.1 x.2).im)).sum⟩,
        false⟩

/-- A tray write stores the words its mask chooses and keeps the line's others, zero where the line was not valid;
afterwards the line is valid, every other line of every tray reads as before; a read of any line presents, 2 tk
later, the contents it had before the bin's own write of the tick. In a scheduled bin the active slot is used. -/
def Obligations.TrayWriteRead : Prop :=
  ∀ (s : State) (p slot line : Nat), p < 264 → slot < 2 → line < 1024 → s.trays.wf = true →
    s.get (F.BIN_SEQ_STATUS_active_slot p) < 2 → wordOk s p = true →
    binKind s p = Kind.static ∨ (s.bin p).start + 3 ≤ s.now →
    (∀ mask data, mask < 256 → data < 2 ^ 512 → (s.bin p).dmaWrote = none → (portUse s p).wr = false →
      (portUse s p).spawn = false → (portUse s p).event = false →
      ∃ t, exec (.trayWrite p slot line mask data) s = .next t ∧
        readLine t p (wordSlot s p slot) line = mergeWords (readLine s p (wordSlot s p slot) line) data mask ∧
        lineValid t p (wordSlot s p slot) line = true ∧
        (∀ p' k' line', k' < 2 → line' < 1024 → (p', k', line') ≠ (p, wordSlot s p slot, line) →
          readLine t p' k' line' = readLine s p' k' line') ∧
        t.trays.wf = true ∧ Frame s t [.trays, .trayValid, .bins] [])
    ∧ ((portUse s p).rd = false →
      ∃ t, exec (.trayRead p slot line) s = .next t ∧
        (t.bin p).line = lineBefore s p (wordSlot s p slot) line ∧
        lineShown (t.later 2) p = lineBefore s p (wordSlot s p slot) line ∧ Frame s t [.bins] [])

/-- The budget kill falls in item tick C + 1 and leaves the bin in KILL with its slot FREE, its spawn buffer and
item gone, the kill recorded with reason 1, SCH_KILL raised and the item out of the store. A DONE within the
budget with no hatch command outstanding counts the item, leaves the bin IDLE, takes the item out of the store
and leaves its slot FREE for an output length of 0 and DRAINING for any other; with commands outstanding the bin
is in ENDING. -/
def Obligations.ItemEnds : Prop :=
  ∀ (s : State) (p : Nat) (i : Item), p < 264 → runItem s p = some i → i.slot < 2 →
    s.clk.closing.contains p = false → binKind s p = Kind.scheduled → s.seqSt p = Seq.select →
    (s.now ≤ (s.bin p).start + (s.bin p).budget → s.evRoom 1 →
      ∃ t, exec (.budgetKill p) s = .next t ∧ t.now = (s.bin p).start + (s.bin p).budget ∧
        t.seqSt p = Seq.kill ∧ slotSt t p i.slot = 0 ∧ (t.bin p).item = none ∧ (t.bin p).buf = [] ∧
        t.get (F.BIN_KILL_CNT_count p) = satNat 16 (s.get (F.BIN_KILL_CNT_count p) + 1) ∧
        t.get (F.BIN_KILL_INFO_class p) = i.cls % 64 ∧ t.get (F.BIN_KILL_INFO_reason p) = 1 ∧
        t.get (F.BIN_KILL_SEQ_seq p) = i.seq % 2 ^ 32 ∧ findItem t i.id = none ∧
        (∀ line, line < 1024 → readLine t p i.slot line = 0) ∧ (∀ c ∈ (t.bin p).hatch, c.stale = true) ∧
        reports s t (512 + p) 0x20 4 (i.cls + 1 * 256 + i.seq % 65536 * 65536))
    ∧ (∀ tick nj, 4 ≤ tick → itemTick s p ≤ tick → tick ≤ (s.bin p).budget →
        s.now ≤ (s.bin p).start + tick - 1 → hatchOut s p = 0 →
      ∃ t, exec (.itemDone p tick nj) s = .next t ∧ t.now = (s.bin p).start + tick - 1 ∧
        t.seqSt p = Seq.idle ∧ (t.bin p).item = none ∧ findItem t i.id = none ∧
        slotSt t p i.slot = (if i.outLen = 0 then 0 else 4) ∧
        t.get (F.BIN_DONE_CNT_count p) = satNat 32 (s.get (F.BIN_DONE_CNT_count p) + 1) ∧
        ((t.bin p).hand.map (fun h => h.record)) = ((s.bin p).hand.map (fun h => h.record)) ++ (s.bin p).buf)
    ∧ (∀ tick nj, 4 ≤ tick → itemTick s p ≤ tick → tick ≤ (s.bin p).budget → hatchOut s p ≠ 0 →
      exec (.itemDone p tick nj) s = .next (settle
        ((s.atNow ((s.bin p).start + tick - 1)).set (F.BIN_SEQ_STATUS_state p) Seq.ending)))

/-- Context select, at the earliest in the tick after the end of the item before, makes the READY slot ACTIVE and
the item RUN, loads the budget, starts item tick 1 in the kernel of the item's class with its initial values,
and takes the bin out of dispatch where a word of that context awaits repair; a DROP item whose latest start has
passed is dropped instead; ENDING ends once no hatch command is outstanding; a running DROP item whose deadline
passes is killed with reason 3; and the pause timer's expiry ends the pause, in the tick it names. -/
def Obligations.ItemEntry : Prop :=
  ∀ (s : State) (p : Nat), p < 264 →
    (∀ k i u v, k = (if slotSt s p 0 = 2 then 0 else 1) → slotSt s p k = 2 → binKind s p = Kind.scheduled →
      binIdle s p = true → (s.bin p).rst = false → boundItem s p k = some i →
      u = (match (s.bin p).ended with
        | some t => s.atNow (t + 1)
        | none => s) →
      v = askAgain (loadInitial (setSlot (setBin (setItem u { i with st := .run }) p
          { u.bin p with item := some i.id, start := u.now, startFp := u.fp, budget := classC s i.cls, buf := [] })
          p k 3) p (s.get (F.SCH_CLASS_CFG_kernel i.cls))) p →
      ((isDrop u i.cls && fpAfter u.fp (latestStart u i)) = true →
        exec (.contextSelect p) s = .next (settle (countLateDrop (dropItem u i) i)))
      ∧ ((isDrop u i.cls && fpAfter u.fp (latestStart u i)) = false →
        exec (.contextSelect p) s = .next (settle (repairEnter (v.setAll
        [(F.BIN_SEQ_STATUS_state p, 1), (F.BIN_SEQ_STATUS_ctx p, s.get (F.SCH_CLASS_CFG_kernel i.cls)),
          (F.FAB_BIN_STATUS_ctx p, s.get (F.SCH_CLASS_CFG_kernel i.cls)), (F.BIN_SEQ_STATUS_active_slot p, k),
          (F.BIN_ITEM_CLASS_class p, i.cls), (F.BIN_ITEM_CLASS_spawns p, 0), (F.BIN_ITEM_SEQ_seq p, i.seq),
          (F.BIN_ITEM_START_LO_fp_lo p, fpPack u.fp), (F.BIN_ITEM_START_HI_fp_hi p, fpPack u.fp / 2 ^ 32)])
          p (s.get (F.SCH_CLASS_CFG_kernel i.cls))))))
    ∧ (∀ i nj, runItem s p = some i → s.seqSt p = Seq.ending → hatchOut s p = 0 →
      itemTick s p ≤ (s.bin p).budget →
      exec (.itemEndingComplete p nj) s = .next (settle (endTick s p i nj)))
    ∧ (∀ i, findItem s i.id = some i → isDrop s i.cls = true → i.st = .run →
      exec (.deadlinePass i.id) s = .next (settle
        (countLateDrop (killItem (s.atFp (fpAdd i.deadline 1)) i.bin i 3) i)))
    ∧ (∀ at', (s.bin p).pause = some at' →
      exec (.pauseTimerExpiry p) s = .next (settle (setBin (s.atNow at') p { s.bin p with pause := none })))

/-- In a word that is the first of its kind in its tick an accepted spawn record enters the buffer; an event 64 tk
or more after the last is forwarded with code 0x80 OR ev_code and its severity capped; a static select of a
loaded context takes it and is counted, with ctx_init it marks the load of the initial values, and a word of the
context that awaits repair holds the bin; a hatch command is issued and counts as outstanding while fewer than
eight are. With the oldest command a read, its next beat returns with its tag, its data, or zero data and the
error bit, and is discarded when the command's generation is old or the gate is closed; the next beat of the
oldest write is accepted 2 tk after its tick at the earliest and with credit, a tick later where the buffer is
full. A write keeps for the reads issued before it, of the same beat, what the Loft answers before it acts. -/
def Obligations.BinPort : Prop :=
  ∀ (s : State) (p : Nat), p < 264 →
    (∀ v use, wordOk s p = true → v = atWord s p → use = portUse v p →
      (∀ r i x, r < 2 ^ 256 → binKind s p = Kind.scheduled → runItem s p = some i → use.spawn = false →
        use.wr = false → (s.bin p).buf.length < s.get (F.SCH_CLASS_CFG_max_succ i.cls) →
        x = setBin v p { v.bin p with use := some { use with spawn := true } } →
        exec (.spawn p r) s = .next (settle ((setBin x p { x.bin p with buf := (s.bin p).buf ++ [r] }).set
          (F.BIN_ITEM_CLASS_spawns p) ((s.bin p).buf.length + 1))))
      ∧ (∀ code sev data x, code < 128 → sev < 8 → data < 2 ^ 32 →
        (s.bin p).evLast.all (fun t => t + 64 ≤ v.now) = true → use.event = false →
        use.wr = false → x = setBin v p { v.bin p with use := some { use with event := true } } →
        exec (.userEvent p code sev data) s = .next (settle (raise (setBin x p { x.bin p with evLast := some x.now })
          (512 + p) (128 + code) (min sev (s.get (F.BIN_CTX_CFG_ev_sev_max p))) data)))
      ∧ (∀ ctx init x, ctx < 8 → binKind s p = Kind.static → use.sel = false →
        (s.get (F.BIN_CTX_CFG_ctx_loaded p)).testBit ctx = true → (s.bin p).initAt = none →
        x = setBin v p { v.bin p with use := some { use with sel := true } } →
        exec (.contextSelectStatic p ctx init) s = .next (settle (repairEnter (State.bump (State.setAll
          (setBin x p { x.bin p with
            was := some (x.now, s.get (F.BIN_SEQ_STATUS_ctx p)), initAt := if init then some x.now else none })
          [(F.BIN_SEQ_STATUS_ctx p, ctx), (F.FAB_BIN_STATUS_ctx p, ctx)]) (F.BIN_CTX_SEL_CNT_count p) 1) p ctx)))
      ∧ (∀ beat m tag x, beat < 2 ^ 24 → m < 16 → tag < 64 → hatchOut s p < 8 → (s.bin p).wrEnd ≤ v.now →
        use.hatch = false → x = setBin v p { v.bin p with use := some { use with hatch := true } } →
        exec (.hatchRead p beat m tag) s = .next (settle (setHatch
          (passPut x p .request true (hatchWord false beat m tag)) p
          ((s.bin p).hatch ++ [⟨false, beat, m + 1, tag, 0, false, [], x.now, false, []⟩]))))
      ∧ (∀ beat m tag d x, beat < 2 ^ 24 → m < 16 → tag < 64 → d.length = m + 1 → (∀ y ∈ d, y < 2 ^ 256) →
        hatchOut s p < 8 → (s.bin p).wrEnd ≤ v.now → use.hatch = false →
        x = setBin v p { v.bin p with use := some { use with hatch := true } } →
        exec (.hatchWrite p beat m tag d) s = .next (settle (setHatch
          (setBin x p { x.bin p with wrEnd := if m = 0 then 0 else x.now + m + 1 }) p
          ((s.bin p).hatch ++ [⟨true, beat, m + 1, tag, 0, false, d, x.now, (s.bin p).fab.sink 102 % 4 = 3, []⟩])))))
    ∧ (∀ c rest r x, (s.bin p).hatch = c :: rest → c.wr = false →
      (s.bin p).rdBeat.any (fun b => b.at' = s.now) = false →
      r = (match aget c.got (c.beat + c.done) with
        | some y => ((⟨y.1, y.2⟩ : BeatRead), s)
        | none => readBeat s (binOwner s p) (c.beat + c.done)) →
      x = passPut (setHatch r.2 p (hatchStep (fun y => !y.wr) (r.2.bin p).hatch)) p .response false r.1.data →
      ((c.stale = true ∨ x.flag (F.CLK_GATE_EN_open p) = false) → exec (.hatchReadBeat p) s = .next (settle x))
      ∧ (c.stale = false → x.flag (F.CLK_GATE_EN_open p) = true →
        exec (.hatchReadBeat p) s = .next (settle (setBin x p { x.bin p with
          rdBeat := some ⟨x.now, if r.1.status = 0 then r.1.data else 0, c.tag, decide (r.1.status ≠ 0),
            decide (c.done + 1 = c.beats)⟩ }))))
    ∧ (∀ c v u y r, (s.bin p).hatch.find? (fun x => x.wr) = some c → v = s.atNow (c.at' + c.done + 2) →
      u = (if passCredit v p = 0 then v.later 1 else v) →
      y = readsKeep (passPut u p .request true (c.data.getD c.done 0)) p (c.beat + c.done) →
      r = (writeBeat y (binOwner y p) (c.beat + c.done) (c.data.getD c.done 0)).2 →
      exec (.hatchWriteAccept p) s = .next (settle (setHatch r p (hatchStep (fun y => y.wr) (r.bin p).hatch))))

/-- A started decision names an eligible item that its bin may take, a bin and slot that may request, and takes a
best-effort or excess item only when no conforming deadline item is there for that bin. A pool starts one
decision in a tick: a second starts in the tick after it. Where a request can be served, the decision starts. -/
def Obligations.DecisionOrder : Prop :=
  ∀ (s : State) (pool : Nat) (u : State), pool < 32 →
    u = (if s.sch.decisions.any (fun d => d.at' = s.now && poolOf s d.bin = pool) = true then s.later 1 else s) →
    (∀ t, exec (.decisionStart pool) s = .next t → t = settle u ∨
      ∃ p k i, t.sch.decisions = s.sch.decisions ++ [⟨u.now, p, k, i.id⟩] ∧ mayRequest u p k = true ∧
        i ∈ takable u p pool ∧ eligible u i = true ∧
        (∀ y ∈ takable u p pool, conforming u y = true → conforming u i = true))
    ∧ (∀ p k i, firstRequest u pool ((poolRequests u pool).foldl (fun l r => reqInsert r l) []) = some (p, k, i) →
      exec (.decisionStart pool) s = .next (settle { u with sch := { u.sch with
        decisions := u.sch.decisions ++ [⟨u.now, p, k, i.id⟩] } }))

/-- The fourth tick of a decision binds its item when its HOLD entries can be reserved, and else counts and moves on
to the next candidate; a fill beat that returns is stored in the slot, or drops the item when it fails, and the
last one leaves the slot READY, or FREE when the item is gone; a drain beat leaves the slot for the Loft, and
the last one leaves it FREE; once the Loft has acknowledged a drain its successors become WAITING, or are
discarded and counted when a beat met an error; a spawn record is handed on, in its tick, through the checks of
R176, an accepted one entering the store, in HOLD while its parent drains, and in STANDBY or in a handoff it is
discarded; the passing of LS drops a DROP item that has not started. Derived: what a failed fill still reads,
and that a spawn leaves the sequence window, are the model's (log entries 139 and 143). -/
def Obligations.BindFillDrain : Prop :=
  ∀ (s : State) (p slot : Nat), p < 264 → slot < 2 →
    (∀ d i h, s.sch.decisions.find? (fun d => d.bin = p && d.slot = slot) = some d → mayRequest s p slot = true →
      findItem s d.item = some i → i.st = .waiting → reserveHold s i.cls = some h →
      exec (.decisionBind p slot) s = .next (settle (bindItem { s.atNow (d.at' + 3) with sch := { s.sch with
        decisions := s.sch.decisions.filter (fun x => !(x.bin = p && x.slot = slot)) } } p slot i h)))
    ∧ (∀ d i v, s.sch.decisions.find? (fun d => d.bin = p && d.slot = slot) = some d → mayRequest s p slot = true →
      findItem s d.item = some i → i.st = .waiting → reserveHold s i.cls = none →
      v = { s.atNow (d.at' + 3) with sch := { s.sch with
        decisions := s.sch.decisions.filter (fun x => !(x.bin = p && x.slot = slot)) } } →
      exec (.decisionBind p slot) s = .next (settle (tryBind p slot (takable v p (poolOf s p)).length
        ((takable v p (poolOf s p)).filter (fun x => x.id != i.id))
        (countRaise v (F.SCH_CLASS_REISSUE_CNT_spawn_wait i.cls) 1020 0x0E 3 i.cls))))
    ∧ (∀ f r y x g rest, findFill s p slot = some f → r = readBeat s f.owner (f.beat + f.done) →
      y = (if f.gone then r.2 else if r.1.status = 0 then storeBeat r.2 p slot f.done r.1.data
        else fillFail r.2 f (r.1.status = 2)) →
      x = passPut y p .response false r.1.data →
      g = { f with done := f.done + 1, gone := f.gone || r.1.status != 0 } →
      rest = x.sch.fills.filter (fun z => !(z.bin = p && z.slot = slot)) →
      (f.done + 1 < f.total → exec (.fillBeat p slot) s = .next (settle (setFills x (rest ++ [g]))))
      ∧ (f.total ≤ f.done + 1 → exec (.fillBeat p slot) s = .next (settle
        (if g.gone then slotFree (setFills x rest) p slot else setSlot (setFills x rest) p slot 2))))
    ∧ (∀ d v r u, s.sch.drains.find? (fun d => d.bin = p && d.slot = slot && d.sent < d.total) = some d →
      v = trayBeat s p slot d.sent → r = writeBeat s d.owner (d.beat + d.sent) v →
      u = passPut r.2 p .request true v →
      ∀ w, w = { u with sch := { u.sch with
        drains := u.sch.drains.map (fun x => if x.item = d.item then
          { d with sent := d.sent + 1, err := d.err || !r.1 } else x) } } →
      exec (.drainBeat p slot) s = .next (settle (if d.sent + 1 = d.total then slotFree w p slot else w)))
    ∧ (∀ d w, sentDrain s p slot = some d →
      w = { s with sch := { s.sch with drains := s.sch.drains.filter (fun x => x.item != d.item) } } →
      (d.err = false → d.total ≠ 0 →
        exec (.drainAckComplete p slot) s = .next (settle (egressArm (setItems w
          (s.sch.items.map (fun i => if i.parent = some d.item then { i with parent := none, st := .waiting } else i)))
          (d.beat / 2))))
      ∧ (d.err = true →
        exec (.drainAckComplete p slot) s = .next (settle (countRaise
          (setItems w (s.sch.items.filter (fun i => i.parent != some d.item)))
          (F.SCH_CLASS_FAIL_CNT_output_err d.cls) 1020 0x0D 4 (d.cls + d.bin * 64 + d.seq % 65536 * 65536)))))
    ∧ (∀ h rest v, (s.bin p).hand = h :: rest → s.mode = Mode.standby ∨ s.twin.handoff = true → v = s.atNow h.at' →
      exec (.spawnHandOn p) s = .next (settle (setBin v p { v.bin p with hand := rest })))
    ∧ (∀ h rest c v r, (s.bin p).hand = h :: rest → s.mode ≠ Mode.standby → s.twin.handoff = false → c = spawnCreation h.record h.release →
      v = s.atNow h.at' → r = drawSeq (setBin v p { v.bin p with hand := rest }) c.cls → classShed r.2 c.cls = false →
      ((createChecks r.2 c).1 ≠ 0 → exec (.spawnHandOn p) s = .next (settle (createChecks r.2 c).2))
      ∧ ((createChecks r.2 c).1 = 0 →
        ∀ hold x, hold = (h.drains && r.2.sch.drains.any (fun d => d.item = h.parent)) →
        x = newItem r.2 c r.1 (!polices r.2 c.cls c.release) h.entry (if hold then .hold else .waiting)
          (if hold then some h.parent else none) →
        exec (.spawnHandOn p) s = .next (settle (itemWake (acceptItem r.2 x) x))))
    ∧ (∀ i, findItem s i.id = some i → isDrop s i.cls = true → i.st = .waiting ∨ i.st = .bound →
      exec (.lateDropLs i.id) s = .next (settle
        (countLateDrop (dropItem (s.atFp (fpAdd (latestStart s i) 1)) i) i)))

/-- After a sequence number is accepted, the window judges the same number a duplicate, for every state of the
window; a number inside the window that was not yet seen is accepted; and a creation with a duplicate number is
discarded with SCH_DUP. -/
def Obligations.SequenceWindow : Prop :=
  ∀ (s : State) (k q : Nat), k < 64 → q < 2 ^ 32 →
    winJudge (winAccept s k q) k q = .dup
    ∧ (∀ d, s.flag (F.SCH_CLASS_STATE_win_empty k) = false → d < 1024 → (winMap s k).testBit d = false →
      winJudge s k ((s.get (F.SCH_CLASS_WIN_TOP_h k) + 2 ^ 32 - d) % 2 ^ 32) = .accept)
    ∧ (∀ d, s.flag (F.SCH_CLASS_STATE_win_empty k) = false → 1024 ≤ d → d < 2 ^ 31 →
      winJudge s k ((s.get (F.SCH_CLASS_WIN_TOP_h k) + 2 ^ 32 - d) % 2 ^ 32) = .old)
    ∧ (∀ c, c.cls = k → c.seq = some q → s.mode ≠ Mode.standby → s.twin.handoff = false →
      classShed s k = false → (createChecks s c).1 = 0 → winJudge s k q = .dup →
      itemCreate s c = (5, countRaise s (F.SCH_CLASS_DUP_CNT_dup k) 1020 1 2
        (k + c.origin * 256 + q % 65536 * 65536)))

/-- A go by the keeper, out of reset, or by the register port, running and with the right to write, presents the
descriptor of its own registers with origin 3 or 4, the present FP and its own sequence or, with auto_seq, the
class counter's, and its status takes the result of the creation; one written while busy is ignored; the
management port has no copy and its go changes nothing. A creation is judged by the checks of R164 in their
order: an undefined class or an origin outside its mask gives 2, a length 3, an address 4, a duplicate 5, an old
number 6, a full store 7; a discarded one leaves the items, the windows and the policing as they were; an
accepted one enters the store and the window with result 0, or 1 as excess, which is not policed. In STANDBY
every creation gives 2 and changes nothing. Derived: a creation of a shed class is discarded with result 2 (log
entry 57). -/
def Obligations.Submission : Prop :=
  ∀ s : State,
    (∀ who auto c, who ≠ .mgmt → mayAsk s who F.SCH_SUBMIT_CMD_go.addr 2 = true →
      s.flag (F.SCH_SUBMIT_STATUS_busy.copy (reqNum who)) = false →
      c = Creation.mk (bits (subWord s (reqNum who) 3) 0 6) (if who = .keeper then 3 else 4)
        (if auto then none else some (subWord s (reqNum who) 2)) s.fp (bits (subWord s (reqNum who) 3) 10 11)
        (bits (subWord s (reqNum who) 3) 21 11) (bits (subWord s (reqNum who) 4) 0 23)
        (bits (subWord s (reqNum who) 5) 0 23) (subWord s (reqNum who) 6 + subWord s (reqNum who) 7 * 2 ^ 32) →
      exec (.submitGo who auto) s = .next (settle ((itemCreate s c).2.set
        (F.SCH_SUBMIT_STATUS_result.copy (reqNum who)) (itemCreate s c).1)))
    ∧ (∀ who auto, who ≠ .mgmt → mayAsk s who F.SCH_SUBMIT_CMD_go.addr 2 = true →
      s.flag (F.SCH_SUBMIT_STATUS_busy.copy (reqNum who)) = true →
      exec (.submitGo who auto) s = .next (settle s))
    ∧ (∀ auto, exec (.submitGo .mgmt auto) s = .next (settle s))
    ∧ (∀ auto, keeperUp s = false → exec (.submitGo .keeper auto) s = .next (settle s))
    ∧ (∀ c, s.mode = Mode.standby → itemCreate s c = (2, s))
    ∧ (∀ c q u, s.mode ≠ Mode.standby → s.twin.handoff = false →
      (q, u) = (match c.seq with
        | some x => (x % 2 ^ 32, s)
        | none => drawSeq s c.cls) →
      (classShed u c.cls = true → itemCreate s c = (2, u.bump (F.THM_SHED_CNT_count c.cls) 1))
      ∧ (classShed u c.cls = false →
        (itemCreate s c).1 = (if u.flag (F.SCH_CLASS_CFG_defined c.cls) = false ∨ originOk u c.cls c.origin = false then 2
          else if 1024 < c.inLen ∨ 1024 < c.outLen ∨ u.get (F.SCH_CLASS_INPUT_in_units c.cls) < c.inLen then 3
          else if 2 ^ 23 < c.inAddr + c.inLen ∨ 2 ^ 23 < c.outAddr + c.outLen then 4
          else if winJudge u c.cls q = .dup then 5
          else if winJudge u c.cls q = .old then 6
          else if takeEntry u c.cls (!polices u c.cls c.release) = none then 7
          else if polices u c.cls c.release = true then 0 else 1)
        ∧ (2 ≤ (itemCreate s c).1 → (itemCreate s c).2.sch.items = s.sch.items ∧
          (itemCreate s c).2.sch.win = s.sch.win ∧ (itemCreate s c).2.sch.police = s.sch.police)
        ∧ (∀ e x, (createChecks u c).1 = 0 → winJudge u c.cls q = .accept →
          takeEntry u c.cls (!polices u c.cls c.release) = some e →
          x = newItem u c q (!polices u c.cls c.release) e .waiting none →
          (itemCreate s c).2 = itemWake (winAccept (acceptItem u x) c.cls q) x)))

/-- Test 4 (refusal code 8) counts the spare physical bins that are neither retired nor in use for another. It fails
exactly when a pool marked n_plus_1 has fewer than 2 usable bins that a run counts, with reason 1, or when the
free spares are fewer than the pools so marked, with reason 2, and reason 1 is reported where both hold; with
the eight spare places of a device that has no retired bin, it fails when more than 8 pools are marked. R193 is
stated whole. If the density test passes for some classes of single-item density at most 1 on m bins, it passes
for any of them on any number of bins from m on; that clause rests on R195 and R202. -/
def Obligations.DensityKeeps : Prop :=
  (∀ (s : State) (owner : Nat → Nat) (marked : List Nat) (free : Nat),
    marked = (List.range 32).filter (fun p => s.flag (F.SCH_POOL_CFG_defined p) && s.flag (F.SCH_POOL_CFG_n_plus_1 p)) →
    free = ((List.range 264).filter (fun p => s.get (F.FAB_BIN_STATUS_kind p) = Kind.spare
      && !s.flag (F.FAB_BIN_STATUS_retired p))).length →
    ((∃ f ∈ admFails s owner, f.code = 8) ↔ ((∃ p ∈ marked, runCount s p < 2) ∨ free < marked.length))
    ∧ (∀ f ∈ admFails s owner, f.code = 8 →
      f.reason = (if (∃ p ∈ marked, runCount s p < 2) then 1 else 2))
    ∧ ((∀ p, p < 264 → s.get (F.FAB_BIN_STATUS_kind p) = Kind.spare → 128 ≤ p % 132) →
      8 < marked.length → ∃ f ∈ admFails s owner, f.code = 8))
  ∧ (∀ (s : State) (ks js : List Nat) (m n : Nat), js.Sublist ks → m ≤ n → (∀ k ∈ ks, densityU s k ≤ 2 ^ 32) →
    densityOk s ks m = true → densityOk s js n = true)

/-- Below critical, after a sample the level is throttle exactly when T_hot reaches the throttle threshold, or was
at throttle and T_hot is not below it by more than the hysteresis, and so on down to normal; a rise from normal
to throttle raises THM_WARN and THM_THROTTLE, and a fall raises THM_LEVEL_CLEAR. -/
def Obligations.ThermalLevels : Prop :=
  ∀ s : State, s.get F.THM_STATUS_level ≤ 2 → thresh s 1 ≤ thresh s 2 →
    ((levelFollow s).get F.THM_STATUS_level =
      if thresh s 2 ≤ tHot s ∨ s.get F.THM_STATUS_level = 2 ∧ thresh s 2 - hyst s ≤ tHot s then 2
      else if thresh s 1 ≤ tHot s ∨ 1 ≤ s.get F.THM_STATUS_level ∧ thresh s 1 - hyst s ≤ tHot s then 1
      else 0)
    ∧ (s.evRoom 4 → s.get F.THM_STATUS_level = 0 → thresh s 2 ≤ tHot s →
      reports s (levelFollow s) 1018 1 4 (hotData s) ∧ reports s (levelFollow s) 1018 2 5 (hotData s))
    ∧ (s.evRoom 1 → (levelFollow s).get F.THM_STATUS_level < s.get F.THM_STATUS_level →
      reports s (levelFollow s) 1018 5 3 ((levelFollow s).get F.THM_STATUS_level))

/-- A sample completes in every state. Its energies give the stack power; a valid reading of a sensor that has not
failed is corrected by the sensor's offset; the tenth invalid reading in a row fails the sensor; a pair uses the
higher of two valid readings; and a sample above the cap leaves no best-effort or excess item bound. -/
def Obligations.ThermalSample : Prop :=
  ∀ s : State,
    (∀ x : ThermSample, x.readings.length = 160 → x.power.length = 16 →
      ∃ t, exec (.thermalSample x) s = .next t ∧
        t.get F.THM_POWER_p_meas = min (2 ^ 32 - 1) (10 * energySum (x.energy.filter (fun e => isCounter e.1)) 0 501) ∧
        t.thm.life = s.thm.life.set (lifeBand (tHot t)) (s.thm.life.getD (lifeBand (tHot t)) 0 + 1) ∧
        (overCap t = true → ∀ i ∈ t.sch.items, i.st = .bound → conforming t i = true))
    ∧ (∀ n (r : Int), n < 160 → sensorFailed s n = false → -960 ≤ r → r ≤ 2400 →
      (takeReading s n (some r)).get (F.THM_SENSOR_temp n) = satInt 16 (r + toInt 8 (s.get (F.THM_SENSOR_offset n))) ∧
      (takeReading s n (some r)).flag (F.THM_SENSOR_valid n) = true)
    ∧ (∀ n, n < 160 → sensorFailed s n = false → (aget s.thm.invalid n).getD 0 = 9 →
      sensorFailed (takeReading s n none) n = true)
    ∧ (∀ j, j < 80 → sensorValid s (2 * j) = true → sensorValid s (2 * j + 1) = true →
      pairTemp s j = some (max (sensorTemp s (2 * j)) (sensorTemp s (2 * j + 1))))

/-- A trip of the comparator of a valid sensor whose corrected temperature reaches the shutdown threshold forces the
outputs, asserts THERM_N, stops the twin heartbeat, enters SAFE and latches the first record or counts the
further trip; the comparator of a sensor that is not valid, or below the threshold, does nothing. -/
def Obligations.ThermalShutdown : Prop :=
  ∀ (s : State) (n : Nat) (temp : Int), n < 160 → -32768 ≤ temp → temp < 32768 →
    (∀ u, u = temp + toInt 8 (s.get (F.THM_SENSOR_offset n)) →
      (sensorValid s n = true → thresh s 4 ≤ u → ∃ t, exec (.shutdownComparatorTrip n temp) s = .next t ∧
        t.mode = Mode.safe ∧ t.pins.thermN = false ∧ t.pins.outputsSafe = true ∧ t.pins.twHbOut = false ∧
        t.thm.latch = (latchTrip s u (sensorDie n) (sensorRegion n) n 0).thm.latch)
      ∧ (sensorValid s n = false ∨ u < thresh s 4 →
        exec (.shutdownComparatorTrip n temp) s = .next (settle s)))
    ∧ (latchValid s = true → s.thm.latch.length = 4 →
      ((latchTrip s temp (sensorDie n) (sensorRegion n) n 0).thm.latch.take 3 = s.thm.latch.take 3 ∧
        (latchTrip s temp (sensorDie n) (sensorRegion n) n 0).thm.latch.getD 3 0 % 256
          = min 255 (s.thm.latch.getD 3 0 % 256 + 1)))

/-- At the critical level, while the thermal or the power cause persists and no restoring has begun, the next entry
of the list is shed, a shed interval after the last step of this kind; otherwise none is. Once the restore
condition has held, the last shed entry is restored, and with the last of them the critical level is left. A
pool that is not covered has its next entry shed, timed by the coverage steps, and a covered or undefined pool
none; the last entry shed for coverage is restored only when the density test passes with its class. A shed
class discards creations without judging them, and an entry with both causes stays shed after the thermal one
releases it. -/
def Obligations.Shedding : Prop :=
  ∀ s : State,
    (∀ u, s.get F.THM_STATUS_level = 3 → u = stepDue s s.thm.stepAt →
      (∀ i, s.thm.restoring = false → (s.flag F.THM_STATUS_deg_thm = true ∧ s.thm.shedAt - 16 < tHot s ∨
          s.flag F.THM_STATUS_deg_cap = true ∧ overCap s = true) →
        (shedList s).find? (fun j => !s.shedThm.contains j) = some i →
        exec .shedStep s = .next (settle (shedEntry { u with
          thm := { u.thm with shedAt := tHot s, stepAt := some u.now } } i false)))
      ∧ (s.thm.restoring = true ∨ (s.flag F.THM_STATUS_deg_thm = false ∨ tHot s ≤ s.thm.shedAt - 16) ∧
          (s.flag F.THM_STATUS_deg_cap = false ∨ overCap s = false) →
        exec .shedStep s = .next (settle u)))
    ∧ (∀ u v, s.get F.THM_STATUS_level = 3 → 1001 ≤ s.thm.restoreOk →
      u = (if s.thm.restoring = true then stepDue s s.thm.stepAt else s) →
      v = { u with thm := { u.thm with restoring := true, stepAt := some u.now } } →
      (∀ i, s.shedThm.getLast? = some i → exec .restoreStep s = .next (settle
        (if ndel s.shedThm i = [] then leaveCritical (restoreEntry v i false) else restoreEntry v i false)))
      ∧ (s.shedThm = [] → exec .restoreStep s = .next (settle (leaveCritical v))))
    ∧ (∀ p u, p < 32 → u = stepDue s s.thm.stepCov →
      (s.flag (F.SCH_POOL_CFG_defined p) = false ∨ s.flag (F.ADM_POOL_BINS_covered p) = true →
        exec (.coverShedStep p) s = .next (settle s))
      ∧ (∀ i, s.flag (F.SCH_POOL_CFG_defined p) = true → s.flag (F.ADM_POOL_BINS_covered p) = false →
        (shedList s).find? (fun j => entryInPool s j p && !s.shedCov.contains j) = some i →
        exec (.coverShedStep p) s = .next (settle (coverageRecompute (shedCovBit
          (shedEntry { u with thm := { u.thm with stepCov := some u.now } } i true) p) p))))
    ∧ (∀ p i u v, p < 32 → u = stepDue s s.thm.stepCov → v = { s with shedCov := ndel s.shedCov i } →
      (s.shedCov.filter (fun j => entryInPool s j p)).getLast? = some i →
      (densityOk v (coverClasses v p) (usableCount v p) = true →
        exec (.coverRestoreStep p) s = .next (settle (coverageRecompute (shedCovBit
          (restoreEntry { u with thm := { u.thm with stepCov := some u.now } } i true) p) p)))
      ∧ (densityOk v (coverClasses v p) (usableCount v p) = false →
        exec (.coverRestoreStep p) s = .next (settle s)))
    ∧ (∀ i cov, i < 16 → s.get (F.THM_SHE_kind i) = 1 → classShed (shedEntry s i cov) (s.get (F.THM_SHE_id i)) = true)
    ∧ (∀ c q, c.seq = some q → s.mode ≠ Mode.standby → s.twin.handoff = false → classShed s c.cls = true →
      itemCreate s c = (2, s.bump (F.THM_SHED_CNT_count c.cls) 1))
    ∧ (∀ i, i < 16 → s.get (F.THM_SHE_kind i) = 1 → i ∈ s.shedCov →
      classShed (restoreEntry s i false) (s.get (F.THM_SHE_id i)) = true)

/-- A threshold write in order, within the grade and above tj_adm is taken, and any other is refused, one not above
tj_adm with ADM_POWER reason 2; the headroom index of the worked example is 1 at 101.5 °C and 3 at 98.9 °C; a
slow-down episode resends its frame and begins to enforce when the grace ends; recalibration averages over the
queued dies 50 ms after DOZE began, ends 60 ms after, and stores a mean difference of at most 7.9 °C as the
sensor's offset; the life record is raised once per day with the powered hours. A cap in 600 to 1,750 that is
not lower than the present one, or under which the configuration still fits, is set in THM_CAP, ADM_CAP and the
admission table; a cap out of range is refused with ADM_POWER reason 4, and one too low with reason 3, and the
value stays. -/
def Obligations.ThermalCommands : Prop :=
  ∀ s : State,
    (∀ a b c : Int, -128 ≤ a → a ≤ b → b < c → a ≤ Rst.warn → b ≤ Rst.throttle → c ≤ Rst.crit →
      c < toInt 8 (s.get F.THM_THRESH_shut) → (s.adm.given = true → s.adm.tj < c) → c < 128 →
      exec (.threshWrite a b c) s = .next (settle ((runCheck s).setAll
        [(F.THM_THRESH_warn, ofInt 8 a), (F.THM_THRESH_throttle, ofInt 8 b), (F.THM_THRESH_crit, ofInt 8 c)])))
    ∧ (∀ a b c : Int, -128 ≤ a → a < 128 → -128 ≤ b → b < 128 → -128 ≤ c → c < 128 →
      (Rst.warn < a ∨ Rst.throttle < b ∨ Rst.crit < c ∨ b < a ∨ c ≤ b ∨ toInt 8 (s.get F.THM_THRESH_shut) ≤ c) →
      exec (.threshWrite a b c) s = .next (settle (raise s 1018 0x32 3 0x20)))
    ∧ (∀ a b c : Int, -128 ≤ a → a ≤ b → b < c → a ≤ Rst.warn → b ≤ Rst.throttle → c ≤ Rst.crit →
      c < toInt 8 (s.get F.THM_THRESH_shut) → c < 128 → s.adm.given = true → c ≤ s.adm.tj →
      exec (.threshWrite a b c) s = .next (settle (raise (runCheck s) 1019 4 3 (2 * 2 ^ 8 + 2 * 2 ^ 12))))
    ∧ (s.get F.THM_STATUS_level ≤ 1 → s.get F.CFG_STATUS_load_state = 6 → s.get F.THM_THRESH_throttle = 105 → s.get F.THM_HEAD_CFG_step_t = 2 →
      s.get F.THM_HEAD_CFG_step_p = 20 → s.get F.THM_CAP_cap = 1600 → s.get F.THM_POWER_p_meas = 120000000 →
      (tHot s = 1624 → headroom s = 1) ∧ (tHot s = 1582 → headroom s = 3))
    ∧ (s.flag F.THM_STATUS_pfc_on = true →
      exec .pfcRefresh s = .next (settle (pfcSend
        (s.atNow (pfcTick s + usToTk (max 1 (s.get F.THM_PFC_CFG_refresh_us)))) (s.get F.THM_PFC_QUANTA_quanta)))
      ∧ exec .pfcGraceExpiry s = .next (settle ((s.atNow (s.thm.pfcStart
        + usToTk (s.get F.THM_PFC_CFG_grace_us))).set F.THM_STATUS_enforce 1)))
    ∧ (s.mode = Mode.doze →
      exec .recalStart s = .next (settle { s.atNow (s.modes.since + usToTk 50000) with thm := { s.thm with
        averaging := (List.range 4).filter (fun d => (s.get F.THM_RECAL_pending).testBit d), avg := [] } }))
    ∧ (∀ d u, d < 4 → s.mode = Mode.doze → d ∈ s.thm.averaging →
      u = recalDie (s.atNow (s.modes.since + usToTk 60000)) d →
      exec (.recalComplete d) s = .next (settle { u with thm := { u.thm with
        averaging := u.thm.averaging.filter (· != d)
        avg := u.thm.avg.filter (fun x => !(dieSensors d).contains x.1) } }))
    ∧ (∀ n (d : Int) (k : Nat), n < 160 → aget s.thm.avg n = some (d * k, k) → 0 < k → -126 ≤ d → d ≤ 126 →
      recalSensor s n = s.useFree.set (F.THM_SENSOR_offset n) (ofInt 8 d))
    ∧ (∀ u, u = s.atNow (s.thm.lifeAt + dayTk) →
      exec .thmLife s = .next (settle (raiseLed { u with thm := { u.thm with lifeAt := u.now } } false
        ((List.range 5).map (fun b => s.get (F.SPR_LIFE_hours b))) 1018 0x16 5
        (satNat 3 ((u.now - s.thm.lifeAt) / dayTk)))))
    ∧ (∀ cap, cap < 2048 →
      (600 ≤ cap → cap ≤ 1750 → (s.get F.THM_CAP_cap ≤ cap ∨ pTotal s ≤ powerLimit cap) →
        exec (.capWrite cap) s = .next (settle
          { (runCheck s).setAll [(F.THM_CAP_cap, cap), (F.ADM_CAP_cap, cap)] with adm := { s.adm with cap := cap } }))
      ∧ (cap < 600 ∨ 1750 < cap →
        exec (.capWrite cap) s = .next (settle (raise (runCheck s) 1019 4 3 (4 * 2 ^ 8 + 2 * 2 ^ 12))))
      ∧ (600 ≤ cap → cap ≤ 1750 → cap < s.get F.THM_CAP_cap → powerLimit cap < pTotal s →
        exec (.capWrite cap) s = .next (settle (raise (runCheck s) 1019 4 3 (3 * 2 ^ 8 + 2 * 2 ^ 12)))))

/-- Each step of the bring-up moves the lane on as R254 orders them: eq_lock skips the trial, the trial keeps the
candidate of the highest FoM and the lower index between equal ones, a trial in which no candidate opens an eye
is reported and does not end the step, pol_auto = 0 skips the polarity step, a 100G lane takes the lane order,
and a port whose lanes are aligned goes UP, in DORMANT with the wake of R401 where its group is a wake group. A
step that fails, or that exceeds its limit, LANE_ORDER and DESKEW with their port, waits with LN_BRINGUP_FAIL
and starts again at SIG_DETECT; the group PLL's lock moves its waiting lanes on, but for a group that is held or
in reset. -/
def Obligations.LaneBringUp : Prop :=
  ∀ (s : State) (l : Nat), l < 128 →
    (inStep s l 2 = true → s.flag (F.LN_CFG_eq_lock l) = false →
      exec (.signalDetect l) s = .next (settle (laneState s l 3)))
    ∧ (inStep s l 2 = true → s.flag (F.LN_CFG_eq_lock l) = true →
      exec (.signalDetect l) s = .next (settle ((laneState s l 4).set (F.LN_STATUS_cand l) 0)))
    ∧ (∀ eyes foms : List Nat, inStep s l 3 = true → eyes.length ≤ 4 →
      foms = (eyes.take (candCount s l)).map (fomOf s l) → (∃ f ∈ foms, 0 < f) →
      ∃ t, exec (.eqTrialComplete l eyes) s = .next t ∧ t.lane l = 4 ∧
        t.get (F.LN_STATUS_cand l) < foms.length ∧
        t.get (F.LN_STATUS_fom l) = foms.getD (t.get (F.LN_STATUS_cand l)) 0 ∧
        (∀ f ∈ foms, f ≤ t.get (F.LN_STATUS_fom l)) ∧
        (∀ j, j < t.get (F.LN_STATUS_cand l) → foms.getD j 0 < t.get (F.LN_STATUS_fom l)))
    ∧ (∀ eyes foms : List Nat, ∀ v, inStep s l 3 = true → eyes.length ≤ 4 →
      foms = (eyes.take (candCount s l)).map (fomOf s l) → (∀ f ∈ foms, f = 0) →
      v = foms.getD 0 0 + foms.getD 1 0 * 2 ^ 8 + foms.getD 2 0 * 2 ^ 16 + foms.getD 3 0 * 2 ^ 24 →
      exec (.eqTrialComplete l eyes) s = .next (settle (raise (s.set (F.LN_FOM_SEL_foms l) v) (4 * l + 1) 0x11 1 v)))
    ∧ (inStep s l 4 = true → s.flag (F.LN_CFG_pol_auto l) = true →
      exec (.cdrLock l) s = .next (settle (laneState s l 5)))
    ∧ (inStep s l 4 = true → s.flag (F.LN_CFG_pol_auto l) = false →
      exec (.cdrLock l) s = .next (settle (laneState s l 6)))
    ∧ (inStep s l 5 = true →
      exec (.polarityDetect l false) s = .next (settle ((laneState s l 6).set (F.LN_STATUS_rx_inverted l) 0))
      ∧ exec (.polarityDetect l true) s = .next (settle (raise ((laneState s l 6).set (F.LN_STATUS_rx_inverted l) 1)
        (4 * l) 4 2 0)))
    ∧ (inStep s l 6 = true →
      exec (.blockLock l) s = .next (settle (laneState s l (if is100G s l then 7 else 8))))
    ∧ (∀ pos : List Nat, is100G s l = true → (∀ x ∈ portLanes s l, x < 128 ∧ inStep s x 7 = true) → pos.length ≤ 8 →
      (pos.length = (portLanes s l).length ∧ pos.Nodup ∧ (∀ p ∈ pos, p < pos.length) →
        ∃ t, exec (.laneOrderDetect l pos) s = .next t ∧ ∀ x ∈ (portLanes s l).zip pos,
          t.lane x.1 = 8 ∧ t.get (F.LN_STATUS_pos x.1) = x.2)
      ∧ (pos.length ≠ (portLanes s l).length ∨ ¬ pos.Nodup ∨ (∃ p ∈ pos, (portLanes s l).length ≤ p) → exec (.laneOrderDetect l pos) s = .next (settle (stepFail s (portLanes s l)))))
    ∧ (∀ skew, (∀ x ∈ portLanes s l, x < 128 ∧ inStep s x 8 = true) → skew < 512 →
      ((portLanes s l).length ≤ 1 ∨ skew ≤ max 16 (s.get (F.LN_FOM_CFG_skew_max_tk l)) →
        (s.mode ≠ Mode.dormant ∨ s.flag F.RST_WAKE_CFG_lane_up = false ∨
          ∀ x ∈ portLanes s l, wakeGroup s (x / 8) = false) → ∃ t, exec (.deskew l skew) s = .next t ∧
          ∀ x ∈ portLanes s l, t.lane x = 9 ∧ t.flag (F.LN_STATUS_link_up x) = true)
      ∧ (portLanes s l = [l] → s.mode = Mode.dormant → s.flag F.RST_MODE_entering = false →
        s.flag F.RST_WAKE_CFG_lane_up = true → wakeGroup s (l / 8) = true → s.modes.waking = none →
        ∃ t, exec (.deskew l skew) s = .next t ∧ t.modes.waking = some (4, s.now))
      ∧ (1 < (portLanes s l).length → max 16 (s.get (F.LN_FOM_CFG_skew_max_tk l)) < skew →
        ∃ t, exec (.deskew l skew) s = .next t ∧ ∀ x ∈ portLanes s l, (t.laneRun x).failed = true))
    ∧ (∀ st, 3 ≤ st → st ≤ 8 → inStep s l st = true →
      exec (.bringupStepTimeout l) s = .next (settle (stepFail
        (s.atNow ((s.laneRun l).since + usToTk (1000 * stepLimit s l st)))
        (if 7 ≤ st then (portLanes s l).filter (fun x => inStep s x st) else [l]))))
    ∧ ((s.laneRun l).failed = true → ∃ t, exec (.bringupRetry l) s = .next t ∧ t.lane l = 2 ∧
      (t.laneRun l).failed = false)
    ∧ (∀ g out, g < 16 →
      (s.flag (F.LN_GRP_STATUS_held g) = false → g ∉ s.modes.lgrpRst →
        ∃ t, exec (.groupPllLock g out) s = .next t ∧ t.flag (F.LN_GRP_STATUS_pll_lock g) = true ∧
          ∀ x, x < 128 → x / 8 = g → t.lane x = if s.lane x = 1 then 2 else s.lane x)
      ∧ (s.flag (F.LN_GRP_STATUS_held g) = true ∨ g ∈ s.modes.lgrpRst →
        exec (.groupPllLock g out) s = .next (settle s)))

/-- A lane that is UP and loses its link, and no other lane, restarts at the state of its cause, with LN_LINK_DOWN
counted; marker loss takes every lane of the port; a PLL unlock takes the lanes of the group to IDLE; enable 0
disables the lane, enable 1 starts a disabled lane, restart starts a lane that runs at SIG_DETECT; a loop or
generator write sets its field and, where it changes it, restarts a lane that runs as its row says, or is
refused with its reason; a checker that is selected anew starts unlocked. -/
def Obligations.LaneLoss : Prop :=
  ∀ (s : State) (l : Nat), l < 128 → (∀ x ∈ portLanes s l, x < 128) →
    (∀ cause, 1 ≤ cause → cause ≤ 4 → s.lane l = 9 → ∃ t, exec (.laneLinkLoss l cause) s = .next t ∧
      t.lane l = (if cause = 1 then 2 else if cause = 2 then 4 else 6) ∧ t.flag (F.LN_STATUS_link_up l) = false ∧
      t.get (F.LN_LINKDOWN_CNT_count l) = min (s.get (F.LN_LINKDOWN_CNT_count l) + 1) 65535 ∧
      t.get (F.LN_LINKDOWN_CNT_last_cause l) = cause)
    ∧ (s.lane l = 9 → is100G s l = true → ∃ t, exec (.laneLinkLoss l 5) s = .next t ∧
      ∀ x ∈ portLanes s l, t.lane x = 7)
    ∧ (s.lane l = 9 → isJesd s l = true → ∃ t, exec (.laneLinkLoss l 6) s = .next t ∧
      ∀ x ∈ portLanes s l, t.lane x = 8)
    ∧ (∀ g, g < 16 → s.flag (F.LN_GRP_STATUS_pll_lock g) = true → ∃ t, exec (.groupPllUnlock g) s = .next t ∧
      t.flag (F.LN_GRP_STATUS_pll_lock g) = false ∧
      ∀ x, x < 128 → x / 8 = g → laneEnabled s x = true → s.lane x ≠ 10 → t.lane x = 1)
    ∧ (∃ t, exec (.laneEnableWrite l false) s = .next t ∧ t.lane l = 0 ∧ t.flag (F.LN_CTRL_enable l) = false)
    ∧ (s.lane l = 0 → s.get (F.LN_CFG_proto l) ≠ 0 →
      exec (.laneEnableWrite l true) s = .next (settle (laneState (s.set (F.LN_CTRL_enable l) 1) l
          (if s.flag (F.CLK_GATE_EN_open (264 + l / 8)) = false ∨ s.flag (F.LN_GRP_STATUS_held (l / 8)) = true then 10
          else if s.flag (F.LN_GRP_STATUS_pll_lock (l / 8)) = true then 2 else 1))))
    ∧ (∃ t, exec (.laneRestart l) s = .next t ∧
      t.lane l = if 2 ≤ s.lane l ∧ s.lane l ≤ 9 then 2 else s.lane l)
    ∧ (∀ cause, 1 ≤ cause → cause ≤ 6 → s.lane l ≠ 9 → exec (.laneLinkLoss l cause) s = .next (settle s))
    ∧ (∀ loop drive, loop < 4 → (loop = 0 ∨ loopRefusal s l = 0) → ∃ t, exec (.loopSelect l loop drive) s = .next t ∧
        t.get (F.LN_CTRL_loop l) = loop ∧ t.flag (F.LN_CTRL_loop_tx_drive l) = drive ∧
        t.lane l = (if loop = s.get (F.LN_CTRL_loop l) ∨ loop = 3 ∨ s.lane l < 2 ∨ 9 < s.lane l then s.lane l
          else if loop = 0 then 2 else if loop = 1 then 4 else 6))
    ∧ (∀ loop drive, loop < 4 → loop ≠ 0 → loopRefusal s l ≠ 0 →
      exec (.loopSelect l loop drive) s = .next (settle (raise s (4 * l) 0x31 3 (loopRefusal s l)))
      ∧ exec (.prbsGenSelect l loop) s = .next (settle (raise s (4 * l) 0x31 3 (loopRefusal s l))))
    ∧ (∀ gen, gen < 4 → (gen = 0 ∨ loopRefusal s l = 0) → ∃ t, exec (.prbsGenSelect l gen) s = .next t ∧
        t.get (F.LN_CTRL_prbs_gen l) = gen ∧
        t.lane l = (if gen ≠ s.get (F.LN_CTRL_prbs_gen l) ∧ (gen = 0 ∨ s.get (F.LN_CTRL_prbs_gen l) = 0) ∧
          2 ≤ s.lane l ∧ s.lane l ≤ 9 then 6 else s.lane l))
    ∧ (∀ chk, chk < 4 → ∃ t, exec (.prbsChkSelect l chk) s = .next t ∧ t.get (F.LN_CTRL_prbs_chk l) = chk ∧
      (chk ≠ s.get (F.LN_CTRL_prbs_chk l) → t.flag (F.LN_STATUS_prbs_locked l) = false ∧ (t.laneRun l).prbsRun = 0))

/-- In locked mode a received block is delivered at the lane's base latency; in free mode the elastic buffer deletes
a deletable block above a fill of 12, copies one below 4, drops any other at 16 and inserts a block at 0, each
with its count; a block that the lane does not loop is taken as received, inverted where the polarity says so,
and a descrambler gives back what a scrambler of the same state was given. The latency bases are those of the
table of R246. An engine-sink lane sends its engine's block; a bin-sink lane sends the bundle of its bin's
sinks, and one that finds valid = 0 is an underrun, counted except for idle between Ethernet frames and in
STANDBY. A window while UP records the FoM of its smallest eye opening and its minimum. -/
def Obligations.LaneBlocks : Prop :=
  ∀ (s : State) (l : Nat), l < 128 →
    (∀ (b : RxBlock) x u n base, b.header < 4 → b.taken ≤ 16 → b.residence < 512 → s.lane l = 9 →
      x = rxTake s l b → u = blockCounts x.2 l x.1 → n = (u.laneRun l).fill - b.taken →
      base = s.get (F.LN_LAT_rx_base l) →
      (s.flag (F.LN_GRP_CFG_mode (l / 8)) = false →
        exec (.laneBlockRx l b) s = .next (settle (deliver u l x.1 base 0)))
      ∧ (s.flag (F.LN_GRP_CFG_mode (l / 8)) = true →
        (12 < n → deletable u l x.1 = true → ∃ t, exec (.laneBlockRx l b) s = .next t ∧
          (t.laneRun l).lastRx = (s.laneRun l).lastRx ∧ (t.laneRun l).fill = n ∧
          t.get (F.LN_RM_DEL_CNT_count l) = min (s.get (F.LN_RM_DEL_CNT_count l) + 1) (2 ^ 32 - 1))
        ∧ (16 ≤ n → deletable u l x.1 = false → ∃ t, exec (.laneBlockRx l b) s = .next t ∧
          (t.laneRun l).lastRx = (s.laneRun l).lastRx ∧ (t.laneRun l).fill = n ∧
          t.get (F.LN_EB_ERR_CNT_ovf l) = min (s.get (F.LN_EB_ERR_CNT_ovf l) + 1) 65535)
        ∧ (n = 0 → ∃ t, exec (.laneBlockRx l b) s = .next t ∧ (t.laneRun l).fill = 1 ∧
          t.get (F.LN_EB_ERR_CNT_unf l) = min (s.get (F.LN_EB_ERR_CNT_unf l) + 1) 65535)
        ∧ (0 < n → n < 4 → deletable u l x.1 = true → ∃ t, exec (.laneBlockRx l b) s = .next t ∧
          (t.laneRun l).fill = n + 2 ∧
          t.get (F.LN_RM_INS_CNT_count l) = min (s.get (F.LN_RM_INS_CNT_count l) + 1) (2 ^ 32 - 1))
        ∧ (0 < n → n < 16 → (deletable u l x.1 = false ∨ 4 ≤ n ∧ n ≤ 12) →
          exec (.laneBlockRx l b) s = .next (settle (deliver
            (setLaneRun u l { u.laneRun l with fill := n + 1 }) l x.1 (base + b.residence) 0)))))
    ∧ (∀ (b : RxBlock) lat, portLanes s l = [l] → lat < 1024 →
      ((deliver s l b lat 0).laneRun l).lastRx = some (rxBundle s l b lat)
      ∧ (s.now + lat, rxBundle s l b lat) ∈ ((deliver s l b lat 0).laneRun l).rxQ
      ∧ (deliver s l b lat 0).get (F.LN_LAT_rx_last l) = lat)
    ∧ (∀ (b : RxBlock) v, v = b.payload % 2 ^ 64 + b.header % 4 * 2 ^ 64 →
      (s.get (F.LN_CTRL_loop l) = 0 ∨ s.get (F.LN_CTRL_loop l) = 3) →
      rxWord s l b = if rxInverts s l = true then 2 ^ 66 - 1 - v else v)
    ∧ (∀ n st v, descramble n st (scramble n st v).2 = ((scramble n st v).1, v % 2 ^ n))
    ∧ (portLanes s l = [l] → s.flag (F.LN_CFG_sink l) = true → is100G s l = false → isJesd s l = false →
      (s.get (F.LN_CFG_fec l) = 0 → latBase s l = (36, 30)) ∧ (s.get (F.LN_CFG_fec l) = 1 → latBase s l = (268, 54)) ∧
      (s.get (F.LN_CFG_fec l) = 2 → latBase s l = (164, 46)))
    ∧ (∀ bundle frame residence v lat ball r, bundle < 2 ^ 96 → residence < 512 →
      2 ≤ s.lane l → s.lane l ≤ 9 → s.get (F.LN_CTRL_loop l) ≠ 3 → v = txBundle s l →
      lat = s.get (F.LN_LAT_tx_base l) + (if freeMode s l then residence else 0) → ball = fpAdd s.fp lat →
      r = { s.laneRun l with takeAt := some (s.now, lat), ballAt := s.now + lat } →
      (s.flag (F.LN_CFG_sink l) = false → exec (.laneTxTake l bundle ⟨frame, residence⟩) s = .next (settle (setLaneRun s l
        (sendBlock s l (engineBlock s l bundle) ball { r with lastTx := some (engineBlock s l bundle) }))))
      ∧ (s.flag (F.LN_CFG_sink l) = true → s.mode ≠ Mode.standby → v.testBit 66 = true →
        exec (.laneTxTake l bundle ⟨frame, residence⟩) s = .next (settle (setLaneRun s l
          (sendBlock s l (v % 2 ^ 66) ball { r with lastTx := some (v % 2 ^ 66), frameOpen := frame }))))
      ∧ (∀ k, s.flag (F.LN_CFG_sink l) = true → (s.mode = Mode.standby ∨ v.testBit 66 = false) →
        k = underrunBlock s l (if isEthernet s l = true then (if (s.laneRun l).frameOpen = true then 2 else 1)
          else if isJesd s l = true then 4 else 3) →
        ∃ t, exec (.laneTxTake l bundle ⟨frame, residence⟩) s = .next t ∧
          t.laneRun l = sendBlock s l k ball { r with lastTx := some k } ∧
          t.get (F.LN_TX_UNDERRUN_CNT_count l) = (if s.mode = Mode.standby ∨
              isEthernet s l = true ∧ (s.laneRun l).frameOpen = false then s.get (F.LN_TX_UNDERRUN_CNT_count l)
            else min (s.get (F.LN_TX_UNDERRUN_CNT_count l) + 1) (2 ^ 32 - 1))))
    ∧ (∀ eye fom, fom = fomOf s l eye → s.lane l = 9 → ∃ t, exec (.fomWindow l eye) s = .next t ∧
      t.get (F.LN_STATUS_fom l) = fom ∧ t.get (F.LN_FOM_MIN_fom l) = min fom (s.get (F.LN_FOM_MIN_fom l)) ∧
      (s.evRoom 1 → fom < s.get (F.LN_FOM_CFG_floor l) → (s.laneRun l).lowArmed = true →
        reports s t (4 * l + 1) 0x10 4 (fom + s.get (F.LN_STATUS_cand l) * 2 ^ 8 + 2 ^ 10) ∧
        (t.laneRun l).lowArmed = false))

/-- A block is compressed with the lowest exponent from 0 to 15 at which every value, divided by 2^e and rounded
half to even, lies in the allowed range, −M to M for m ≤ 15 and −32,768 to 32,767 for m = 16; when none fits it
saturates. It is coded as that exponent, of 4 bits, and the rounded mantissas, and decompression gives each
mantissa times 2^e, clamped to 16 bits. R287 is stated whole; the rest rests on R288 and R290. For blocks of
16-bit values: at m = 16 compression is exact with exponent 0; for m from 7 to 15 no block saturates, the error
of each value is at most half of 2^e and 0 when e = 0, and compressing the decompressed block gives the same
bits. -/
def Obligations.BfpExact : Prop :=
  ∀ (m : Nat) (v : List Int), 7 ≤ m → m ≤ 16 →
    (∀ (x : Int) (e : Nat), 2 * (x - roundHalfEven x (2 ^ e) * 2 ^ e).natAbs ≤ 2 ^ e ∧
      (2 * (x - roundHalfEven x (2 ^ e) * 2 ^ e).natAbs = 2 ^ e → roundHalfEven x (2 ^ e) % 2 = 0))
    ∧ (∀ e, mantsFit m (mants v e) = true ↔ ∀ x ∈ v,
      (if m = 16 then -32768 ≤ roundHalfEven x (2 ^ e) ∧ roundHalfEven x (2 ^ e) ≤ 32767
       else -(2 ^ (m - 1) - 1 : Int) ≤ roundHalfEven x (2 ^ e) ∧ roundHalfEven x (2 ^ e) ≤ 2 ^ (m - 1) - 1))
    ∧ (∀ e, e ≤ 15 → mantsFit m (mants v e) = true → (∀ k, k < e → mantsFit m (mants v k) = false) →
      compress m v = ⟨e, v.map (fun x => roundHalfEven x (2 ^ e)), false⟩)
    ∧ ((∀ e, e ≤ 15 → mantsFit m (mants v e) = false) → (compress m v).sat = true ∧ (compress m v).e = 15)
    ∧ (compress m v).e ≤ 15 ∧ (compress m v).q.length = v.length
    ∧ (∀ (e : Nat) (q : List Int), (∀ x ∈ q, -32768 ≤ x * 2 ^ e ∧ x * 2 ^ e ≤ 32767) →
      decompress e q = (q.map (fun x => x * 2 ^ e), 0))
    ∧ ((∀ x ∈ v, -32768 ≤ x ∧ x ≤ 32767) →
      (m = 16 → compress m v = ⟨0, v, false⟩ ∧ decompress 0 v = (v, 0))
      ∧ (m ≤ 15 → (compress m v).sat = false ∧
        (∀ i, i < v.length → 2 * (v.getD i 0 - (compress m v).q.getD i 0 * 2 ^ (compress m v).e).natAbs
          ≤ (if (compress m v).e = 0 then 0 else 2 ^ (compress m v).e)) ∧
        compress m (decompress (compress m v).e (compress m v).q).1 = compress m v))

/-- On a port, counted at its lowest lane, the clock moves to the tick in which the engine holds the frame, and the
arrival is that of the first bit at the ball. A frame that fails its FCS or comes while the lane is not UP, one
of a best-effort priority in an enforced PFC episode, one of a closed engine, one that is too long, one with two
tags and one of no supported kind are each dropped and counted as their rule says; a PTP frame goes to the time
base, and an eCPRI message goes through the checks in their order: a delay request is answered, a bad header, a
bad symbol or a compression not supported is malformed, then the flow, the time, the quarantine, the sections
and the window decide, and a message within its window is taken by the sequence check and step 8. A pause
replaces what is left of the one before it and is honoured as far as the second's allowance goes; once that is
used up, pauses are ignored and counted, with one event a second. -/
def Obligations.FronthaulFrames : Prop :=
  ∀ (s : State) (l : Nat) (f : EthFrame) (e : Nat) (u : State) (a : Nat), l < 128 → f.ok = true → e = lowLane s l →
    u = s.atFp f.held → a = rxBallOf u l f.elastic f.held → s.flag (F.LN_CFG_sink e) = false →
    isEthernet s e = true → s.mode ≠ Mode.load → s.mode ≠ Mode.safe →
    (f.fcsOk = false ∨ s.lane e ≠ 9 → exec (.ethFrameRx l f) s = .next (settle (u.bump (F.FH_LANE_CNT0_fcs e) 1)))
    ∧ (f.fcsOk = true → s.lane e = 9 →
      (s.flag F.THM_STATUS_enforce = true → s.flag (F.THM_PFC_LANE_pfc_en e) = true → isTime f.body = false →
        (s.get (F.THM_PFC_LANE_be_prio e)).testBit f.prio = true →
        exec (.ethFrameRx l f) s = .next (settle (pfcDrop u e)))
      ∧ (s.flag F.THM_STATUS_enforce = false ∨ s.flag (F.THM_PFC_LANE_pfc_en e) = false ∨ isTime f.body = true ∨
          (s.get (F.THM_PFC_LANE_be_prio e)).testBit f.prio = false →
        (engOpen s (laneEngine s e) = false →
          exec (.ethFrameRx l f) s = .next (settle (u.bump (F.FH_ENG_CNT1_gated (laneEngine s e)) 1)))
        ∧ (engOpen s (laneEngine s e) = true → s.get (F.FH_LANE_CFG_max_frame e) < f.length →
          exec (.ethFrameRx l f) s = .next (settle (oversize u e (frameFlow u e f))))
        ∧ (engOpen s (laneEngine s e) = true → f.length ≤ s.get (F.FH_LANE_CFG_max_frame e) →
          (2 ≤ f.tags ∨ f.body = .other →
            exec (.ethFrameRx l f) s = .next (settle (u.bump (F.FH_LANE_CNT1_other e) 1)))
          ∧ (∀ kind domain twoStep time selects, f.tags ≤ 1 → f.body = .ptp kind domain twoStep time selects →
            exec (.ethFrameRx l f) s = .next (settle (ptpMessageRx u e kind domain twoStep time selects a f.frac)))
          ∧ (∀ ql, f.tags ≤ 1 → f.body = .esmc ql → exec (.ethFrameRx l f) s = .next (settle
            (if s.get F.TB_SYNCE_CFG_lane ∈ portLanes s e ∨ e = s.get F.TB_SYNCE_CFG_lane then esmcRx u ql else u)))
          ∧ (∀ m, f.tags ≤ 1 → f.body = .ecpri m → exec (.ethFrameRx l f) s = .next (settle
            (if s.mode = Mode.standby then u.bump (F.FH_ENG_CNT1_gated (laneEngine s e)) 1
            else ecpriRx u e f.length a f.frac m))))))
    ∧ (∀ (v : State) (m : Ecpri) len b fr named fl, named = findFlow v e m.eaxc → fl = faultFlow v named →
      (m.revision = 1 → m.concat = false → m.sizeOk = true → m.msgType = 5 →
        ecpriRx v e len b fr m = if m.action = 0
          then { v with fh := { v.fh with owdReply := some (owdAnswer v e b fr m.meas) } }
          else v.bump (F.FH_LANE_CNT1_other e) 1)
      ∧ (m.revision ≠ 1 ∨ m.concat = true → ecpriRx v e len b fr m = malformed v e fl 1)
      ∧ (m.revision = 1 → m.concat = false → m.sizeOk = false → ecpriRx v e len b fr m = malformed v e fl 3)
      ∧ (m.revision = 1 → m.concat = false → m.sizeOk = true → m.msgType ≠ 5 → headReason v m named ≠ 0 →
        ecpriRx v e len b fr m = malformed v e fl (headReason v m named))
      ∧ (m.msgType ≠ 5 → headReason v m named = 0 → fl = none → ecpriRx v e len b fr m = unknownFlow v e m.eaxc)
      ∧ (∀ g k y r n, m.msgType ≠ 5 → headReason v m named = 0 → fl = some g → k = flowNum v g →
        y = (m.subframe * numSlots v k + m.slot) * numPerSlot v k + m.symbol →
        r = (frameOf b m.frame % 2 ^ 40).toNat → n = r * numSym v k + y →
        (numSlots v k ≤ m.slot ∨ numPerSlot v k ≤ m.symbol ∨ numSym v k ≤ y →
          ecpriRx v e len b fr m = malformed v e fl 6)
        ∧ (m.slot < numSlots v k → m.symbol < numPerSlot v k → y < numSym v k →
          (compBad v g m = true → ecpriRx v e len b fr m = malformed v e fl 9)
          ∧ (compBad v g m = false → (flowOn v g = false ∨ ¬ (flowF v g 0 2 1 = 1 ↔ m.msgType = 2)) →
            ecpriRx v e len b fr m = unknownFlow (flowFetch v g) e m.eaxc)
          ∧ (compBad v g m = false → flowOn v g = true → (flowF v g 0 2 1 = 1 ↔ m.msgType = 2) →
            (v.flag F.TB_STATUS_fp_valid = false → ecpriRx v e len b fr m = v.bump (F.FH_LANE_CNT2_notime e) 1)
            ∧ (v.flag F.TB_STATUS_fp_valid = true → flowF v g 13 9 1 = 1 →
              ecpriRx v e len b fr m = flowCount v g 9 1)
            ∧ (∀ why, v.flag F.TB_STATUS_fp_valid = true → flowF v g 13 9 1 ≠ 1 → secsMatch v g y m.secs = .inr why →
              ecpriRx v e len b fr m = if why = 0 then oversize v e fl else malformed v e fl why)
            ∧ (∀ secs o z, v.flag F.TB_STATUS_fp_valid = true → flowF v g 13 9 1 ≠ 1 →
              secsMatch v g y m.secs = .inl secs → o = (symWindow v g n r y).1 → z = (symWindow v g n r y).2 →
              (z < b → ecpriRx v e len b fr m = fhWindow v g true)
              ∧ (b < o → b ≤ z → ecpriRx v e len b fr m = earlyHold v g n r y len (m.seq % 256)
                (decide (o - b ≤ v.get (F.FH_ENG_CFG_hold_max_tk (laneEngine v e)))) secs)
              ∧ (o ≤ b → b ≤ z → ecpriRx v e len b fr m =
                if (seqCheck v g (m.seq % 256)).1 = false ∨ flowF (seqCheck v g (m.seq % 256)).2 g 13 9 1 = 1
                then (seqCheck v g (m.seq % 256)).2
                else step8 (seqCheck v g (m.seq % 256)).2 g n r y secs false))))))
    ∧ (s.lane e = 9 → ∀ us p used cap, p = pauseOf s e → used = p.used - (p.until'.map (fun t => t - s.now)).getD 0 →
      cap = usToTk (s.get (F.FH_LANE_CFG_pause_max_us e)) →
      (∀ n, used < cap → n = pauseGrant (usToTk us) (cap - used) cap (secTk - s.fp % secTk) →
        exec (.pauseFrameRx l us) s = .next (settle (setPause s e { p with
          used := used + n, until' := if n = 0 then none else some (s.now + n) })))
      ∧ (cap ≤ used → p.raised = false → exec (.pauseFrameRx l us) s = .next (settle (raise
        (setPause (s.bump (F.FH_LANE_CNT2_pause_ignored e) 1) e { p with raised := true })
        (4 * e + 3) 0x0B 4 (min us (2 ^ 32 - 1)))))
      ∧ (cap ≤ used → p.raised = true → exec (.pauseFrameRx l us) s = .next (settle
        (setPause (s.bump (F.FH_LANE_CNT2_pause_ignored e) 1) e p))))
    ∧ (∀ t, (pauseOf s l).until' = some t → exec (.pauseTimeExpiry l) s =
      .next (settle (setPause (s.atNow t) l { pauseOf (s.atNow t) l with until' := none })))

/-- An ID that the sequence check accepts is a duplicate when it comes again; a gap of d is counted d times and the
next ID follows it; an ID at the expected place is accepted; a flow whose violations exceed its threshold is
quarantined with no symbol open. -/
def Obligations.FronthaulSequence : Prop :=
  ∀ (s : State) (f q : Nat), f < 16384 → q < 256 →
    ((seqCheck s f q).1 = true → (seqCheck (seqCheck s f q).2 f q).1 = false)
    ∧ (flowF s f 13 8 1 = 0 → (seqCheck s f q).1 = true ∧ flowF (seqCheck s f q).2 f 13 0 8 = (q + 1) % 256)
    ∧ (flowF s f 13 0 8 = q → (seqCheck s f q).1 = true ∧ flowF (seqCheck s f q).2 f 13 0 8 = (q + 1) % 256)
    ∧ (∀ d, flowF s f 13 8 1 = 1 → 0 < d → d < 128 → (flowF s f 13 0 8 + d) % 256 = q →
      (seqCheck s f q).1 = true ∧ flowF (seqCheck s f q).2 f 13 0 8 = (q + 1) % 256 ∧
      flowCnt (seqCheck s f q).2 f 5 = min (flowCnt s f 5 + d) (2 ^ 32 - 1))
    ∧ (∀ k, flowF s f 13 9 1 = 0 → flowF s f 11 0 16 ≠ 0 → flowF s f 11 0 16 < k →
      flowF (violate s f k) f 13 9 1 = 1 ∧ opensOf (violate s f k) f = [])

/-- Held messages are taken at O; a symbol of a rel_empty flow opens at O; an acknowledged section is present and a
failed write is marked; a symbol with nothing waiting closes when complete or when Z has passed, with a release
unless nothing came and rel_empty = 0; one that never opened is counted missing at Z, once; the acknowledged
status line queues the release, or drops it at a full queue, and the engine hands it on as an item of origin 1;
a quarantine ends and a partner's fault clears. -/
def Obligations.FronthaulSymbols : Prop :=
  ∀ (s : State) (f n : Nat), f < 16384 →
    (∀ h hs, s.fh.held.filter (fun h => h.flow = f && h.n = n) = h :: hs →
      exec (.heldMessageRelease f n) s = .next (settle ((h :: hs).foldl heldTake
        (engStatus { s.atFp (symWindow s f n h.frame h.sym).1 with fh := { s.fh with
          held := s.fh.held.filter (fun x => !(x.flow = f && x.n = n)) } }))))
    ∧ (∀ k fr y, k = flowNum s f → fr = n / max 1 (numSym s k) → y = n % max 1 (numSym s k) →
      ingressRuns s f = true → flowF s f 0 22 1 = 1 → flowF s f 13 9 1 = 0 → findOpen s f n = none →
      (lastValid s f = true → lastN s f < n) → expectedMap s f y ≠ 0 →
      exec (.symbolWindowOpen f n) s = .next (settle (openSym (s.atFp (fpShift (sfpOf s k fr y) (winOpen s f)))
        (newSym s f n fr y (fpShift (sfpOf s k fr y) (winOpen s f)) (fpShift (sfpOf s k fr y) (winClose s f))))))
    ∧ (∀ o x rest bs r, findOpen s f n = some o → o.writes = x :: rest →
      bs = (sliceBeats x.data).take (2 * bits (secW s (secEntry s f x.idx) 3) 0 11) →
      r = (bs.zip (List.range bs.length)).foldl
        (fun (a : Bool × State) b => ((a.1 && (writeBeat a.2 (flowOwner a.2 f)
            (2 * (bufUnit s f n + bits (secW s (secEntry s f x.idx) 2) 16 11) + b.2) b.1).1),
          (writeBeat a.2 (flowOwner a.2 f)
            (2 * (bufUnit s f n + bits (secW s (secEntry s f x.idx) 2) 16 11) + b.2) b.1).2)) (true, s) →
      exec (.sectionWriteAck f n) s = .next (settle (symCheck (if r.1 = true
        then putOpen r.2 { o with writes := rest, present := putBit o.present x.idx true }
        else flowCount (putOpen r.2 { o with writes := rest, failed := true, accepted := putBit o.accepted x.idx false }) f 15 1) f n)))
    ∧ (∀ u, flowValid s f = true → flowEgress s f = false → u = s.atFp (fpAdd (symZ s f n) 1) →
      (∀ o, findOpen s f n = some o → symZ s f n = o.close ∧
        exec (.symbolWindowClose f n) s = .next (settle (symCheck u f n)))
      ∧ (findOpen s f n = none → exec (.symbolWindowClose f n) s = .next (settle (symPassed u f n))))
    ∧ (ingressRuns s f = true → flowF s f 0 22 1 ≠ 1 → flowF s f 13 9 1 ≠ 1 → (lastValid s f = true → lastN s f < n) →
      expectedMap s f (n % max 1 (numSym s (flowNum s f))) ≠ 0 → (∀ m, aget s.fh.missed f = some m → m < n) →
      flowCnt (symPassed s f n) f 12 = min (flowCnt s f 12 + 1) (2 ^ 32 - 1) ∧
      aget (symPassed s f n).fh.missed f = some n ∧ flowCnt (symPassed (symPassed s f n) f n) f 12 = flowCnt (symPassed s f n) f 12)
    ∧ (∀ o, findOpen s f n = some o → o.writes = [] →
      (expectedMap s f o.sym ≠ 0 ∧ expectedMap s f o.sym &&& o.present = expectedMap s f o.sym ∨
        fpAfter s.fp o.close = true) → symCheck s f n = closeSym s o false)
    ∧ (∀ o forced, o.flow = f → o.writes = [] → findOpen s f o.n = some o → (o.accepted ≠ 0 ∨ o.failed = true ∨ flowF s f 0 22 1 = 1) →
      ∃ c, (closeSym s o forced).fh.closed = s.fh.closed ++ [c] ∧ c.flow = f ∧
        c.item.cls = flowClass s f ∧ c.item.release = o.rel)
    ∧ (∀ o forced, o.flow = f → o.writes = [] → findOpen s f o.n = some o → o.accepted = 0 → o.failed = false →
      flowF s f 0 22 1 ≠ 1 → (closeSym s o forced).fh.closed = s.fh.closed ∧
        lastN (closeSym s o forced) f = lastN s f)
    ∧ (∀ c, s.fh.closed.find? (fun x => x.flow = f) = some c →
      (s.fh.queue.filter (fun q => q.1 = c.engine)).length < 256 →
      exec (.statusLineAck f) s = .next (settle (engStatus { s with fh := { s.fh with
        closed := s.fh.closed.eraseP (fun x => x.flow = f), queue := s.fh.queue ++ [(c.engine, c.item)]
        relFree := if s.fh.queue.any (fun q => q.1 = c.engine) then s.fh.relFree
          else aset s.fh.relFree c.engine (max (s.now + 1) ((aget s.fh.relFree c.engine).getD 0)) } })))
    ∧ (∀ c, s.fh.closed.find? (fun x => x.flow = f) = some c →
      256 ≤ (s.fh.queue.filter (fun q => q.1 = c.engine)).length →
      exec (.statusLineAck f) s = .next (settle (raise (State.bump { s with fh := { s.fh with
        closed := s.fh.closed.eraseP (fun x => x.flow = f) } } (F.FH_ENG_CNT0_rel_drop c.engine) 1) 1017 0x15 5
        (c.engine + c.item.cls * 256))))
    ∧ (∀ e r u, e < 4 → s.fh.queue.find? (fun q => q.1 = e) = some (e, r) →
      u = s.atNow ((aget s.fh.relFree e).getD 0) →
      exec (.fronthaulRelease e) s = .next (settle (itemCreate (engStatus { u with fh := { s.fh with
        queue := s.fh.queue.eraseP (fun x => x.1 = e), relFree := aset s.fh.relFree e (u.now + 1) } })
        ⟨r.cls, 1, some r.seq, r.release, r.inLen, r.outLen, r.inAddr, r.outAddr, r.arg⟩).2))
    ∧ (∀ t, aget s.fh.quarEnd f = some t → ∃ u, exec (.quarantineEnd f) s = .next u ∧
      flowF u f 13 9 1 = 0 ∧ flowF u f 13 8 1 = 0 ∧ aget u.fh.quarEnd f = none)
    ∧ (∀ g, g < 16 → s.flag (F.FH_GRP_STATUS_faulty g) = true →
      grpQuiet s g = true →
      exec (.partnerFaultClear g) s = .next (settle (raise (s.setAll
        [(F.FH_GRP_STATUS_violations g, min (grpSum s g) 65535), (F.FH_GRP_STATUS_faulty g, 0)])
        (32 * g + 3) 0x0A 3 g)))

/-- An egress symbol that is due and armed at its check is sent, one message for each section expected for it, in
order and with its headers, counted, and never due again; one that is not armed is counted as missed and sends
nothing; a check of a symbol that is not due reads the flow's entries and sends nothing; at X the arm clears,
whether the flow runs or not. A JESD204C span takes the armed buffer's samples, and counts the symbol as sent
when they fill it, or zeros, and counts a miss. -/
def Obligations.FronthaulEgress : Prop :=
  ∀ (s : State) (f n : Nat) (is : List Nat), f < 16384 → n < 2 ^ 64 →
    is = (List.range (secCount s f)).filter (fun i => secCovers s f i (n % max 1 (numSym s (flowNum s f)))) →
    (egressDue s f n = true → flowF s f 0 29 1 = 0 → (256 * f + n % flowRing s f) ∈ s.fh.arms →
      ∃ t, exec (.egressCheck f n) s = .next t ∧ lastValid t f = true ∧ lastN t f = n ∧
        flowCnt t f 0 = min (flowCnt s f 0 + 1) (2 ^ 32 - 1) ∧ egressDue t f n = false ∧
        t.fh.lastTx.map (fun x => x.head) = is.map (txHead s f n) ∧
        t.fh.lastTx.map (fun x => x.seq) = (List.range is.length).map
          (fun i => if i = 0 then (aget s.fh.txSeq f).getD 0 else ((aget s.fh.txSeq f).getD 0 + i) % 256))
    ∧ (egressDue s f n = true → flowF s f 0 29 1 = 0 → (256 * f + n % flowRing s f) ∉ s.fh.arms →
      ∃ t, exec (.egressCheck f n) s = .next t ∧ flowCnt t f 1 = min (flowCnt s f 1 + 1) (2 ^ 32 - 1) ∧
        t.fh.lastTx = s.fh.lastTx ∧ lastN t f = lastN s f ∧ lastValid t f = lastValid s f ∧
        (256 * f + n % flowRing s f) ∈ t.fh.checked)
    ∧ (egressDue s f n = false ∨ flowF s f 0 29 1 = 1 → exec (.egressCheck f n) s = .next (settle
      (if flowValid s f = true ∧ flowEgress s f = true then flowFetch s f else s)))
    ∧ (flowValid s f = true → flowEgress s f = true → ∃ t, exec (.egressArmExpiry f n) s = .next t ∧
      t.fp = (s.atFp (egressX s f n)).fp % fpSpan ∧
      (256 * f + n % flowRing s f) ∉ t.fh.arms ∧ (256 * f + n % flowRing s f) ∉ t.fh.checked)
    ∧ (∀ blocks, blocks < 2 ^ 20 → egressDue s f n = true → flowF s f 0 29 1 = 1 →
      (256 * f + n % flowRing s f) ∉ s.fh.arms →
      ∃ t, exec (.jesdEgressSpan f n blocks) s = .next t ∧ t.fh.lastJesd = List.replicate blocks 0 ∧
        flowCnt t f 1 = min (flowCnt s f 1 + 1) (2 ^ 32 - 1))
    ∧ (∀ blocks words, blocks < 2 ^ 20 → egressDue s f n = true → flowF s f 0 29 1 = 1 →
      (256 * f + n % flowRing s f) ∈ s.fh.arms → words = (is.map (fun i => 6 * bits (secW s (secEntry s f i) 1) 10 9)).sum →
      ∃ t, exec (.jesdEgressSpan f n blocks) s = .next t ∧ t.fh.lastJesd.length = blocks ∧ lastN t f = n ∧
        (256 * f + n % flowRing s f) ∉ t.fh.arms ∧ (∀ i, words ≤ i → t.fh.lastJesd.getD i 0 = 0) ∧
        (blocks ≤ words → flowCnt t f 0 = min (flowCnt s f 0 + 1) (2 ^ 32 - 1)) ∧
        (words < blocks → flowCnt t f 1 = min (flowCnt s f 1 + 1) (2 ^ 32 - 1)))
    ∧ (∀ blocks, blocks < 2 ^ 20 → (egressDue s f n = false ∨ flowF s f 0 29 1 = 0) →
      exec (.jesdEgressSpan f n blocks) s = .next (settle
        (if flowValid s f = true ∧ flowEgress s f = true then flowFetch s f else s)))

/-- A read loads the flow or section entry into the requester's own registers; a commit that changes a fixed field
is refused, another takes effect in the entry and in no other flow; a counter read loads the counters and clears
them; while a commit waits, or where the requester has no right, none of them has an effect on the tables. -/
def Obligations.FronthaulTables : Prop :=
  ∀ s : State,
    (∀ who, mayAsk s who F.FH_FLOW_CMD_read.addr 2 = true → s.flag (F.FH_FLOW_STATUS_busy.copy (reqNum who)) = false →
      exec (.flowRead who) s = .next (settle (s.setAll ((List.range 16).map (fun i =>
        ((F.FH_FLOW_DATA_data i).copy (reqNum who), flowW s (s.get (F.FH_FLOW_INDEX_index.copy (reqNum who))) i))))))
    ∧ (∀ f d, mayAsk s .regPort F.FH_FLOW_CMD_read.addr 2 = true →
      s.flag (F.FH_FLOW_STATUS_busy.copy 1) = false → f = s.get (F.FH_FLOW_INDEX_index.copy 1) →
      d = (List.range 16).map (fun i => s.get ((F.FH_FLOW_DATA_data i).copy 1)) →
      (commitBad s f d = true → exec .flowCommit s = .next (settle (raise
        (s.set (F.FH_FLOW_STATUS_last_refused.copy 1) 1) 1017 0x17 3 (1 + f * 2 ^ 16))))
      ∧ (commitBad s f d = false → exec .flowCommit s = .next (settle { s.setAll
        [(F.FH_FLOW_STATUS_last_refused.copy 1, 0), (F.FH_FLOW_STATUS_busy.copy 1, 1)] with
          fh := { s.fh with commit := some (f, d, s.now + 8) } })))
    ∧ (∀ f d i, i < 16 → ((d.getD i 0) ^^^ flowW s f i) &&& (2 ^ 32 - 1 - flowStar i) ≠ 0 → d.getD i 0 < 2 ^ 32 →
      flowW s f i < 2 ^ 32 → commitBad s f d = true)
    ∧ (s.flag (F.FH_FLOW_STATUS_busy.copy 1) = true → mayAsk s .regPort F.FH_FLOW_CMD_read.addr 2 = true →
      exec (.flowRead .regPort) s = .next (settle s) ∧ exec .flowCommit s = .next (settle s) ∧
      exec .flowCntRead s = .next (settle s))
    ∧ (∀ who, mayAsk s who F.FH_FLOW_CMD_read.addr 2 = false → ∃ t, exec (.flowRead who) s = .next t ∧ t.fh = s.fh)
    ∧ (mayAsk s .regPort F.FH_FLOW_CMD_read.addr 2 = false →
      (∃ t, exec .flowCommit s = .next t ∧ t.fh = s.fh) ∧ (∃ t, exec .flowCntRead s = .next t ∧ t.fh = s.fh))
    ∧ (∀ f d t, s.fh.commit = some (f, d, t) → ∃ u, exec .flowCommitEffect s = .next u ∧
      (∀ i, i < 13 → flowW u f i = d.getD i 0 % 2 ^ 32) ∧ (∀ g i, g ≠ f → i < 16 → flowW u g i = flowW s g i) ∧
      u.fh.commit = none ∧ (∀ w ∈ u.fh.poisoned, w / 8 ≠ f) ∧ u.flag (F.FH_FLOW_STATUS_busy.copy 1) = false)
    ∧ (∀ f, mayAsk s .regPort F.FH_FLOW_CMD_read.addr 2 = true →
      s.flag (F.FH_FLOW_STATUS_busy.copy 1) = false → f = s.get (F.FH_FLOW_INDEX_index.copy 1) →
      ∃ u, exec .flowCntRead s = .next u ∧ (∀ i, i < 16 → flowCnt u f i = 0) ∧
        (∀ i, i < 16 → u.get ((F.FH_FLOW_CNT_count i).copy 1) = flowCnt s f i % 2 ^ 32))
    ∧ (∀ who, mayAsk s who F.FH_SEC_CMD_read.addr 2 = true → exec (.sectionRead who) s = .next (settle (s.setAll ((List.range 4).map (fun i =>
        ((F.FH_SEC_DATA_data i).copy (reqNum who), secW s (s.get (F.FH_SEC_INDEX_index.copy (reqNum who))) i))))))

/-- A 30-bit Loft address with bit 29 = 0 is the interleaved address in its bits [28:0]; with bit 29 = 1 it is bank
b in bits [28:19] and offset o in bits [18:0], and names interleaved A with A[28:24] = b div 32, A[7:3] = b mod
32, A[23:8] = o[18:3] and A[2:0] = o[2:0]. The views name the same bytes: every interleaved address is one
linear address, two linear addresses never name one byte, and the example of the text holds. An end of a DMA
transfer with bit 30 or 31 set is refused. R304 is stated whole; the refusal rests on R325. -/
def Obligations.LoftViews : Prop :=
  (∀ b o, b < 1024 → o < 2 ^ 19 →
    loftAddr (2 ^ 29 + b * 2 ^ 19 + o) < 2 ^ 29 ∧
      loftAddr (2 ^ 29 + b * 2 ^ 19 + o) / 2 ^ 24 = b / 32 ∧ loftAddr (2 ^ 29 + b * 2 ^ 19 + o) / 2 ^ 8 % 2 ^ 16 = o / 8 ∧
      loftAddr (2 ^ 29 + b * 2 ^ 19 + o) / 8 % 32 = b % 32 ∧ loftAddr (2 ^ 29 + b * 2 ^ 19 + o) % 8 = o % 8 ∧
      wLBank (loftAddr (2 ^ 29 + b * 2 ^ 19 + o) / 8) = b ∧ wRow (loftAddr (2 ^ 29 + b * 2 ^ 19 + o) / 8) = o / 8)
  ∧ (∀ a, a < 2 ^ 29 → loftAddr a = a ∧
      loftAddr (2 ^ 29 + wLBank (a / 8) * 2 ^ 19 + wRow (a / 8) * 8 + a % 8) = a)
  ∧ (∀ x y, x < 2 ^ 29 → y < 2 ^ 29 → loftAddr (2 ^ 29 + x) = loftAddr (2 ^ 29 + y) → x = y)
  ∧ loftAddr 0x2A480918 = 0x0A012348
  ∧ (∀ s a n, 2 ^ 30 ≤ a → a < 2 ^ 32 → dmaEndBad s false a n = true)

/-- A stored word decodes clean; with one data bit inverted it is corrected, except where the data are exactly the
two bits of a complementary pair and one of them is inverted, which answers as poisoned; with one check bit
inverted it is corrected; two inverted data bits or one wrong address bit never read as clean or corrected; a
poisoned word reads as poisoned, and with one further upset never as clean or corrected. -/
def Obligations.CodeCorrects : Prop :=
  ∀ d w, d < 2 ^ 64 → w < 2 ^ 26 →
    decodeWord d (checkOf d w) w = .clean d
    ∧ (∀ i, i < 64 → decodeWord (d ^^^ 2 ^ i) (checkOf d w) w =
      if ∃ k, k < 8 ∧ d = 2 ^ k + 2 ^ (56 + k) ∧ (i = k ∨ i = 56 + k) then .poisoned else .corrected d)
    ∧ (∀ j, j < 8 → decodeWord d (checkOf d w ^^^ 2 ^ j) w = .corrected d)
    ∧ (∀ i j, i < j → j < 64 → decodeWord (d ^^^ 2 ^ i ^^^ 2 ^ j) (checkOf d w) w = .poisoned ∨
      decodeWord (d ^^^ 2 ^ i ^^^ 2 ^ j) (checkOf d w) w = .uncorrectable)
    ∧ (∀ k, k < 26 → decodeWord d (checkOf d w) (w ^^^ 2 ^ k) = .uncorrectable)
    ∧ decodeWord 0 (checkOf 0 w ^^^ 0xFF) w = .poisoned
    ∧ (∀ i, i < 64 → decodeWord (2 ^ i) (checkOf 0 w ^^^ 0xFF) w = .poisoned ∨
      decodeWord (2 ^ i) (checkOf 0 w ^^^ 0xFF) w = .uncorrectable)
    ∧ (∀ j, j < 8 → decodeWord 0 (checkOf 0 w ^^^ 0xFF ^^^ 2 ^ j) w = .uncorrectable)

/-- A word read after a whole-word write gives the written data, clean, whatever the word held before, and any
pending write-back or poisoning of the word is abandoned; other words are unchanged; a poisoned word reads as
poisoned until it is written; and the stored memories keep their canonical form. -/
def Obligations.LoftReadAfterWrite : Prop :=
  ∀ (s : State) (w d who : Nat), s.memOk = true → w < 2 ^ 26 → d < 2 ^ 64 →
    readWord (s.setLoft (s.loft.store w d)) w who = (some d, s.setLoft (s.loft.store w d))
    ∧ w ∉ (s.loft.store w d).writeBacks ∧ w ∉ (s.loft.store w d).poisons
    ∧ (∀ x, x ≠ w → (s.loft.store w d).dataAt x = s.loft.dataAt x ∧ (s.loft.store w d).checkAt x = s.loft.checkAt x ∧
      (s.loft.store w d).validAt x = s.loft.validAt x)
    ∧ (s.setLoft (s.loft.store w d)).memOk = true
    ∧ (readWord (s.setLoft (s.loft.poison w)) w who).1 = none
    ∧ (readWord (s.setLoft ((s.loft.poison w).store w d)) w who).1 = some d

/-- A request whose bank serves and allows it enters its queue, of 16, at its interleaved address; any other
completes with an error response, and one of a requester that may not have the bank is counted as denied; a full
queue takes nothing. A bank that is on behind an open gate serves its oldest streaming request, and a waiting
general one at least once in five. A pending write-back is made in an idle cycle, and a pending poisoning is
made. An idle bank's scrubber votes on its next word, corrects or poisons it, and moves on; a bank that is not
idle does not scrub. A background engine, at its own pace, that finds an uncorrectable word poisons, counts and
reports it, unless it is poisoned already, and moves on after any word. -/
def Obligations.LoftRequests : Prop :=
  ∀ s : State,
    (∀ (r v : LoftReq) (b : Nat) (q : BankQ), (Instr.loftRequestEnqueue r).wf = true →
      v = { r with addr := loftAddr r.addr } → b = wLBank (v.addr / 8) → q = s.bankQ b →
      (16 ≤ (if r.streaming then q.stream else q.gen).length →
        exec (.loftRequestEnqueue r) s = .next (settle s))
      ∧ ((if r.streaming then q.stream else q.gen).length < 16 →
        (bankServes s b = true → ownerOk s r.owner b r.wr = true →
          exec (.loftRequestEnqueue r) s = .next (settle (setBankQ s b { q with
            stream := q.stream ++ (if r.streaming then [⟨v, true, s.now⟩] else [])
            gen := q.gen ++ (if r.streaming then [] else [⟨v, true, s.now⟩]) })))
        ∧ (bankServes s b = true → ownerOk s r.owner b r.wr = false → exec (.loftRequestEnqueue r) s = .next (settle
          ((denied s r.owner b).setLoft { (denied s r.owner b).loft with last := some ⟨r.owner, 1, 0⟩ })))
        ∧ (bankServes s b = false → exec (.loftRequestEnqueue r) s = .next (settle
          ((if s.flag (F.CLK_GATE_EN_open (280 + b / 32)) = true then s else s.bump F.CLK_GATE_CLOSED_CNT_count 1).setLoft
            { s.loft with last := some ⟨r.owner, 1, 0⟩ })))))
    ∧ (∀ b u, b < 1024 →
      (s.get (F.LFT_GRP_STATUS_power (b / 32)) = 1 → s.flag (F.CLK_GATE_EN_open (280 + b / 32)) = true →
        (∀ r q, (s.bankQ b).pick = some (r, q) →
          exec (.loftBankServe b u) s = .next (settle (serveFollow (bankCycle (setBankQ s b q) b) u r)))
        ∧ ((s.bankQ b).pick = none → exec (.loftBankServe b u) s = .next (settle s)))
      ∧ (s.get (F.LFT_GRP_STATUS_power (b / 32)) ≠ 1 ∨ s.flag (F.CLK_GATE_EN_open (280 + b / 32)) = false →
        exec (.loftBankServe b u) s = .next (settle s)))
    ∧ (∀ r : LoftReq, r.fetch = false → serveFollow s ⟨0, 0, 0⟩ r = staleFollow s (serveReq s r) (r.addr / 8))
    ∧ (∀ q : BankQ, (q.stream = [] → q.gen = [] → q.pick = none)
      ∧ (∀ x xs, q.stream = x :: xs → q.gen = [] → q.pick = some (x.req, { q with stream := xs, since := 0 }))
      ∧ (∀ y ys, q.stream = [] → q.gen = y :: ys → q.pick = some (y.req, { q with gen := ys, since := 0 }))
      ∧ (∀ x xs y ys, q.stream = x :: xs → q.gen = y :: ys →
        q.pick = if 4 ≤ q.since then some (y.req, { q with gen := ys, since := 0 })
          else some (x.req, { q with stream := xs, since := q.since + 1 })))
    ∧ (∀ b w u, b < 1024 → s.loft.writeBacks.find? (fun x => wLBank x = b) = some w → u = bankCycle s b →
      (∀ d, bankIdle s b = true → decodeWord (s.loft.dataAt w) (s.loft.checkAt w) w = .corrected d →
        exec (.correctionWriteBack b) s = .next (settle (u.setLoft (u.loft.store w d))))
      ∧ (bankIdle s b = true → (∀ d, decodeWord (s.loft.dataAt w) (s.loft.checkAt w) w ≠ .corrected d) →
        exec (.correctionWriteBack b) s = .next (settle (u.setLoft
          { u.loft with writeBacks := u.loft.writeBacks.filter (fun x => x ≠ w) })))
      ∧ (bankIdle s b = false → exec (.correctionWriteBack b) s = .next (settle s)))
    ∧ (∀ b w u, b < 1024 → s.loft.poisons.find? (fun x => wLBank x = b) = some w → u = bankCycle s b →
      exec (.poisonWrite b) s = .next (settle (u.setLoft (u.loft.poison w))))
    ∧ (∀ b k w u x, b < 1024 → w = wordOf b (s.scrubAt b).2 → u = bankCycle s b → x = voteRepair (upsetWord u w k) w →
      (bankIdle s b = true →
        (∀ d, vote (x.loft.validAt w) = true → decodeWord (x.loft.dataAt w) (x.loft.checkAt w) w = .corrected d →
          exec (.idleScrub b k) s = .next (settle (scrubAdvance (staleFollow u (countCorrected x w) w) b)))
        ∧ (vote (x.loft.validAt w) = true → decodeWord (x.loft.dataAt w) (x.loft.checkAt w) w = .uncorrectable →
          exec (.idleScrub b k) s = .next (settle (scrubAdvance (staleFollow u (scrubUe x w) w) b)))
        ∧ (vote (x.loft.validAt w) = false ∨ decodeWord (x.loft.dataAt w) (x.loft.checkAt w) w = .poisoned ∨
            (∃ d, decodeWord (x.loft.dataAt w) (x.loft.checkAt w) w = .clean d) →
          exec (.idleScrub b k) s = .next (settle (scrubAdvance (staleFollow u x w) b))))
      ∧ (bankIdle s b = false → exec (.idleScrub b k) s = .next (settle s)))
    ∧ (∀ e k u w, e = 2 ∨ e = 3 → u = bgDue s e → w = (aget u.loft.bgPos e).getD 0 →
      (bgDecode u e w k = .uncorrectable → bgPoisoned u e w = false →
        exec (.bgScrub e k) s = .next (settle (bgNext (raise ((bgPoison u e w).bump
          (if e = 2 then F.LFT_BG_UE_CNT_keeper else F.LFT_BG_UE_CNT_tables) 1) 1016 0x10 5
            (e + (if e = 3 then 4 else 0) + w * 2 ^ 3)) e)))
      ∧ (bgDecode u e w k ≠ .uncorrectable ∨ bgPoisoned u e w = true →
        exec (.bgScrub e k) s = .next (settle (bgNext u e))))

/-- A handover that no reason refuses starts, at once in a group that is off or retained and otherwise after its
queues drain and, with clear, 512 tk later; a refused one leaves every owner as it was; a whole-group handover
that would fail a pool's prefetch test is refused with ADM_PREFETCH; after the effect every affected bank has
the new owner, and after a clear no word of them is valid; after a bulk clear a load that waits for it goes on;
a waking group becomes ON, at the end of DORMANT after its checker test, and a group that does not wake stays as
it is. -/
def Obligations.Handovers : Prop :=
  ∀ s : State,
    (∀ g o c h u, g < 32 → o < 1024 → h = ⟨true, g, o, c, false, s.now⟩ → handoverReason s h = 0 →
      u = (if leavesPool s g o then runCheck s else s) →
      (prefetchLoser u g o = none → exec (.groupHandover g o c) s = .next (settle (handoverStart u h)))
      ∧ (∀ p, prefetchLoser u g o = some p → exec (.groupHandover g o c) s = .next (settle
        (admRefuse (handoverRefused u h 5) 3 2 p))))
    ∧ (∀ b o c h, b < 1024 → o < 1024 → h = ⟨false, b, o, c, false, s.now⟩ → handoverReason s h = 0 →
      exec (.bankHandover b o c) s = .next (settle (handoverStart s h)))
    ∧ (∀ g o c h, g < 32 → o < 1024 → h = ⟨true, g, o, c, false, s.now⟩ → handoverReason s h ≠ 0 →
      exec (.groupHandover g o c) s = .next (settle (handoverRefused s h (handoverReason s h))))
    ∧ (∀ b o c h, b < 1024 → o < 1024 → h = ⟨false, b, o, c, false, s.now⟩ → handoverReason s h ≠ 0 →
      exec (.bankHandover b o c) s = .next (settle (handoverRefused s h (handoverReason s h))))
    ∧ (∀ (h : Handover) n b, (handoverRefused s h n).bankOwner b = s.bankOwner b)
    ∧ (∀ h : Handover, 338 < h.owner → handoverReason s h = 1)
    ∧ (∀ h : Handover, h.owner < 339 → (if h.group then h.index < 32 else h.index < 1024) →
      (∀ b ∈ h.banks, (handoverEffect s h).bankOwner b = h.owner) ∧
      (∀ b, b < 1024 → b ∉ h.banks → (handoverEffect s h).bankOwner b = s.bankOwner b))
    ∧ (∀ banks x, s.memOk = true → wLBank x ∈ banks → (clearBanks s banks).loft.validAt x = 0)
    ∧ (∀ g i h, i < (if g then 32 else 1024) → findHandover s g i = some h → h.quiesced = false → h.clear = false →
      exec (.handoverQuiesce g i) s = .next (settle (handoverEffect (h.banks.foldl drainBank s) h)))
    ∧ (∀ g i h u, i < (if g then 32 else 1024) → findHandover s g i = some h → h.quiesced = false → h.clear = true →
      u = h.banks.foldl drainBank s → exec (.handoverQuiesce g i) s = .next (settle (u.setLoft { u.loft with
        handovers := u.loft.handovers.map (fun x => if x = h then { h with quiesced := true, since := u.now } else x) })))
    ∧ (∀ g i h u, i < (if g then 32 else 1024) → findHandover s g i = some h → h.quiesced = true → h.clear = true →
      u = s.atNow (h.since + 512) →
      exec (.handoverClearDone g i) s = .next (settle (loadAdvance (handoverEffect (clearBanks u h.banks) h))))
    ∧ (∀ g bad spareBad u v, (Instr.groupWakeComplete g bad spareBad).wf = true →
      u = s.set (F.LFT_GRP_STATUS_power g) 1 →
      v = (if s.mode = Mode.dormant ∧ s.get (F.LFT_GRP_CFG_dorm_mode g) = 0
        then checkerTest (spareOnClear u ((List.range 32).map (fun k => 32 * g + k))) g bad spareBad else u) →
      (s.get (F.LFT_GRP_STATUS_power g) = 3 →
        exec (.groupWakeComplete g bad spareBad) s = .next (settle (wakeFinish (loadAdvance (bankCopyStart v)))))
      ∧ (s.get (F.LFT_GRP_STATUS_power g) ≠ 3 → exec (.groupWakeComplete g bad spareBad) s = .next (settle s)))
    ∧ (∀ g, g < 32 → s.cfg.load = none → s.mode = Mode.active → s.modes.waking = none → s.spr.worn = [] → s.get (F.LFT_GRP_STATUS_power g) = 3 →
      ∃ t, exec (.groupWakeComplete g [] false) s = .next t ∧ t.get (F.LFT_GRP_STATUS_power g) = 1)

/-- A go by the channel's own requester starts the transfer; one of length 0 is done at once, with its event where
asked; one with an end that R325 refuses ends with cause 5; a go while busy leaves the transfer as it is; abort
marks the transfer. At a closed gate both end in the terminator, and those of another requester have no effect.
A unit that moves counts, the last one ends the transfer as done, one that fails halts the channel with its
cause, an aborting channel halts with cause 4, and nothing moves behind a closed gate. -/
def Obligations.DmaTransfers : Prop :=
  ∀ (s : State) (c : Nat) (who : Requester), c < 64 →
    (∀ st dt ev n, dmaMine s c who = true → mayAsk s who (F.LFT_DMA_CTRL_go c).addr 2 = true → gateOpen s 316 = true →
      n = s.get (F.LFT_DMA_LEN_units c) →
      (s.flag (F.LFT_DMA_STATUS_busy c) = false →
        (n ≠ 0 → dmaEndBad s st (s.get (F.LFT_DMA_SRC_src c)) n = false →
          dmaEndBad s dt (s.get (F.LFT_DMA_DST_dst c)) n = false →
          ∃ t, exec (.dmaGo c who st dt ev) s = .next t ∧ t.flag (F.LFT_DMA_STATUS_busy c) = true ∧
            t.flag (F.LFT_DMA_STATUS_done c) = false ∧ t.get (F.LFT_DMA_UNITS_DONE_units c) = 0 ∧
            aget t.loft.dma c = some ⟨s.get (F.LFT_DMA_SRC_src c), s.get (F.LFT_DMA_DST_dst c), n, st, dt, ev, false, s.now + 2⟩)
        ∧ (n = 0 → ∃ t, exec (.dmaGo c who st dt ev) s = .next t ∧ t.flag (F.LFT_DMA_STATUS_done c) = true ∧
          t.flag (F.LFT_DMA_STATUS_busy c) = false ∧ t.loft = s.loft ∧
          (s.evRoom 1 → ev = true → reports s t 1016 0x14 1 c))
        ∧ (n ≠ 0 → (dmaEndBad s st (s.get (F.LFT_DMA_SRC_src c)) n = true ∨
            dmaEndBad s dt (s.get (F.LFT_DMA_DST_dst c)) n = true) →
          ∃ t, exec (.dmaGo c who st dt ev) s = .next t ∧ t.flag (F.LFT_DMA_STATUS_halted c) = true ∧
            t.get (F.LFT_DMA_STATUS_cause c) = 5 ∧ t.loft = s.loft))
      ∧ (s.flag (F.LFT_DMA_STATUS_busy c) = true → ∃ t, exec (.dmaGo c who st dt ev) s = .next t ∧ t.loft = s.loft ∧
        t.flag (F.LFT_DMA_STATUS_busy c) = true ∧ t.get (F.LFT_DMA_UNITS_DONE_units c) = s.get (F.LFT_DMA_UNITS_DONE_units c)))
    ∧ (∀ a n, bits a 30 2 = 0 → (dmaEndBad s false a n = true ↔ a % 64 ≠ 0 ∨ 2 ^ 29 < a % 2 ^ 29 + 64 * n))
    ∧ (dmaMine s c who = true → mayAsk s who (F.LFT_DMA_CTRL_go c).addr 2 = true →
      (∀ d, gateOpen s 316 = true → aget s.loft.dma c = some d → exec (.dmaAbort c who) s = .next (settle (s.setLoft
        { s.loft with dma := aset s.loft.dma c { d with aborting := true } })))
      ∧ (gateOpen s 316 = true → aget s.loft.dma c = none → exec (.dmaAbort c who) s = .next (settle s))
      ∧ (∀ st dt ev, gateOpen s 316 = false → exec (.dmaGo c who st dt ev) s = .next (settle (shutCount s 316)) ∧
        exec (.dmaAbort c who) s = .next (settle (shutCount s 316))))
    ∧ (∀ st dt ev, dmaMine s c who = false → mayAsk s who (F.LFT_DMA_CTRL_go c).addr 2 = true →
      exec (.dmaGo c who st dt ev) s = .next (settle s) ∧ exec (.dmaAbort c who) s = .next (settle s))
    ∧ (∀ d v e u n r, s.flag (F.CLK_GATE_EN_open 316) = true → aget s.loft.dma c = some d → v = s.atNow d.next →
      e = { d with next := v.now + 2 } → u = v.setLoft { s.loft with dma := aset s.loft.dma c e } →
      n = s.get (F.LFT_DMA_UNITS_DONE_units c) → r = dmaUnit u c n e →
      (∀ x, r.1 = some x → exec (.dmaCommandComplete c) s = .next (settle (dmaHalt r.2 c x.1 x.2)))
      ∧ (∀ z, r.1 = none → d.units ≤ n + 1 → z = State.setAll (State.setLoft (r.2.set (F.LFT_DMA_UNITS_DONE_units c) (n + 1))
            { r.2.loft with dma := adel r.2.loft.dma c }) [(F.LFT_DMA_STATUS_busy c, 0), (F.LFT_DMA_STATUS_done c, 1)] →
        exec (.dmaCommandComplete c) s = .next (settle (if d.evDone = true then raise z 1016 0x14 1 c else z)))
      ∧ (r.1 = none → d.aborting = false → n + 1 < d.units →
        exec (.dmaCommandComplete c) s = .next (settle (r.2.set (F.LFT_DMA_UNITS_DONE_units c) (n + 1))))
      ∧ (r.1 = none → d.aborting = true → n + 1 < d.units →
        exec (.dmaCommandComplete c) s = .next (settle (dmaHalt (r.2.set (F.LFT_DMA_UNITS_DONE_units c) (n + 1)) c 4
          (r.2.get (F.LFT_DMA_FAIL_ADDR_addr c))))))
    ∧ (s.flag (F.CLK_GATE_EN_open 316) = false ∨ aget s.loft.dma c = none →
      exec (.dmaCommandComplete c) s = .next (settle s))

/-- The start tests end with their outcome in LFT_STATUS. A header with a bad CRC is read again twice, counted, and
then fails the attempt; one that fails a check of R339 fails it with the check's code and reason, the magic and
format first, then the part, the signature, its key, the key source, the version and the kind; a good one takes
effect and the load advances, and slot 1 without the magic is read from the first device. A good frame inside a
segment is held, one with a tag there fails the attempt; a segment that verifies is hashed and written frame by
frame, and the last one ends the stream. After each of these the monitors follow the clocks that are configured.
After 100 ms without TICK the load goes on slowly. A failure on slot 0 begins the attempt on slot 1, with the
resets of both devices and the read of its header; one on slot 1 ends the load in SAFE. -/
def Obligations.LoadBegins : Prop :=
  ∀ s : State,
    (∀ (t : SelfTest) (u : State), t.ok = true → s.modes.testDue = true → s.modes.por = false → s.pins.porstN = true →
      u = selfTest { s with modes := { s.modes with testDue := false } } t →
      u.get F.LFT_STATUS_selftest_done = 1 ∧
      u.get F.LFT_STATUS_selftest_pass = ofBool (decide (t.banks = [] ∧ t.spares = []) && t.sram.isNone && t.tables.isNone) ∧
      (u.cfg.load = none → exec (.selfTestComplete t) s = .next (settle u)) ∧
      (∀ q, u.cfg.load = some q → u.mode = Mode.load → exec (.selfTestComplete t) s
        = .next (settle (loadAdvance (setLoad u (some { q with tested := true }))))) ∧
      (u.cfg.load ≠ none → u.mode ≠ Mode.load →
        exec (.selfTestComplete t) s = .next (settle (setLoad u none))))
    ∧ ∀ r : LoadRun, s.cfg.load = some r →
    (∀ (h : Header) (q : LoadRun), h.ok = true → r.hdr = none → s.mode = Mode.load →
      (h.magicOk = false → r.alt = false → s.flag F.CFG_STATUS_alt_tried = true → q = { r with alt := true, tries := 0 } →
        exec (.headerRead h) s = .next (settle (monFollow (flashSend (setLoad s (some q)) [readSlow s q 0 4096]))))
      ∧ (h.magicOk = true ∨ r.alt = true ∨ s.flag F.CFG_STATUS_alt_tried = false →
        exec (.headerRead h) s = .next (settle (monFollow (
          if h.crcOk = false then (if r.tries < 2 then flashSend (setLoad (s.bump F.CFG_CRC_RETRY_CNT_count 1)
            (some { r with tries := r.tries + 1 })) [readSlow s r 0 4096] else loadRefuse s 2 1 0)
          else match headerBad s h 1 with
            | some x => loadRefuse s x.1 x.2 0
            | none => if 49920 < h.frames then loadRefuse s 4 5 0 else if h.frames < 2 then loadRefuse s 4 1 0
              else loadAdvance (setLoad (clockSection s h) (some { r with hdr := some h, tries := 0, hdrAt := s.now })))))))
    ∧ (∀ (h : Header) (k : Nat),
      (h.magic ≠ 0xF1C04128 ∨ h.format ≠ 2 → headerBad s h k = some (6, 1))
      ∧ (h.magic = 0xF1C04128 → h.format = 2 → (h.part ≠ s.get F.ID_PART_part_code ∨ s.get F.ID_PART_stack_rev < h.minRev) →
        headerBad s h k = some (6, 2))
      ∧ (h.magic = 0xF1C04128 → h.format = 2 → h.part = s.get F.ID_PART_part_code → h.minRev ≤ s.get F.ID_PART_stack_rev →
        4 ≤ h.signer → headerBad s h k = if h.sigOk = true then some (1, 2) else some (1, 1)))
    ∧ (∀ h u, r.hdr = some h → s.get (F.CLK_MON_STATUS_state 34) ≠ 2 → s.clk.slow = false →
      u = s.atNow (r.hdrAt + 98304000) →
      exec .bootSlowTimeout s = .next (settle (loadAdvance (raise
        (State.set { u with clk := { s.clk with slow := true } } F.CFG_STATUS_boot_slow 1) 1021 0x0F 4 0))))
    ∧ (r.hdr = none ∨ s.get (F.CLK_MON_STATUS_state 34) = 2 ∨ s.clk.slow = true →
      exec .bootSlowTimeout s = .next (settle s))
    ∧ (∀ (h : Header) (f : Frame) (retry : State) (next : FlashCmd) (key : Nat), f.ok = true → r.hdr = some h →
      s.get F.CFG_STATUS_load_state = 2 → key = streamKey s h → next = readFast s r (4096 * (r.next + 1)) 4096 →
      retry = (if r.tries < 2 then flashSend (setLoad (s.bump F.CFG_CRC_RETRY_CNT_count 1)
        (some { r with tries := r.tries + 1 })) [readFast s r (4096 * r.next) 4096] else loadRefuse s 2 1 r.next) →
      (r.next % 64 ≠ 0 → r.next + 1 ≠ h.frames → exec (.flashFrameRead f) s = .next (settle (monFollow (
        if f.crcOk key h.nonce r.next = false then retry
        else if f.tagZero = false then loadRefuse s 3 2 r.next
        else flashSend (setLoad s (some { r with tries := 0, next := r.next + 1, seg := r.seg ++ [f] }))
          [readFast (setLoad s (some { r with tries := 0, next := r.next + 1, seg := r.seg ++ [f] })) r
            (4096 * (r.next + 1)) 4096]))))
      ∧ (∀ pos hs q, (r.next % 64 = 0 ∨ r.next + 1 = h.frames) → pos = r.next - r.seg.length →
        hs = r.hashes ++ [segHash key h.nonce pos (r.seg ++ [f])] →
        q = { r with tries := 0, next := r.next + 1, seg := [], kind := f.kind, hashes := hs } →
        exec (.flashFrameRead f) s = .next (settle (monFollow (
          if f.crcOk key h.nonce r.next = false then retry
          else if segTagOk key h.nonce pos (r.seg ++ [f]) = false then loadRefuse s 3 1 r.next
          else match segmentWrite h.frames pos r.kind (r.seg ++ [f]) s with
            | .error x => loadRefuse s x.1 x.2.1 x.2.2
            | .ok u => if r.next + 1 = h.frames then streamEnd (loadStep (setLoad u (some q)) 3) h hs
              else flashSend (setLoad u (some q)) [readFast (setLoad u (some q)) r (4096 * (r.next + 1)) 4096])))))
    ∧ (∀ f : Frame, f.ok = true → (r.hdr = none ∨ s.get F.CFG_STATUS_load_state ≠ 2) →
      exec (.flashFrameRead f) s = .next (settle (monFollow s)))
    ∧ (∀ a c k f, s.get F.CFG_STATUS_alt_tried = 0 →
      (loadFail s a c k f).get F.CFG_STATUS_alt_tried = 1 ∧ (loadFail s a c k f).get F.CFG_STATUS_load_state = 0 ∧
      (loadFail s a c k f).cfg.load = some ⟨none, r.tested, 0, 1, 0, [], r.start, false, 0, []⟩ ∧
      (loadFail s a c k f).cfg.flashOut = [⟨3, 0, 0x66, none, 0, [], 0⟩, ⟨3, 0, 0x99, none, 0, [], 0⟩,
        ⟨2, 0, 0x13, some 0, 0, [], 4096⟩])
    ∧ (∀ a c k f, s.get F.CFG_STATUS_alt_tried = 1 →
      (loadFail s a c k f).mode = Mode.safe ∧ (loadFail s a c k f).get F.CFG_STATUS_load_state = 7 ∧
      (loadFail s a c k f).cfg.load = none ∧ (loadFail s a c k f).pins.errorN = false ∧
      ((loadFail s a c k f).get (F.CFG_FAIL_code 1) = c % 256))

/-- The firmware that fails a check of R431 fails the attempt in area SEC; a good one is copied into keeper SRAM and
measured, and admission judges the stream with each group's owner at the run: refused, the attempt fails in area
ADM; passed without TICK, the device enters SAFE; passed with it, the load ends with DONE high, the
configuration in force and, without twin operation, mode ACTIVE. An image of another size fails first, with its
length. -/
def Obligations.LoadEnds : Prop :=
  ∀ (s : State) (f : Firmware), f.ok = true →
    (∀ (r : LoadRun) (h : Header) u a, s.cfg.load = some r → r.hdr = some h → s.get F.CFG_STATUS_load_state = 4 →
      u = setCfg ((setSec (s.setAll ((List.range 12).map (fun i => (F.SEC_MEAS_FW_hash i, f.hash / 2 ^ (32 * i)))))
        { s.sec with fwVersion := f.version }).setLoft { s.loft with sram := sramOf f }) { s.cfg with fwHash := f.hash } →
      a = admissionRun u u (fun g => if s.flag (F.LFT_GRP_STATUS_failed g) = true ∨ 32 ≤ g then 1023 else streamOwner u g) 0 →
      exec (.firmwareRead f) s = .next (settle (monFollow (match firmwareBad s f with
        | some x => loadFail (raiseCrit s true 1023 x.1 6 x.2) 3 x.1 0 (h.frames - 1)
        | none =>
          if a.1 = false then loadFail (loadStep a.2 5) 1 ((loadStep a.2 5).get F.ADM_RESULT_first_code)
            ((loadStep a.2 5).get F.ADM_RESULT_reason) (h.frames - 1)
          else if (loadStep a.2 5).get (F.CLK_MON_STATUS_state 34) ≠ 2 then
            toSafe (setLoad (raise (loadStep a.2 5) 1021 0x10 7 0) none) false
          else leaveLoad (loadStep a.2 5) r h))))
    ∧ (s.cfg.load = none ∨ s.get F.CFG_STATUS_load_state ≠ 4 →
      exec (.firmwareRead f) s = .next (settle (monFollow s)))
    ∧ (f.sizeOk = false → firmwareBad s f = some (0x43, f.length))
    ∧ (f.sizeOk = true → 2 ≤ f.index → firmwareBad s f = some (0x40, s.get F.CFG_STATUS_alt_tried))
    ∧ (∀ (r : LoadRun) (h : Header),
      (leaveLoad s r h).pins.done = true ∧ (leaveLoad s r h).cfg.load = none ∧
      (leaveLoad s r h).get F.CFG_STATUS_load_state = 6 ∧ (leaveLoad s r h).get F.ADM_RESULT_in_force = 1 ∧
      (leaveLoad s r h).get F.CFG_STREAM_frames = h.frames % 2 ^ 16 ∧
      (s.flag F.TW_CFG_enable = false → (leaveLoad s r h).mode = Mode.active))

/-- A stage is refused with CFG_ADDR reason 6 unless the port is EMPTY and enabled and the stage group is the
loader's, and else copies the stream. 256 tk for each frame later, a stream whose copy failed, or whose frames
the group no longer yields, is refused with CFG_CRC reason 2; the stream that the group holds is judged: one
whose header fails is refused with that check, one whose structure, root or admission fails with its code, and
one that passes is VERIFIED; a refusal touches no resident configuration. Discard follows the table of R355. The
writes of a commit begin once the bins have drained and the pre-check has read the group again, and not before;
and at its end the stream is in force, or the commit fails. -/
def Obligations.PartialStreams : Prop :=
  ∀ s : State,
    ((s.get F.CFG_PR_STATUS_state ≠ 0 ∨ s.flag F.CFG_PR_CFG_enable = false ∨ stageOurs s = false) →
      exec .prStage s = .next (settle (prRaise (prStatus s 0 4 6 0) 4 6 0)))
    ∧ (s.get F.CFG_PR_STATUS_state = 0 → s.flag F.CFG_PR_CFG_enable = true → stageOurs s = true →
      ∃ t k, exec .prStage s = .next t ∧ t.cfg.staging = some (t.now, k) ∧ t.cfg.stage = none ∧ t.cfg.retained = none ∧
        t.get F.CFG_PR_STATUS_state = 1 ∧ t.get F.CFG_PR_STATUS_retained = 0)
    ∧ (∀ (h : Header) (fs : List Frame), h.ok = true → fs.all Frame.ok = true →
      (s.cfg.staging = none → exec (.prStageComplete h fs) s = .next (settle s))
      ∧ (∀ t0 k n u, s.cfg.staging = some (t0, some k) → n = min 4096 (s.get F.CFG_PR_LEN_frames) →
        u = s.atNow (t0 + 256 * n) → exec (.prStageComplete h fs) s = .next (settle (prRefuse u 2 2 k)))
      ∧ (∀ t0 n u r, s.cfg.staging = some (t0, none) → n = min 4096 (s.get F.CFG_PR_LEN_frames) →
        u = s.atNow (t0 + 256 * n) → r = stageScan h fs n 0 u →
        exec (.prStageComplete h fs) s = .next (settle (match r.1 with
          | some x => if x.1 = 2 then prRefuse r.2 2 2 x.2 else u
          | none => if fs.length + 1 = n then stageVerify r.2 h fs else u))))
    ∧ (∀ (h : Header) (fs : List Frame),
      stageVerify s h fs = if h.crcOk = false then prRefuse s 2 1 0 else match headerBad s h 2 with
        | some x => prRefuse s x.1 x.2 0
        | none =>
          if h.frames ≠ s.get F.CFG_PR_LEN_frames ∨ 4096 < h.frames then prRefuse s 4 5 0
          else if h.frames < 2 then prRefuse s 4 1 0
          else if 4 ≤ h.flags then prRefuse s 4 4 0
          else match stageFrames s h 1 1 [] StreamSeen.reset [] fs with
            | .error e => prRefuse s e.1 e.2.1 e.2.2
            | .ok x => stageJudge s h (fs.take (h.frames - 1)) x.1 x.2)
    ∧ (∀ (h : Header) (fs : List Frame) x hs,
      (∀ e, partialApply s h fs x = .error e → stageJudge s h fs x hs = prRefuse s e.1 e.2.1 e.2.2)
      ∧ (∀ t, partialApply s h fs x = .ok t → enablesClash t = true → stageJudge s h fs x hs = prRefuse s 5 0 (h.frames - 1))
      ∧ (∀ t, partialApply s h fs x = .ok t → enablesClash t = false → poolsAgree t t.cfg.seen.shelf = true →
        streamBad (setSeen t x) false = false → admNamed s t = false →
        (if rootOf hs ≠ h.root then stageJudge s h fs x hs = prRefuse s 1 3 (h.frames - 1)
        else (stageJudge s h fs x hs).get F.CFG_PR_STATUS_state = 2 ∧
          (stageJudge s h fs x hs).cfg = { s.cfg with staging := none, stage := some ⟨h, fs, x, 0, [], none⟩ })))
    ∧ (∀ c k f, (prRefuse s c k f).cfg = { s.cfg with staging := none, stage := none } ∧
      (prRefuse s c k f).loft = s.loft ∧ (prRefuse s c k f).bins = s.bins ∧
      (prRefuse s c k f).get F.CFG_PR_STATUS_state = 0 ∧
      (∀ p, (prRefuse s c k f).get (F.BIN_CTX_CFG_ctx_loaded p) = s.get (F.BIN_CTX_CFG_ctx_loaded p)))
    ∧ (s.get F.CFG_PR_STATUS_state = 3 → exec .prDiscard s = .next (settle s))
    ∧ (s.get F.CFG_PR_STATUS_state = 0 → exec .prDiscard s
      = .next (settle (setCfg (s.set F.CFG_PR_STATUS_retained 0) { s.cfg with retained := none })))
    ∧ (s.get F.CFG_PR_STATUS_state = 1 → exec .prDiscard s = .next (settle (raise (prEmpty s) 1023 0x22 2 1)))
    ∧ (s.get F.CFG_PR_STATUS_state = 2 → exec .prDiscard s = .next (settle (raise (prEmpty s) 1023 0x22 2 0)))
    ∧ (∀ us : List (Nat × Upset), us.all (fun y => decide (y.1 < 2 ^ 21)) = true →
      (∀ x r, s.cfg.stage = some x → s.get F.CFG_PR_STATUS_state = 3 → x.writing = none → drained s x = true →
        r = stageScan x.hdr x.frames x.hdr.frames 0 (stageStrike (s.atNow (x.fired + 256 * x.hdr.frames)) us) →
        exec (.prCommitWriteStart us) s = .next (settle (match r.1 with
          | some y => commitRelease (kernelsFree (prRefuse r.2 2 y.1 y.2))
          | none => lapsTouch (setCfg r.2 { r.2.cfg with stage := some { x with writing := some r.2.now } }))))
      ∧ (∀ x, s.cfg.stage = some x → (s.get F.CFG_PR_STATUS_state ≠ 3 ∨ x.writing ≠ none ∨ drained s x = false) →
        exec (.prCommitWriteStart us) s = .next (settle s))
      ∧ (∀ x t0 r, s.cfg.stage = some x → x.writing = some t0 →
        r = stageScan x.hdr x.frames x.hdr.frames 0 (stageStrike
          (lapsTouch (s.atNow (t0 + max 1 (imageTk * (x.seen.image / 32))))) us) →
        exec (.prCommitEnd us) s = .next (settle (match r.1 with
          | some y => commitFail r.2 x (y.2 % 8192)
          | none => match partialApply r.2 x.hdr x.frames x.seen with
            | .error _ => commitFail r.2 x (x.hdr.frames - 1)
            | .ok t => commitEnd r.2 x t)))
      ∧ (s.cfg.stage = none → exec (.prCommitWriteStart us) s = .next (settle s) ∧
        exec (.prCommitEnd us) s = .next (settle s)))

/-- At its own pace, an engine leaves a word that a load or a commit writes; at any other it moves on, engine 0 up
and engine 1 down through all 26,087,424 words: a clean word is left, with the wire whose enable it holds seen,
a corrected one is written back and counted, and one that cannot be corrected waits for repair. A word that is
written decodes clean. The oldest waiting word is written from the first source that holds a clean copy, another
bin of the same image before the flash, and is reported and counted, or it is lost. A lap's end compares the
signatures of both engines where neither lap was touched: equal ones clear the mismatches, others count one and
restart both laps, and the third fails the device's scrubbing; an engine that stalls is restarted. -/
def Obligations.ConfigScrub : Prop :=
  ∀ (s : State) (e : Nat), e < 2 →
    (∀ (u : Upset) (wire : Option Nat) voted v w x, wire.all (fun k => decide (k < 192)) = true →
      v = bgDue (if voted = true then s.bump F.CFG_SCRUB_VOTE_CNT_count 1 else s) e →
      w = v.get (F.CFG_SCRUB_POS_word e) → x = cfgStrike v w u →
      (wordWritten x w = true → exec (.cfgScrubWord e u wire voted) s = .next (settle x))
      ∧ (wordWritten x w = false →
        (∀ d, cfgDecode x w = .clean d → exec (.cfgScrubWord e u wire voted) s = .next (settle (scrubNext
          (match wire with | some k => wireIntact x (wordBin w) k | none => x) e)))
        ∧ (∀ d y, cfgDecode x w = .corrected d → y = (cfgStore x w d).bump (F.CFG_SCRUB_CNT_corrected e) 1 →
          exec (.cfgScrubWord e u wire voted) s = .next (settle (scrubNext
            (match wire with | some k => wireEnds y (192 * (wordBin w % 132) + k) | none => y) e)))
        ∧ (cfgDecode x w = .poisoned ∨ cfgDecode x w = .uncorrectable →
          exec (.cfgScrubWord e u wire voted) s = .next (settle (scrubNext (wordQueue x e w wire) e)))))
    ∧ ((scrubNext s 0).get (F.CFG_SCRUB_POS_word 0) = (s.get (F.CFG_SCRUB_POS_word 0) + 1) % 26087424
      ∧ (scrubNext s 1).get (F.CFG_SCRUB_POS_word 1) = (s.get (F.CFG_SCRUB_POS_word 1) + 26087423) % 26087424)
    ∧ (∀ w d, cfgDecode (cfgStore s w d) w = .clean d)
    ∧ (∀ w (wire : Option Nat), (∀ r ∈ s.cfg.repairs, r.word ≠ w) → w ∉ s.cfg.lostWords → wordInUse s w = false →
      wordQueue s e w wire = setCfg s { s.cfg with repairs := s.cfg.repairs ++ [⟨e, w, wire, false⟩] })
    ∧ (∀ r rest ok x u, s.cfg.repairs = r :: rest → x = repairSource s r.word ok →
      u = raise (lapsTouch (setCfg x.2.2 { x.2.2.cfg with repairs := rest })) 1023 0x30 5
        (wordBin r.word + (if wordCtx r.word = 8 then 4096 else wordCtx r.word * 512) + ofBool (x.1 ≠ 0) * 8192 + x.1 * 16384) →
      (x.1 ≠ 0 → r.wire = none → exec (.cfgScrubRepair ok) s = .next (settle (wordRelease
        ((cfgStore u r.word x.2.1).bump (F.CFG_SCRUB_CNT_repaired r.engine) 1) (wordBin r.word))))
      ∧ (∀ k, x.1 ≠ 0 → r.wire = some k → exec (.cfgScrubRepair ok) s = .next (settle (wordRelease (wireEnds
        ((cfgStore u r.word x.2.1).bump (F.CFG_SCRUB_CNT_repaired r.engine) 1) (192 * (wordBin r.word % 132) + k)) (wordBin r.word))))
      ∧ (x.1 = 0 → exec (.cfgScrubRepair ok) s = .next (settle (wordLost u r.word))))
    ∧ (∀ ok, s.cfg.repairs = [] → exec (.cfgScrubRepair ok) s = .next (settle s))
    ∧ (∀ w ok, (∀ d, copyOf s w = some d → repairSource s w ok = (1, d, s))
      ∧ (copyOf s w = none → inFlash s w = true → ok = true → repairSource s w ok = (2, cfgData s w, s))
      ∧ (copyOf s w = none → (inFlash s w = false ∨ ok = false) →
        (repairSource s w ok).1 = if (retainedHas s w).1 = true then 3 else 0))
    ∧ (∀ flip v us x, flip < 2 ^ 32 → v = s.atNow ((lapOf s e).start + 26087424 * bgGap s e / 100) →
      us = satNat 24 (tkToUs (v.now - (lapOf s e).start)) →
      x = v.setAll [(F.CFG_SCRUB_POS_word e, 0), (F.CFG_SCRUB_SIG_sig e, cfgSignature s ^^^ flip),
        (F.CFG_SCRUB_LAP_lap_us e, us), (F.LFT_BG_LAP_lap_us e, us)] →
      exec (.cfgScrubLapEnd e flip) s = .next (settle (lapCompare
        (setLap x e ⟨v.now, false, !(lapOf s e).touched, x.get (F.LFT_BG_CFG_rate e)⟩))))
    ∧ (((lapOf s 0).ready = false ∨ (lapOf s 1).ready = false) → lapCompare s = s)
    ∧ ((lapOf s 0).ready = true → (lapOf s 1).ready = true →
      (s.get (F.CFG_SCRUB_SIG_sig 0) = s.get (F.CFG_SCRUB_SIG_sig 1) → lapCompare s = s.set F.CFG_SCRUB_STATE_mismatches 0)
      ∧ (s.get (F.CFG_SCRUB_SIG_sig 0) ≠ s.get (F.CFG_SCRUB_SIG_sig 1) →
        (s.get F.CFG_SCRUB_STATE_mismatches < 2 → lapCompare s = scrubRestart (scrubRestart (raise
          (s.set F.CFG_SCRUB_STATE_mismatches (s.get F.CFG_SCRUB_STATE_mismatches + 1)) 1023 0x31 4 0) 0) 1)
        ∧ (2 ≤ s.get F.CFG_SCRUB_STATE_mismatches → (lapCompare s).get F.CFG_SCRUB_STATE_failed = 1)))
    ∧ exec (.cfgScrubStall e) s = .next (settle (raise (scrubRestart
        (s.atNow ((lapOf s e).start + 2 * ceilDiv (26087424 * 98304) (max 1 (bgRate s e) * 800))) e) 1023 0x33 4 e))

/-- A frame on an UP twin lane takes effect when it is the next of its channel, with the frames held behind it, is
held when it is ahead, with an acknowledgement when half the buffer is full, is counted when it was delivered
already, and is malformed when its type or count is not its body's; before pairing it is delivered as it comes.
The header's number acknowledges the response frames that it covers. In order, a heartbeat, a mirror frame, an
acknowledgement, a line request, a control frame and a declared fault each complete with what their body does.
An acknowledgement ends the waiting of what it covers, an empty mirror frame is only counted, a line request
makes its lines dirty and full. The acknowledgement and heartbeat timers send their frames, an unacknowledged
frame is sent again on another lane, and the mirror engine sends the oldest dirty line, or the next line of the
bulk pass. -/
def Obligations.TwinFrames : Prop :=
  ∀ s : State, twOn s = true →
    (∀ (f : TwinFrame) (c : Instr), f.ok = true → (twLanes s).contains f.lane = true →
      ((c = .twinHeartbeatRx f ∧ f.body.typ = 1) ∨ (c = .twinMirrorRx f ∧ f.body.typ = 2)
        ∨ (c = .twinAckRx f ∧ f.body.typ = 3) ∨ (c = .twinLineReqRx f ∧ f.body.typ = 4)
        ∨ (c = .twinControlRx f ∧ f.body.typ = 5) ∨ (c = .twinFaultRx f ∧ f.body.typ = 6)) →
      ((f.typ ≠ f.body.typ ∨ f.count ≠ f.body.count ∨ 16 < f.count) →
        exec c s = .next (settle (s.bump F.TW_CNT_MISC_malformed 1)))
      ∧ (∀ u v n, f.typ = f.body.typ → f.count = f.body.count → f.count ≤ 16 → u = headAck s f.ack →
        v = frameTaken s f.ack f.body.vc f.seq →
        n = (u.twin.rxHeld.filter (fun g => g.body.vc = f.body.vc)).length →
        (twPaired s = false → exec c s = .next (settle (deliverFrame v f)))
        ∧ (twPaired s = true → rxHigh s f.body.vc < 2 ^ 32 →
          (f.seq = (rxHigh s f.body.vc + 1) % 2 ^ 32 → exec c s = .next (settle (drainHeld 64 (deliverFrame v f) f.body.vc)))
          ∧ ((f.seq + 2 ^ 33 - rxHigh s f.body.vc - 1) % 2 ^ 32 ≥ 2 ^ 31 →
            exec c s = .next (settle (u.bump F.TW_CNT_LINK_dup 1)))
          ∧ (1 ≤ (f.seq + 2 ^ 33 - rxHigh s f.body.vc - 1) % 2 ^ 32 →
            (f.seq + 2 ^ 33 - rxHigh s f.body.vc - 1) % 2 ^ 32 < 2 ^ 31 → exec c s = .next (settle (
            if 64 ≤ n ∨ u.twin.rxHeld.any (fun g => g.body.vc = f.body.vc && g.seq = f.seq) = true then u
            else if n = 31 then ackSend (setTw u { u.twin with rxHeld := u.twin.rxHeld ++ [f] })
            else setTw u { u.twin with rxHeld := u.twin.rxHeld ++ [f] }))))))
    ∧ (∀ lane ack ep ses, twPaired s = true → 120 ≤ lane → lane < 128 → ack < 2 ^ 32 → ep < 2 ^ 16 → ses < 2 ^ 16 →
      (twLanes s).contains lane = true → rxHigh s 0 < 2 ^ 32 → rxHigh s 1 < 2 ^ 32 → rxHigh s 2 < 2 ^ 32 → rxHigh s 3 < 2 ^ 32 →
      (∀ h, exec (.twinHeartbeatRx ⟨lane, 1, 0, (rxHigh s 2 + 1) % 2 ^ 32, ack, ep, ses, .heartbeat h⟩) s
        = .next (settle (drainHeld 64 (heartbeatRx (frameTaken s ack 2 ((rxHigh s 2 + 1) % 2 ^ 32)) h) 2)))
      ∧ (∀ rs : List TwinRec, rs.length ≤ 16 →
        exec (.twinMirrorRx ⟨lane, 2, rs.length, (rxHigh s 3 + 1) % 2 ^ 32, ack, ep, ses, .mirror rs⟩) s
        = .next (settle (drainHeld 64 (if s.flag F.TW_STATUS_role = true then (frameTaken s ack 3 ((rxHigh s 3 + 1) % 2 ^ 32))
          else if rs = [] then (frameTaken s ack 3 ((rxHigh s 3 + 1) % 2 ^ 32)).bump F.TW_CNT_MISC_zero_bursts 1
          else readyJudge (rs.foldl (recApply ses) (frameTaken s ack 3 ((rxHigh s 3 + 1) % 2 ^ 32)))) 3)))
      ∧ (∀ hs, exec (.twinAckRx ⟨lane, 3, 0, (rxHigh s 1 + 1) % 2 ^ 32, ack, ep, ses, .ack hs⟩) s
        = .next (settle (drainHeld 64 (ackRx (frameTaken s ack 1 ((rxHigh s 1 + 1) % 2 ^ 32)) hs) 1)))
      ∧ (∀ l, exec (.twinLineReqRx ⟨lane, 4, 0, (rxHigh s 0 + 1) % 2 ^ 32, ack, ep, ses, .lineReq l⟩) s
        = .next (settle (drainHeld 64 (if s.flag F.TW_STATUS_role = true then
          lineReqRx (frameTaken s ack 0 ((rxHigh s 0 + 1) % 2 ^ 32)) l else (frameTaken s ack 0 ((rxHigh s 0 + 1) % 2 ^ 32))) 0)))
      ∧ (∀ k, exec (.twinControlRx ⟨lane, 5, 0, (rxHigh s 0 + 1) % 2 ^ 32, ack, ep, ses, .control k⟩) s
        = .next (settle (drainHeld 64 (controlRx (frameTaken s ack 0 ((rxHigh s 0 + 1) % 2 ^ 32)) k) 0)))
      ∧ (∀ b, exec (.twinFaultRx ⟨lane, 6, 0, (rxHigh s 2 + 1) % 2 ^ 32, ack, ep, ses, .fault b⟩) s
        = .next (settle (drainHeld 64 (twinFault (frameTaken s ack 2 ((rxHigh s 2 + 1) % 2 ^ 32)) (if b = true then 3 else 2)) 2))))
    ∧ (∀ t n vc, t.twin.rxHeld = [] → drainHeld n t vc = t)
    ∧ (∀ lane seq ack ep ses, s.flag F.TW_STATUS_role = false → twPaired s = true →
      deliverFrame s ⟨lane, 2, 0, seq, ack, ep, ses, .mirror []⟩ = s.bump F.TW_CNT_MISC_zero_bursts 1)
    ∧ (∀ l a, lineReqRx s l = l.foldl (fun t a => lineReqRx t [a]) s ∧
      (twMirrors s = true → ∀ x, aget s.twin.sent a = some x →
        (lineReqRx s [a]).twin.sent = aset s.twin.sent a { x with full := false } ∧
        ∃ t, (a, t) ∈ (lineReqRx s [a]).twin.dirty))
    ∧ (∀ hs : List Nat, s.twin.handoff = false → s.twin.rot = none →
      (ackRx s hs).twin.txq = s.twin.txq.filter (fun x =>
        !((hs.getD x.vc 0 + 2 ^ 32 - x.seq) % 2 ^ 32 < 2 ^ 31)))
    ∧ (∀ u, u = s.atNow s.twin.tm.ack → exec .twinAckTimer s = .next (settle (twSend
      (setTw u { s.twin with tm := { s.twin.tm with ack := u.now + usToTk 2 } })
      (.ack [rxHigh s 0, rxHigh s 1, rxHigh s 2, rxHigh s 3]))))
    ∧ (∀ b l0 ls, twLanes s = l0 :: ls → ∃ n k, (twSend s b).twin.txq = s.twin.txq ++ [⟨b.vc, n, k, [k], s.now, 0, b,
        s.get F.TW_EPOCH_epoch, s.get F.TW_EPOCH_session, rxHigh s 1⟩] ∧
      aget (twSend s b).twin.txSeq b.vc = some n ∧ n = ((aget s.twin.txSeq b.vc).getD 0 + 1) % 2 ^ 32 ∧ k ∈ l0 :: ls)
    ∧ (∃ t h, exec .twinHeartbeatSend s = .next (settle (twSend t (.heartbeat h))) ∧
      t.pins.twHbOut = (!s.pins.twHbOut && s.twin.faultSent.isNone) ∧ h.active = s.flag F.TW_STATUS_role ∧
      h.mode = s.mode ∧ h.ready = s.flag F.TW_STATUS_ready ∧ t.now = max s.now s.twin.tm.hb ∧
      t.twin.tm.hb = t.now + usToTk 20)
    ∧ (∀ vc seq x, vc < 4 → seq < 2 ^ 32 → s.twin.txq.find? (fun y => y.vc = vc && y.seq = seq) = some x →
      x.retries < 3 → ∃ t k, exec (.twinResendTimeout vc seq) s = .next t ∧
        t.get F.TW_CNT_LINK_retries = min 65535 (s.get F.TW_CNT_LINK_retries + 1) ∧
        { x with retries := x.retries + 1, lane := k, lanes := nins k x.lanes,
                 at' := max s.now (x.at' + usToTk 4) } ∈ t.twin.txq ∧
        ((∃ l ∈ twLanes s, l ≠ x.lane) → k ≠ x.lane ∧ k ∈ twLanes s))
    ∧ (∀ a, twMirrors s = true → s.twin.linkLost = false → twLanes s ≠ [] → dirtyPick s = some a →
      exec (.mirrorLineSend false) s = .next (settle (lineSend s a)))
    ∧ (∀ i, twMirrors s = true → s.twin.linkLost = false → twLanes s ≠ [] → s.twin.bulk = some i →
      exec (.mirrorLineSend true) s = .next (settle (bulkSend (bulkPace s) i)))

/-- Over the lines of regions 0 to 2: a record that is not newer than the stored line, or is malformed, changes no
line; a full record whose tag verifies is stored with its version, session and key ID and is not STALE; a STALE
mark keeps the data and sets STALE; a delta whose stored line and result both verify replaces exactly the blocks
its mask names; one whose stored line does not verify marks it STALE; a record whose tag fails changes no line;
and no record changes another line. -/
def Obligations.TwinLines : Prop :=
  ∀ (s : State) (ses : Nat) (r : TwinRec), ses < 2 ^ 16 → r.version < 2 ^ 32 → 1 ≤ r.key → r.key < 16 →
    (∀ b, b < 3 * 2 ^ 28 → b ≠ r.addr → lineGet (recApply ses s r) b = lineGet s b)
    ∧ (r.addr < 3 * 2 ^ 28 →
      (recBad s r = true → recApply ses s r = s.bump F.TW_CNT_MISC_malformed 1)
      ∧ (recBad s r = false → tripleLt ((lineGet s r.addr).session, (lineGet s r.addr).key, (lineGet s r.addr).version)
          (ses, r.key, r.version) = false → recApply ses s r = s.bump F.TW_CNT_LINES_dup 1)
      ∧ (recBad s r = false → tripleLt ((lineGet s r.addr).session, (lineGet s r.addr).key, (lineGet s r.addr).version)
          (ses, r.key, r.version) = true → keyKnown s ses r.key = true →
        (r.kind = 0 → tagOf s ses r.key r.addr r.version (r.data % 2 ^ 512) = r.tag →
          let l := lineGet (recApply ses s r) r.addr
          l.data = r.data % 2 ^ 512 ∧ l.tag = r.tag ∧ l.version = r.version ∧ l.session = ses ∧ l.key = r.key ∧
            l.stale = false)
        ∧ (r.kind = 0 → tagOf s ses r.key r.addr r.version (r.data % 2 ^ 512) ≠ r.tag →
          lineGet (recApply ses s r) r.addr = lineGet s r.addr)
        ∧ (r.kind = 2 → let l := lineGet (recApply ses s r) r.addr
          l.data = (lineGet s r.addr).data ∧ l.version = r.version ∧ l.stale = true)
        ∧ (r.kind = 1 → tagOf s (lineGet s r.addr).session (lineGet s r.addr).key r.addr (lineGet s r.addr).version
              (lineGet s r.addr).data ≠ (lineGet s r.addr).tag →
          let l := lineGet (recApply ses s r) r.addr
          l.data = (lineGet s r.addr).data ∧ l.stale = true)
        ∧ (r.kind = 1 → tagOf s (lineGet s r.addr).session (lineGet s r.addr).key r.addr (lineGet s r.addr).version
              (lineGet s r.addr).data = (lineGet s r.addr).tag →
          tagOf s ses r.key r.addr r.version (mergeBlocks (lineGet s r.addr).data (r.mask % 16) r.data) = r.tag →
          let l := lineGet (recApply ses s r) r.addr
          l.version = r.version ∧ l.tag = r.tag ∧
            ∀ i, i < 4 → bits l.data (128 * i) 128
              = if bitAt r.mask i then bits r.data (128 * popCount i (r.mask % 16)) 128
                else bits (lineGet s r.addr).data (128 * i) 128)))

/-- A sideband edge is a heartbeat and the eighth within 5 µs a declared fault; a device that has not paired and
waits out pair_wait_ms becomes active alone; a pairing step that reaches its limit fails and pairing starts
again; a verified key exchange settles the roles, and a failed one is reported; handoff, detach and pair are
refused with the reasons of R392 or take effect; a rekey moves to the next key ID; a session's agreement is
retried. -/
def Obligations.TwinPairing : Prop :=
  ∀ s : State, twOn s = true →
    (∃ t, exec .sidebandEdge s = .next t ∧ t.pins.twHbIn = (!s.pins.twHbIn))
    ∧ (∀ u, s.twin.edges = [] → s.get F.TW_STATUS_pair_step ≠ 1 →
      u = setTw { s with pins := { s.pins with twHbIn := !s.pins.twHbIn } } { s.twin with edges := [s.now] } →
      exec .sidebandEdge s = .next (settle (pathBack u false)))
    ∧ (∀ t0 es, s.twin.edges = es ++ [t0] → es.length = 6 → t0 ≤ s.now → s.now - t0 ≤ usToTk 5 → s.twin.sbLost = false →
      s.get F.TW_STATUS_pair_step ≠ 1 →
      ∃ u, exec .sidebandEdge s = .next (settle (twinFault u 2)) ∧ u.twin.edges = [] ∧
        u.flag F.TW_STATUS_sideband_ok = true ∧ twPaired u = twPaired s)
    ∧ (∀ w, s.twin.tm.wait = some w → s.mode = Mode.standby → s.get F.TW_STATUS_state ≤ 1 → s.twin.detached = false →
      ∃ t, exec .pairWaitExpiry s = .next t ∧ t.mode = Mode.active ∧ t.get F.TW_STATUS_state = 4 ∧
        t.flag F.TW_STATUS_role = true ∧ t.pins.twTakeN = false ∧
        t.now = max s.now ((if s.twin.strap then w else max w s.twin.tm.sb)
          + usToTk (1000 * max 1 (s.get F.TW_CFG_pair_wait_ms))))
    ∧ (1 ≤ s.get F.TW_STATUS_pair_step → s.get F.TW_STATUS_pair_step ≤ 6 → s.twin.linkLost = false →
      ∃ t, exec .pairStepTimeout s = .next t ∧ t.now = max s.now (s.twin.tm.step + usToTk 100000) ∧ t.twin.waiting = true ∧ t.twin.fails = s.twin.fails + 1 ∧
        t.get F.TW_STATUS_pair_step = 0)
    ∧ (s.twin.waiting = true → s.twin.detached = false → exec .pairRetry s = .next (settle (pairStart
      (s.atNow (s.twin.tm.fail + (if 3 ≤ s.twin.fails then 10 else 1) * 983040000)))))
    ∧ (∀ lane seq ack ep ses ok, twPaired s = false → s.get F.TW_STATUS_pair_step = 3 →
      deliverFrame s ⟨lane, 5, 0, seq, ack, ep, ses, .control (.key ok)⟩
        = if ok then pairRoles s else pairFail (raise s 1000 0x03 5 0) 2)
    ∧ ((pairRoles s).get F.TW_STATUS_key_id = 1 ∧ (pairRoles s).get F.TW_EPOCH_session = 1 ∧
      (pairRoles s).get F.TW_STATUS_state = 2 ∧ (pairRoles s).twin.keys = [(1, 1)] ∧
      (roleActive s = false → (pairRoles s).mode = Mode.standby ∧ (pairRoles s).flag F.TW_STATUS_role = false ∧
        (pairRoles s).pins.twTakeN = true ∧ (pairRoles s).pins.outputsSafe = true))
    ∧ (s.flag F.TW_STATUS_role = false → exec .twinHandoff s = .next (settle (reqDone s 1 1)))
    ∧ (s.flag F.TW_STATUS_role = true → s.flag F.TW_STATUS_peer_ready = false →
      exec .twinHandoff s = .next (settle (reqDone s 1 2)))
    ∧ (s.flag F.TW_STATUS_role = true → s.flag F.TW_STATUS_peer_ready = true → twPaired s = true → s.twin.dirty = [] →
      (∀ x ∈ s.twin.txq, x.vc ≠ 3) → ∃ t, exec .twinHandoff s = .next t ∧ t.mode = Mode.standby ∧
        t.flag F.TW_STATUS_role = false ∧ t.pins.twTakeN = true ∧ t.get F.TW_STATUS_state = 2)
    ∧ (twPaired s = false → exec .twinDetach s = .next (settle (reqDone s 2 3)))
    ∧ (twPaired s = true → ∃ t, exec .twinDetach s = .next t ∧ t.twin.detached = true ∧
      t.get F.TW_STATUS_state = (if s.flag F.TW_STATUS_role then 4 else 0) ∧ t.mode = s.mode)
    ∧ (twPaired s = true → exec .twinPair s = .next (settle (reqDone s 3 4)))
    ∧ (twPaired s = false → exec .twinPair s
      = .next (settle (pairStart (setTw (reqDone s 3 0) { s.twin with detached := false, fails := 0 }))))
    ∧ (twMirrors s = true → s.twin.rot = none → twKey s < 14 →
      ∃ t, exec .twinRekey s = .next t ∧ t.get F.TW_STATUS_key_id = twKey s + 1 ∧ t.twin.rot = some (twSes s, twKey s) ∧
        t.twin.keys = s.twin.keys ++ [(twSes s, twKey s + 1)])
    ∧ (∀ u, twPaired s = true → twKey s = 15 → s.twin.agreed = false → u = s.atNow (s.twin.tm.rekey + 983040000) →
      exec .sessionRekeyRetry s = .next (settle (twSend
        (setTw u { s.twin with tm := { s.twin.tm with rekey := u.now } }) (.control (.key true)))))

/-- A heartbeat path that times out is reported, counted and not ok; when the link path is lost READY clears, and a
pairing in its sixth step fails; a paired standby that detects a fault while READY, or allowed to without, takes
over: the epoch steps and mirror frames are no longer accepted; an active that detects one goes on ALONE. When
the tables are written the device is ACTIVE with its outputs enabled and TW_TAKE_N low, no symbol open, the time
of the takeover recorded, and every class skips seq_guard sequence numbers; each mirrored group then reports its
conversion. -/
def Obligations.Takeover : Prop :=
  ∀ s : State,
    (∀ link, twOn s = true → s.flag (if link then F.TW_STATUS_link_ok else F.TW_STATUS_sideband_ok) = true →
      (if link then s.twin.sbLost else s.twin.linkLost) = false → (link = true → s.get F.TW_STATUS_pair_step ≠ 6) →
      ∃ t, exec (.heartbeatPathTimeout link) s = .next t ∧
        t.flag (if link then F.TW_STATUS_link_ok else F.TW_STATUS_sideband_ok) = false ∧
        (if link then t.twin.linkLost else t.twin.sbLost) = true ∧
        (link = true → t.flag F.TW_STATUS_ready = false ∧ t.flag F.TW_STATUS_peer_ready = false) ∧
        t.get F.TW_STATUS_state = s.get F.TW_STATUS_state ∧
        t.now = max s.now ((if link then s.twin.tm.link else s.twin.tm.sb) + usToTk 100))
    ∧ (twOn s = true → twPaired s = true → s.flag F.TW_STATUS_link_ok = true → s.twin.sbLost = false →
      s.get F.TW_STATUS_pair_step = 6 →
      ∃ t, exec (.heartbeatPathTimeout true) s = .next t ∧ t.flag F.TW_STATUS_link_ok = false ∧
        t.twin.linkLost = true ∧ t.twin.waiting = true ∧ t.get F.TW_STATUS_pair_step = 0)
    ∧ (∀ how, twPaired s = true → s.flag F.TW_STATUS_role = false →
      (s.flag F.TW_STATUS_ready = true ∨ s.flag F.TW_CFG_take_if_not_ready = true) →
      (twinFault s how).twin.takeAt = some (s.now, how) ∧ (twinFault s how).get F.TW_STATUS_state = 5 ∧
      (twinFault s how).get F.TW_EPOCH_epoch = (s.get F.TW_EPOCH_epoch + 1) % 2 ^ 16 ∧
      (twinFault s how).mode = s.mode ∧
      (∀ f rs, f.body = .mirror rs → deliverFrame (twinFault s how) f = twinFault s how))
    ∧ (∀ how, twPaired s = true → s.flag F.TW_STATUS_role = true →
      (twinFault s how).mode = s.mode ∧ (twinFault s how).twin.bulk = none ∧
      (s.mode = Mode.active → (twinFault s how).get F.TW_STATUS_state = 4))
    ∧ (∀ how, twPaired s = true → s.flag F.TW_STATUS_role = false → s.flag F.TW_STATUS_ready = false →
      s.flag F.TW_CFG_take_if_not_ready = false → (twinFault s how).mode = s.mode ∧ (twinFault s how).twin.takeAt = s.twin.takeAt)
    ∧ (∀ t0 how, s.twin.takeAt = some (t0, how) → s.get F.TW_STATUS_state = 5 → s.mode = Mode.standby →
      ∃ t, exec .takeoverTablesWritten s = .next t ∧ t.mode = Mode.active ∧ t.pins.twTakeN = false ∧
        t.flag F.TW_STATUS_role = true ∧ t.twin.takeAt = none ∧ t.fh.opens = [] ∧
        t.twin.converting = mirrorGroups s ∧ t.now = max s.now (t0 + usToTk 10) ∧
        t.get F.TW_TAKE_CNT_count = min 65535 (s.get F.TW_TAKE_CNT_count + 1) ∧
        (∀ k, k < 64 → classLinesStale s k = true →
          t.get (F.SCH_CLASS_SEQ_next k) = (s.get (F.SCH_CLASS_SEQ_next k) + s.get F.TW_CFG2_seq_guard) % 2 ^ 32 ∧
          t.get (F.SCH_CLASS_STATE_win_empty k) = 1 ∧ aget t.sch.police k = none))
    ∧ (∀ g, g < 32 → s.twin.converting.contains g = true → exec (.groupConvertComplete g) s
      = .next (settle (raise (setTw s { s.twin with converting := ndel s.twin.converting g }) 1001 0x16 2 g)))

/-- Of a requester that can write the request, a run request in DOZE returns to the prior run mode and one of the
management port in DORMANT begins the wake; a DOZE request in ACTIVE or STANDBY enters DOZE and keeps the mode
as the prior one; a DORMANT request begins the entry; a request is refused with the first reason of R402 that
holds and the mode stays; an entry completes once the shelves have drained and the mode is DORMANT; a wake with
no reset waiting ends in the prior run mode once every usable group is ON. The keeper makes no request, and the
register port none in DORMANT (derived: the register's writers, and R401). -/
def Obligations.ModeRequests : Prop :=
  ∀ (s : State) (who : Requester), who ≠ .keeper → mayAsk s who F.RST_MODE_REQ_req.addr 2 = true →
    (modeReason s 1 = 0 → s.mode = Mode.doze → ∃ t, exec (.runRequest who) s = .next t ∧
      t.mode = (if s.flag F.RST_MODE_prior then Mode.standby else Mode.active))
    ∧ (modeReason s 1 = 0 → s.mode = Mode.dormant → who ≠ .regPort → s.modes.waking = none →
      ∃ t, exec (.runRequest who) s = .next t ∧ t.mode = Mode.dormant ∧ t.modes.waking = some (1, s.now) ∧
        t.flag F.RST_MODE_REQ_STATUS_busy = true)
    ∧ (modeReason s 2 = 0 → ∃ t, exec (.dozeRequest who) s = .next t ∧ t.mode = Mode.doze ∧
      t.flag F.RST_MODE_prior = decide (s.mode = Mode.standby) ∧ t.flag F.RST_MODE_REQ_STATUS_refused = false)
    ∧ (modeReason s 3 = 0 → s.mode ≠ Mode.dormant → ∃ t, exec (.dormantRequest who) s = .next t ∧ t.mode = s.mode ∧
      t.flag F.RST_MODE_entering = true ∧ t.flag F.RST_MODE_prior = (s.mode ≠ Mode.active && s.flag F.RST_MODE_prior))
    ∧ (∀ c r, (who = .regPort → s.mode ≠ Mode.dormant) →
      (c = Instr.runRequest who ∧ r = modeReason s 1 ∨ c = .dozeRequest who ∧ r = modeReason s 2
        ∨ c = .dormantRequest who ∧ r = modeReason s 3) → r ≠ 0 →
      ∃ t, exec c s = .next t ∧ t.mode = s.mode ∧ t.flag F.RST_MODE_REQ_STATUS_refused = true ∧
        t.get F.RST_MODE_REQ_STATUS_reason = r ∧ t.modes = s.modes ∧ t.sch = s.sch)
    ∧ ((∀ req, inTransition s = true → modeReason s req = 1)
      ∧ (inTransition s = false → twPaired s = true → modeReason s 3 = 2)
      ∧ (inTransition s = false → twPaired s = false → s.get F.CFG_PR_STATUS_state = 1 ∨ s.get F.CFG_PR_STATUS_state = 3 →
        modeReason s 3 = 3)
      ∧ (inTransition s = false → s.mode = Mode.active → modeReason s 1 = 4 ∧ modeReason s 2 = 0)
      ∧ (inTransition s = false → s.mode = Mode.doze → modeReason s 1 = 0 ∧ modeReason s 2 = 4)
      ∧ (inTransition s = false → s.mode = Mode.safe ∨ s.mode = Mode.load → modeReason s 1 = 4 ∧ modeReason s 2 = 4))
    ∧ (exec (.runRequest .keeper) s = .next (settle s) ∧ exec (.dozeRequest .keeper) s = .next (settle s) ∧
      exec (.dormantRequest .keeper) s = .next (settle s))
    ∧ (s.flag F.RST_MODE_entering = true → entryReady s = true → s.modes.heldWake = none →
      ∃ t, exec .dormantEntryComplete s = .next t ∧ t.mode = Mode.dormant ∧ t.flag F.RST_MODE_entering = false ∧
        t.flag F.RST_MODE_REQ_STATUS_busy = false ∧ t.trays = [] ∧ t.trayValid = [])
    ∧ (∀ c t0, s.modes.waking = some (c, t0) → s.modes.shelvesUp = false → s.modes.deferred = [] → s.mode = Mode.dormant →
      (∀ g, g < 32 → s.flag (F.LFT_GRP_STATUS_failed g) = false → s.get (F.LFT_GRP_STATUS_power g) = 1) →
      ∃ t, exec .wakeComplete s = .next t ∧ t.modes.waking = none ∧ t.now = max s.now (t0 + 58983) ∧
        t.mode = (if s.flag F.RST_MODE_prior then Mode.standby else Mode.active))

/-- A lost core rail resets the machine and holds it, its outputs at high impedance as before or where the rail is
VCCAUX, a free value (log entry 133); a POR's release begins the load, or after a shutdown with a sensor too hot
holds SAFE, and the loader reports a rail that came out of order; any other lost rail enters SAFE and ends a
load; PORST_N low begins a DEVICE reset, which after a shutdown waits until no sensor is too hot, and its rise
begins the load; a short pulse is only counted. Both resets keep fuses, stored ledger entries, VBAK keys and the
waiting commands and lose the Loft. The first expiry of the keeper watchdog causes a WARM reset, a second within
1 s a keeper fatal, while PORST_N is high. -/
def Obligations.DeviceResets : Prop :=
  ∀ s : State,
    (∃ t, exec .coreRailLoss s = .next t ∧ t.pins.highZ = (s.pins.highZ || decide (s.free % 2 = 1)) ∧ t.mode = Mode.load ∧ t.modes.por = true ∧ t.pending = s.pending ∧ t.led.stored = s.led.stored ∧
      t.sec.fuses = s.sec.fuses ∧ t.sec.bbKey = s.sec.bbKey ∧ t.loft = State.reset.loft ∧ t.sch = State.reset.sch ∧
      t.fh = State.reset.fh ∧ t.cfg = State.reset.cfg ∧ t.twin = State.reset.twin)
    ∧ (∀ order hot vbak u v, s.modes.por = true → order.all (fun r : Nat => r < 9) = true →
      u = { s with modes := { s.modes with por := false, seqOrder := order }, pins := { s.pins with highZ := false } } →
      v = (if vbak = true then u else vbakLost u) →
      (latchValid v = false ∨ hot = false → s.pins.porstN = true →
        exec (.porRelease order hot vbak) s = .next (settle (loadBegin v)))
      ∧ (latchValid v = false ∨ hot = false → s.pins.porstN = false → exec (.porRelease order hot vbak) s = .next (settle v))
      ∧ (latchValid v = true → hot = true → ∃ t, exec (.porRelease order hot vbak) s = .next t ∧ t.mode = Mode.safe ∧
        t.modes.thermalHold = true ∧ t.pins.thermN = false ∧ t.pins.outputsSafe = true))
    ∧ (∀ r, s.modes.seqOrder = some r →
      loaderStart s = raise { s with modes := { s.modes with seqOrder := none } } 1021 0x40 5 r)
    ∧ (∀ rail, 2 ≤ rail → rail ≤ 8 → s.modes.por = false → ∃ t, exec (.railLost rail) s = .next t ∧ t.mode = Mode.safe ∧
      t.modes.needPorst = true ∧ t.cfg.load = none ∧ t.pins.errorN = false ∧ t.pins.outputsSafe = true ∧
      t.pins.twTakeN = true)
    ∧ (∀ aborted, s.modes.por = false → s.pins.thermN = true → s.led.erasing = none →
      ∃ t, exec (.porstNLow aborted) s = .next t ∧ t.mode = Mode.load ∧ t.pins.porstN = false ∧ t.get F.RST_CAUSE_cause = 1 ∧
        t.pending = s.pending ∧ t.sec.fuses = s.sec.fuses ∧ t.sec.bbKey = s.sec.bbKey ∧ t.loft = State.reset.loft ∧
        t.sch = State.reset.sch ∧ t.cfg = State.reset.cfg ∧ ∃ l, t.led.stored = s.led.stored ++ l)
    ∧ (∀ aborted u, u = { s with pins := { s.pins with porstN := false } } →
      exec (.porstNLow aborted) s = .next (settle (if s.modes.por = true then u
        else if s.mode = Mode.safe ∧ s.pins.thermN = false then
          (if tooHot u = true then pulseIgnored u else deviceReset u 3 aborted)
        else deviceReset u 1 aborted)))
    ∧ (∀ cycles, cycles < 336 → s.modes.por = false → exec (.porstNShortPulse cycles) s
      = .next (settle (raise (s.bump F.RST_PORST_SHORT_CNT_count 1) 1021 0x4A 2 cycles)))
    ∧ (s.pins.porstN = false → s.mode = Mode.load → s.cfg.load = none → s.modes.por = false →
      exec .porstNRise s = .next (settle (loadBegin { s with pins := { s.pins with porstN := true } })))
    ∧ (s.sec.burn = none → lcDecode (s.sec.fuses.contains 0) (s.sec.fuses.contains 1) (s.sec.fuses.contains 2) ≠ Lc.ret →
      s.sec.fuses.contains 3 = false →
      ∃ r, (loadBegin s).cfg.load = some r ∧ r.hdr = none ∧ r.tested = false ∧ r.next = 1 ∧ r.start = s.now)
    ∧ (∀ aborted, s.warm = false → s.modes.por = false → s.pins.porstN = true →
      (s.modes.wdLast = none → s.flag F.RST_MODE_entering = false → s.modes.waking = none →
        ∃ t, exec (.keeperWatchdogExpiry aborted) s = .next t ∧ t.warm = true ∧ t.modes.wdLast = some s.now ∧ t.mode = s.mode)
      ∧ (∀ t0, s.modes.wdLast = some t0 → s.now ≤ t0 + secTk →
        exec (.keeperWatchdogExpiry aborted) s = .next (settle (keeperFatal s aborted))))

/-- A WARM reset clears the event ring and the management port's transfer, counts itself and holds the event unit;
at its end the boot ROM reads keeper SRAM as upsets have left it, and numbering restarts from 0, with the
keeper's data memory cleared, unless the firmware differs, which is a keeper fatal. SHELF, BIN and LGRP resets
act on their parts and are held until released, for 16 tk, 8 tk and 1 µs at least, and further while a cause
holds the part; a static bin that leaves reset runs from start_ctx when that holds an image, any other is IDLE,
and a bin that is OFF stays OFF; a substitution whose spare lies on a released shelf starts over. A reset that
falls in a DORMANT entry waits; a die that loses the heartbeat stays in reset. -/
def Obligations.PartResets : Prop :=
  ∀ s : State,
    (s.flag F.RST_MODE_entering = false → s.modes.waking = none → s.modes.por = false → s.pins.porstN = true →
      (s.warm = false → ∃ t, exec .warmReset s = .next t ∧ t.warm = true ∧ t.ports.mgmt = [] ∧
        t.ev.running = false ∧ t.pins.alertN = true ∧ t.mode = s.mode ∧ t.loft = { s.loft with keeperTrap := none } ∧
        t.sch = s.sch ∧ t.get F.RST_WARM_CNT_count = min 65535 (s.get F.RST_WARM_CNT_count + 1))
      ∧ (∀ h, h < 2 → s.modes.shelfRst.contains h = false → ∃ t, exec (.shelfReset h) s = .next t ∧
        t.modes.shelfRst.contains h = true ∧ (∀ p, p < 264 → shelfOf p = h → (t.bin p).rst = true) ∧ t.mode = s.mode)
      ∧ (∀ l, l < 256 → s.modes.shelfRst.contains (shelfOf (physOf s l)) = false →
        exec (.binReset l) s = .next (settle (binResetStart s (physOf s l) 1)))
      ∧ (∀ g, g < 16 → exec (.lgrpReset g) s = .next (settle (lgrpResetStart s g 1))))
    ∧ (s.flag F.RST_MODE_entering = true → s.modes.por = false → s.pins.porstN = true →
      exec .warmReset s = .next (settle (setModes s { s.modes with deferred := s.modes.deferred ++ [(1, 0)] }))
      ∧ (∀ h, h < 2 →
        exec (.shelfReset h) s = .next (settle (setModes s { s.modes with deferred := s.modes.deferred ++ [(2, h)] })))
      ∧ (∀ l, l < 256 →
        exec (.binReset l) s = .next (settle (setModes s { s.modes with deferred := s.modes.deferred ++ [(3, l)] })))
      ∧ (∀ g, g < 16 →
        exec (.lgrpReset g) s = .next (settle (setModes s { s.modes with deferred := s.modes.deferred ++ [(4, g)] }))))
    ∧ (∀ (us : List (Nat × Upset)) aborted u, us.all (fun x => decide (x.1 < 262144)) = true → s.warm = true →
      u = sramStrike s us →
      exec (.warmResetEnd us aborted) s = .next (settle (if fwIntact u = true then
          { (u.setLoft { u.loft with sram := u.loft.sram.filter (fun x => 8 * x.1 < fwBytes u),
                                     bgPoison := u.loft.bgPoison.filter (fun x => x.1 ≠ 2 || 8 * x.2 < fwBytes u) }).set
              F.EV_WR_next_seq 0 with warm := false, ev := { u.ev with running := true } }
        else keeperFatal u aborted)))
    ∧ (∀ p cause, (binResetStart s p cause).bin p = { (binResetStart s p cause).bin p with rst := true, item := none })
    ∧ (∀ p u, p < 264 → (s.bin p).rst = true →
      u = (if binKind s p = Kind.static then repairMark (rstHeld s (64 + p) 8) p (s.get (F.BIN_CTX_CFG_start_ctx p))
        else rstHeld s (64 + p) 8) →
      (binHeld u p = true → exec (.binResetRelease p) s = .next (settle u))
      ∧ (binHeld u p = false → ∃ t, exec (.binResetRelease p) s = .next t ∧ t.now = u.now ∧ (t.bin p).rst = false ∧
        (binKind s p = Kind.static → t.get (F.BIN_SEQ_STATUS_ctx p) = s.get (F.BIN_CTX_CFG_start_ctx p) % 8) ∧
        t.seqSt p = (if s.seqSt p = Seq.off then Seq.off
          else if binKind s p = Kind.static && (s.get (F.BIN_CTX_CFG_ctx_loaded p)).testBit (s.get (F.BIN_CTX_CFG_start_ctx p) % 8)
            then Seq.run else Seq.idle)))
    ∧ (∀ k d b, aget s.modes.rstAt k = some b → (rstHeld s k d).now = max s.now (b + d))
    ∧ (∀ h v, h < 2 → s.modes.shelfRst.contains h = true → s.modes.deadDies.contains (1 + h) = false →
      v = (shelfBins h).foldl binResetEnd (setModes (rstHeld s h 16) { s.modes with shelfRst := ndel s.modes.shelfRst h }) →
      exec (.shelfResetRelease h) s = .next (settle (match v.spr.sub with
        | some x => if shelfOf x.spare = h then setSpr v { v.spr with sub := some { x with start := v.now, prep := false } } else v
        | none => v)))
    ∧ (∀ h, h < 2 → s.modes.shelfRst.contains h = true → s.modes.deadDies.contains (1 + h) = true →
      exec (.shelfResetRelease h) s = .next (settle (rstHeld s h 16)))
    ∧ (∀ g, g < 16 → s.modes.lgrpRst.contains g = true →
      (s.flag (F.LN_GRP_STATUS_held g) = true ∨ s.clk.moves.any (fun x => x.forced && x.mux = 100 + g) = true →
        exec (.lgrpResetRelease g) s = .next (settle (rstHeld s (16 + g) (usToTk 1))))
      ∧ (s.flag (F.LN_GRP_STATUS_held g) = false → s.clk.moves.any (fun x => x.forced && x.mux = 100 + g) = false →
        ∃ t, exec (.lgrpResetRelease g) s = .next t ∧ t.modes.lgrpRst = ndel s.modes.lgrpRst g ∧
          t.now = (rstHeld s (16 + g) (usToTk 1)).now))
    ∧ (∀ d, 1 ≤ d → d ≤ 3 → s.modes.deadDies.contains d = false → ∃ t, exec (.cellarHeartbeatLoss d) s = .next t ∧
      t.modes.deadDies.contains d = true ∧ (d < 3 → ∀ p, p < 264 → shelfOf p + 1 = d → (t.bin p).rst = true) ∧
      (d = 3 → ∀ g, g < 32 → t.get (F.LFT_GRP_STATUS_power g) = 0))

/-- A command whose buffer carries its opcode is verified in at most 10 ms, refused with the first reason of R427
that holds, and consumes the nonce either way; a verified command that burns fuses starts its run inside the
window with VFUSE, behind an action deferred earlier, and is held as pending otherwise; the others act at once.
A bit that reads at its margin stays burned, one that does not is burned again three times and then fails the
command, each while VFUSE and the window hold, and otherwise the run waits; a completed run moves the life cycle
or the slot it names. A pending command, an advance of a counter, a run that waits or a pending return resumes
once the conditions hold. A go while busy or by the keeper does nothing. An unlock opens the debug access its
mask names. -/
def Obligations.OwnerCommands : Prop :=
  ∀ s : State,
    (∀ (who : Requester) (c : Instr) (op tk secret : Nat) (vf : Bool), tk ≤ verifyTk → secret < 2 ^ 384 →
      mayAsk s who F.SEC_CMD_GO_go.addr 2 = true →
      (c = .provision who tk vf ∧ op = 1 ∨ c = .toField who tk vf ∧ op = 2 ∨ c = .toReturn who tk vf ∧ op = 3
        ∨ c = .addOwnerKey who tk vf ∧ op = 4 ∨ c = .revokeOwnerKey who tk vf ∧ op = 5
        ∨ c = .setStreamKey who tk secret vf ∧ op = 6 ∨ c = .revokeStreamKey who tk vf ∧ op = 7
        ∨ c = .eraseBbramKey who tk ∧ op = 8 ∨ c = .debugUnlock who tk ∧ op = 9 ∨ c = .fwKeyRevoke who tk vf ∧ op = 10) →
      (who = .keeper ∨ s.flag (F.SEC_CMD_STATUS_busy.copy (reqNum who)) = true ∨ bufBytes s (reqNum who) 0 2 ≠ op) →
      exec c s = .next (settle s))
    ∧ (∀ (who : Requester) (tk k : Nat) (u : State), tk ≤ verifyTk → who ≠ .keeper → k = reqNum who → u = s.later tk →
      mayAsk s who F.SEC_CMD_GO_go.addr 2 = true → s.flag (F.SEC_CMD_STATUS_busy.copy k) = false →
      (newNonce u).sec.draws = s.sec.draws + 1
      ∧ (∀ vf, bufBytes s k 0 2 = 1 → exec (.provision who tk vf) s = .next (settle (
        if cmdReason u k 1 0 ≠ 0 then cmdRefuse (newNonce u) k 1 (cmdReason u k 1 0)
        else fuseCommand (newNonce u) ⟨1, k, cmdArgs u k 1 0, 1, [], 0, false, false⟩ vf)))
      ∧ (∀ vf, bufBytes s k 0 2 = 2 → exec (.toField who tk vf) s = .next (settle (
        if cmdReason u k 2 0 ≠ 0 then cmdRefuse (newNonce u) k 2 (cmdReason u k 2 0)
        else fuseCommand (newNonce u) ⟨2, k, cmdArgs u k 2 0, 1, [], 0, false, false⟩ vf)))
      ∧ (∀ vf, bufBytes s k 0 2 = 3 → exec (.toReturn who tk vf) s = .next (settle (
        if cmdReason u k 3 0 ≠ 0 then cmdRefuse (newNonce u) k 3 (cmdReason u k 3 0)
        else fuseCommand (newNonce u) ⟨3, k, cmdArgs u k 3 0, 1, [], 0, false, false⟩ vf)))
      ∧ (∀ vf, bufBytes s k 0 2 = 4 → exec (.addOwnerKey who tk vf) s = .next (settle (
        if cmdReason u k 4 0 ≠ 0 then cmdRefuse (newNonce u) k 4 (cmdReason u k 4 0)
        else fuseCommand (newNonce u) ⟨4, k, cmdArgs u k 4 0, 1, [], 0, false, false⟩ vf)))
      ∧ (∀ vf, bufBytes s k 0 2 = 5 → exec (.revokeOwnerKey who tk vf) s = .next (settle (
        if cmdReason u k 5 0 ≠ 0 then cmdRefuse (newNonce u) k 5 (cmdReason u k 5 0)
        else fuseCommand (newNonce u) ⟨5, k, cmdArgs u k 5 0, 1, [], 0, false, false⟩ vf)))
      ∧ (∀ vf, bufBytes s k 0 2 = 7 → exec (.revokeStreamKey who tk vf) s = .next (settle (
        if cmdReason u k 7 0 ≠ 0 then cmdRefuse (newNonce u) k 7 (cmdReason u k 7 0)
        else fuseCommand (newNonce u) ⟨7, k, cmdArgs u k 7 0, 1, [], 0, false, false⟩ vf)))
      ∧ (∀ vf, bufBytes s k 0 2 = 10 → exec (.fwKeyRevoke who tk vf) s = .next (settle (
        if cmdReason u k 10 0 ≠ 0 then cmdRefuse (newNonce u) k 10 (cmdReason u k 10 0)
        else fuseCommand (newNonce u) ⟨10, k, cmdArgs u k 10 0, 1, [], 0, false, false⟩ vf)))
      ∧ (∀ secret vf, secret < 2 ^ 384 → bufBytes s k 0 2 = 6 → exec (.setStreamKey who tk secret vf) s = .next (settle (
        if cmdReason u k 6 secret ≠ 0 then cmdRefuse (newNonce u) k 6 (cmdReason u k 6 secret)
        else if cmdSlot u k ≠ 4 then
          fuseCommand (newNonce u) ⟨6, k, cmdArgs u k 6 secret, 1, [], 0, false, false⟩ vf
        else cmdDone (State.set (setSec (newNonce u)
          { (newNonce u).sec with bbKey := some ((unwrapKey u k secret).getD 0 % 2 ^ 256) }) F.SEC_LC_key_valid 1) k 6)))
      ∧ (bufBytes s k 0 2 = 8 → exec (.eraseBbramKey who tk) s = .next (settle (
        if cmdReason u k 8 0 ≠ 0 then cmdRefuse (newNonce u) k 8 (cmdReason u k 8 0) else cmdDone (eraseBb (newNonce u)) k 8)))
      ∧ (bufBytes s k 0 2 = 9 → exec (.debugUnlock who tk) s = .next (settle (
        if cmdReason u k 9 0 ≠ 0 then cmdRefuse (newNonce u) k 9 (cmdReason u k 9 0)
        else cmdDone (raiseCrit ((newNonce u).setAll [(F.SEC_DBG_STATUS_open, 1),
          (F.SEC_DBG_STATUS_mask, cmdSlot u k % 8)]) true 1023 0x4C 5 (cmdSlot u k % 8)) k 9))))
    ∧ (∀ (b : Burn) (vf : Bool), 1 ≤ b.port → b.port ≤ 2 →
      (fuseReady s b.op vf = true → s.sec.advances = [] →
        fuseCommand s b vf = burnStart (s.set (F.SEC_CMD_STATUS_busy.copy b.port) 1) b)
      ∧ (∀ a n l, fuseReady s b.op vf = true → s.sec.advances = (a, n) :: l →
        ∃ u, fuseCommand s b vf = burnStart u ⟨11 + a, 0, [n], 1, [], 0, false, false⟩ ∧ u.sec.pending = some b ∧
          u.sec.advances = l)
      ∧ (fuseReady s b.op vf = false → (fuseCommand s b vf).sec.pending = some b ∧
        (fuseCommand s b vf).sec.fuses = s.sec.fuses ∧ (fuseCommand s b vf).lc = s.lc ∧
        (fuseCommand s b vf).flag (F.SEC_CMD_STATUS_pending.copy b.port) = true))
    ∧ (∀ k, 1 ≤ k → k ≤ 2 → (cmdDone (eraseBb s) k 8).sec.bbKey = none ∧
      (cmdDone (eraseBb s) k 8).flag F.SEC_LC_key_valid = false ∧
      (∀ op, (cmdDone s k op).flag (F.SEC_CMD_STATUS_accepted.copy k) = true ∧
        (cmdDone s k op).flag (F.SEC_CMD_STATUS_busy.copy k) = false))
    ∧ (∀ (b : Burn) (x : Nat) (l : List Nat) (vf : Bool), s.sec.burn = some b → b.bits = x :: l →
      (∀ ok, b.held = true → exec (.fuseBurnComplete ⟨ok, vf⟩) s = .next (settle s))
      ∧ (∀ u, b.held = false → b.cut = false → u = setSec s { s.sec with fuses := nins x s.sec.fuses } →
        (fuseReady s b.op vf = true ∨ (burnBits u b = [] ∧ b.op ≠ 3) →
          exec (.fuseBurnComplete ⟨true, vf⟩) s = .next (settle (burnStart u { b with held := false })))
        ∧ (burnBits u b ≠ [] ∨ b.op = 3 → fuseReady s b.op vf = false → ∃ t, exec (.fuseBurnComplete ⟨true, vf⟩) s = .next t ∧
          t.sec.burn = some { b with bits := burnBits u b, tries := 0, held := true } ∧
          t.sec.fuses = nins x s.sec.fuses))
      ∧ (b.held = false → b.cut = true → exec (.fuseBurnComplete ⟨true, vf⟩) s = .next (settle (cutDone s b x)))
      ∧ (b.held = false → b.tries < 3 → fuseReady s b.op vf = true → exec (.fuseBurnComplete ⟨false, vf⟩) s
        = .next (settle (setSec s { s.sec with burn := some { b with tries := b.tries + 1 } })))
      ∧ (b.held = false → b.tries < 3 → fuseReady s b.op vf = false →
        ∃ t, exec (.fuseBurnComplete ⟨false, vf⟩) s = .next t ∧
          t.sec.burn = some { b with tries := b.tries + 1, held := true } ∧ t.sec.fuses = s.sec.fuses)
      ∧ (∀ u, b.held = false → 3 ≤ b.tries → u = raiseCrit (setSec s { s.sec with burn := none }) true 1023 0x45 6 x →
        exec (.fuseBurnComplete ⟨false, vf⟩) s = .next (settle (if b.port = 0 then u else cmdRefuse u b.port b.op 6))))
    ∧ (∀ b, burnBits s b ≠ [] → burnStart s b = setSec s { s.sec with burn := some { b with bits := burnBits s b, tries := 0 } })
    ∧ (∀ b, burnBits s b = [] → b.op ≠ 3 → burnStart s b = burnEffect (setSec s { s.sec with burn := none }) b)
    ∧ (∀ b, (b.op = 1 → (burnEffect s b).lc = Lc.owned) ∧ (b.op = 2 → (burnEffect s b).lc = Lc.field)
      ∧ (b.op = 5 → b.args.getD 0 0 < 4 → ownerRev (burnEffect s b) (b.args.getD 0 0) = true)
      ∧ (b.op = 7 → b.args.getD 0 0 < 4 → keyRev (burnEffect s b) (b.args.getD 0 0) = true)
      ∧ (b.op = 10 → (burnEffect s b).flag F.SEC_LC_fw_key0_rev = true)
      ∧ (b.op = 11 → b.args.getD 0 0 ≤ 48 → (burnEffect s b).get F.SEC_ARB_c_fw = b.args.getD 0 0)
      ∧ (b.op = 12 → b.args.getD 0 0 ≤ 48 → (burnEffect s b).get F.SEC_ARB_c_st = b.args.getD 0 0))
    ∧ (∀ vf, s.sec.burn = none → exec (.fuseCommandResume vf) s = .next (settle (match fuseNext s with
      | none => s
      | some b => if fuseReady s b.op vf = true then fuseTake s b else if vf = true then s else vfuseAbsent s b.op)))
    ∧ (∀ b, s.sec.pending = some b → s.sec.advances = [] ∨ s.sec.cmdFirst = true → fuseNext s = some b)
    ∧ (∀ a n l, s.sec.advances = (a, n) :: l → s.sec.pending = none ∨ s.sec.cmdFirst = false →
      fuseNext s = some ⟨11 + a, 0, [n], 1, [], 0, false, false⟩)
    ∧ (∀ b : Burn, (b.op ≤ 10 → fuseTake s b = burnStart (State.setAll
        (setSec s { s.sec with pending := none, told := false })
        [(F.SEC_CMD_STATUS_pending.copy b.port, 0), (F.SEC_CMD_STATUS_busy.copy b.port, 1)]) b)
      ∧ (10 < b.op → fuseTake s b = burnStart (setSec s { s.sec with advances := s.sec.advances.tail, told := false }) b))
    ∧ (∀ b vf, s.sec.burn = some b →
      (b.held = false → exec (.fuseCommandResume vf) s = .next (settle s))
      ∧ (b.held = true → fuseReady s b.op vf = false →
        exec (.fuseCommandResume vf) s = .next (settle (if vf = true then s else vfuseAbsent s b.op)))
      ∧ (b.held = true → fuseReady s b.op vf = true → b.cut = true ∨ 0 < b.tries →
        exec (.fuseCommandResume vf) s = .next (settle
          (setSec s { s.sec with told := false, burn := some { b with held := false } })))
      ∧ (b.held = true → fuseReady s b.op vf = true → b.cut = false → b.tries = 0 →
        exec (.fuseCommandResume vf) s = .next (settle
          (burnStart (setSec s { s.sec with told := false }) { b with held := false }))))
    ∧ (∀ vf, exec (.returnResume vf) s = .next (settle (
      if returnPending s = true ∧ s.sec.burn = none then
        (if fuseReady s 3 vf = true then
          burnStart (setSec s { s.sec with fuses := nins 3 s.sec.fuses, told := false }) ⟨3, 0, [], 1, [], 0, false, false⟩
        else if vf = true then s else vfuseAbsent s 3)
      else s)))

/-- A lock closes an open unlock with its event, and ends every JTAG instruction but IDCODE and BYPASS; a JTAG
instruction takes effect exactly when its state and unlock allow it; a report asked for by a port is made in
that port's own buffer, with its format and length in its first word and its nonce untouched; an unknown opcode
is refused with reason 9 and consumes the nonce. -/
def Obligations.SecurityAccess : Prop :=
  ∀ (s : State),
    (s.flag F.SEC_DBG_STATUS_open = true → ∃ t, exec .debugLock s = .next t ∧ t.flag F.SEC_DBG_STATUS_open = false ∧
      t.get F.SEC_DBG_STATUS_mask = 0 ∧ t.sec.jtag = s.sec.jtag.filter (· ≤ 1))
    ∧ (s.flag F.SEC_DBG_STATUS_open = false → exec .debugLock s = .next (settle s))
    ∧ (∀ n, n < 6 → exec (.jtagInstruction n) s
      = .next (settle (if jtagAllowed s n then setSec s { s.sec with jtag := some n } else s)))
    ∧ ((∀ n, n ≤ 1 → jtagAllowed s n = true)
      ∧ (s.lc = Lc.maker ∨ s.lc = Lc.ret → ∀ n, jtagAllowed s n = true)
      ∧ (s.lc = Lc.owned ∨ s.lc = Lc.field → jtagAllowed s 5 = false)
      ∧ (s.lc = Lc.owned → s.flag F.SEC_DBG_STATUS_open = true → ∀ n, 2 ≤ n → n ≤ 4 →
        jtagAllowed s n = bitAt (s.get F.SEC_DBG_STATUS_mask) (n - 2))
      ∧ (s.lc = Lc.owned ∨ s.lc = Lc.field → s.flag F.SEC_DBG_STATUS_open = false → ∀ n, 2 ≤ n → jtagAllowed s n = false)
      ∧ (s.lc = Lc.field → jtagAllowed s 3 = false ∧ jtagAllowed s 4 = false ∧
        (s.mode ≠ Mode.load → s.mode ≠ Mode.safe → jtagAllowed s 2 = false)))
    ∧ (∀ who, who ≠ Requester.keeper → mayAsk s who F.SEC_ATT_CMD_go.addr 2 = true → ∃ t, exec (.attestGo who) s = .next t ∧
      t.flag (F.SEC_ATT_STATUS_busy.copy (reqNum who)) = true)
    ∧ (∀ who k, who ≠ Requester.keeper → k = reqNum who → s.flag (F.SEC_ATT_STATUS_busy.copy k) = true →
      ∃ t, exec (.attestComplete who) s = .next t ∧ t.flag (F.SEC_ATT_STATUS_busy.copy k) = false ∧
        t.get ((F.SEC_ATT_REPORT_report 0).copy k) = 0x02000001 ∧
        (∀ j i, j ≠ k → i < 128 → t.get ((F.SEC_ATT_REPORT_report i).copy j) = s.get ((F.SEC_ATT_REPORT_report i).copy j)) ∧
        (∀ i, i < 8 → t.get ((F.SEC_ATT_NONCE_nonce i).copy k) = s.get ((F.SEC_ATT_NONCE_nonce i).copy k)))
    ∧ (∀ who k, who ≠ Requester.keeper → mayAsk s who F.SEC_CMD_GO_go.addr 2 = true → k = reqNum who →
      s.flag (F.SEC_CMD_STATUS_busy.copy k) = false → (bufBytes s k 0 2 = 0 ∨ 10 < bufBytes s k 0 2) → exec (.secCmdUnknownOpcode who) s
        = .next (settle (cmdRefuse (newNonce s) k (bufBytes s k 0 2 % 16) 9)))

/-- The queue keeps at most 256 entries, at most 192 of them informational; an arriving entry that fits joins at the
end; otherwise exactly one entry is discarded, never a critical one while an informational one waits; and the
order of what stays is the order of arrival. An append that ends stores its entry in the open sector of its kind
and counts it; an erase that ends removes its sector's entries and counts itself. -/
def Obligations.LedgerQueue : Prop :=
  (∀ (q : List LedEntry) (e : LedEntry), q.length ≤ 256 → (q.filter (fun x => !x.crit)).length ≤ 192 →
    (ledQueueIn q e).1.length ≤ 256
    ∧ ((ledQueueIn q e).1.filter (fun x => !x.crit)).length ≤ 192
    ∧ (ledQueueIn q e).1.Sublist (q ++ [e])
    ∧ (ledQueueIn q e).1.length + (ledQueueIn q e).2.toList.length = q.length + 1
    ∧ (q.length < 256 → e.crit = true → ledQueueIn q e = (q ++ [e], none))
    ∧ (q.length < 256 → (q.filter (fun x => !x.crit)).length < 192 → ledQueueIn q e = (q ++ [e], none))
    ∧ (∀ d, (ledQueueIn q e).2 = some d → d.crit = true → ∀ x ∈ q, x.crit = true)
    ∧ (e.crit = true → (∃ x ∈ q, x.crit = false) → e ∈ (ledQueueIn q e).1))
  ∧ (∀ (s : State) (e : LedEntry), s.led.appending = some e →
    exec .ledgerAppendComplete s = .next (settle (ledKick (appendDone s)))
    ∧ (appendDone s).led.appending = none
    ∧ (∃ k n, (appendDone s).led.stored = s.led.stored ++ [⟨k, n, e⟩] ∧
      k = ((if e.crit then s.led.critRing else s.led.genRing).head?).getD 0 ∧
      n = if e.crit then s.led.critUsed else s.led.genUsed)
    ∧ (appendDone s).get (if e.crit then F.LED_COUNT_CRIT_entries else F.LED_COUNT_INFO_entries)
      = min (2 ^ 32 - 1) (s.get (if e.crit then F.LED_COUNT_CRIT_entries else F.LED_COUNT_INFO_entries) + 1))
  ∧ (∀ (s : State) (n : Nat), s.led.erasing = some n →
    exec .ledgerEraseComplete s = .next (settle (ledKick (eraseDone s)))
    ∧ (s.get (F.LED_ERASE_erases n) < 99999 →
      (eraseDone s).led.stored = s.led.stored.filter (fun x => x.sector != n) ∧ (eraseDone s).led.erasing = none ∧
      (eraseDone s).get (F.LED_ERASE_erases n) = s.get (F.LED_ERASE_erases n) + 1))

/-- A canary is measured 98,304,000 tk after its last measurement at the earliest, its margin is the mean of its
last 16 measurements (rounded to a neighbour where it is no whole number: log entry 116) and its lowest value is
kept; below canary_retire the bin is retired with cause 1 and stays so; a substitution is prepared at 19,661 tk
and complete 12,096 tk per loaded context of its source later, when the map moves; a weak hatch wire is marked,
not substituted; a bank is worn after two hours above the threshold and not before; a permit starts the copy of
a worn bank, and at its end the spare serves the bank; the FoM of an hour is the mean of its windows, its first
hour is the baseline, and 24 hours in a row below it by fom_drop mark the trend. -/
def Obligations.SparesAndWear : Prop :=
  ∀ s : State,
    (∀ p slack ms sum n m u, p < 264 → slack < 1024 → (binKind s p = Kind.static ∨ binKind s p = Kind.scheduled) →
      s.mode ≠ Mode.dormant → s.mode ≠ Mode.load → ms = (slack :: (aget s.spr.canary p).getD []).take 16 →
      sum = ms.foldl (· + ·) 0 → n = ms.length → ms.all (fun x : Nat => x < 1024) = true →
      m = sum / n + (if sum % n = 0 then 0 else s.free % 2) →
      u = (if sum % n = 0 then measured s p (usToTk 100000) else (measured s p (usToTk 100000)).useFree) →
      (∃ t, exec (.canaryMeasure p slack) s = .next t ∧ t.get (F.FAB_CANARY_margin p) = m ∧
        aget t.spr.canary p = some ms ∧
        (∀ k, aget s.spr.last p = some k → t.now = max s.now (k + 98304000)) ∧
        t.get (F.SPR_BIN_WEAR_margin_min p) = min m (s.get (F.SPR_BIN_WEAR_margin_min p)) ∧
        (m < s.get F.SPR_CFG_canary_retire → t.flag (F.FAB_BIN_STATUS_retired p) = true) ∧
        (s.flag (F.FAB_BIN_STATUS_retired p) = true → t.flag (F.FAB_BIN_STATUS_retired p) = true))
      ∧ (s.get F.SPR_CFG_canary_warn ≤ m → s.get F.SPR_CFG_canary_retire ≤ m → s.get F.SPR_CFG_canary_fail ≤ m →
        exec (.canaryMeasure p slack) s = .next (settle (State.setAll (setSpr u { u.spr with canary := aset s.spr.canary p ms })
          [(F.FAB_CANARY_margin p, m), (F.SPR_BIN_WEAR_margin_min p, min m (s.get (F.SPR_BIN_WEAR_margin_min p)))]))))
    ∧ (∀ p c, p < 264 → c < 8 → s.flag (F.FAB_BIN_STATUS_retired p) = false →
      (retireBin s p c).flag (F.FAB_BIN_STATUS_retired p) = true ∧ (retireBin s p c).get (F.SPR_BIN_WEAR_cause p) = c)
    ∧ (∀ p c, s.flag (F.FAB_BIN_STATUS_retired p) = true → retireBin s p c = s)
    ∧ (∀ x, s.spr.sub = some x → x.log < 256 → x.old < 264 → x.spare < 264 → x.old ≠ x.spare →
      (x.prep = false → ∃ t, exec .binSubstitutionPrep s = .next t ∧ t.spr.sub = some { x with prep := true } ∧
        t.now = max s.now (x.start + 19661))
      ∧ (x.prep = true → ∃ t, exec .binSubstitutionComplete s = .next t ∧
        t.get (F.FAB_MAP_physical x.log) = x.spare ∧ t.get (F.FAB_BIN_STATUS_logical x.spare) = x.log ∧
        t.get (F.FAB_BIN_STATUS_kind x.spare) = binKind s x.old % 4 ∧
        t.now = max s.now (x.start + 19661 + popCount 8 (s.get (F.BIN_CTX_CFG_ctx_loaded (subSource s x))) * 12096)))
    ∧ (∀ c seg margin group wire u, c < 132 → seg < 3 → margin < 1024 → group < 32 → wire < 32 →
      u = measured s (1024 + 3 * c + seg) (usToTk 1000000) →
      (s.get F.SPR_CFG_canary_retire ≤ margin → exec (.hatchCanaryMeasure c seg margin group wire) s
        = .next (settle (u.set (hatchMargin c seg) (min margin (s.get (hatchMargin c seg))))))
      ∧ (margin < s.get F.SPR_CFG_canary_retire → aget s.spr.wires (3 * c + seg) = none →
        ∃ t, exec (.hatchCanaryMeasure c seg margin group wire) s = .next t ∧
          aget t.spr.wires (3 * c + seg) = some (32 * group + wire) ∧ t.flag (F.SPR_HATCH_pend c) = true ∧
          t.cfg = s.cfg))
    ∧ (∀ b n u, b < 1024 → s.get (F.LFT_GRP_STATUS_power (b / 32)) = 1 → n = (s.spr.ce.filter (fun w => wLBank w = b)).length →
      u = hourEnd s (2048 + b) 0 →
      (n ≤ max 1 (s.get F.SPR_CFG2_ce_thr) → exec (.bankCeHour b) s = .next (settle (setSpr u { u.spr with
        ce := s.spr.ce.filter (fun w => wLBank w != b), ceHigh := ndel s.spr.ceHigh b })))
      ∧ (max 1 (s.get F.SPR_CFG2_ce_thr) < n → s.spr.ceHigh.contains b = false → exec (.bankCeHour b) s
        = .next (settle (setSpr u { u.spr with
          ce := s.spr.ce.filter (fun w => wLBank w != b), ceHigh := nins b s.spr.ceHigh })))
      ∧ (max 1 (s.get F.SPR_CFG2_ce_thr) < n → s.spr.ceHigh.contains b = true → s.spr.worn.contains b = false →
        ∃ t, exec (.bankCeHour b) s = .next t ∧ t.spr.worn = s.spr.worn ++ [b] ∧
          bitAt (t.get F.SPR_BANK_PEND_pending) (b / 32) = true))
    ∧ (∀ mask, mask < 2 ^ 32 → s.flag F.SPR_BANK_COPY_busy = true →
      exec (.bankPermitWrite mask) s = .next (settle (s.set F.SPR_BANK_PERMIT_permit mask)))
    ∧ (∀ b, b < 1024 → s.flag F.SPR_BANK_COPY_busy = false → s.spr.worn = [b] →
      s.get (F.LFT_GRP_STATUS_spare_for (b / 32)) = 0x3F → s.get (F.LFT_GRP_STATUS_power (b / 32)) = 1 →
      ∃ t, exec (.bankPermitWrite (2 ^ (b / 32))) s = .next t ∧ t.flag F.SPR_BANK_COPY_busy = true ∧
        t.get F.SPR_BANK_COPY_group = b / 32 ∧ t.get F.SPR_BANK_COPY_bank = b % 32 ∧
        t.flag F.SPR_STATUS_copying = true)
    ∧ (∀ g k, g < 32 → k < 32 → s.flag F.SPR_BANK_COPY_busy = true → s.get F.SPR_BANK_COPY_group = g →
      s.get F.SPR_BANK_COPY_bank = k → s.spr.worn = [32 * g + k] → s.get (F.LFT_GRP_STATUS_spare_for g) = 0x3F →
      ∃ t, exec .bankCopyComplete s = .next t ∧ t.get (F.LFT_GRP_STATUS_spare_for g) = k ∧
        t.flag F.SPR_BANK_COPY_busy = false ∧ t.spr.worn = [])
    ∧ (∀ l idle sum n mean, l < 128 → idle < 256 → s.lane l = Ln.up → sum = ((aget s.spr.fomSum l).getD (0, 0)).1 →
      n = ((aget s.spr.fomSum l).getD (0, 0)).2 →
      mean = (if n = 0 then idle else if sum % n = 0 then sum / n else sum / n + s.free % 2) % 256 →
      (aget s.spr.fom l = none → ∃ t, exec (.fomHour l idle) s = .next t ∧ t.get (F.SPR_FOM_baseline l) = mean ∧
        t.get (F.SPR_FOM_hourly l) = mean ∧ aget t.spr.fomSum l = none)
      ∧ (∀ k, aget s.spr.fom l = some (k, false) → mean + s.get F.SPR_CFG2_fom_drop ≤ s.get (F.SPR_FOM_baseline l) →
        ∃ t, exec (.fomHour l idle) s = .next t ∧ aget t.spr.fom l = some (k + 1, decide (24 ≤ k + 1)) ∧
          (24 ≤ k + 1 → t.flag (F.SPR_FOM_trend l) = true)))

/-- The unit takes the oldest record of its queue unless it is held, one in a cycle of 2 tk: a masked one goes
nowhere; one at or above ring_sev is written at EV_WR and counted as unacknowledged, in a full ring over the
oldest, which moves EV_ACK on and counts an overrun; one at or above port_sev enters the port's FIFO or is
counted as dropped. A write of an acknowledge index by a requester that is not held acknowledges all records at
v = EV_WR and those below it where fewer than all; any other is refused, with status 0x03 for the management
port. A pop moves the oldest record into the data registers, and from an empty FIFO only clears data_valid. -/
def Obligations.EventUnit : Prop :=
  ∀ s : State,
    ((s.ev.running = false ∨ s.warm = true ∨ s.ev.inq = []) → exec .eventDispatch s = .next (settle s))
    ∧ (∀ r rest n u, s.ev.running = true → s.warm = false → s.ev.inq = r :: rest → n = max s.now s.ev.next →
      u = { s.atNow s.ev.next with ev := { s.ev with inq := rest, next := n / 2 * 2 + 2 } } →
      (evMasked s r = true ∨ (r.sev < s.get F.EV_CFG_ring_sev ∧ r.sev < s.get F.EV_CFG_port_sev) →
        exec .eventDispatch s = .next (settle u))
      ∧ (evMasked s r = false → s.get F.EV_CFG_ring_sev ≤ r.sev →
        s.get F.EV_WR_index < 4096 → s.get F.EV_ACK_index < 4096 → s.get F.EV_STATUS_unacked ≤ 4096 →
        s.get F.EV_KP_ACK_index < 4096 →
        ∃ t, exec .eventDispatch s = .next t ∧ t.ev.inq = rest ∧ t.now = n ∧ t.ev.next = n / 2 * 2 + 2 ∧
          (r.sev < s.get F.EV_CFG_port_sev → t.ev.port = s.ev.port) ∧
          (s.get F.EV_CFG_port_sev ≤ r.sev → s.ev.port.length < 256 → t.ev.port = s.ev.port ++ [r]) ∧
          (s.get F.EV_CFG_port_sev ≤ r.sev → 256 ≤ s.ev.port.length → t.ev.port = s.ev.port) ∧
          (∀ k, k < 4 → t.get (F.EV_RING_word (4 * s.get F.EV_WR_index + k)) = r.words.getD k 0) ∧
          (∀ j, j < 16384 → j / 4 ≠ s.get F.EV_WR_index → t.get (F.EV_RING_word j) = s.get (F.EV_RING_word j)) ∧
          t.get F.EV_WR_index = (s.get F.EV_WR_index + 1) % 4096 ∧
          t.get F.EV_STATUS_unacked = min 4096 (s.get F.EV_STATUS_unacked + 1) ∧
          (s.get F.EV_STATUS_unacked < 4096 → t.get F.EV_ACK_index = s.get F.EV_ACK_index ∧
            t.get F.EV_CNT_overrun = s.get F.EV_CNT_overrun) ∧
          (s.get F.EV_STATUS_unacked = 4096 → t.get F.EV_ACK_index = (s.get F.EV_ACK_index + 1) % 4096 ∧
            t.get F.EV_CNT_overrun = min 65535 (s.get F.EV_CNT_overrun + 1)) ∧
          (s.ev.kpUnacked < 4096 → t.ev.kpUnacked = s.ev.kpUnacked + 1 ∧
            t.get F.EV_KP_ACK_index = s.get F.EV_KP_ACK_index) ∧
          (4096 ≤ s.ev.kpUnacked → t.ev.kpUnacked = s.ev.kpUnacked ∧
            t.get F.EV_KP_ACK_index = (s.get F.EV_KP_ACK_index + 1) % 4096))
      ∧ (evMasked s r = false → r.sev < s.get F.EV_CFG_ring_sev → s.get F.EV_CFG_port_sev ≤ r.sev →
        (s.ev.port.length < 256 → exec .eventDispatch s = .next (settle
          { u.set F.EV_PORT_STATUS_count (s.ev.port.length + 1) with
            ev := { u.ev with port := s.ev.port ++ [r] } }))
        ∧ (256 ≤ s.ev.port.length → exec .eventDispatch s = .next (settle (u.bump F.EV_PORT_CNT_dropped 1)))))
    ∧ (∀ v n, v < 4096 → mgmtUp s = true → n = (v + 4096 - s.get F.EV_ACK_index) % 4096 →
      (v = s.get F.EV_WR_index → exec (.evAckWrite v) s = .next (settle
        (mgmtSend ((s.set F.EV_STATUS_unacked 0).set F.EV_ACK_index v) [(0, 0)])))
      ∧ (v ≠ s.get F.EV_WR_index → n < s.get F.EV_STATUS_unacked → exec (.evAckWrite v) s = .next (settle
        (mgmtSend ((s.set F.EV_STATUS_unacked (s.get F.EV_STATUS_unacked - n)).set F.EV_ACK_index v) [(0, 0)])))
      ∧ (v ≠ s.get F.EV_WR_index → s.get F.EV_STATUS_unacked ≤ n →
        exec (.evAckWrite v) s = .next (settle (mgmtSend s [(3, 0)]))))
    ∧ (∀ v, v < 4096 → keeperUp s = false → exec (.evKpAckWrite v) s = .next (settle s))
    ∧ (∀ v n, v < 4096 → keeperUp s = true → n = (v + 4096 - s.get F.EV_KP_ACK_index) % 4096 →
      (v = s.get F.EV_WR_index → exec (.evKpAckWrite v) s = .next (settle
        ({ s with ev := { s.ev with kpUnacked := 0 } }.set F.EV_KP_ACK_index v)))
      ∧ (v ≠ s.get F.EV_WR_index → n < s.ev.kpUnacked → exec (.evKpAckWrite v) s = .next (settle
        ({ s with ev := { s.ev with kpUnacked := s.ev.kpUnacked - n } }.set F.EV_KP_ACK_index v)))
      ∧ (v ≠ s.get F.EV_WR_index → s.ev.kpUnacked ≤ n → exec (.evKpAckWrite v) s = .next (settle s)))
    ∧ (s.ev.port = [] → exec .evPortPop s = .next (settle (s.set F.EV_PORT_STATUS_data_valid 0)))
    ∧ (∀ r rest, s.ev.port = r :: rest → ∃ t, exec .evPortPop s = .next t ∧ t.ev = { s.ev with port := rest } ∧
      (∀ k, k < 4 → t.get (F.EV_PORT_DATA_word k) = r.words.getD k 0) ∧
      t.flag F.EV_PORT_STATUS_data_valid = true ∧ t.get F.EV_PORT_STATUS_count = rest.length % 512)

/-- Outside WARM and the resets a read frame answers status 0x00 and the register without clearing it, 0x01 outside
every block or misaligned; a write frame answers 0x01 there, 0x02 with nothing written where it would change a
field outside the writable set, and an unknown opcode answers 0x01; a held port answers nothing; a cut frame
acts only as a write whose 32 data bits were received. The register port ignores and counts a request while 8
are outstanding, answers err outside every block, denied beyond its right, and the read data otherwise; it acts
only while its bin runs. A requester that is held asks nothing, and the register port's request beyond its right
is only counted as denied; a requester's write that would change a field it may not write changes nothing, one
that its judgement lets through acts on its target, and the register port's write of THM_HEAD_CFG sets its two
fields. A clearing read by the keeper returns EV_CNT and clears it, one by the management port does not. -/
def Obligations.Ports : Prop :=
  ∀ s : State,
    (mgmtUp s = false → ∀ a n v op (x : WriteFacts), a < 2 ^ 32 → v < 2 ^ 32 → 1 ≤ n → n ≤ 2 ^ 30 → op < 256 → op ≠ 2 → op ≠ 3 → x.ok = true →
      exec (.mgmtRead a n) s = .next (settle (mgmtSend s [])) ∧
      exec (.mgmtWrite a v x) s = .next (settle (mgmtSend s [])) ∧
      exec (.mgmtUnknownOpcode op) s = .next (settle (mgmtSend s [])) ∧
      exec (.mgmtFrameAbort 2 a v 32 x) s = .next (settle (mgmtSend s [])) ∧
      exec (.evAckWrite (v % 4096)) s = .next (settle (mgmtSend s [])))
    ∧ (mgmtUp s = true → ∀ a, a < 2 ^ 32 →
      (addrOk a = true → gateStops s a = false → (a < 0x901000 ∨ 0x941000 ≤ a) → a ≠ F.TB_FP_LO_fp_lo.addr →
        exec (.mgmtRead a 1) s = .next (settle (mgmtSend s [(0, regWord s a .mgmt % 2 ^ 32)])))
      ∧ (addrOk a = false → ∃ v, exec (.mgmtRead a 1) s = .next (settle (mgmtSend s.useFree [(1, v)]))))
    ∧ (mgmtUp s = true → ∀ a v (x : WriteFacts), a < 2 ^ 32 → v < 2 ^ 32 → x.ok = true →
      (addrOk a = false → exec (.mgmtWrite a v x) s = .next (settle (mgmtSend s [(1, 0)])))
      ∧ (addrOk a = true → (rowsFor a .mgmt).any (fun r => r.changes s .mgmt a v && !mayWrite s .mgmt a r) = true →
        exec (.mgmtWrite a v x) s = .next (settle (mgmtSend s [(2, 0)])))
      ∧ (∀ op bits, op < 256 → op ≠ 2 ∨ bits < 32 →
        exec (.mgmtFrameAbort op a v bits x) s = .next (settle (mgmtSend s [])))
      ∧ (∀ bits, 32 ≤ bits → exec (.mgmtFrameAbort 2 a v bits x) s
        = .next (settle (mgmtSend (regWrite s .mgmt a v x).1 [])))
      ∧ (∀ op, op < 256 → op ≠ 2 → op ≠ 3 → exec (.mgmtUnknownOpcode op) s = .next (settle (mgmtSend s [(1, 0)]))))
    ∧ (∀ a v tag out (x : WriteFacts), a < 2 ^ 32 → v < 2 ^ 32 → tag < 64 → out ≤ 8 → x.ok = true →
      (regPortUp s = false → exec (.regportRead a tag out) s = .next (settle s) ∧
        exec (.regportWrite a v tag out x) s = .next (settle s))
      ∧ (regPortUp s = true → out = 8 → ∀ u, u = (s.set F.EV_RP_STATUS_outstanding 8).bump F.EV_RP_CNT_ignored 1 →
        exec (.regportRead a tag out) s = .next (settle u) ∧ exec (.regportWrite a v tag out x) s = .next (settle u))
      ∧ (regPortUp s = true → out < 8 → blockOf a = none → ∀ c, c = Instr.regportRead a tag out ∨ c = .regportWrite a v tag out x →
        ∃ t, exec c s = .next t ∧ t.ports.resp = some (2 ^ 64 + 2 ^ 65 + tag * 2 ^ 67) ∧
          t.get F.EV_RP_STATUS_outstanding = out)
      ∧ (∀ right, regPortUp s = true → out < 8 → portRight s a = some right → s.get F.EV_RP_CNT_denied < 65535 →
        ∀ c, (c = Instr.regportRead a tag out ∧ right = 0) ∨ (c = .regportWrite a v tag out x ∧ right ≤ 1) →
        ∃ t, exec c s = .next t ∧ t.ports.resp = some (2 ^ 64 + 2 ^ 66 + tag * 2 ^ 67) ∧
          t.get F.EV_RP_CNT_denied = s.get F.EV_RP_CNT_denied + 1 ∧ t.get F.EV_RP_STATUS_outstanding = out)
      ∧ (∀ right u, regPortUp s = true → out < 8 → portRight s a = some right → 2 ≤ right → a % 4 = 0 →
        u = s.set F.EV_RP_STATUS_outstanding (out + 1) →
        (rowsFor a .regPort).any (fun r => r.changes u .regPort a v && !mayWrite u .regPort a r) = true →
        exec (.regportWrite a v tag out x) s = .next (settle ((respond u 0 true false tag).set F.EV_RP_STATUS_outstanding out))))
    ∧ (regPortUp s = true → ∀ right, portRight s F.EV_CFG_alert_sev.addr = some right → 1 ≤ right → ∀ tag, tag < 64 →
      s.get F.EV_CFG_alert_sev < 8 → s.get F.EV_CFG_ring_sev < 8 → s.get F.EV_CFG_port_sev < 8 →
      ∃ t, exec (.regportRead F.EV_CFG_alert_sev.addr tag 0) s = .next t ∧ t.ports.resp = some (s.get F.EV_CFG_alert_sev
        + s.get F.EV_CFG_ring_sev * 2 ^ 3 + s.get F.EV_CFG_port_sev * 2 ^ 6 + 2 ^ 64 + tag * 2 ^ 67))
    ∧ (∀ who a v (x : WriteFacts), a < 2 ^ 32 → v < 2 ^ 32 → x.ok = true →
      (mayAsk s who a 2 = true →
        addrOk a = false ∨ (rowsFor a who).any (fun r => r.changes s who a v && !mayWrite s who a r) = true →
        exec (.registerWrite who a v x) s = .next (settle s))
      ∧ (mayAsk s who a 2 = true → judgeWrite s who a v = .ok → gateStops s a = false →
        (rowsFor a who).any (mayWrite s who a) = true →
        exec (.registerWrite who a v x) s = .next (settle (targetWrite s who a v x)))
      ∧ (mayAsk s who a 2 = false → who ≠ .regPort →
        exec (.registerWrite who a v x) s = .next (settle s) ∧ exec (.readClear who a) s = .next (settle s)))
    ∧ (∀ a v right (x : WriteFacts), a < 2 ^ 32 → v < 2 ^ 32 → x.ok = true → regPortUp s = true →
      portRight s a = some right →
      (right < 2 → exec (.registerWrite .regPort a v x) s = .next (settle (s.bump F.EV_RP_CNT_denied 1)))
      ∧ (right < 1 → exec (.readClear .regPort a) s = .next (settle (s.bump F.EV_RP_CNT_denied 1))))
    ∧ (∀ a b (x : WriteFacts), a < 16 → b < 256 → x.ok = true →
      (mayAsk s .regPort F.THM_HEAD_CFG_step_t.addr 2 = true →
        exec (.registerWrite .regPort F.THM_HEAD_CFG_step_t.addr (a + 256 * b) x) s
          = .next (settle (s.setAll [(F.THM_HEAD_CFG_step_t, a), (F.THM_HEAD_CFG_step_p, b)])))
      ∧ (a ≠ s.get F.THM_HEAD_CFG_step_t ∨ b ≠ s.get F.THM_HEAD_CFG_step_p →
        exec (.registerWrite .keeper F.THM_HEAD_CFG_step_t.addr (a + 256 * b) x) s = .next (settle s)))
    ∧ (∀ who a, a < 2 ^ 32 → addrOk a = false → mayAsk s who a 1 = true →
      exec (.readClear who a) s = .next (settle { s with ports := { s.ports with read := 0 } }))
    ∧ (s.get F.EV_CNT_lost < 2 ^ 16 → s.get F.EV_CNT_overrun < 2 ^ 16 → ∀ v, v = s.get F.EV_CNT_lost + s.get F.EV_CNT_overrun * 2 ^ 16 →
      (keeperUp s = true → ∃ t, exec (.readClear .keeper F.EV_CNT_lost.addr) s = .next t ∧ t.ports.read = v ∧
        t.get F.EV_CNT_lost = 0 ∧ t.get F.EV_CNT_overrun = 0)
      ∧ (mgmtUp s = true → exec (.readClear .mgmt F.EV_CNT_lost.addr) s
        = .next (settle { s with ports := { s.ports with read := v } })))

/-- For every state and command, the step of the state with the command at the front of its queue is exec of the
command on the state with the queue's rest; on an empty queue one TICK cycle passes, in which the model's clock
and the frame position count and, outside LOAD and SAFE, the fabric's registers capture, and the commands that
the bins' ports then spell join the queue, except while the device is held in reset (the model's choice, log
entry 7). -/
def Obligations.StepRunsFront : Prop :=
  ∀ s : State,
    (∀ (c : Instr) (rest : List Instr), step { s with pending := c :: rest } = exec c { s with pending := rest })
    ∧ (s.pending = [] → s.modes.por = false → s.pins.porstN = true → s.mode ≠ Mode.load → s.mode ≠ Mode.safe →
      ∃ t, step s = .next t ∧ t.now = s.now + 1 ∧ t.fp = (s.fp + 1) % (2 ^ 30 * 1024 * 9830400) ∧
        t.mesh = meshStep s ∧ (∀ p, p ∈ fabBins s → (t.bin p).fab = binStep s p) ∧ (fabBins s = [] → t.pending = []))
    ∧ (s.pending = [] → s.modes.por = false → s.pins.porstN = true → s.mode = Mode.load ∨ s.mode = Mode.safe →
      step s = .next (settle (s.later 1)))
    ∧ (s.pending = [] → s.modes.por = true ∨ s.pins.porstN = false → step s = .next (settle s))

/-- Whatever the state and the command, in the next state MG_ALERT_N and EV_STATUS.alert say whether the ring holds
an unacknowledged record at alert_sev or above outside a WARM reset, TB_TRG_STATUS.armed equals fp_valid, the
outputs are in their safe state in LOAD and in SAFE, PPS_OUT shows its pulse, and the frame position lies in its
range; no step ends in a fault, and one ends in a refusal only for a command with an operand outside its range.
R479 is stated whole; the rest rests on R9, R73, R77, R93, R345, R403 and R477. -/
def Obligations.SettledKept : Prop :=
  ∀ s : State,
    (∀ t, step s = .next t → t.pins.alertN = !(evAlerted t && !t.warm && (t.ev.running || t.mode != Mode.load)))
    ∧ (∀ t, step s = .next t → Settled t ∧ (t.mode = Mode.load ∨ t.mode = Mode.safe → t.pins.outputsSafe = true))
    ∧ (∀ f, step s ≠ .fault f)
    ∧ (∀ r, step s = .refused r → r = .illFormed ∧ ∃ c rest, s.pending = c :: rest ∧ c.wf = false)
    ∧ (∀ c rest, s.pending = c :: rest → c.wf = true → ∃ t, step s = .next t)

/-- After a power-on reset the device is in mode LOAD with the internal POR held, the outputs safe, the event unit,
the queues and the scheduler empty, every bank group OFF, no stored ledger entry and every register at its reset
value; the memories have their canonical form, the queue of commands is empty, and the signals agree with the
state (the pins, an empty ledger and unburned fuses are the model's choice, log entry 1). -/
def Obligations.ResetLeaves : Prop :=
  State.reset.mode = Mode.load ∧ State.reset.modes.por = true ∧ State.reset.pins.outputsSafe = true
    ∧ State.reset.ev.running = false ∧ State.reset.ev.inq = [] ∧ State.reset.sch.items = [] ∧ State.reset.led.stored = []
    ∧ (∀ g, g < 32 → State.reset.get (F.LFT_GRP_STATUS_power g) = 0) ∧ (∀ f : Fld, State.reset.get f = f.reset)
    ∧ State.reset.memOk = true ∧ State.reset.pending = [] ∧ Settled State.reset
end

