-- ==== Sys2Proof/Laws/Fields.lean ====
section
/-! SUPPORT. Keyed lists and field maps: what reads after writes return, and the canonical form. -/

namespace Sys2Proof.Machine

theorem aget_ains_same {α : Type} (k : Nat) (v : α) (l : List (Nat × α))
    (h : ∀ p ∈ l, p.1 ≠ k) : aget (ains k v l) k = some v := by
  induction l with
  | nil => simp [ains, aget]
  | cons p t ih =>
    have hp : p.1 ≠ k := h p (by simp)
    have ht := ih (fun q hq => h q (by simp [hq]))
    unfold ains
    split
    · simp [aget]
    · simpa [aget, hp] using ht

theorem aget_ains_ne {α : Type} (k j : Nat) (v : α) (l : List (Nat × α)) (h : j ≠ k) :
    aget (ains k v l) j = aget l j := by
  induction l with
  | nil => simp [ains, aget, Ne.symm h]
  | cons p t ih =>
    unfold ains
    split
    · simp [aget, Ne.symm h]
    · by_cases hp : p.1 = j
      · simp [aget, hp]
      · simpa [aget, hp] using ih

theorem aget_adel_ne {α : Type} (k j : Nat) (l : List (Nat × α)) (h : j ≠ k) :
    aget (adel l k) j = aget l j := by
  induction l with
  | nil => rfl
  | cons p t ih =>
    by_cases hp : p.1 = k
    · have : p.1 ≠ j := fun e => h (e ▸ hp)
      simpa [adel, aget, hp, Ne.symm h] using ih
    · by_cases hj : p.1 = j
      · simp [adel, aget, hj, h]
      · simpa [adel, aget, hp, hj] using ih

theorem adel_keys {α : Type} (k : Nat) (l : List (Nat × α)) : ∀ p ∈ adel l k, p.1 ≠ k := by
  intro p hp
  simp [adel] at hp
  exact hp.2

theorem aget_none {α : Type} (k : Nat) (l : List (Nat × α)) (h : ∀ p ∈ l, p.1 ≠ k) : aget l k = none := by
  simp only [aget, Option.map_eq_none_iff, List.find?_eq_none]
  intro p hp
  simpa using h p hp

theorem aget_adel_same {α : Type} (k : Nat) (l : List (Nat × α)) : aget (adel l k) k = none :=
  aget_none k _ (adel_keys k l)

/-- A keyed list answers what was stored last. -/
theorem aget_aset_same {α : Type} (l : List (Nat × α)) (k : Nat) (v : α) : aget (aset l k v) k = some v :=
  aget_ains_same k v _ (adel_keys k l)

/-- Storing at one key leaves every other. -/
theorem aget_aset_ne {α : Type} (l : List (Nat × α)) (k j : Nat) (v : α) (h : j ≠ k) :
    aget (aset l k v) j = aget l j := by
  rw [aset, aget_ains_ne _ _ _ _ h, aget_adel_ne _ _ _ h]

/-- A field holds what was written, cut to its width. -/
theorem fread_fwrite_same (m : FldMap) (f : Fld) (v : Nat) : fread (fwrite m f v) f = v % 2 ^ f.width := by
  unfold fread fwrite
  by_cases h : v % 2 ^ f.width = f.reset
  · simp [h, aget_adel_same]
  · simp [h, aget_aset_same]

/-- A field keeps its value when another is written. -/
theorem fread_fwrite_ne (m : FldMap) (f g : Fld) (v : Nat) (h : g.key ≠ f.key) :
    fread (fwrite m f v) g = fread m g := by
  unfold fread fwrite
  by_cases hr : v % 2 ^ f.width = f.reset
  · simp [hr, aget_adel_ne _ _ _ h]
  · simp [hr, aget_aset_ne _ _ _ _ h]

/-! The canonical form: rising keys. -/

/-- The keys strictly rise. -/
def keysRise {α : Type} (l : List (Nat × α)) : Prop := l.Pairwise (fun p q => p.1 < q.1)

theorem keysRise_adel {α : Type} (l : List (Nat × α)) (k : Nat) (h : keysRise l) : keysRise (adel l k) :=
  List.Pairwise.filter _ h

theorem keysRise_ains {α : Type} (k : Nat) (v : α) (l : List (Nat × α)) (h : keysRise l)
    (hk : ∀ p ∈ l, p.1 ≠ k) : keysRise (ains k v l) := by
  induction l with
  | nil => simp [ains, keysRise]
  | cons p t ih =>
    obtain ⟨h1, h2⟩ := List.pairwise_cons.mp h
    have hp : p.1 ≠ k := hk p (by simp)
    unfold ains
    split
    · rename_i hlt
      refine List.pairwise_cons.mpr ⟨fun q hq => ?_, h⟩
      rcases List.mem_cons.mp hq with rfl | hq
      · exact hlt
      · exact Nat.lt_trans hlt (h1 q hq)
    · rename_i hge
      have ht := ih h2 (fun q hq => hk q (by simp [hq]))
      refine List.pairwise_cons.mpr ⟨fun q hq => ?_, ht⟩
      have : ∀ (l : List (Nat × α)), q ∈ ains k v l → q = (k, v) ∨ q ∈ l := by
        intro l
        induction l with
        | nil => simp [ains]
        | cons a b ihb =>
          unfold ains
          split
          · simp
          · intro hm
            rcases List.mem_cons.mp hm with rfl | hm
            · simp
            · rcases ihb hm with e | e <;> simp [e]
      rcases this t hq with rfl | hm
      · exact Nat.lt_of_le_of_ne (Nat.le_of_not_lt hge) hp
      · exact h1 q hm

theorem keysRise_aset {α : Type} (l : List (Nat × α)) (k : Nat) (v : α) (h : keysRise l) :
    keysRise (aset l k v) :=
  keysRise_ains k v _ (keysRise_adel l k h) (adel_keys k l)

/-- A write of a field keeps the map's keys rising. -/
theorem keysRise_fwrite (m : FldMap) (f : Fld) (v : Nat) (h : keysRise m) : keysRise (fwrite m f v) := by
  unfold fwrite
  by_cases hr : v % 2 ^ f.width = f.reset
  · simpa [hr] using keysRise_adel m f.key h
  · simpa [hr] using keysRise_aset m f.key _ h

end Sys2Proof.Machine
end

