-- ==== Sys2Proof/Laws/State.lean ====
section
/-! SUPPORT. The state under its basic updates: one lemma per field per update, and register reads after
register writes. -/

namespace Sys2Proof.Machine

/-! Register reads. -/

/-- A register reads what was written, cut to its width. -/
@[simp] theorem State.get_set_same (s : State) (f : Fld) (v : Nat) : (s.set f v).get f = v % 2 ^ f.width :=
  fread_fwrite_same s.flds f v

/-- Another register keeps its value. -/
theorem State.get_set_ne (s : State) (f g : Fld) (v : Nat) (h : g.key ≠ f.key) : (s.set f v).get g = s.get g :=
  fread_fwrite_ne s.flds f g v h

/-- Registers follow the field map alone. -/
theorem State.get_of_flds (s t : State) (h : t.flds = s.flds) (f : Fld) : t.get f = s.get f := by
  simp [State.get, h]

@[simp] theorem State.setAll_nil (s : State) : s.setAll [] = s := rfl
@[simp] theorem State.setAll_cons (s : State) (p : Fld × Nat) (l : List (Fld × Nat)) :
    s.setAll (p :: l) = (s.set p.1 p.2).setAll l := rfl

@[simp] theorem State.set_pending (s : State) (f : Fld) (v : Nat) : (s.set f v).pending = s.pending := rfl
@[simp] theorem State.set_now (s : State) (f : Fld) (v : Nat) : (s.set f v).now = s.now := rfl
@[simp] theorem State.set_fp (s : State) (f : Fld) (v : Nat) : (s.set f v).fp = s.fp := rfl
@[simp] theorem State.set_fresh (s : State) (f : Fld) (v : Nat) : (s.set f v).fresh = s.fresh := rfl
@[simp] theorem State.set_reported (s : State) (f : Fld) (v : Nat) : (s.set f v).reported = s.reported := rfl
@[simp] theorem State.set_warm (s : State) (f : Fld) (v : Nat) : (s.set f v).warm = s.warm := rfl
@[simp] theorem State.set_ev (s : State) (f : Fld) (v : Nat) : (s.set f v).ev = s.ev := rfl
@[simp] theorem State.set_led (s : State) (f : Fld) (v : Nat) : (s.set f v).led = s.led := rfl
@[simp] theorem State.set_pins (s : State) (f : Fld) (v : Nat) : (s.set f v).pins = s.pins := rfl
@[simp] theorem State.set_tb (s : State) (f : Fld) (v : Nat) : (s.set f v).tb = s.tb := rfl
@[simp] theorem State.set_loft (s : State) (f : Fld) (v : Nat) : (s.set f v).loft = s.loft := rfl
@[simp] theorem State.set_twin (s : State) (f : Fld) (v : Nat) : (s.set f v).twin = s.twin := rfl
@[simp] theorem State.set_sch (s : State) (f : Fld) (v : Nat) : (s.set f v).sch = s.sch := rfl
@[simp] theorem State.set_bins (s : State) (f : Fld) (v : Nat) : (s.set f v).bins = s.bins := rfl
@[simp] theorem State.set_trays (s : State) (f : Fld) (v : Nat) : (s.set f v).trays = s.trays := rfl
@[simp] theorem State.set_trayValid (s : State) (f : Fld) (v : Nat) : (s.set f v).trayValid = s.trayValid := rfl
@[simp] theorem State.set_mesh (s : State) (f : Fld) (v : Nat) : (s.set f v).mesh = s.mesh := rfl
@[simp] theorem State.set_clk (s : State) (f : Fld) (v : Nat) : (s.set f v).clk = s.clk := rfl
@[simp] theorem State.set_lanes (s : State) (f : Fld) (v : Nat) : (s.set f v).lanes = s.lanes := rfl
@[simp] theorem State.set_modes (s : State) (f : Fld) (v : Nat) : (s.set f v).modes = s.modes := rfl
@[simp] theorem State.set_shedThm (s : State) (f : Fld) (v : Nat) : (s.set f v).shedThm = s.shedThm := rfl
@[simp] theorem State.set_shedCov (s : State) (f : Fld) (v : Nat) : (s.set f v).shedCov = s.shedCov := rfl
@[simp] theorem State.set_adm (s : State) (f : Fld) (v : Nat) : (s.set f v).adm = s.adm := rfl
@[simp] theorem State.set_thm (s : State) (f : Fld) (v : Nat) : (s.set f v).thm = s.thm := rfl
@[simp] theorem State.set_fh (s : State) (f : Fld) (v : Nat) : (s.set f v).fh = s.fh := rfl
@[simp] theorem State.set_cfg (s : State) (f : Fld) (v : Nat) : (s.set f v).cfg = s.cfg := rfl
@[simp] theorem State.set_sec (s : State) (f : Fld) (v : Nat) : (s.set f v).sec = s.sec := rfl
@[simp] theorem State.set_spr (s : State) (f : Fld) (v : Nat) : (s.set f v).spr = s.spr := rfl
@[simp] theorem State.set_ports (s : State) (f : Fld) (v : Nat) : (s.set f v).ports = s.ports := rfl

/-! Several registers. -/

/-- A part of the state that no single register write touches is untouched by several. -/
theorem State.setAll_part {α : Type} (p : State → α) (h : ∀ s f v, p (State.set s f v) = p s) (s : State)
    (l : List (Fld × Nat)) : p (s.setAll l) = p s := by
  induction l generalizing s with
  | nil => rfl
  | cons x t ih => exact (ih (s.set x.1 x.2)).trans (h s x.1 x.2)

@[simp] theorem State.setAll_pending (s : State) (l : List (Fld × Nat)) : (s.setAll l).pending = s.pending :=
  State.setAll_part (·.pending) (fun _ _ _ => rfl) s l
@[simp] theorem State.setAll_now (s : State) (l : List (Fld × Nat)) : (s.setAll l).now = s.now :=
  State.setAll_part (·.now) (fun _ _ _ => rfl) s l
@[simp] theorem State.setAll_fp (s : State) (l : List (Fld × Nat)) : (s.setAll l).fp = s.fp :=
  State.setAll_part (·.fp) (fun _ _ _ => rfl) s l
@[simp] theorem State.setAll_fresh (s : State) (l : List (Fld × Nat)) : (s.setAll l).fresh = s.fresh :=
  State.setAll_part (·.fresh) (fun _ _ _ => rfl) s l
@[simp] theorem State.setAll_reported (s : State) (l : List (Fld × Nat)) : (s.setAll l).reported = s.reported :=
  State.setAll_part (·.reported) (fun _ _ _ => rfl) s l
@[simp] theorem State.setAll_warm (s : State) (l : List (Fld × Nat)) : (s.setAll l).warm = s.warm :=
  State.setAll_part (·.warm) (fun _ _ _ => rfl) s l
@[simp] theorem State.setAll_ev (s : State) (l : List (Fld × Nat)) : (s.setAll l).ev = s.ev :=
  State.setAll_part (·.ev) (fun _ _ _ => rfl) s l
@[simp] theorem State.setAll_led (s : State) (l : List (Fld × Nat)) : (s.setAll l).led = s.led :=
  State.setAll_part (·.led) (fun _ _ _ => rfl) s l
@[simp] theorem State.setAll_pins (s : State) (l : List (Fld × Nat)) : (s.setAll l).pins = s.pins :=
  State.setAll_part (·.pins) (fun _ _ _ => rfl) s l
@[simp] theorem State.setAll_tb (s : State) (l : List (Fld × Nat)) : (s.setAll l).tb = s.tb :=
  State.setAll_part (·.tb) (fun _ _ _ => rfl) s l
@[simp] theorem State.setAll_loft (s : State) (l : List (Fld × Nat)) : (s.setAll l).loft = s.loft :=
  State.setAll_part (·.loft) (fun _ _ _ => rfl) s l
@[simp] theorem State.setAll_twin (s : State) (l : List (Fld × Nat)) : (s.setAll l).twin = s.twin :=
  State.setAll_part (·.twin) (fun _ _ _ => rfl) s l
@[simp] theorem State.setAll_sch (s : State) (l : List (Fld × Nat)) : (s.setAll l).sch = s.sch :=
  State.setAll_part (·.sch) (fun _ _ _ => rfl) s l
@[simp] theorem State.setAll_bins (s : State) (l : List (Fld × Nat)) : (s.setAll l).bins = s.bins :=
  State.setAll_part (·.bins) (fun _ _ _ => rfl) s l
@[simp] theorem State.setAll_trays (s : State) (l : List (Fld × Nat)) : (s.setAll l).trays = s.trays :=
  State.setAll_part (·.trays) (fun _ _ _ => rfl) s l
@[simp] theorem State.setAll_trayValid (s : State) (l : List (Fld × Nat)) : (s.setAll l).trayValid = s.trayValid :=
  State.setAll_part (·.trayValid) (fun _ _ _ => rfl) s l
@[simp] theorem State.setAll_mesh (s : State) (l : List (Fld × Nat)) : (s.setAll l).mesh = s.mesh :=
  State.setAll_part (·.mesh) (fun _ _ _ => rfl) s l
@[simp] theorem State.setAll_clk (s : State) (l : List (Fld × Nat)) : (s.setAll l).clk = s.clk :=
  State.setAll_part (·.clk) (fun _ _ _ => rfl) s l
@[simp] theorem State.setAll_lanes (s : State) (l : List (Fld × Nat)) : (s.setAll l).lanes = s.lanes :=
  State.setAll_part (·.lanes) (fun _ _ _ => rfl) s l
@[simp] theorem State.setAll_modes (s : State) (l : List (Fld × Nat)) : (s.setAll l).modes = s.modes :=
  State.setAll_part (·.modes) (fun _ _ _ => rfl) s l
@[simp] theorem State.setAll_shedThm (s : State) (l : List (Fld × Nat)) : (s.setAll l).shedThm = s.shedThm :=
  State.setAll_part (·.shedThm) (fun _ _ _ => rfl) s l
@[simp] theorem State.setAll_shedCov (s : State) (l : List (Fld × Nat)) : (s.setAll l).shedCov = s.shedCov :=
  State.setAll_part (·.shedCov) (fun _ _ _ => rfl) s l
@[simp] theorem State.setAll_adm (s : State) (l : List (Fld × Nat)) : (s.setAll l).adm = s.adm :=
  State.setAll_part (·.adm) (fun _ _ _ => rfl) s l
@[simp] theorem State.setAll_thm (s : State) (l : List (Fld × Nat)) : (s.setAll l).thm = s.thm :=
  State.setAll_part (·.thm) (fun _ _ _ => rfl) s l
@[simp] theorem State.setAll_fh (s : State) (l : List (Fld × Nat)) : (s.setAll l).fh = s.fh :=
  State.setAll_part (·.fh) (fun _ _ _ => rfl) s l
@[simp] theorem State.setAll_cfg (s : State) (l : List (Fld × Nat)) : (s.setAll l).cfg = s.cfg :=
  State.setAll_part (·.cfg) (fun _ _ _ => rfl) s l
@[simp] theorem State.setAll_sec (s : State) (l : List (Fld × Nat)) : (s.setAll l).sec = s.sec :=
  State.setAll_part (·.sec) (fun _ _ _ => rfl) s l
@[simp] theorem State.setAll_spr (s : State) (l : List (Fld × Nat)) : (s.setAll l).spr = s.spr :=
  State.setAll_part (·.spr) (fun _ _ _ => rfl) s l
@[simp] theorem State.setAll_ports (s : State) (l : List (Fld × Nat)) : (s.setAll l).ports = s.ports :=
  State.setAll_part (·.ports) (fun _ _ _ => rfl) s l

/-! Counters, free values, time. -/

@[simp] theorem State.bump_pending (s : State) (f : Fld) (n : Nat) : (s.bump f n).pending = s.pending := rfl
@[simp] theorem State.bump_now (s : State) (f : Fld) (n : Nat) : (s.bump f n).now = s.now := rfl
@[simp] theorem State.bump_fp (s : State) (f : Fld) (n : Nat) : (s.bump f n).fp = s.fp := rfl
@[simp] theorem State.bump_fresh (s : State) (f : Fld) (n : Nat) : (s.bump f n).fresh = s.fresh := rfl
@[simp] theorem State.bump_reported (s : State) (f : Fld) (n : Nat) : (s.bump f n).reported = s.reported := rfl
@[simp] theorem State.bump_warm (s : State) (f : Fld) (n : Nat) : (s.bump f n).warm = s.warm := rfl
@[simp] theorem State.bump_ev (s : State) (f : Fld) (n : Nat) : (s.bump f n).ev = s.ev := rfl
@[simp] theorem State.bump_led (s : State) (f : Fld) (n : Nat) : (s.bump f n).led = s.led := rfl
@[simp] theorem State.bump_pins (s : State) (f : Fld) (n : Nat) : (s.bump f n).pins = s.pins := rfl
@[simp] theorem State.bump_tb (s : State) (f : Fld) (n : Nat) : (s.bump f n).tb = s.tb := rfl
@[simp] theorem State.bump_loft (s : State) (f : Fld) (n : Nat) : (s.bump f n).loft = s.loft := rfl
@[simp] theorem State.bump_twin (s : State) (f : Fld) (n : Nat) : (s.bump f n).twin = s.twin := rfl
@[simp] theorem State.bump_sch (s : State) (f : Fld) (n : Nat) : (s.bump f n).sch = s.sch := rfl
@[simp] theorem State.bump_bins (s : State) (f : Fld) (n : Nat) : (s.bump f n).bins = s.bins := rfl
@[simp] theorem State.bump_trays (s : State) (f : Fld) (n : Nat) : (s.bump f n).trays = s.trays := rfl
@[simp] theorem State.bump_trayValid (s : State) (f : Fld) (n : Nat) : (s.bump f n).trayValid = s.trayValid := rfl
@[simp] theorem State.bump_mesh (s : State) (f : Fld) (n : Nat) : (s.bump f n).mesh = s.mesh := rfl
@[simp] theorem State.bump_clk (s : State) (f : Fld) (n : Nat) : (s.bump f n).clk = s.clk := rfl
@[simp] theorem State.bump_lanes (s : State) (f : Fld) (n : Nat) : (s.bump f n).lanes = s.lanes := rfl
@[simp] theorem State.bump_modes (s : State) (f : Fld) (n : Nat) : (s.bump f n).modes = s.modes := rfl
@[simp] theorem State.bump_shedThm (s : State) (f : Fld) (n : Nat) : (s.bump f n).shedThm = s.shedThm := rfl
@[simp] theorem State.bump_shedCov (s : State) (f : Fld) (n : Nat) : (s.bump f n).shedCov = s.shedCov := rfl
@[simp] theorem State.bump_adm (s : State) (f : Fld) (n : Nat) : (s.bump f n).adm = s.adm := rfl
@[simp] theorem State.bump_thm (s : State) (f : Fld) (n : Nat) : (s.bump f n).thm = s.thm := rfl
@[simp] theorem State.bump_fh (s : State) (f : Fld) (n : Nat) : (s.bump f n).fh = s.fh := rfl
@[simp] theorem State.bump_cfg (s : State) (f : Fld) (n : Nat) : (s.bump f n).cfg = s.cfg := rfl
@[simp] theorem State.bump_sec (s : State) (f : Fld) (n : Nat) : (s.bump f n).sec = s.sec := rfl
@[simp] theorem State.bump_spr (s : State) (f : Fld) (n : Nat) : (s.bump f n).spr = s.spr := rfl
@[simp] theorem State.bump_ports (s : State) (f : Fld) (n : Nat) : (s.bump f n).ports = s.ports := rfl
@[simp] theorem State.useFree_pending (s : State) : s.useFree.pending = s.pending := rfl
@[simp] theorem State.useFree_flds (s : State) : s.useFree.flds = s.flds := rfl
@[simp] theorem State.useFree_now (s : State) : s.useFree.now = s.now := rfl
@[simp] theorem State.useFree_fp (s : State) : s.useFree.fp = s.fp := rfl
@[simp] theorem State.useFree_reported (s : State) : s.useFree.reported = s.reported := rfl
@[simp] theorem State.useFree_warm (s : State) : s.useFree.warm = s.warm := rfl
@[simp] theorem State.useFree_ev (s : State) : s.useFree.ev = s.ev := rfl
@[simp] theorem State.useFree_led (s : State) : s.useFree.led = s.led := rfl
@[simp] theorem State.useFree_pins (s : State) : s.useFree.pins = s.pins := rfl
@[simp] theorem State.useFree_tb (s : State) : s.useFree.tb = s.tb := rfl
@[simp] theorem State.useFree_loft (s : State) : s.useFree.loft = s.loft := rfl
@[simp] theorem State.useFree_twin (s : State) : s.useFree.twin = s.twin := rfl
@[simp] theorem State.useFree_sch (s : State) : s.useFree.sch = s.sch := rfl
@[simp] theorem State.useFree_bins (s : State) : s.useFree.bins = s.bins := rfl
@[simp] theorem State.useFree_trays (s : State) : s.useFree.trays = s.trays := rfl
@[simp] theorem State.useFree_trayValid (s : State) : s.useFree.trayValid = s.trayValid := rfl
@[simp] theorem State.useFree_mesh (s : State) : s.useFree.mesh = s.mesh := rfl
@[simp] theorem State.useFree_clk (s : State) : s.useFree.clk = s.clk := rfl
@[simp] theorem State.useFree_lanes (s : State) : s.useFree.lanes = s.lanes := rfl
@[simp] theorem State.useFree_modes (s : State) : s.useFree.modes = s.modes := rfl
@[simp] theorem State.useFree_shedThm (s : State) : s.useFree.shedThm = s.shedThm := rfl
@[simp] theorem State.useFree_shedCov (s : State) : s.useFree.shedCov = s.shedCov := rfl
@[simp] theorem State.useFree_adm (s : State) : s.useFree.adm = s.adm := rfl
@[simp] theorem State.useFree_thm (s : State) : s.useFree.thm = s.thm := rfl
@[simp] theorem State.useFree_fh (s : State) : s.useFree.fh = s.fh := rfl
@[simp] theorem State.useFree_cfg (s : State) : s.useFree.cfg = s.cfg := rfl
@[simp] theorem State.useFree_sec (s : State) : s.useFree.sec = s.sec := rfl
@[simp] theorem State.useFree_spr (s : State) : s.useFree.spr = s.spr := rfl
@[simp] theorem State.useFree_ports (s : State) : s.useFree.ports = s.ports := rfl
@[simp] theorem State.useFree_fresh (s : State) : s.useFree.fresh = s.fresh + 1 := rfl
@[simp] theorem State.later_pending (s : State) (d : Nat) : (s.later d).pending = s.pending := rfl
@[simp] theorem State.later_flds (s : State) (d : Nat) : (s.later d).flds = s.flds := rfl
@[simp] theorem State.later_fresh (s : State) (d : Nat) : (s.later d).fresh = s.fresh := rfl
@[simp] theorem State.later_reported (s : State) (d : Nat) : (s.later d).reported = s.reported := rfl
@[simp] theorem State.later_warm (s : State) (d : Nat) : (s.later d).warm = s.warm := rfl
@[simp] theorem State.later_ev (s : State) (d : Nat) : (s.later d).ev = s.ev := rfl
@[simp] theorem State.later_led (s : State) (d : Nat) : (s.later d).led = s.led := rfl
@[simp] theorem State.later_pins (s : State) (d : Nat) : (s.later d).pins = s.pins := rfl
@[simp] theorem State.later_tb (s : State) (d : Nat) : (s.later d).tb = s.tb := rfl
@[simp] theorem State.later_loft (s : State) (d : Nat) : (s.later d).loft = s.loft := rfl
@[simp] theorem State.later_twin (s : State) (d : Nat) : (s.later d).twin = s.twin := rfl
@[simp] theorem State.later_sch (s : State) (d : Nat) : (s.later d).sch = s.sch := rfl
@[simp] theorem State.later_bins (s : State) (d : Nat) : (s.later d).bins = s.bins := rfl
@[simp] theorem State.later_trays (s : State) (d : Nat) : (s.later d).trays = s.trays := rfl
@[simp] theorem State.later_trayValid (s : State) (d : Nat) : (s.later d).trayValid = s.trayValid := rfl
@[simp] theorem State.later_mesh (s : State) (d : Nat) : (s.later d).mesh = s.mesh := rfl
@[simp] theorem State.later_clk (s : State) (d : Nat) : (s.later d).clk = s.clk := rfl
@[simp] theorem State.later_lanes (s : State) (d : Nat) : (s.later d).lanes = s.lanes := rfl
@[simp] theorem State.later_modes (s : State) (d : Nat) : (s.later d).modes = s.modes := rfl
@[simp] theorem State.later_shedThm (s : State) (d : Nat) : (s.later d).shedThm = s.shedThm := rfl
@[simp] theorem State.later_shedCov (s : State) (d : Nat) : (s.later d).shedCov = s.shedCov := rfl
@[simp] theorem State.later_adm (s : State) (d : Nat) : (s.later d).adm = s.adm := rfl
@[simp] theorem State.later_thm (s : State) (d : Nat) : (s.later d).thm = s.thm := rfl
@[simp] theorem State.later_fh (s : State) (d : Nat) : (s.later d).fh = s.fh := rfl
@[simp] theorem State.later_cfg (s : State) (d : Nat) : (s.later d).cfg = s.cfg := rfl
@[simp] theorem State.later_sec (s : State) (d : Nat) : (s.later d).sec = s.sec := rfl
@[simp] theorem State.later_spr (s : State) (d : Nat) : (s.later d).spr = s.spr := rfl
@[simp] theorem State.later_ports (s : State) (d : Nat) : (s.later d).ports = s.ports := rfl
@[simp] theorem State.later_now (s : State) (d : Nat) : (s.later d).now = s.now + d := rfl
@[simp] theorem State.later_fp (s : State) (d : Nat) : (s.later d).fp = fpAdd s.fp d := rfl

/-- Waiting for a tick is passing the ticks up to it, none when it has passed. -/
@[simp] theorem State.atNow_eq (s : State) (t : Nat) : s.atNow t = s.later (t - s.now) := rfl

/-- The clock after a wait. -/
theorem State.atNow_now (s : State) (t : Nat) : (s.atNow t).now = max s.now t := by
  simp
  omega

/-- A mean that is a whole number is that number. -/
theorem meanOpen_exact (s : State) (sum n : Nat) (hn : n ≠ 0) (h : sum % n = 0) : meanOpen s sum n = (sum / n, s) := by
  simp [meanOpen, hn, h]

/-- A counter after it steps. -/
theorem State.get_bump_same (s : State) (f : Fld) (n : Nat) :
    (s.bump f n).get f = satNat f.width (s.get f + n) := by
  rw [State.bump, State.get_set_same, Nat.mod_eq_of_lt]
  have : 0 < 2 ^ f.width := Nat.two_pow_pos _
  unfold satNat
  omega

/-- A well-formed command takes its next state, an ill-formed one is refused. -/
theorem checked_wf (i : Instr) (t : State) (h : i.wf = true) : checked i t = .next (settle t) := by
  simp [checked, h]

theorem checked_next (i : Instr) (t u : State) (h : checked i t = .next u) : i.wf = true ∧ u = settle t := by
  unfold checked at h
  split at h
  · rename_i hw
    exact ⟨hw, by cases h; rfl⟩
  · cases h

/-! Settling. -/

@[simp] theorem settle_pending (s : State) : (settle s).pending = s.pending := by simp [settle]
@[simp] theorem settle_now (s : State) : (settle s).now = s.now := by simp [settle]
@[simp] theorem settle_fresh (s : State) : (settle s).fresh = s.fresh := by simp [settle]
@[simp] theorem settle_reported (s : State) : (settle s).reported = s.reported := by simp [settle]
@[simp] theorem settle_warm (s : State) : (settle s).warm = s.warm := by simp [settle]
@[simp] theorem settle_ev (s : State) : (settle s).ev = s.ev := by simp [settle]
@[simp] theorem settle_led (s : State) : (settle s).led = s.led := by simp [settle]
@[simp] theorem settle_tb (s : State) : (settle s).tb = s.tb := by simp [settle]
@[simp] theorem settle_loft (s : State) : (settle s).loft = s.loft := by simp [settle]
@[simp] theorem settle_twin (s : State) : (settle s).twin = s.twin := by simp [settle]
@[simp] theorem settle_sch (s : State) : (settle s).sch = s.sch := by simp [settle]
@[simp] theorem settle_bins (s : State) : (settle s).bins = s.bins := by simp [settle]
@[simp] theorem settle_trays (s : State) : (settle s).trays = s.trays := by simp [settle]
@[simp] theorem settle_trayValid (s : State) : (settle s).trayValid = s.trayValid := by simp [settle]
@[simp] theorem settle_mesh (s : State) : (settle s).mesh = s.mesh := by simp [settle]
@[simp] theorem settle_clk (s : State) : (settle s).clk = s.clk := by simp [settle]
@[simp] theorem settle_lanes (s : State) : (settle s).lanes = s.lanes := by simp [settle]
@[simp] theorem settle_modes (s : State) : (settle s).modes = s.modes := by simp [settle]
@[simp] theorem settle_shedThm (s : State) : (settle s).shedThm = s.shedThm := by simp [settle]
@[simp] theorem settle_shedCov (s : State) : (settle s).shedCov = s.shedCov := by simp [settle]
@[simp] theorem settle_adm (s : State) : (settle s).adm = s.adm := by simp [settle]
@[simp] theorem settle_thm (s : State) : (settle s).thm = s.thm := by simp [settle]
@[simp] theorem settle_fh (s : State) : (settle s).fh = s.fh := by simp [settle]
@[simp] theorem settle_cfg (s : State) : (settle s).cfg = s.cfg := by simp [settle]
@[simp] theorem settle_sec (s : State) : (settle s).sec = s.sec := by simp [settle]
@[simp] theorem settle_spr (s : State) : (settle s).spr = s.spr := by simp [settle]
@[simp] theorem settle_ports (s : State) : (settle s).ports = s.ports := by simp [settle]

/-- The register map that `settle` leaves. -/
theorem settle_flds (s : State) :
    (settle s).flds = fwrite (fwrite s.flds F.EV_STATUS_alert (ofBool (alertLow s)))
      F.TB_TRG_STATUS_armed (s.get F.TB_STATUS_fp_valid) := by
  unfold settle State.setAll State.set
  rfl

/-- Registers other than the two that `settle` writes keep their values. -/
theorem settle_get (s : State) (f : Fld) (h1 : f.key ≠ F.EV_STATUS_alert.key)
    (h2 : f.key ≠ F.TB_TRG_STATUS_armed.key) : (settle s).get f = s.get f := by
  unfold State.get
  rw [settle_flds, fread_fwrite_ne _ _ _ _ h2, fread_fwrite_ne _ _ _ _ h1]

end Sys2Proof.Machine
end

