-- ==== Sys2Proof/Laws/Events.lean ====
section
/-! SUPPORT. What raising an event can change (R475, R476, R440): the event unit, the ledger and six registers;
and nothing else. -/

namespace Sys2Proof.Machine

/-- The registers that raising an event may write. -/
def evKeys : List Nat :=
  [F.EV_WR_next_seq.key, F.EV_CNT_lost.key, F.RST_EV_LOST_count.key, F.LED_STATUS_queued_crit.key,
    F.LED_STATUS_queued_info.key, F.LED_LOST_lost.key]

/-- A view of the state that no register write of an event, no change of the event unit and none of the ledger
touches. -/
structure EvBlind {α : Type} (p : State → α) : Prop where
  set : ∀ s f v, f.key ∈ evKeys → p (State.set s f v) = p s
  ev : ∀ (s : State) e, p { s with ev := e } = p s
  led : ∀ (s : State) l, p { s with led := l } = p s

theorem EvBlind.bump {α : Type} {p : State → α} (h : EvBlind p) (s : State) (f : Fld) (n : Nat)
    (hf : f.key ∈ evKeys) : p (s.bump f n) = p s := h.set _ _ _ hf

theorem EvBlind.both {α : Type} {p : State → α} (h : EvBlind p) (s : State) (l : Ledger) (e : EventUnit) :
    p { s with led := l, ev := e } = p s := (h.ev { s with led := l } e).trans (h.led s l)

theorem evIn_blind {α : Type} {p : State → α} (h : EvBlind p) (s : State) (r : EvRec) : p (evIn s r) = p s := by
  unfold evIn
  dsimp only
  split
  · rw [h.both, h.set _ _ _ (by decide)]
  · rw [h.bump _ _ _ (by decide), h.set _ _ _ (by decide)]

theorem evOnly_blind {α : Type} {p : State → α} (h : EvBlind p) (s : State) (a b c d : Nat) :
    p (evOnly s a b c d) = p s := by
  unfold evOnly
  split
  · exact h.bump _ _ _ (by decide)
  · exact evIn_blind h _ _

theorem ledCounts_blind {α : Type} {p : State → α} (h : EvBlind p) (s : State) : p (ledCounts s) = p s := by
  unfold ledCounts
  rw [h.set _ _ _ (by decide), h.set _ _ _ (by decide)]

theorem ledKick_blind {α : Type} {p : State → α} (h : EvBlind p) (s : State) : p (ledKick s) = p s := by
  unfold ledKick
  dsimp only
  repeat' split
  all_goals first
    | rfl
    | exact h.led _ _
    | exact (ledCounts_blind h _).trans (h.led _ _)
    | exact (ledCounts_blind h _).trans ((h.bump _ _ _ (by decide)).trans (h.led _ _))

theorem ledDeferral_blind {α : Type} {p : State → α} (h : EvBlind p) (s : State) : p (ledDeferral s) = p s := by
  unfold ledDeferral
  split
  · rfl
  · rw [evOnly_blind h, h.led]

theorem ledEnqueue_blind {α : Type} {p : State → α} (h : EvBlind p) (s : State) (e : LedEntry) :
    p (ledEnqueue s e) = p s := by
  unfold ledEnqueue
  split
  · exact h.bump _ _ _ (by decide)
  · dsimp only
    split
    · rw [ledKick_blind h, ledDeferral_blind h, ledCounts_blind h, h.led]
    · rw [ledKick_blind h, evOnly_blind h, h.bump _ _ _ (by decide), ledDeferral_blind h, ledCounts_blind h, h.led]

/-- Raising an event changes no view that is blind to the event unit, the ledger and the six registers. -/
theorem raiseLed_blind {α : Type} {p : State → α} (h : EvBlind p) (s : State) (cr : Bool) (x : List Nat)
    (a b c d : Nat) : p (raiseLed s cr x a b c d) = p s := by
  unfold raiseLed
  dsimp only
  split
  · split
    · exact ledEnqueue_blind h _ _
    · exact h.bump _ _ _ (by decide)
  · split
    · rw [ledEnqueue_blind h, evIn_blind h]
    · exact evIn_blind h _ _

theorem raiseCrit_blind {α : Type} {p : State → α} (h : EvBlind p) (s : State) (cr : Bool) (a b c d : Nat) :
    p (raiseCrit s cr a b c d) = p s := raiseLed_blind h s cr [] a b c d

theorem raise_blind {α : Type} {p : State → α} (h : EvBlind p) (s : State) (a b c d : Nat) :
    p (raise s a b c d) = p s := raiseCrit_blind h s false a b c d

/-- A register outside the six is such a view. -/
theorem EvBlind.get (f : Fld) (hf : f.key ∉ evKeys) : EvBlind (fun s => s.get f) where
  set s g v hg := State.get_set_ne s g f v (fun he => hf (he ▸ hg))
  ev _ _ := rfl
  led _ _ := rfl

/-- Registers outside the six keep their values. -/
theorem raise_get (s : State) (f : Fld) (a b c d : Nat) (hf : f.key ∉ evKeys) :
    (raise s a b c d).get f = s.get f := raise_blind (EvBlind.get f hf) s a b c d

theorem raiseCrit_get (s : State) (f : Fld) (cr : Bool) (a b c d : Nat) (hf : f.key ∉ evKeys) :
    (raiseCrit s cr a b c d).get f = s.get f := raiseCrit_blind (EvBlind.get f hf) s cr a b c d

@[simp] theorem raise_pending (s : State) (a b c d : Nat) : (raise s a b c d).pending = s.pending :=
  raise_blind (p := fun s => s.pending) ⟨fun _ _ _ _ => rfl, fun _ _ => rfl, fun _ _ => rfl⟩ s a b c d
@[simp] theorem raise_now (s : State) (a b c d : Nat) : (raise s a b c d).now = s.now :=
  raise_blind (p := fun s => s.now) ⟨fun _ _ _ _ => rfl, fun _ _ => rfl, fun _ _ => rfl⟩ s a b c d
@[simp] theorem raise_fp (s : State) (a b c d : Nat) : (raise s a b c d).fp = s.fp :=
  raise_blind (p := fun s => s.fp) ⟨fun _ _ _ _ => rfl, fun _ _ => rfl, fun _ _ => rfl⟩ s a b c d
@[simp] theorem raise_fresh (s : State) (a b c d : Nat) : (raise s a b c d).fresh = s.fresh :=
  raise_blind (p := fun s => s.fresh) ⟨fun _ _ _ _ => rfl, fun _ _ => rfl, fun _ _ => rfl⟩ s a b c d
@[simp] theorem raise_reported (s : State) (a b c d : Nat) : (raise s a b c d).reported = s.reported :=
  raise_blind (p := fun s => s.reported) ⟨fun _ _ _ _ => rfl, fun _ _ => rfl, fun _ _ => rfl⟩ s a b c d
@[simp] theorem raise_warm (s : State) (a b c d : Nat) : (raise s a b c d).warm = s.warm :=
  raise_blind (p := fun s => s.warm) ⟨fun _ _ _ _ => rfl, fun _ _ => rfl, fun _ _ => rfl⟩ s a b c d
@[simp] theorem raise_pins (s : State) (a b c d : Nat) : (raise s a b c d).pins = s.pins :=
  raise_blind (p := fun s => s.pins) ⟨fun _ _ _ _ => rfl, fun _ _ => rfl, fun _ _ => rfl⟩ s a b c d
@[simp] theorem raise_tb (s : State) (a b c d : Nat) : (raise s a b c d).tb = s.tb :=
  raise_blind (p := fun s => s.tb) ⟨fun _ _ _ _ => rfl, fun _ _ => rfl, fun _ _ => rfl⟩ s a b c d
@[simp] theorem raise_loft (s : State) (a b c d : Nat) : (raise s a b c d).loft = s.loft :=
  raise_blind (p := fun s => s.loft) ⟨fun _ _ _ _ => rfl, fun _ _ => rfl, fun _ _ => rfl⟩ s a b c d
@[simp] theorem raise_twin (s : State) (a b c d : Nat) : (raise s a b c d).twin = s.twin :=
  raise_blind (p := fun s => s.twin) ⟨fun _ _ _ _ => rfl, fun _ _ => rfl, fun _ _ => rfl⟩ s a b c d
@[simp] theorem raise_sch (s : State) (a b c d : Nat) : (raise s a b c d).sch = s.sch :=
  raise_blind (p := fun s => s.sch) ⟨fun _ _ _ _ => rfl, fun _ _ => rfl, fun _ _ => rfl⟩ s a b c d
@[simp] theorem raise_bins (s : State) (a b c d : Nat) : (raise s a b c d).bins = s.bins :=
  raise_blind (p := fun s => s.bins) ⟨fun _ _ _ _ => rfl, fun _ _ => rfl, fun _ _ => rfl⟩ s a b c d
@[simp] theorem raise_trays (s : State) (a b c d : Nat) : (raise s a b c d).trays = s.trays :=
  raise_blind (p := fun s => s.trays) ⟨fun _ _ _ _ => rfl, fun _ _ => rfl, fun _ _ => rfl⟩ s a b c d
@[simp] theorem raise_trayValid (s : State) (a b c d : Nat) : (raise s a b c d).trayValid = s.trayValid :=
  raise_blind (p := fun s => s.trayValid) ⟨fun _ _ _ _ => rfl, fun _ _ => rfl, fun _ _ => rfl⟩ s a b c d
@[simp] theorem raise_mesh (s : State) (a b c d : Nat) : (raise s a b c d).mesh = s.mesh :=
  raise_blind (p := fun s => s.mesh) ⟨fun _ _ _ _ => rfl, fun _ _ => rfl, fun _ _ => rfl⟩ s a b c d
@[simp] theorem raise_clk (s : State) (a b c d : Nat) : (raise s a b c d).clk = s.clk :=
  raise_blind (p := fun s => s.clk) ⟨fun _ _ _ _ => rfl, fun _ _ => rfl, fun _ _ => rfl⟩ s a b c d
@[simp] theorem raise_lanes (s : State) (a b c d : Nat) : (raise s a b c d).lanes = s.lanes :=
  raise_blind (p := fun s => s.lanes) ⟨fun _ _ _ _ => rfl, fun _ _ => rfl, fun _ _ => rfl⟩ s a b c d
@[simp] theorem raise_modes (s : State) (a b c d : Nat) : (raise s a b c d).modes = s.modes :=
  raise_blind (p := fun s => s.modes) ⟨fun _ _ _ _ => rfl, fun _ _ => rfl, fun _ _ => rfl⟩ s a b c d
@[simp] theorem raise_shedThm (s : State) (a b c d : Nat) : (raise s a b c d).shedThm = s.shedThm :=
  raise_blind (p := fun s => s.shedThm) ⟨fun _ _ _ _ => rfl, fun _ _ => rfl, fun _ _ => rfl⟩ s a b c d
@[simp] theorem raise_shedCov (s : State) (a b c d : Nat) : (raise s a b c d).shedCov = s.shedCov :=
  raise_blind (p := fun s => s.shedCov) ⟨fun _ _ _ _ => rfl, fun _ _ => rfl, fun _ _ => rfl⟩ s a b c d
@[simp] theorem raise_adm (s : State) (a b c d : Nat) : (raise s a b c d).adm = s.adm :=
  raise_blind (p := fun s => s.adm) ⟨fun _ _ _ _ => rfl, fun _ _ => rfl, fun _ _ => rfl⟩ s a b c d
@[simp] theorem raise_thm (s : State) (a b c d : Nat) : (raise s a b c d).thm = s.thm :=
  raise_blind (p := fun s => s.thm) ⟨fun _ _ _ _ => rfl, fun _ _ => rfl, fun _ _ => rfl⟩ s a b c d
@[simp] theorem raise_fh (s : State) (a b c d : Nat) : (raise s a b c d).fh = s.fh :=
  raise_blind (p := fun s => s.fh) ⟨fun _ _ _ _ => rfl, fun _ _ => rfl, fun _ _ => rfl⟩ s a b c d
@[simp] theorem raise_cfg (s : State) (a b c d : Nat) : (raise s a b c d).cfg = s.cfg :=
  raise_blind (p := fun s => s.cfg) ⟨fun _ _ _ _ => rfl, fun _ _ => rfl, fun _ _ => rfl⟩ s a b c d
@[simp] theorem raise_sec (s : State) (a b c d : Nat) : (raise s a b c d).sec = s.sec :=
  raise_blind (p := fun s => s.sec) ⟨fun _ _ _ _ => rfl, fun _ _ => rfl, fun _ _ => rfl⟩ s a b c d
@[simp] theorem raise_spr (s : State) (a b c d : Nat) : (raise s a b c d).spr = s.spr :=
  raise_blind (p := fun s => s.spr) ⟨fun _ _ _ _ => rfl, fun _ _ => rfl, fun _ _ => rfl⟩ s a b c d
@[simp] theorem raise_ports (s : State) (a b c d : Nat) : (raise s a b c d).ports = s.ports :=
  raise_blind (p := fun s => s.ports) ⟨fun _ _ _ _ => rfl, fun _ _ => rfl, fun _ _ => rfl⟩ s a b c d
@[simp] theorem raiseCrit_pending (s : State) (x : Bool) (a b c d : Nat) : (raiseCrit s x a b c d).pending = s.pending :=
  raiseCrit_blind (p := fun s => s.pending) ⟨fun _ _ _ _ => rfl, fun _ _ => rfl, fun _ _ => rfl⟩ s x a b c d
@[simp] theorem raiseCrit_now (s : State) (x : Bool) (a b c d : Nat) : (raiseCrit s x a b c d).now = s.now :=
  raiseCrit_blind (p := fun s => s.now) ⟨fun _ _ _ _ => rfl, fun _ _ => rfl, fun _ _ => rfl⟩ s x a b c d
@[simp] theorem raiseCrit_fp (s : State) (x : Bool) (a b c d : Nat) : (raiseCrit s x a b c d).fp = s.fp :=
  raiseCrit_blind (p := fun s => s.fp) ⟨fun _ _ _ _ => rfl, fun _ _ => rfl, fun _ _ => rfl⟩ s x a b c d
@[simp] theorem raiseCrit_fresh (s : State) (x : Bool) (a b c d : Nat) : (raiseCrit s x a b c d).fresh = s.fresh :=
  raiseCrit_blind (p := fun s => s.fresh) ⟨fun _ _ _ _ => rfl, fun _ _ => rfl, fun _ _ => rfl⟩ s x a b c d
@[simp] theorem raiseCrit_reported (s : State) (x : Bool) (a b c d : Nat) : (raiseCrit s x a b c d).reported = s.reported :=
  raiseCrit_blind (p := fun s => s.reported) ⟨fun _ _ _ _ => rfl, fun _ _ => rfl, fun _ _ => rfl⟩ s x a b c d
@[simp] theorem raiseCrit_warm (s : State) (x : Bool) (a b c d : Nat) : (raiseCrit s x a b c d).warm = s.warm :=
  raiseCrit_blind (p := fun s => s.warm) ⟨fun _ _ _ _ => rfl, fun _ _ => rfl, fun _ _ => rfl⟩ s x a b c d
@[simp] theorem raiseCrit_pins (s : State) (x : Bool) (a b c d : Nat) : (raiseCrit s x a b c d).pins = s.pins :=
  raiseCrit_blind (p := fun s => s.pins) ⟨fun _ _ _ _ => rfl, fun _ _ => rfl, fun _ _ => rfl⟩ s x a b c d
@[simp] theorem raiseCrit_tb (s : State) (x : Bool) (a b c d : Nat) : (raiseCrit s x a b c d).tb = s.tb :=
  raiseCrit_blind (p := fun s => s.tb) ⟨fun _ _ _ _ => rfl, fun _ _ => rfl, fun _ _ => rfl⟩ s x a b c d
@[simp] theorem raiseCrit_loft (s : State) (x : Bool) (a b c d : Nat) : (raiseCrit s x a b c d).loft = s.loft :=
  raiseCrit_blind (p := fun s => s.loft) ⟨fun _ _ _ _ => rfl, fun _ _ => rfl, fun _ _ => rfl⟩ s x a b c d
@[simp] theorem raiseCrit_twin (s : State) (x : Bool) (a b c d : Nat) : (raiseCrit s x a b c d).twin = s.twin :=
  raiseCrit_blind (p := fun s => s.twin) ⟨fun _ _ _ _ => rfl, fun _ _ => rfl, fun _ _ => rfl⟩ s x a b c d
@[simp] theorem raiseCrit_sch (s : State) (x : Bool) (a b c d : Nat) : (raiseCrit s x a b c d).sch = s.sch :=
  raiseCrit_blind (p := fun s => s.sch) ⟨fun _ _ _ _ => rfl, fun _ _ => rfl, fun _ _ => rfl⟩ s x a b c d
@[simp] theorem raiseCrit_bins (s : State) (x : Bool) (a b c d : Nat) : (raiseCrit s x a b c d).bins = s.bins :=
  raiseCrit_blind (p := fun s => s.bins) ⟨fun _ _ _ _ => rfl, fun _ _ => rfl, fun _ _ => rfl⟩ s x a b c d
@[simp] theorem raiseCrit_trays (s : State) (x : Bool) (a b c d : Nat) : (raiseCrit s x a b c d).trays = s.trays :=
  raiseCrit_blind (p := fun s => s.trays) ⟨fun _ _ _ _ => rfl, fun _ _ => rfl, fun _ _ => rfl⟩ s x a b c d
@[simp] theorem raiseCrit_trayValid (s : State) (x : Bool) (a b c d : Nat) : (raiseCrit s x a b c d).trayValid = s.trayValid :=
  raiseCrit_blind (p := fun s => s.trayValid) ⟨fun _ _ _ _ => rfl, fun _ _ => rfl, fun _ _ => rfl⟩ s x a b c d
@[simp] theorem raiseCrit_mesh (s : State) (x : Bool) (a b c d : Nat) : (raiseCrit s x a b c d).mesh = s.mesh :=
  raiseCrit_blind (p := fun s => s.mesh) ⟨fun _ _ _ _ => rfl, fun _ _ => rfl, fun _ _ => rfl⟩ s x a b c d
@[simp] theorem raiseCrit_clk (s : State) (x : Bool) (a b c d : Nat) : (raiseCrit s x a b c d).clk = s.clk :=
  raiseCrit_blind (p := fun s => s.clk) ⟨fun _ _ _ _ => rfl, fun _ _ => rfl, fun _ _ => rfl⟩ s x a b c d
@[simp] theorem raiseCrit_lanes (s : State) (x : Bool) (a b c d : Nat) : (raiseCrit s x a b c d).lanes = s.lanes :=
  raiseCrit_blind (p := fun s => s.lanes) ⟨fun _ _ _ _ => rfl, fun _ _ => rfl, fun _ _ => rfl⟩ s x a b c d
@[simp] theorem raiseCrit_modes (s : State) (x : Bool) (a b c d : Nat) : (raiseCrit s x a b c d).modes = s.modes :=
  raiseCrit_blind (p := fun s => s.modes) ⟨fun _ _ _ _ => rfl, fun _ _ => rfl, fun _ _ => rfl⟩ s x a b c d
@[simp] theorem raiseCrit_shedThm (s : State) (x : Bool) (a b c d : Nat) : (raiseCrit s x a b c d).shedThm = s.shedThm :=
  raiseCrit_blind (p := fun s => s.shedThm) ⟨fun _ _ _ _ => rfl, fun _ _ => rfl, fun _ _ => rfl⟩ s x a b c d
@[simp] theorem raiseCrit_shedCov (s : State) (x : Bool) (a b c d : Nat) : (raiseCrit s x a b c d).shedCov = s.shedCov :=
  raiseCrit_blind (p := fun s => s.shedCov) ⟨fun _ _ _ _ => rfl, fun _ _ => rfl, fun _ _ => rfl⟩ s x a b c d
@[simp] theorem raiseCrit_adm (s : State) (x : Bool) (a b c d : Nat) : (raiseCrit s x a b c d).adm = s.adm :=
  raiseCrit_blind (p := fun s => s.adm) ⟨fun _ _ _ _ => rfl, fun _ _ => rfl, fun _ _ => rfl⟩ s x a b c d
@[simp] theorem raiseCrit_thm (s : State) (x : Bool) (a b c d : Nat) : (raiseCrit s x a b c d).thm = s.thm :=
  raiseCrit_blind (p := fun s => s.thm) ⟨fun _ _ _ _ => rfl, fun _ _ => rfl, fun _ _ => rfl⟩ s x a b c d
@[simp] theorem raiseCrit_fh (s : State) (x : Bool) (a b c d : Nat) : (raiseCrit s x a b c d).fh = s.fh :=
  raiseCrit_blind (p := fun s => s.fh) ⟨fun _ _ _ _ => rfl, fun _ _ => rfl, fun _ _ => rfl⟩ s x a b c d
@[simp] theorem raiseCrit_cfg (s : State) (x : Bool) (a b c d : Nat) : (raiseCrit s x a b c d).cfg = s.cfg :=
  raiseCrit_blind (p := fun s => s.cfg) ⟨fun _ _ _ _ => rfl, fun _ _ => rfl, fun _ _ => rfl⟩ s x a b c d
@[simp] theorem raiseCrit_sec (s : State) (x : Bool) (a b c d : Nat) : (raiseCrit s x a b c d).sec = s.sec :=
  raiseCrit_blind (p := fun s => s.sec) ⟨fun _ _ _ _ => rfl, fun _ _ => rfl, fun _ _ => rfl⟩ s x a b c d
@[simp] theorem raiseCrit_spr (s : State) (x : Bool) (a b c d : Nat) : (raiseCrit s x a b c d).spr = s.spr :=
  raiseCrit_blind (p := fun s => s.spr) ⟨fun _ _ _ _ => rfl, fun _ _ => rfl, fun _ _ => rfl⟩ s x a b c d
@[simp] theorem raiseCrit_ports (s : State) (x : Bool) (a b c d : Nat) : (raiseCrit s x a b c d).ports = s.ports :=
  raiseCrit_blind (p := fun s => s.ports) ⟨fun _ _ _ _ => rfl, fun _ _ => rfl, fun _ _ => rfl⟩ s x a b c d

end Sys2Proof.Machine
end

