-- ==== Sys2Proof/Laws/Memory.lean ====
section
/-! SUPPORT. Byte memories: reads after writes, and the canonical form that every operation keeps. -/

namespace Sys2Proof.Machine

theorem Memory.wfFrom_mono {lo lo' : Nat} (m : Memory) (h : Memory.wfFrom lo m) (hl : lo' ≤ lo) :
    Memory.wfFrom lo' m := by
  cases m with
  | nil => rfl
  | cons c t =>
    simp [Memory.wfFrom] at h ⊢
    exact ⟨⟨Nat.le_trans hl h.1.1, h.1.2⟩, h.2⟩

theorem Memory.read_lt (m : Memory) (lo a : Nat) (h : Memory.wfFrom lo m) (ha : a < lo) : m.read a = 0#8 := by
  induction m generalizing lo with
  | nil => rfl
  | cons c t ih =>
    simp [Memory.wfFrom] at h
    have hc : c.1 ≠ a := by omega
    simp [Memory.read, hc]
    exact ih (c.1 + 1) h.2 (by omega)

/-- The byte stored is read back. -/
theorem Memory.read_write_same (m : Memory) (a : Nat) (b : BitVec 8) (lo : Nat) (h : Memory.wfFrom lo m) :
    (m.write a b).read a = b := by
  induction m generalizing lo with
  | nil => by_cases hb : b = 0#8 <;> simp [Memory.write, hb, Memory.read]
  | cons c t ih =>
    simp [Memory.wfFrom] at h
    unfold Memory.write
    split
    · rename_i hlt
      have hc : c.1 ≠ a := by omega
      simp [Memory.read, hc, ih (c.1 + 1) h.2]
    · split
      · rename_i hnl he
        by_cases hb : b = 0#8
        · simp [hb, Memory.read_lt t (c.1 + 1) a h.2 (by omega)]
        · simp [hb, Memory.read]
      · rename_i hnl hne
        have hc : c.1 ≠ a := hne
        by_cases hb : b = 0#8
        · simp [hb, Memory.read, hc, Memory.read_lt t (c.1 + 1) a h.2 (by omega)]
        · simp [hb, Memory.read]

/-- Every other byte is as before. -/
theorem Memory.read_write_ne (m : Memory) (a x : Nat) (b : BitVec 8) (h : x ≠ a) :
    (m.write a b).read x = m.read x := by
  induction m with
  | nil => by_cases hb : b = 0#8 <;> simp [Memory.write, hb, Memory.read, Ne.symm h]
  | cons c t ih =>
    unfold Memory.write
    split
    · simp [Memory.read, ih]
    · split
      · rename_i hnl he
        have hc : c.1 ≠ x := fun e => h (by omega)
        by_cases hb : b = 0#8 <;> simp [hb, Memory.read, hc, Ne.symm h]
      · by_cases hb : b = 0#8 <;> simp [hb, Memory.read, Ne.symm h]

theorem Memory.wfFrom_write (m : Memory) (a : Nat) (b : BitVec 8) (lo : Nat) (h : Memory.wfFrom lo m)
    (hl : lo ≤ a) : Memory.wfFrom lo (m.write a b) := by
  induction m generalizing lo with
  | nil => by_cases hb : b = 0#8 <;> simp [Memory.write, hb, Memory.wfFrom, hl]
  | cons c t ih =>
    have h' := h
    simp [Memory.wfFrom] at h
    unfold Memory.write
    split
    · rename_i hlt
      simp [Memory.wfFrom, h.1, ih (c.1 + 1) h.2 (by omega)]
    · split
      · rename_i hnl he
        by_cases hb : b = 0#8
        · simp [hb]
          exact Memory.wfFrom_mono t h.2 (by omega)
        · simp [hb, Memory.wfFrom, hl]
          rw [← he]
          exact h.2
      · rename_i hnl hne
        by_cases hb : b = 0#8
        · simp [hb]
          exact h'
        · simp [hb, Memory.wfFrom, hl, h.1.2, h.2]
          omega

/-- A byte store keeps the canonical form. -/
theorem Memory.wf_write (m : Memory) (a : Nat) (b : BitVec 8) (h : m.wf) : (m.write a b).wf :=
  Memory.wfFrom_write m a b 0 h (Nat.zero_le a)

/-- A store of several bytes keeps it. -/
theorem Memory.wf_writeN (m : Memory) (a v n : Nat) (h : m.wf) : (m.writeN a v n).wf := by
  induction n generalizing m a v with
  | zero => exact h
  | succ k ih => exact ih _ _ _ (Memory.wf_write m a _ h)

theorem Memory.wfFrom_filter (p : Host.Cell → Bool) (m : Memory) (lo : Nat) (h : Memory.wfFrom lo m) :
    Memory.wfFrom lo (m.filter p) := by
  induction m generalizing lo with
  | nil => rfl
  | cons c t ih =>
    simp [Memory.wfFrom] at h
    have ht := ih (c.1 + 1) h.2
    by_cases hp : p c
    · simp [hp, Memory.wfFrom, h.1, ht]
    · simp [hp]
      exact Memory.wfFrom_mono _ ht (by omega)

/-- An erase keeps it. -/
theorem Memory.wf_erase (m : Memory) (p : Nat → Bool) (h : m.wf) : (m.erase p).wf :=
  Memory.wfFrom_filter _ m 0 h

/-- A store of `n` bytes leaves every byte outside them. -/
theorem Memory.read_writeN_ne (m : Memory) (a v n x : Nat) (h : x < a ∨ a + n ≤ x) :
    (m.writeN a v n).read x = m.read x := by
  induction n generalizing m a v with
  | zero => rfl
  | succ k ih =>
    rw [Memory.writeN, ih _ _ _ (by omega), Memory.read_write_ne _ _ _ _ (by omega)]

end Sys2Proof.Machine
end

