-- ==== Sys2Proof/Laws/Requesters.lean ====
section
/-! SUPPORT. What an access by a requester can do (R407, R482, R486, R487): it acts, it is counted as denied, or it
leaves the state as it is. -/

namespace Sys2Proof.Machine

variable {s : State} {who : Requester} {a need : Nat} {f : State → State}

/-- A requester that may ask does what it asks. -/
theorem asked_may (h : mayAsk s who a need = true) : asked s who a need f = f s := by simp [asked, h]

/-- A keeper or a management port that is held asks nothing. -/
theorem asked_held (h : mayAsk s who a need = false) (hw : who ≠ .regPort) : asked s who a need f = s := by
  simp [asked, h, hw]

/-- A request of the register port beyond its right in a block is counted and has no other effect. -/
theorem asked_denied {r : Nat} (hu : regPortUp s = true) (hr : portRight s a = some r) (hn : r < need) :
    asked s .regPort a need f = s.bump F.EV_RP_CNT_denied 1 := by
  have : ¬ need ≤ r := by omega
  simp [asked, mayAsk, hu, hr, this]

/-- Everything an access can do. -/
theorem asked_cases : asked s who a need f = f s ∨ asked s who a need f = s
    ∨ (who = .regPort ∧ asked s who a need f = s.bump F.EV_RP_CNT_denied 1) := by
  unfold asked
  split
  · exact .inl rfl
  · split
    · rename_i h
      simp only [Bool.and_eq_true, decide_eq_true_eq] at h
      exact .inr (.inr ⟨h.1.1, rfl⟩)
    · exact .inr (.inl rfl)

end Sys2Proof.Machine
end

