-- ==== Sys2Proof/Tests/Slice0.lean ====
section
/-! SUPPORT. Small tests, and for every statement with hypotheses a state and operands that meet them. The figures
of the tests are the specification's worked examples. -/

open Sys2Proof Sys2Proof.Machine

set_option maxRecDepth 100000

/-- The reset state with fields set. -/
def w (l : List (Fld × Nat)) : State := State.reset.setAll l

/-- The reset state with fields stored as they are, for fields whose reset value has no body. -/
def wRaw (l : List (Fld × Nat)) : State := { State.reset with flds := l.map (fun p => (p.1.key, p.2)) }

/-! WellFormed: an ill-formed term for each check. -/

/-- None of the commands is well-formed. -/
def allIll (l : List Instr) : Bool := l.all (fun c => !c.wf)

theorem test_wf_clocks : allIll [.porRelease (some 9) false true, .railLost 1, .railLost 9, .porstNShortPulse 336,
    .monitorGateComplete 43 false 0, .monitorGateComplete 0 false (2 ^ 32), .clockStopDetect 42, .tickPllFault 33 1,
    .tickPllFault 37 1, .tickPllFault 34 0, .tickPllFault 34 4, .rcCfgWrite 32 0 0 0 0, .rcCfgWrite 0 3 0 0 0,
    .rcCfgWrite 0 0 32 0 0, .rcCfgWrite 0 0 0 8 0, .rcCfgWrite 0 0 0 0 32, .muxSwitchComplete 120,
    .switchWatchdogExpiry 120, .switchRecoveryRelease 120, .gateEnWrite 321 true true true, .gateBusIdle 321,
    .gateCloseTimeout 321 0, .gateCloseTimeout 0 1024,
    .selfTestComplete ⟨[(132, 0, 0, 0)], [], [], [], none, none, []⟩,
    .selfTestComplete ⟨[], [(8, 0, 0, false)], [], [], none, none, []⟩,
    .selfTestComplete ⟨[], [], [1024], [], none, none, []⟩, .selfTestComplete ⟨[], [], [], [32], none, none, []⟩,
    .selfTestComplete ⟨[], [], [], [], none, none, [(264, 0)]⟩] = true := by decide

theorem test_wf_time : allIll [.ptpMessageRx 128 0 0 false 0 ⟨false, 0, 0⟩, .ptpMessageRx 0 6 0 false 0 ⟨false, 0, 0⟩,
    .ptpMessageRx 0 0 0 false 0 ⟨false, 0, 16⟩, .ptpMessageSend 128 ⟨0, 0, 0⟩, .ptpMessageSend 0 ⟨6, 0, 0⟩, .ptpMessageSend 0 ⟨0, 0, 16⟩, .ppsEdge 2 0, .ppsEdgeMissing 2, .todMessageRx 2 true, .esmcRx 16,
    .waitToRestoreExpiry 0, .waitToRestoreExpiry 6, .btempRead (some 65536), .modelExport 2, .modelImport 2,
    .modelDiscard 2, .triggerFire 4096, .triggerPulseEnd 4096, .sysrefArm 16, .sysrefGappedStart 4] = true := by decide

theorem test_wf_bins : allIll [.hatchContention 132 0, .hatchContention 0 192, .contextSelect 264, .itemDone 264 4 0,
    .itemDone 0 3 0, .itemEndingComplete 264 0, .budgetKill 264, .trayRead 264 0 0, .trayRead 0 2 0,
    .trayRead 0 0 1024, .trayWrite 264 0 0 0 0, .trayWrite 0 2 0 0 0, .trayWrite 0 0 1024 0 0,
    .trayWrite 0 0 0 256 0, .trayWrite 0 0 0 0 (2 ^ 512), .spawn 264 0, .spawn 0 (2 ^ 256), .userEvent 264 0 0 0,
    .userEvent 0 128 0 0, .userEvent 0 0 8 0, .userEvent 0 0 0 (2 ^ 32), .contextSelectStatic 264 0 false,
    .contextSelectStatic 0 8 false, .hatchRead 264 0 0 0, .hatchRead 0 (2 ^ 24) 0 0, .hatchRead 0 0 16 0,
    .hatchRead 0 0 0 64, .hatchWrite 0 0 1 0 [0], .hatchWrite 0 0 0 0 [2 ^ 256], .hatchReadBeat 264,
    .hatchWriteAccept 264, .spawnHandOn 264, .decisionStart 32, .decisionBind 264 0, .decisionBind 0 2, .fillBeat 264 0,
    .fillBeat 0 2, .drainBeat 264 0, .drainBeat 0 2, .drainAckComplete 264 0, .drainAckComplete 0 2,
    .pauseTimerExpiry 264] = true := by decide

theorem test_wf_thermal : allIll [.capWrite 2048, .threshWrite (-129) 0 0, .threshWrite 128 0 0, .threshWrite 0 (-129) 0,
    .threshWrite 0 128 0, .threshWrite 0 0 (-129), .threshWrite 0 0 128, .thermalSample ⟨[], List.replicate 64 0, []⟩,
    .thermalSample ⟨List.replicate 160 none, [], []⟩, .shutdownComparatorTrip 160 0, .shutdownComparatorTrip 0 (-32769),
    .shutdownComparatorTrip 0 32768, .coverShedStep 32, .coverRestoreStep 32] = true := by decide

/-- A block of free mode. -/
def wBlk : RxBlock := ⟨0, 1, 0, false, false, 0, 0, 1, 0, false, false⟩

theorem test_wf_lanes : allIll [.signalDetect 128, .eqTrialComplete 128 [], .eqTrialComplete 0 [1, 1, 1, 1, 1],
    .cdrLock 128, .polarityDetect 128 true, .blockLock 128, .laneOrderDetect 128 [],
    .laneOrderDetect 0 [0, 0, 0, 0, 0, 0, 0, 0, 0], .deskew 128 0, .deskew 0 512, .bringupStepTimeout 128,
    .bringupRetry 128, .laneLinkLoss 128 1, .laneLinkLoss 0 0, .laneLinkLoss 0 7, .groupPllLock 16 true,
    .groupPllUnlock 16, .laneEnableWrite 128 true, .laneRestart 128, .loopSelect 128 0 false, .loopSelect 0 4 false,
    .prbsGenSelect 128 0, .prbsGenSelect 0 4, .prbsChkSelect 128 0, .prbsChkSelect 0 4, .laneBlockRx 128 wBlk,
    .laneBlockRx 0 { wBlk with header := 4 }, .laneBlockRx 0 { wBlk with taken := 17 },
    .laneBlockRx 0 { wBlk with residence := 512 }, .laneTxTake 128 0 ⟨false, 0⟩, .laneTxTake 0 (2 ^ 96) ⟨false, 0⟩,
    .laneTxTake 0 0 ⟨false, 512⟩, .fomWindow 128 0, .pauseFrameRx 128 0, .pauseTimeExpiry 128, .partnerFaultClear 16] = true := by decide

theorem test_wf_fronthaul : allIll [.ethFrameRx 128 ⟨true, 64, 0, 0, 0, 0, 0, .other⟩, .ethFrameRx 0 ⟨true, 64, 8, 0, 0, 0, 0, .other⟩,
    .ethFrameRx 0 ⟨true, 64, 0, 0, 2 ^ 30 * 10066329600, 0, 0, .other⟩, .ethFrameRx 0 ⟨true, 64, 0, 0, 0, 512, 0, .other⟩,
    .ethFrameRx 0 ⟨true, 64, 0, 0, 0, 0, 16, .other⟩, .heldMessageRelease 16384 0, .symbolWindowOpen 16384 0,
    .sectionWriteAck 16384 0, .symbolWindowClose 16384 0, .statusLineAck 16384, .fronthaulRelease 4,
    .quarantineEnd 16384, .egressCheck 16384 0, .egressArmExpiry 16384 0, .jesdEgressSpan 16384 0 0,
    .jesdEgressSpan 0 0 (2 ^ 20)] = true := by decide

/-- A whole-word read by the keeper. -/
def wRq : LoftReq := ⟨336, 0, false, 0, 255, false, false⟩

theorem test_wf_loft : allIll [.loftRequestEnqueue { wRq with owner := 1024 }, .loftRequestEnqueue { wRq with addr := 2 ^ 30 },
    .loftRequestEnqueue { wRq with owner := 3, addr := 2 ^ 29 },
    .loftRequestEnqueue { wRq with addr := 4 }, .loftRequestEnqueue { wRq with data := 2 ^ 64 },
    .loftRequestEnqueue { wRq with mask := 256 }, .loftRequestEnqueue { wRq with owner := 3, mask := 1 },
    .loftBankServe 1024 ⟨0, 0, 0⟩, .correctionWriteBack 1024, .poisonWrite 1024, .idleScrub 1024 ⟨0, 0, 0⟩,
    .bgScrub 1 ⟨0, 0, 0⟩, .bgScrub 4 ⟨0, 0, 0⟩, .groupHandover 32 0 false, .groupHandover 0 1024 false,
    .bankHandover 1024 0 false, .bankHandover 0 1024 false, .handoverQuiesce true 32, .handoverQuiesce false 1024,
    .handoverClearDone true 32, .handoverClearDone false 1024, .groupWakeComplete 32 [] false,
    .groupWakeComplete 0 [32] false, .dmaGo 64 .keeper false false false, .dmaAbort 64 .keeper,
    .dmaCommandComplete 64] = true := by decide

/-- An image frame with one setting. -/
def wSet (e : FabElem) : Frame := ⟨[1, 4, 0], [], [], [], [e]⟩

/-- A heartbeat frame. -/
def wFr : TwinFrame := ⟨120, 1, 0, 0, 0, 0, 0, .heartbeat ⟨true, 1, true, false, 2, 0, 0, 0⟩⟩

theorem test_wf_config_twin : allIll [.prCommitWriteStart [(2 ^ 21, ⟨0, 0, 0⟩)], .prCommitEnd [(2 ^ 21, ⟨0, 0, 0⟩)],
    .cfgScrubWord 2 ⟨0, 0, 0⟩ none false, .cfgScrubWord 0 ⟨0, 0, 0⟩ (some 192) false, .cfgScrubLapEnd 2 0,
    .cfgScrubLapEnd 0 (2 ^ 32), .cfgScrubStall 2, .warmResetEnd [(262144, ⟨0, 0, 0⟩)] 0, .twinHeartbeatRx { wFr with lane := 119 },
    .twinHeartbeatRx { wFr with lane := 128 }, .twinHeartbeatRx { wFr with typ := 256 },
    .twinHeartbeatRx { wFr with count := 2 ^ 16 }, .twinHeartbeatRx { wFr with seq := 2 ^ 32 },
    .twinHeartbeatRx { wFr with ack := 2 ^ 32 }, .twinHeartbeatRx { wFr with epoch := 2 ^ 16 },
    .twinHeartbeatRx { wFr with session := 2 ^ 16 }, .twinHeartbeatRx { wFr with body := .ack [] }, .twinMirrorRx wFr,
    .twinAckRx wFr, .twinLineReqRx wFr, .twinControlRx wFr, .twinFaultRx wFr, .twinResendTimeout 4 0,
    .twinResendTimeout 0 (2 ^ 32), .groupConvertComplete 32, .headerRead ⟨List.replicate 1025 0⟩,
    .firmwareRead ⟨List.replicate 129 0, []⟩, .flashFrameRead ⟨List.replicate 9 0, [], [], [], []⟩,
    .flashFrameRead ⟨[], List.replicate 1009 0, [], [], []⟩, .flashFrameRead ⟨[], [], List.replicate 9 0, [], []⟩,
    .flashFrameRead (wSet (.sink 93 0)), .flashFrameRead (wSet (.sink 0 128)),
    .flashFrameRead (wSet (.lut 32 0 false 0 0 [])), .flashFrameRead (wSet (.carry 0 8 0 false false)),
    .flashFrameRead (wSet (.out 0 0 0 (.o6 0))),
    .flashFrameRead (wSet (.mac 0 0 .mul false false 0 false [] [] (.const false) (.const true) [32768]))] = true := by decide

theorem test_wf_rest : allIll [.shelfReset 2, .shelfResetRelease 2, .binReset 256, .binResetRelease 264, .lgrpReset 16,
    .lgrpResetRelease 16, .cellarHeartbeatLoss 0, .cellarHeartbeatLoss 4,
    .setStreamKey .keeper (verifyTk + 1) 0 true, .setStreamKey .keeper 0 (2 ^ 384) true, .provision .keeper (verifyTk + 1) true,
    .debugUnlock .keeper (verifyTk + 1), .jtagInstruction 6, .canaryMeasure 264 0, .canaryMeasure 0 1024,
    .hatchCanaryMeasure 132 0 0 0 0, .hatchCanaryMeasure 0 3 0 0 0, .hatchCanaryMeasure 0 0 1024 0 0,
    .hatchCanaryMeasure 0 0 0 32 0, .hatchCanaryMeasure 0 0 0 0 32, .bankCeHour 1024, .fomHour 128 0, .fomHour 0 256, .recalComplete 4,
    .bankPermitWrite (2 ^ 32)] = true := by decide

theorem test_wf_ports : allIll [.evAckWrite 4096, .evKpAckWrite 4096, .mgmtRead (2 ^ 32) 1, .mgmtRead 0 0,
    .mgmtRead 0 (2 ^ 30 + 1), .mgmtWrite (2 ^ 32) 0 ⟨0, 0, true⟩, .mgmtWrite 0 (2 ^ 32) ⟨0, 0, true⟩,
    .mgmtWrite 0 0 ⟨0, 2 ^ 384, true⟩, .mgmtUnknownOpcode 256, .mgmtUnknownOpcode 2, .mgmtUnknownOpcode 3,
    .mgmtFrameAbort 256 0 0 0 ⟨0, 0, true⟩, .mgmtFrameAbort 0 (2 ^ 32) 0 0 ⟨0, 0, true⟩,
    .mgmtFrameAbort 0 0 (2 ^ 32) 0 ⟨0, 0, true⟩, .mgmtFrameAbort 0 0 0 0 ⟨0, 2 ^ 384, true⟩,
    .regportRead (2 ^ 32) 0 0, .regportRead 0 64 0, .regportRead 0 0 9, .regportWrite (2 ^ 32) 0 0 0 ⟨0, 0, true⟩,
    .regportWrite 0 (2 ^ 32) 0 0 ⟨0, 0, true⟩, .regportWrite 0 0 64 0 ⟨0, 0, true⟩,
    .regportWrite 0 0 0 9 ⟨0, 0, true⟩, .regportWrite 0 0 0 0 ⟨0, 2 ^ 384, true⟩,
    .registerWrite .keeper (2 ^ 32) 0 ⟨0, 0, true⟩, .registerWrite .keeper 0 (2 ^ 32) ⟨0, 0, true⟩,
    .registerWrite .keeper 0 0 ⟨0, 2 ^ 384, true⟩, .readClear .keeper (2 ^ 32)] = true := by decide

/-- An ill-formed command is refused (source: the block has 264 bins, R8). -/
theorem test_ill_refused : exec (.budgetKill 264) State.reset = .refused .illFormed := rfl

/-! Worked examples of the specification. -/

/-- The complex MAC block's example in the Fabric chapter: (3,000, −4,000) · (−2,000, 5,000), s = 15. -/
theorem test_mac_example :
    macOut (macStep .mul false false (macProd false ⟨3000, -4000⟩ ⟨-2000, 5000⟩) ⟨⟨0, 0⟩, false⟩) 15 = (⟨427, 702⟩, false) := by
  decide

/-- The same with conj set. -/
theorem test_mac_example_conj :
    macOut (macStep .mul false false (macProd true ⟨3000, -4000⟩ ⟨-2000, 5000⟩) ⟨⟨0, 0⟩, false⟩) 15
      = (⟨-793, -214⟩, false) := by decide

/-- The first class of the admission chapter's example: fill allowance, power, density, and the two limits. -/
theorem test_admission_figures :
    let s := w [(F.SCH_CLASS_CFG_defined 0, 1), (F.SCH_CLASS_CFG_n_m1 0, 15), (F.SCH_CLASS_CFG_max_succ 0, 1),
      (F.SCH_CLASS_BUDGET_c_tk 0, 12000), (F.SCH_CLASS_DEADLINE_d_tk 0, 24000), (F.SCH_CLASS_PERIOD_t_tk 0, 30000),
      (F.SCH_CLASS_INPUT_in_units 0, 512), (F.SCH_CLASS_ENERGY_e_nj 0, 9000)]
    fillOf s 0 = 2173 ∧ powerOf s 0 = 4718592 ∧ densityU s 0 = 2 ^ 31 ∧ densityOf s 0 = 8 * 2 ^ 32
      ∧ densityLimit 47 (2 ^ 31) = 24 * 2 ^ 32 ∧ powerLimit 850 = 80750000 ∧ powerLimit 1600 = 152000000 := by decide

/-! Witnesses: what the statements' hypotheses ask for can hold. -/

/-- A device in ACTIVE with PTP on lane 0 as slave and master port, listed with PPS0 and PPS1. -/
def wTb : State := w [(F.RST_MODE_mode, 1), (F.TB_PTP_CFG_enable, 1), (F.TB_PTP_MASTER_lanes 0, 1), (F.LN_CFG_proto 0, 1),
  (F.TB_REF_PRIO_prio0, 2), (F.TB_REF_PRIO_prio1, 3), (F.TB_REF_PRIO_prio2, 4), (F.TB_REF_PRIO_prio3, 1),
  (F.TB_STATUS_phase_ref, 1), (F.TB_SYNCE_CFG_enable, 1), (F.LN_STATUS_state 0, 9), (F.TB_STATUS_state, 2)]

/-- `wTb` with a master and a finished exchange, its reference not in use. -/
def wExch (offs : List Int) : State :=
  { wTb.set F.TB_STATUS_phase_ref 0 with tb := { TimeBase.reset with
      master := true, exch := ⟨some 0, some 0, some 0⟩, ptp := { TimeRef.reset with offs := offs } } }

theorem wit_TimeReferenceMeasurements_ptp :
    ptpOn (wExch []) = true ∧ ptpLane (wExch []) 0 = true ∧ 0 = (wExch []).get F.TB_PTP_CFG_slave_lane ∧
      (wExch []).tb.master = true ∧ (wExch []).tb.exch.t2.isSome = true ∧ (wExch []).tb.exch = ⟨some 0, some 0, some 0⟩ ∧
      (wExch []).tb.ptp.offs.length < 7 ∧ beyondLimit (wExch []) (ptpOffset 0 5 0 0) = false ∧
      (wExch []).get F.TB_STATUS_phase_ref ≠ 1 := by decide
theorem wit_TimeReferenceMeasurements_eighth :
    let s := wExch [1, 2, 3, 4, 5, 6, 7]
    offsAgree s ((ptpOffset 0 5 0 0 :: s.tb.ptp.offs).take 8) = true ∧ (prioList s).contains 1 = true ∧
      s.get F.TB_STATUS_phase_ref ≠ 1 := by decide
theorem wit_TimeReferenceMeasurements_send :
    ptpOn wTb = true ∧ ptpLane wTb 0 = true ∧ ptpMasterLane wTb 0 = true ∧ wTb.mode = Mode.active := by decide
theorem wit_TimeReferenceMeasurements_pps :
    beyondLimit wTb 5 = false ∧ wTb.get F.TB_STATUS_phase_ref ≠ 3 := by decide
theorem wit_TimeReferenceMeasurements_tod :
    let s := { wTb with tb := { TimeBase.reset with pps1 := { TimeRef.reset with run := 2, edgeSeen := true } } }
    (s.tb.ref 3).edgeSeen = true ∧ (s.tb.ref 3).run = 2 ∧ (prioList s).contains 3 = true := by decide
theorem wit_TimeReferenceMeasurements_lost :
    let s := { wTb.set F.TB_REF_QUAL_qual 4 with tb := { TimeBase.reset with ql := 2 } }
    s.qual 2 = true ∧ s.get F.TB_STATUS_phase_ref ≠ 3 ∧ s.tb.ql ≠ 15 ∧ s.get F.TB_STATUS_state ≠ Tb.holdover ∧
      s.warm = false ∧ s.ev.inq.length + 1 ≤ 512 := by decide
theorem wit_TimeReferenceMeasurements_ql : qlOk wTb 14 = true := by decide
theorem wit_TimeReferenceMeasurements_synce :
    wTb.flag F.TB_SYNCE_CFG_enable = true ∧ (prioList wTb).contains 4 = true ∧ qlOk wTb wTb.tb.ql = true ∧
      5 ≤ wTb.get (F.LN_STATUS_state (wTb.get F.TB_SYNCE_CFG_lane)) ∧ wTb.qual 3 = false ∧
      wTb.get F.TB_STATUS_phase_ref ≠ 0 := by decide

/-- A time base with a valid FP and a finished PTP exchange. -/
def wRej (l : List (Fld × Nat)) (x : TimeRef) : State :=
  { w ([(F.TB_STATUS_fp_valid, 1), (F.TB_PTP_CFG_enable, 1), (F.LN_CFG_proto 0, 1)] ++ l) with
    tb := { TimeBase.reset with master := true, exch := ⟨some 0, some 0, some 0⟩, ptp := x } }

theorem wit_StepRejection :
    let s := wRej [] TimeRef.reset
    s.flag F.TB_STATUS_fp_valid = true ∧ s.get F.TB_STEP_LIMIT_limit_ns * 49152 < (-15730 : Int).natAbs * 3125 ∧
      (s.tb.ref 3).rejSince = none ∧ ptpOn s = true ∧ ptpLane s 0 = true ∧ 0 = s.get F.TB_PTP_CFG_slave_lane ∧
      s.tb.master = true ∧ s.tb.exch = ⟨some 0, some 0, some 0⟩ ∧ s.tb.ptp.rejSince = none ∧
      -15730 = ptpOffset 0 (-131083333) 0 0 := by decide
theorem wit_StepRejection_lost :
    let s := { wRej [(F.TB_REF_QUAL_qual, 1), (F.TB_STATUS_state, 2), (F.TB_STATUS_phase_ref, 1), (F.TB_REF_PRIO_prio0, 1)]
      { TimeRef.reset with rejSince := some 7 } with now := 983040007 }
    s.warm = false ∧ s.ev.inq.length + 4 ≤ 512 ∧ s.qual (1 - 1) = true ∧ (s.tb.ref 1).rejSince = some 7 ∧ ptpOn s = true ∧
      ptpLane s 0 = true ∧ s.get F.TB_PTP_CFG_slave_lane < 128 ∧ s.tb.master = true ∧ 7 + 983040000 ≤ s.now ∧
      s.get F.TB_STATUS_state = 2 ∧ s.get F.TB_STATUS_phase_ref = 1 ∧
      (∀ q ∈ prioList s, 1 ≤ q → q ≤ 3 → q ≠ 1 → s.qual (q - 1) = false) := by decide

theorem wit_TimeBaseTransitions_lock :
    let s := { w [(F.TB_STATUS_fp_valid, 1), (F.TB_STATUS_state, 1), (F.TB_STATUS_phase_ref, 1)] with
      tb := { TimeBase.reset with tLast := some 400, lockSince := some 5 } }
    s.flag F.TB_STATUS_fp_valid = true ∧ s.fh.poisoned = [] ∧ s.tb.tLast.isSome = true ∧ s.get F.TB_STATUS_state = 1 ∧
      phaseBeyond s 1 = false ∧ s.get F.TB_STATUS_phase_ref ≠ 0 ∧
      (s.model (s.get F.TB_STATUS_tref_active)).unchecked = false := by decide
theorem wit_TimeBaseTransitions_loss :
    let s := { w [(F.TB_STATUS_fp_valid, 1), (F.TB_STATUS_state, 2), (F.TB_PHASE_ERR_phase_err, 2 ^ 30)] with
      tb := { TimeBase.reset with tLast := some 400, offSince := some 5 } }
    s.get F.TB_STATUS_state = 2 ∧ phaseBeyond s 4 = true := by decide
theorem wit_TimeBaseTransitions_holdover :
    let s := w [(F.TB_STATUS_fp_valid, 1), (F.TB_STATUS_state, 2), (F.TB_STATUS_phase_ref, 1),
      (F.TB_REF_PRIO_prio0, 1), (F.TB_REF_QUAL_qual, 17), (F.CLK_TB_STATUS_input, 0)]
    s.get F.TB_STATUS_state = 2 ∧ s.qual 0 = true ∧ s.get F.TB_STATUS_phase_ref = 1 ∧
      (∀ r ∈ prioList s, r = 2 ∨ r = 3 → s.qual (r - 1) = false) ∧ holdoverPossible s = true ∧
      s.warm = false ∧ s.ev.inq.length + 2 ≤ 512 := by decide
theorem wit_TimeBaseTransitions_limit :
    let s := { w [(F.TB_STATUS_fp_valid, 1), (F.TB_STATUS_state, 3)] with tb := { TimeBase.reset with te0 := 2000 } }
    s.get F.TB_STATUS_state = 3 ∧ s.flag F.TW_CFG_fault_on_free = false ∧
      s.get F.TB_HOLD_CFG_te_limit_ns
        < satNat 32 (teEst (s.bump F.TB_HOLD_TIME_seconds 1) (s.get F.TB_HOLD_TIME_seconds + 1)) ∧
      s.get F.TB_HOLD_TIME_seconds + 1 < 2 ^ 32 := by decide

theorem wit_HoldoverSeconds :
    let s := { w [(F.TB_STATUS_phase_ref, 1), (F.TB_REF_PRIO_prio0, 2), (F.TB_REF_QUAL_qual, 2),
      (F.TB_STATUS_step_pending, 1)] with tb := { TimeBase.reset with stepAccepted := true } }
    s.get F.TB_STATUS_phase_ref ≠ 0 ∧ 2 ∈ (timeRefs s).takeWhile (· ≠ s.get F.TB_STATUS_phase_ref) ∧ s.tb.stepAccepted = true ∧ s.flag F.TB_STATUS_step_pending = true ∧
      nsToTk (toInt 32 (s.get F.TB_STEP_PENDING_offset_ns)) ≤ 0 := by decide
theorem wit_HoldoverSeconds_te :
    let s := w [(F.TB_STATUS_state, 3)]
    s.get F.TB_STATUS_state = 3 ∧ satNat 32 (teEst (s.bump F.TB_HOLD_TIME_seconds 1)
      ((s.bump F.TB_HOLD_TIME_seconds 1).get F.TB_HOLD_TIME_seconds)) ≤ s.get F.TB_HOLD_CFG_te_limit_ns := by decide

theorem wit_OscillatorModel :
    let s := { w [(F.TB_STATUS_state, 2), (F.TB_BTEMP_valid, 1), (F.TB_BTEMP_CFG_enable, 1), (F.CLK_TB_STATUS_input, 0)] with
      tb := { TimeBase.reset with models := [(0, { OscModel.empty with valid := true, bins := [(89, 1, 0)] })], btGood := 3 } }
    s.fh.poisoned = [] ∧ s.get F.TB_STATUS_state = 2 ∧ s.flag F.TB_BTEMP_valid = true ∧
      s.get F.CLK_TB_STATUS_input ≤ 1 ∧ (s.model (s.get F.TB_STATUS_tref_active)).bins ≠ [] ∧
      (s.model (s.get F.TB_STATUS_tref_active)).valid = true ∧ s.flag F.TB_BTEMP_CFG_enable = true ∧
      btempIn (s.get F.TB_BTEMP_CFG_format) 0x1900 = true ∧ s.tb.btGood = 3 ∧
      s.get F.TB_STATUS_state ≠ 3 ∧ s.flag F.LED_STATUS_full = false := by decide
theorem wit_OscillatorModel_import :
    let s := w [(F.TB_STATUS_state, 1), (F.TB_MODEL_WIN_word 0, 1), (F.TB_MODEL_WIN_word 15, crc32c (1 :: List.replicate 14 0))]
    (modelWin s).getD 15 0 = crc32c ((modelWin s).take 15) ∧ bits ((modelWin s).getD 0 0) 0 8 = 1 ∧
      s.get F.TB_STATUS_state = 1 := by decide

theorem wit_Triggers_commit :
    let s := w []
    s.flag F.TB_TRG_STATUS_busy = false ∧
      trgRefusal s (s.get F.TB_TRG_INDEX_index) ((List.range 8).map (fun k => s.get (F.TB_TRG_DATA_data k))) = 0 := by
  decide
theorem wit_Triggers_effect :
    let s := { w [] with tb := { TimeBase.reset with trgPend := some ⟨3, [0, 0, 0, 0, 0, 0, 0, 0], false, 8⟩ } }
    s.tb.trgPend = some ⟨3, [0, 0, 0, 0, 0, 0, 0, 0], false, 8⟩ ∧ s.flag F.TB_STATUS_fp_valid = false ∧
      (s.trg 3).next = none ∧ s.fh.poisoned = [] := by decide
theorem wit_Triggers_fire :
    let e : TrgEntry := ⟨[64, 0, 64, 0x900, 0, 7, 0, 0], some 64⟩
    let s := { w [(F.TB_STATUS_fp_valid, 1), (F.RST_MODE_mode, 1)] with tb := { TimeBase.reset with trgs := [(3, e)] } }
    s.trg 3 = e ∧ e.enable = true ∧ e.actEvent = true ∧ e.actPin = false ∧ e.actRelease = false ∧
      e.actCommit = false ∧ e.wake = false ∧ s.flag F.TB_STATUS_fp_valid = true ∧ s.mode ≠ Mode.load ∧
      s.mode ≠ Mode.safe ∧ s.fh.poisoned = [] ∧ dueAt s 64 = [3] ∧ s.tb.fired.contains 3 = false := by decide
theorem wit_Triggers_pulse :
    let s := { w [] with tb := { TimeBase.reset with pulses := [(3, ⟨64, 5, true⟩)] } }
    firstPulse s.tb.pulses 3 = some ⟨64, 5, true⟩ := by decide
theorem wit_Triggers_armed :
    let s := { w [(F.TB_STATUS_fp_valid, 1)] with
      tb := { TimeBase.reset with trgPend := some ⟨3, [0, 0, 0, 0, 0, 0, 0, 0], false, 8⟩ } }
    s.flag F.TB_STATUS_fp_valid = true ∧ (s.trg 3).next = none ∧ (s.trg 3).enable = false ∧ s.fh.poisoned = [] := by decide

theorem wit_TimeOutputs :
    let s := { w [(F.TB_STATUS_fp_valid, 1), (F.TB_PPS_CFG_pps_en, 1), (F.TB_PPS_CFG_tod_out_en, 1),
      (F.TB_STATUS_state, 2), (F.RST_MODE_mode, 1)] with
      tb := { TimeBase.reset with ppsEdge := some (5, 5), todDue := true, sysrefArmed := [2] }
      pins := { Pins.reset with outputsSafe := false } }
    timeQuiet s = false ∧ s.flag F.TB_PPS_CFG_pps_en = true ∧ s.get F.TB_STATUS_state ≠ 0 ∧
      s.tb.ppsEdge = some (5, 5) ∧ s.tb.todDue = true ∧
      s.flag F.TB_PPS_CFG_tod_out_en = true ∧ 2 ∈ s.tb.sysrefArmed := by decide
theorem wit_TimeOutputs_quiet : timeQuiet (w []) = true ∧ (w []).tb.todDue = false := by decide

theorem wit_ClockMonitors_coarse :
    let s := w [(F.CLK_MON_FREQ_LO_freq_lo 2, 2524971008), (F.CLK_MON_FREQ_HI_freq_hi 2, 152)]
    (∀ m, m < 43 → s.get (F.CLK_MON_STATUS_state m) ≠ 1) ∧ monRuns s 2 = true ∧
      s.get (F.CLK_MON_STATUS_state 2) = 0 ∧ (s.mon 2).coarse < 2 ∧ (fineRef s 2).isSome = true ∧
      gatePass (nomFreq s 2) (nomFreq s 42) 209715 (coarseTol s 2) 1000 = true := by decide
theorem wit_ClockMonitors_tick :
    let s := w [(F.CLK_MON_STATUS_state 34, 2), (F.CLK_TB_STATUS_input, 0)]
    (∀ m, m < 43 → s.get (F.CLK_MON_STATUS_state m) ≠ 1) ∧ monQual s 34 = true ∧ s.get F.CLK_TB_STATUS_input ≠ 3 := by decide
theorem wit_ClockMonitors_stop :
    let s := w [(F.CLK_MON_STATUS_state 34, 2), (F.CLK_MON_STATUS_state 42, 2)]
    let u := w [(F.CLK_MON_FREQ_LO_freq_lo 2, 2524971008), (F.CLK_MON_FREQ_HI_freq_hi 2, 152), (F.CLK_MON_STATUS_state 42, 2)]
    (∀ m, m < 43 → s.get (F.CLK_MON_STATUS_state m) ≠ 1) ∧ (∀ m, m < 43 → u.get (F.CLK_MON_STATUS_state m) ≠ 1) ∧
      monQual s 42 = true ∧ monRuns s 34 = true ∧ s.get (F.CLK_MON_STATUS_state 34) = 2 ∧ monQual (w [(F.CLK_MON_STATUS_state 42, 0)]) 42 = false ∧
      monQual u 42 = true ∧ monRuns u 2 = true ∧ u.get (F.CLK_MON_STATUS_state 2) = 0 := by decide
theorem wit_ClockMonitors_lost :
    let s := w [(F.CLK_MON_FREQ_LO_freq_lo 2, 2524971008), (F.CLK_MON_FREQ_HI_freq_hi 2, 152),
      (F.CLK_MON_STATUS_state 2, 2), (F.CLK_MON_STATUS_state 42, 2), (F.CLK_LGRP_CFG_ref_sel 0, 1)]
    let s := { s with clk := { s.clk with inUse := [(100, 1)] } }
    (∀ m, m < 43 → s.get (F.CLK_MON_STATUS_state m) ≠ 1) ∧ s.get (F.CLK_MON_STATUS_state 2) = 2 ∧ monRuns s 2 = true ∧ mutualRef s 2 = none ∧
      (∀ k, k < 4 → muxMon (116 + k) (muxSrc s (116 + k)) ≠ 2) ∧ muxesOf s 2 = [] ∧ fbFrom s 2 = false ∧ monQual s 42 = true ∧ (fineRef s 2).isSome = true ∧
      gatePass (nomFreq s 2) (nomFreq s 42) 0 (coarseTol s 2) 1000 = false := by decide
theorem wit_ClockMonitors_compare :
    let s := w [(F.CLK_MON_FREQ_LO_freq_lo 0, 2524971008), (F.CLK_MON_FREQ_HI_freq_hi 0, 152),
      (F.CLK_MON_FREQ_LO_freq_lo 1, 2524971008), (F.CLK_MON_FREQ_HI_freq_hi 1, 152),
      (F.CLK_MON_STATUS_disagree 0, 1), (F.CLK_MON_STATUS_disagree 1, 1), (F.TB_STATUS_state, 2)]
    (∀ m, m < 43 → s.get (F.CLK_MON_STATUS_state m) ≠ 1) ∧ s.flag (F.CLK_MON_STATUS_disagree 0) = true ∧ s.flag (F.CLK_MON_STATUS_disagree 1) = true ∧
      s.get F.TB_STATUS_state = 2 ∧
      gatePass (nomFreq s 34) (nomFreq s 0) 6442451 (fineTol s 0) 2000000 = true ∧
      gatePass (nomFreq s 34) (nomFreq s 1) 6442451 (fineTol s 1) 2000000 = true := by decide
theorem wit_ClockMonitors_fault :
    let s := w [(F.CLK_MON_STATUS_state 35, 2)]
    (∀ m, m < 43 → s.get (F.CLK_MON_STATUS_state m) ≠ 1) ∧ monQual s 35 = true ∧ mutualRef s 35 = none ∧ muxesOf s 35 = [] := by decide

theorem wit_ClockSwitching_write :
    let s := w [(F.CLK_MON_STATUS_state 34, 2), (F.CLK_MON_STATUS_state 37, 2)]
    findMove s 4 = none ∧ monQual s (muxMon 4 17) = true ∧ muxSrc s 4 ≠ 17 ∧
      s.get (F.CLK_MON_STATUS_state (muxMon 4 (muxSrc s 4))) ≠ 0 := by decide
theorem wit_ClockSwitching_refused : findMove (w []) 4 = none ∧ monQual (w []) (muxMon 4 17) = false := by decide
theorem wit_ClockSwitching_move :
    let s := { w [(F.CLK_MON_STATUS_state 42, 2)] with clk := { State.reset.clk with moves := [⟨4, 17, 1, 0, false⟩] } }
    findMove s 4 = some ⟨4, 17, 1, 0, false⟩ ∧ monQual s 42 = true := by decide
theorem wit_ClockSwitching_forced :
    let s := { w [] with clk := { State.reset.clk with moves := [⟨4, 17, 1, 0, true⟩] } }
    findMove s 4 = some ⟨4, 17, 1, 0, true⟩ := by decide

theorem wit_Gates :
    let s := { w [] with clk := { State.reset.clk with closing := [313] } }
    gateCounted s 264 = false ∧ busWaits s 313 = true ∧ s.loft.dma = [] ∧ wireOff s 131 191 = false := by decide
theorem wit_Gates_counted :
    let s := w [(F.FAB_BIN_STATUS_kind 5, 2), (F.FAB_BIN_STATUS_pool 5, 3)]
    gateCounted s 5 = true := by decide

theorem wit_MacAccumulates :
    let l : List (Cplx × Cplx) := [(⟨3000, -4000⟩, ⟨-2000, 5000⟩)]
    l.length ≤ 65535 ∧ ∀ x ∈ l, x.1.ok = true ∧ x.2.ok = true := by decide

theorem wit_TrayWriteRead :
    let s := w [(F.FAB_BIN_STATUS_kind 3, 1), (F.BIN_SEQ_STATUS_state 3, 3)]
    s.trays.wf = true ∧ s.get (F.BIN_SEQ_STATUS_active_slot 3) < 2 ∧ wordOk s 3 = true ∧
      binKind s 3 = Kind.static ∧ (s.bin 3).dmaWrote = none ∧ (portUse s 3).wr = false ∧
      (portUse s 3).spawn = false ∧ (portUse s 3).event = false ∧ (portUse s 3).rd = false := by decide

/-- An item of class 5 that runs in bin 7. -/
def wItem : Item := ⟨9, 5, 3, false, false, 0, 100, 77, 0, 0, 0, 0, 0, 5, .run, 7, 1, 0, 0, none, false⟩
/-- A state in which it runs. -/
def wRun (h : List HatchCmd) : State :=
  let s := { w [(F.FAB_BIN_STATUS_kind 7, 2), (F.BIN_SEQ_STATUS_state 7, 1), (F.BIN_SEQ_STATUS_active_slot 7, 1),
      (F.CLK_GATE_EN_open 7, 1)] with
    sch := { Sched.reset with items := [wItem] } }
  setBin s 7 { s.bin 7 with item := some 9, budget := 60, hatch := h }
theorem wit_ItemEnds :
    let s := wRun []
    runItem s 7 = some wItem ∧ s.clk.closing.contains 7 = false ∧ binKind s 7 = Kind.scheduled ∧
      s.seqSt 7 = Seq.select ∧ s.now ≤ (s.bin 7).start + (s.bin 7).budget ∧ s.warm = false ∧
      s.ev.inq.length + 1 ≤ 512 ∧ itemTick s 7 ≤ 60 ∧ 60 ≤ (s.bin 7).budget ∧
      s.now ≤ (s.bin 7).start + 60 - 1 ∧ hatchOut s 7 = 0 := by decide
theorem wit_ItemEnds_ending :
    let s := wRun [⟨false, 0, 1, 0, 0, false, [], 0, false, []⟩]
    runItem s 7 = some wItem ∧ s.seqSt 7 = Seq.select ∧ hatchOut s 7 ≠ 0 := by decide

theorem wit_ItemEntry_select :
    let i : Item := { wItem with st := .bound }
    let s := { w [(F.FAB_BIN_STATUS_kind 7, 2), (F.BIN_SEQ_STATUS_slot1 7, 2)] with
      sch := { Sched.reset with items := [i] } }
    slotSt s 7 1 = 2 ∧ slotSt s 7 0 ≠ 2 ∧ binKind s 7 = Kind.scheduled ∧ binIdle s 7 = true ∧
      (s.bin 7).rst = false ∧ boundItem s 7 1 = some i ∧ (isDrop s i.cls && fpAfter s.fp (latestStart s i)) = false := by decide
theorem wit_ItemEntry_ending :
    let s := (wRun []).set (F.BIN_SEQ_STATUS_state 7) 4
    runItem s 7 = some wItem ∧ s.seqSt 7 = Seq.ending ∧ hatchOut s 7 = 0 ∧ itemTick s 7 ≤ (s.bin 7).budget := by
  decide
theorem wit_ItemEntry_drop :
    let s := (wRun []).set (F.SCH_CLASS_CFG_late 5) 1
    findItem s wItem.id = some wItem ∧ isDrop s wItem.cls = true ∧ wItem.st = .run := by decide
theorem wit_ItemEntry_pause :
    let s := setBin (wRun []) 7 { (wRun []).bin 7 with pause := some 40 }
    (s.bin 7).pause = some 40 := by decide

theorem wit_BinPort_spawn :
    let s := (wRun []).set (F.SCH_CLASS_CFG_max_succ 5) 1
    let use := portUse (atWord s 7) 7
    wordOk s 7 = true ∧ binKind s 7 = Kind.scheduled ∧ runItem s 7 = some wItem ∧
      (s.bin 7).buf.length < s.get (F.SCH_CLASS_CFG_max_succ wItem.cls) ∧ (s.bin 7).evLast = none ∧
      use.spawn = false ∧ use.wr = false ∧ use.event = false := by decide
theorem wit_BinPort_static :
    let s := w [(F.FAB_BIN_STATUS_kind 3, 1), (F.BIN_SEQ_STATUS_state 3, 3), (F.BIN_CTX_CFG_ctx_loaded 3, 4)]
    let use := portUse (atWord s 3) 3
    wordOk s 3 = true ∧ binKind s 3 = Kind.static ∧ (s.get (F.BIN_CTX_CFG_ctx_loaded 3)).testBit 2 = true ∧
      (s.bin 3).initAt = none ∧ hatchOut s 3 < 8 ∧ (s.bin 3).wrEnd ≤ (atWord s 3).now ∧ use.sel = false ∧
      use.hatch = false := by decide
/-- Logical bin 4 is physical bin 3, static and open; it owns the first banks of group 0, which is ON. -/
def wPort (h : List HatchCmd) : State :=
  let s := w ([(F.FAB_BIN_STATUS_kind 3, 1), (F.FAB_BIN_STATUS_logical 3, 4), (F.BIN_SEQ_STATUS_state 3, 3),
    (F.CLK_GATE_EN_open 3, 1), (F.CLK_GATE_EN_open 280, 1), (F.LFT_GRP_STATUS_power 0, 1)]
      ++ (List.range 4).map (fun b => (F.LFT_BANK_OWN_owner b, 4)))
  setBin s 3 { s.bin 3 with hatch := h }
theorem wit_BinPort_good :
    let c : HatchCmd := ⟨false, 0, 1, 5, 0, false, [], 0, false, []⟩
    let s := wPort [c]
    let r := readBeat s (binOwner s 3) 0
    (s.bin 3).hatch = [c] ∧ (s.bin 3).rdBeat.any (fun b => b.at' = s.now) = false ∧ aget c.got (c.beat + c.done) = none ∧
      r.2.flag (F.CLK_GATE_EN_open 3) = true ∧ r.1.status = 0 := by decide
theorem wit_BinPort_error :
    let c : HatchCmd := ⟨false, 2 ^ 24 - 1, 2, 5, 1, false, [], 0, false, []⟩
    let s := wPort [c]
    (s.bin 3).hatch = [c] ∧ c.stale = false ∧ (readBeat s (binOwner s 3) (2 ^ 24)).1.status ≠ 0 ∧
      s.flag (F.CLK_GATE_EN_open 3) = true := by decide
theorem wit_BinPort_write :
    let c : HatchCmd := ⟨true, 0, 1, 5, 0, false, [3], 0, false, []⟩
    let s := wRun [c]
    (s.bin 7).hatch.find? (fun x => x.wr) = some c ∧ passCredit (s.atNow 2) 7 ≠ 0 := by decide

/-- Pool 2 holds logical bin 7 with a free slot, and a conforming item of class 5 waits. -/
def wPool : State :=
  { w [(F.FAB_BIN_STATUS_kind 7, 2), (F.FAB_BIN_STATUS_pool 7, 2), (F.FAB_BIN_STATUS_logical 7, 7),
      (F.FAB_MAP_physical 7, 7), (F.SCH_POOL_BINS_bins 2 0, 128), (F.SCH_CLASS_CFG_pool 5, 2), (F.RST_MODE_mode, 1)] with
    sch := { Sched.reset with items := [{ wItem with st := .waiting }], decisions := [⟨0, 7, 0, 9⟩] } }
theorem wit_DecisionOrder :
    let s := { wPool with sch := { wPool.sch with decisions := [] } }
    firstRequest s 2 ((poolRequests s 2).foldl (fun l r => reqInsert r l) [])
      = some (7, 0, { wItem with st := .waiting }) := by decide

theorem wit_BindFillDrain_bind :
    wPool.sch.decisions.find? (fun d => d.bin = 7 && d.slot = 0) = some ⟨0, 7, 0, 9⟩ ∧ mayRequest wPool 7 0 = true ∧
      findItem wPool 9 = some { wItem with st := .waiting } ∧ reserveHold wPool 5 = some (0, 0) := by decide
theorem wit_BindFillDrain_wait : reserveHold (wPool.setAll [(F.SCH_CLASS_CFG_max_succ 5, 2), (F.SCH_SHARED_shared_size, 1)]) 5
    = none := by decide
theorem wit_BindFillDrain_fill :
    let f : Fill := ⟨7, 0, 9, 0, 2, 0, 7, false⟩
    let s := { wPool with sch := { wPool.sch with fills := [f] } }
    let s := s.setAll [(F.LFT_BANK_OWN_owner 0, 7), (F.LFT_BANK_OWN_owner 1, 7), (F.LFT_BANK_OWN_owner 2, 7),
      (F.LFT_BANK_OWN_owner 3, 7), (F.LFT_GRP_STATUS_power 0, 1), (F.CLK_GATE_EN_open 280, 1)]
    findFill s 7 0 = some f ∧ (readBeat s f.owner (f.beat + f.done)).1.status = 0 ∧ f.done + 1 < f.total := by decide
theorem wit_BindFillDrain_drain :
    let d : Drain := ⟨9, 5, 77, 7, 0, 0, 2, 0, 7, false⟩
    let s := { wPool with sch := { wPool.sch with drains := [d] } }
    s.sch.drains.find? (fun d => d.bin = 7 && d.slot = 0 && d.sent < d.total) = some d ∧ d.sent + 1 < d.total ∧
      sentDrain { s with sch := { s.sch with drains := [{ d with sent := 2 }] } } 7 0 = some { d with sent := 2 } := by
  decide
theorem wit_BindFillDrain_spawn :
    let s := setBin (wPool.setAll [(F.SCH_CLASS_CFG_defined 5, 1), (F.SCH_CLASS_CFG_origins 5, 4)]) 7
      { wPool.bin 7 with hand := [⟨0, 5 * 2 ^ 96, 9, 0, false, 64⟩] }
    let c := spawnCreation (5 * 2 ^ 96) 0
    let r := drawSeq (setBin s 7 { s.bin 7 with hand := [] }) c.cls
    (s.bin 7).hand = [⟨0, 5 * 2 ^ 96, 9, 0, false, 64⟩] ∧ s.mode ≠ Mode.standby ∧ s.twin.handoff = false ∧ c.cls = 5 ∧
      (setMode s Mode.standby).mode = Mode.standby ∧
      classShed r.2 c.cls = false ∧ (createChecks r.2 c).1 = 0 := by decide
theorem wit_BindFillDrain_late :
    let s := wPool.set (F.SCH_CLASS_CFG_late 5) 1
    findItem s 9 = some { wItem with st := .waiting } ∧ isDrop s 5 = true := by decide

theorem wit_SequenceWindow :
    let s := w [(F.SCH_CLASS_STATE_win_empty 5, 0), (F.SCH_CLASS_WIN_TOP_h 5, 7), (F.SCH_CLASS_CFG_defined 5, 1),
      (F.SCH_CLASS_CFG_origins 5, 8), (F.SCH_CLASS_INPUT_in_units 5, 1), (F.RST_MODE_mode, 1)]
    let s := { s with sch := { s.sch with win := [(5, 1)] } }
    let c : Creation := ⟨5, 3, some 7, 0, 0, 0, 0, 0, 0⟩
    s.flag (F.SCH_CLASS_STATE_win_empty 5) = false ∧ (winMap s 5).testBit 3 = false ∧ s.mode ≠ Mode.standby ∧
      s.twin.handoff = false ∧ classShed s 5 = false ∧ (createChecks s c).1 = 0 ∧ winJudge s 5 7 = .dup := by decide

theorem wit_Submission :
    let s := { w [(F.RST_MODE_mode, 1)] with modes := { Modes.reset with por := false } }
    mayAsk s .keeper F.SCH_SUBMIT_CMD_go.addr 2 = true ∧
      s.flag (F.SCH_SUBMIT_STATUS_busy.copy (reqNum .keeper)) = false ∧ s.mode ≠ Mode.standby ∧
      s.twin.handoff = false ∧ classShed s 5 = false ∧
      (s.set (F.SCH_SUBMIT_STATUS_busy.copy 0) 1).flag (F.SCH_SUBMIT_STATUS_busy.copy (reqNum .keeper)) = true ∧
      (s.set F.RST_MODE_mode 2).mode = Mode.standby ∧ keeperUp { s with warm := true } = false := by decide
theorem wit_Submission_accepted :
    let s := w [(F.SCH_CLASS_CFG_defined 5, 1), (F.SCH_CLASS_CFG_origins 5, 8), (F.RST_MODE_mode, 1),
      (F.SCH_SHARED_shared_size, 8)]
    let c : Creation := ⟨5, 3, some 8, 0, 0, 0, 0, 0, 0⟩
    (createChecks s c).1 = 0 ∧ winJudge s 5 8 = .accept ∧ takeEntry s 5 (!polices s 5 0) = some 64 := by decide

/-- The class 0 of the worked example of chapter 7 on the bins of pool 0. -/
def wAdm : State := w [(F.SCH_CLASS_CFG_defined 0, 1), (F.SCH_CLASS_CFG_n_m1 0, 15), (F.SCH_CLASS_CFG_max_succ 0, 1),
  (F.SCH_CLASS_BUDGET_c_tk 0, 12000), (F.SCH_CLASS_DEADLINE_d_tk 0, 24000), (F.SCH_CLASS_PERIOD_t_tk 0, 30000),
  (F.SCH_CLASS_INPUT_in_units 0, 512), (F.SCH_CLASS_ENERGY_e_nj 0, 9000), (F.SCH_CLASS_RES_res 0, 96)]
theorem wit_DensityKeeps : List.Sublist [] [0] ∧ 47 ≤ 48 ∧ (∀ k ∈ [0], densityU wAdm k ≤ 2 ^ 32) ∧
    densityOk wAdm [0] 47 = true := by decide
/-- Pools 0 to 8 are defined and marked n_plus_1, and no bin is spare. -/
def wSpare : State := w ((List.range 9).flatMap (fun p => [(F.SCH_POOL_CFG_defined p, 1), (F.SCH_POOL_CFG_n_plus_1 p, 1)]))
theorem wit_DensityKeeps_spares :
    (List.range 32).filter (fun p => wSpare.flag (F.SCH_POOL_CFG_defined p) && wSpare.flag (F.SCH_POOL_CFG_n_plus_1 p))
      = List.range 9 ∧ runCount wSpare 0 < 2 := by decide
theorem wit_DensityKeeps_kinds :
    (∀ p, p < 264 → wSpare.get (F.FAB_BIN_STATUS_kind p) = Kind.spare → 128 ≤ p % 132) ∧
    ((List.range 264).filter (fun p => wSpare.get (F.FAB_BIN_STATUS_kind p) = Kind.spare
      && !wSpare.flag (F.FAB_BIN_STATUS_retired p))).length = 0 := by decide

/-- A stack at 106.0 °C with thresholds of 100 and 105 °C. -/
def wHot (l t : Nat) : State := wRaw [(F.THM_STATUS_level, l), (F.THM_HOT_t_hot, t), (F.THM_THRESH_warn, 100),
  (F.THM_THRESH_throttle, 105), (F.THM_THRESH_crit, 115), (F.THM_THRESH_shut, 120), (F.CFG_STATUS_load_state, 6)]
theorem wit_ThermalLevels_rise : (wHot 0 1696).get F.THM_STATUS_level ≤ 2 ∧ thresh (wHot 0 1696) 1 ≤ thresh (wHot 0 1696) 2 ∧
    (wHot 0 1696).warm = false ∧ (wHot 0 1696).ev.inq.length + 4 ≤ 512 ∧ thresh (wHot 0 1696) 2 ≤ tHot (wHot 0 1696) := by
  decide
theorem wit_ThermalLevels_fall : (levelFollow (wHot 2 1624)).get F.THM_STATUS_level = 1 ∧
    (wHot 2 1624).get F.THM_STATUS_level = 2 := by decide

theorem wit_ThermalSample : (List.replicate 160 (none : Option Int)).length = 160 ∧ (List.replicate 16 0).length = 16 ∧
    sensorFailed (w []) 5 = false := by decide
theorem wit_ThermalSample_fail :
    let s := { w [] with thm := { Thermal.reset with invalid := [(5, 9)] } }
    sensorFailed s 5 = false ∧ (aget s.thm.invalid 5).getD 0 = 9 := by decide
theorem wit_ThermalSample_pair : sensorValid (w [(F.THM_SENSOR_valid 4, 1), (F.THM_SENSOR_valid 5, 1)]) (2 * 2) = true ∧
    sensorValid (w [(F.THM_SENSOR_valid 4, 1), (F.THM_SENSOR_valid 5, 1)]) (2 * 2 + 1) = true := by decide

theorem wit_ThermalShutdown : sensorValid ((wHot 0 0).set (F.THM_SENSOR_valid 5) 1) 5 = true ∧
    thresh ((wHot 0 0).set (F.THM_SENSOR_valid 5) 1) 4 ≤ 1920 ∧
    sensorValid (w [(F.THM_SENSOR_valid 5, 1), (F.THM_SENSOR_failed 5, 1)]) 5 = false := by decide
theorem wit_ThermalShutdown_again :
    let s := { w [] with thm := { Thermal.reset with latch := [0, 0, 1920, 2 ^ 16] } }
    latchValid s = true ∧ s.thm.latch.length = 4 := by decide

/-- Class 5 of pool 2 in shed entry 0 and class 6 in entry 1, at the critical level, and the pool not covered. -/
def wShed : State := w [(F.THM_STATUS_level, 3), (F.THM_STATUS_deg_thm, 1), (F.THM_SHE_kind 0, 1), (F.THM_SHE_id 0, 5),
  (F.THM_SHE_kind 1, 1), (F.THM_SHE_id 1, 6), (F.SCH_CLASS_CFG_defined 5, 1), (F.SCH_CLASS_CFG_pool 5, 2),
  (F.SCH_POOL_CFG_defined 2, 1), (F.RST_MODE_mode, 1)]
theorem wit_Shedding_shed : wShed.get F.THM_STATUS_level = 3 ∧ wShed.thm.restoring = false ∧
    wShed.flag F.THM_STATUS_deg_thm = true ∧ wShed.thm.shedAt - 16 < tHot wShed ∧
    (shedList wShed).find? (fun j => !wShed.shedThm.contains j) = some 0 := by decide
theorem wit_Shedding_power :
    let s := (wShed.set F.THM_STATUS_deg_thm 0).set F.THM_STATUS_deg_cap 1
    let t := { s with flds := (F.THM_POWER_p_meas.key, 2000000000) :: s.flds }
    t.get F.THM_STATUS_level = 3 ∧ t.flag F.THM_STATUS_deg_cap = true ∧ overCap t = true ∧
      wShed.flag F.THM_STATUS_deg_cap = false ∧ overCap wShed = false := by decide
theorem wit_Shedding_cover : wShed.flag (F.SCH_POOL_CFG_defined 2) = true ∧
    wShed.flag (F.ADM_POOL_BINS_covered 2) = false ∧
    (shedList wShed).find? (fun j => entryInPool wShed j 2 && !wShed.shedCov.contains j) = some 0 := by decide
theorem wit_Shedding_restore :
    let s := { wShed with shedThm := [0, 1], thm := { Thermal.reset with restoreOk := 1001 } }
    1001 ≤ s.thm.restoreOk ∧ s.shedThm.getLast? = some 1 ∧ classShed s 5 = true := by decide
theorem wit_Shedding_coverBack :
    let s := { wShed with shedCov := [0] }
    let s := s.setAll [(F.SCH_CLASS_CFG_mode 5, 1)]
    (s.shedCov.filter (fun j => entryInPool s j 2)).getLast? = some 0 ∧
      densityOk { s with shedCov := ndel s.shedCov 0 } (coverClasses { s with shedCov := ndel s.shedCov 0 } 2)
        (usableCount { s with shedCov := ndel s.shedCov 0 } 2) = true ∧ 0 ∈ s.shedCov := by decide

theorem wit_ThermalCommands : (-128 : Int) ≤ 60 ∧ (60 : Int) ≤ 70 ∧ (70 : Int) < 80 ∧ (80 : Int) < toInt 8 ((wHot 0 0).get F.THM_THRESH_shut) ∧
    (wHot 0 0).adm.tj < 80 ∧ (60 : Int) ≤ Rst.warn ∧ (70 : Int) ≤ Rst.throttle ∧ (80 : Int) ≤ Rst.crit ∧
    (Rst.warn : Int) < 101 := by
  refine ⟨by decide, by decide, by decide, by decide, by decide, ?_⟩
  unfold Rst.warn Rst.throttle Rst.crit
  cases Config.gradeE <;> decide
theorem wit_ThermalCommands_head :
    let s := { wHot 1 1624 with flds := (F.THM_POWER_p_meas.key, 120000000) :: (wHot 1 1624).flds }
    s.get F.THM_STATUS_level ≤ 1 ∧ s.get F.THM_THRESH_throttle = 105 ∧ s.get F.THM_HEAD_CFG_step_t = 2 ∧
      s.get F.THM_HEAD_CFG_step_p = 20 ∧ s.get F.THM_CAP_cap = 1600 ∧ s.get F.THM_POWER_p_meas = 120000000 ∧
      tHot s = 1624 ∧ tHot { s with flds := (F.THM_HOT_t_hot.key, 1582) :: s.flds } = 1582 := by decide
theorem wit_ThermalCommands_doze : (w [(F.RST_MODE_mode, 3)]).mode = Mode.doze ∧
    2 ∈ ({ Thermal.reset with averaging := [0, 2] }).averaging ∧
    (w [(F.THM_STATUS_pfc_on, 1)]).flag F.THM_STATUS_pfc_on = true ∧
    aget ({ Thermal.reset with avg := [(7, (300, 3))] }).avg 7 = some ((100 : Int) * (3 : Nat), 3) := by decide
/-- An admission table whose declared powers total 90 W. -/
def wCap : State := { w [] with adm := { State.reset.adm with pLane := 90000000 } }
theorem pTotal_lane (s : State) : s.adm.pLane ≤ pTotal s := by unfold pTotal; omega
theorem wit_StackCap_refused : 600 ≤ 871 ∧ 871 < wCap.get F.THM_CAP_cap ∧ powerLimit 871 < pTotal wCap :=
  ⟨by decide, by decide, Nat.lt_of_lt_of_le (by decide) (pTotal_lane wCap)⟩
theorem wit_StackCap_set : 600 ≤ 1700 ∧ 1700 ≤ 1750 ∧ wCap.get F.THM_CAP_cap ≤ 1700 := by decide

/-- Lane 9 in state `st`. -/
def wLane (st : Nat) (l : List (Fld × Nat)) : State := w ((F.LN_STATUS_state 9, st) :: (F.RST_MODE_mode, 1)
  :: (F.LN_CTRL_enable 9, 1) :: (F.LN_CFG_proto 9, 2) :: (F.LN_PORT_first 9, 9) :: l)
theorem wit_LaneBringUp_steps : inStep (wLane 2 []) 9 2 = true ∧ inStep (wLane 3 []) 9 3 = true ∧
    inStep (wLane 4 []) 9 4 = true ∧ inStep (wLane 5 []) 9 5 = true ∧ inStep (wLane 6 []) 9 6 = true ∧
    (wLane 2 [(F.LN_CFG_eq_lock 9, 1)]).flag (F.LN_CFG_eq_lock 9) = true ∧
    (wLane 4 []).flag (F.LN_CFG_pol_auto 9) = true ∧
    (wLane 4 [(F.LN_CFG_pol_auto 9, 0)]).flag (F.LN_CFG_pol_auto 9) = false ∧
    (∀ f ∈ ([0, 200].take (candCount (wLane 3 [(F.LN_CFG_n_cand_m1 9, 1)]) 9)).map
      (fomOf (wLane 3 [(F.LN_CFG_n_cand_m1 9, 1)]) 9), f = 0) ∧
    (let s := wLane 8 [(F.RST_WAKE_CFG_lane_up, 1), (F.CLK_GATE_EN_deep_en 265, 1)]
     portLanes s 9 = [9] ∧ s.flag F.RST_MODE_entering = false ∧ s.flag F.RST_WAKE_CFG_lane_up = true ∧
       wakeGroup s (9 / 8) = true ∧ s.modes.waking = none) ∧
    (∃ f ∈ ([50000].take (candCount (wLane 3 []) 9)).map (fomOf (wLane 3 []) 9), 0 < f) := by decide
/-- Lanes 8 and 9 as a 100G port in LANE_ORDER or DESKEW. -/
def wLanes (st : Nat) : State := w [(F.LN_STATUS_state 8, st), (F.LN_STATUS_state 9, st), (F.LN_CFG_proto 8, 5),
  (F.LN_CFG_proto 9, 5), (F.LN_PORT_first 8, 8), (F.LN_PORT_first 9, 8), (F.LN_PORT_width_m1 8, 1),
  (F.LN_PORT_width_m1 9, 1), (F.RST_MODE_mode, 1)]
theorem wit_LaneBringUp_port : is100G (wLanes 7) 9 = true ∧ portLanes (wLanes 7) 9 = [8, 9] ∧
    (∀ x ∈ portLanes (wLanes 7) 9, x < 128 ∧ inStep (wLanes 7) x 7 = true) ∧ [1, 0].Nodup ∧
    (∀ x ∈ portLanes (wLanes 8) 9, x < 128 ∧ inStep (wLanes 8) x 8 = true) ∧
    192 ≤ max 16 ((wLanes 8).get (F.LN_FOM_CFG_skew_max_tk 9)) ∧ max 16 ((wLanes 8).get (F.LN_FOM_CFG_skew_max_tk 9)) < 193 ∧
    (wLanes 8).mode ≠ Mode.dormant := by decide
theorem wit_LaneBringUp_group :
    let s := (wLane 1 [(F.CLK_GATE_EN_open 265, 1)])
    s.flag (F.LN_GRP_STATUS_held 1) = false ∧ 1 ∉ s.modes.lgrpRst ∧ s.lane 9 = 1 ∧
      ((setLaneRun s 9 { s.laneRun 9 with failed := true }).laneRun 9).failed = true := by decide

theorem wit_LaneLoss : (wLane 9 []).lane 9 = 9 ∧ (∀ x ∈ portLanes (wLane 9 []) 9, x < 128) ∧
    (∀ x ∈ portLanes (wLanes 9) 9, x < 128) ∧ (wLanes 9).lane 9 = 9 ∧ is100G (wLanes 9) 9 = true ∧
    (wLane 9 [(F.LN_CFG_proto 9, 6)]).lane 9 = 9 ∧ isJesd (wLane 9 [(F.LN_CFG_proto 9, 6)]) 9 = true ∧
    (wLane 9 [(F.LN_GRP_STATUS_pll_lock 1, 1)]).flag (F.LN_GRP_STATUS_pll_lock 1) = true ∧
    laneEnabled (wLane 9 []) 9 = true ∧ (wLane 0 []).lane 9 = 0 ∧ (wLane 0 []).get (F.LN_CFG_proto 9) ≠ 0 ∧
    1 ≠ (wLane 9 []).get (F.LN_CTRL_loop 9) ∧ loopRefusal (wLane 9 []) 9 = 0 ∧
    (wLane 9 []).get (F.LN_CTRL_prbs_gen 9) = 0 ∧ 1 ≠ (wLane 9 []).get (F.LN_CTRL_prbs_chk 9) ∧
    loopRefusal (wLane 9 [(F.LN_CFG_proto 9, 8)]) 9 = 2 := by decide

theorem wit_LaneBlocks : (wLane 9 []).flag (F.LN_GRP_CFG_mode (9 / 8)) = false ∧
    (wLane 9 [(F.LN_GRP_CFG_mode 1, 1)]).flag (F.LN_GRP_CFG_mode (9 / 8)) = true ∧
    (let s := wLane 9 [(F.LN_CFG_sink 9, 1)]
     portLanes s 9 = [9] ∧ s.flag (F.LN_CFG_sink 9) = true ∧ is100G s 9 = false ∧ isJesd s 9 = false ∧ s.get (F.LN_CFG_fec 9) = 0 ∧
      s.get (F.LN_CTRL_loop 9) ≠ 3 ∧ s.mode ≠ Mode.standby ∧ isEthernet s 9 = true ∧ (s.laneRun 9).frameOpen = false ∧
      (s.laneRun 9).lowArmed = true ∧ fomOf s 9 1000 < s.get (F.LN_FOM_CFG_floor 9) ∧ (txBundle s 9).testBit 66 = false) ∧
    (wLane 9 [(F.LN_CFG_proto 9, 7)]).get (F.LN_CFG_proto 9) = 7 ∧
    isEthernet (wLane 9 [(F.LN_CFG_proto 9, 7)]) 9 = false := by decide
/-- Lane 9 UP with `fill` blocks in its elastic buffer. -/
def wFill (fill : Nat) (l : List (Fld × Nat)) : State :=
  setLaneRun (wLane 9 l) 9 { (wLane 9 l).laneRun 9 with fill := fill }
/-- A data block and a raw lane's fill block (all zeros), each after 8 blocks taken. -/
def wRxB (v h taken : Nat) : RxBlock := ⟨v, h, 3, false, false, 0, 0, taken, 7, false, false⟩
theorem wit_LaneBlocks_elastic :
    ((wFill 13 []).laneRun 9).fill - (wRxB 0x1E 2 0).taken = 13 ∧ deletable (wFill 13 []) 9 (wRxB 0x1E 2 0) = true ∧
    deletable (wFill 16 []) 9 (wRxB 77 1 0) = false ∧ ((wFill 3 []).laneRun 9).fill - (wRxB 0x1E 2 8).taken = 0 := by
  decide
theorem wit_LaneBlocks_take :
    let s := wLane 9 [(F.LN_CFG_sink 9, 1), (F.FAB_LANE_lane 4, 9), (F.FAB_BIN_STATUS_lane_att 4, 1)]
    let s := { s with
      bins := [(4, { s.bin 4 with fab := { BinFab.zero with sinks := [(80, 55), (81, 4)] } })] }
    (txBundle s 9).testBit 66 = true ∧ s.flag (F.LN_CFG_sink 9) = true ∧ s.mode ≠ Mode.standby := by decide

theorem wit_BfpExact : 7 ≤ 9 ∧ 9 ≤ 16 ∧ (∀ x ∈ [(2030 : Int), -1012, 32767, -32768], -32768 ≤ x ∧ x ≤ 32767) ∧
    mantsFit 9 (mants [2030, -1012, 1020, 4] 3) = true ∧ (∀ k, k < 3 → mantsFit 9 (mants [2030, -1012, 1020, 4] k) = false) ∧
    (∀ e, e ≤ 15 → mantsFit 7 (mants [32768 * 256] e) = false) ∧
    (∀ x ∈ [(254 : Int), -126], -32768 ≤ x * 2 ^ 3 ∧ x * 2 ^ 3 ≤ 32767) ∧
    compress 9 [2030, -1012, 1020, 4] = ⟨3, [254, -126, 128, 0], false⟩ := by decide

/-- Lane 8 up as a 25GBASE-R engine-sink lane of engine 0. -/
def wEng (o : Nat) : State := w [(F.LN_STATUS_state 8, 9), (F.LN_CFG_proto 8, 2), (F.RST_MODE_mode, 1),
  (F.CLK_GATE_EN_open 312, o)]
def wFrame (fcs : Bool) (tags : Nat) (b : FrameBody) : EthFrame := ⟨fcs, 64, 0, tags, 5, 0, 0, b⟩
def wEcpri (r ty : Nat) : Ecpri := ⟨r, false, true, ty, 0, 0, 5, 0, false, 1, true, 0, 0, 0, 0, 1, []⟩
theorem wit_FronthaulFrames : (wEng 1).flag (F.LN_CFG_sink 8) = false ∧ isEthernet (wEng 1) 8 = true ∧
    (wEng 1).mode ≠ Mode.load ∧ (wEng 1).mode ≠ Mode.safe ∧ (wEng 1).lane 8 = 9 ∧ (wEng 1).flag F.THM_STATUS_enforce = false ∧
    engOpen (wEng 1) (laneEngine (wEng 1) (lowLane (wEng 1) 8)) = true ∧
    engOpen (wEng 0) (laneEngine (wEng 0) (lowLane (wEng 0) 8)) = false ∧
    64 ≤ (wEng 1).get (F.FH_LANE_CFG_max_frame 8) ∧ headReason (wEng 1) (wEcpri 2 0) none = 1 ∧
    headReason (wEng 1) (wEcpri 1 0) none = 0 ∧ findFlow (wEng 1) (lowLane (wEng 1) 8) 5 = none ∧
    (wFrame true 0 .other).ok = true ∧ pauseGrant 700 500 983040 300 = 700 ∧ pauseGrant 700 500 983040 600 = 500 ∧ 0 < usToTk ((wEng 1).get (F.FH_LANE_CFG_pause_max_us 8)) := by decide
theorem wit_FronthaulFrames_pause :
    let s := setPause (wEng 1) 8 ⟨0, 983040, false, some 9⟩
    (pauseOf s 8).used - 9 < usToTk (s.get (F.FH_LANE_CFG_pause_max_us 8)) ∧ (pauseOf s 8).raised = false ∧
      (pauseOf s 8).until' = some 9 := by decide
theorem wit_FronthaulFrames_ignored :
    let s := setPause (wEng 1) 8 ⟨0, 983040, false, none⟩
    usToTk (s.get (F.FH_LANE_CFG_pause_max_us 8)) ≤ (pauseOf s 8).used - 0 ∧ (pauseOf s 8).raised = false := by decide

theorem wit_FronthaulSequence :
    let s := setFlowF (setFlowF (setFlowF (w []) 210 13 0 8 17) 210 13 8 1 1) 210 11 0 16 3
    flowF s 210 13 8 1 = 1 ∧ flowF s 210 13 0 8 = 17 ∧ (flowF s 210 13 0 8 + 2) % 256 = 19 ∧
      (seqCheck s 210 17).1 = true ∧ flowF s 210 13 9 1 = 0 ∧ flowF s 210 11 0 16 < 4 ∧
      flowF (w []) 210 13 8 1 = 0 := by decide

/-- Flow 210 of the worked example on lane 8: valid, enabled, entry 2 with 320 symbols, one section of all of them. -/
def wFlow : State :=
  let s := (wEng 1).set F.TB_STATUS_fp_valid 1
  setFh s { s.fh with
    flow := [(3360, 3 + 8 * 16 + 2 * 2 ^ 11 + 2 ^ 22), (3361, 0x123 + 7 * 65536), (3362, 1 + 8 * 256), (3366, 1000), (3367, 226)]
    sec := [(28, 1 + 210 * 2 + 2 ^ 15), (29, 100 * 1024), (30, 320 + 65536)]
    num := [(2, 320 + 16 * 65536 + 2 * 2 ^ 24)] }
def wSym : OpenSym := ⟨210, 40, 0, 40, 0, 0, 9, 0, 0, 0, false, false, false, [], 7⟩
theorem wit_FronthaulSymbols_open : ingressRuns wFlow 210 = true ∧ flowF wFlow 210 0 22 1 = 1 ∧
    flowF wFlow 210 13 9 1 = 0 ∧ findOpen wFlow 210 40 = none ∧ (lastValid wFlow 210 = true → lastN wFlow 210 < 40) ∧
    expectedMap wFlow 210 (40 % max 1 (numSym wFlow 2)) ≠ 0 := by decide
theorem wit_FronthaulSymbols_close :
    let s := setFh wFlow { wFlow.fh with opens := [{ wSym with present := 1 }] }
    findOpen s 210 40 = some { wSym with present := 1 } ∧ expectedMap s 210 40 ≠ 0 ∧
      expectedMap s 210 40 &&& 1 = expectedMap s 210 40 := by decide
theorem wit_FronthaulSymbols_missing :
    let s := setFlowF wFlow 210 0 22 1 0
    flowValid s 210 = true ∧ flowEgress s 210 = false ∧ ingressRuns s 210 = true ∧ flowF s 210 0 22 1 ≠ 1 ∧
      flowF s 210 13 9 1 ≠ 1 ∧ lastValid s 210 = false ∧ expectedMap s 210 (40 % max 1 (numSym s (flowNum s 210))) ≠ 0 ∧
      aget s.fh.missed 210 = none ∧ findOpen s 210 40 = none ∧ wSym.accepted = 0 ∧ wSym.failed = false ∧
      findOpen (setFh s { s.fh with opens := [wSym] }) 210 40 = some wSym := by decide
theorem wit_FronthaulSymbols_full :
    let r : FhRelease := ⟨9, 7, 100, 0, 0, 0, 0, 0⟩
    ((List.replicate 256 ((0 : Nat), r)).filter (fun q => q.1 = 0)).length = 256 := by
  simp
theorem wit_FronthaulSymbols_write :
    let s := setFh wFlow { wFlow.fh with opens := [{ wSym with writes := [⟨0, [1, 2]⟩] }] }
    findOpen s 210 40 = some { wSym with writes := [⟨0, [1, 2]⟩] } := by decide
theorem wit_FronthaulSymbols_queue :
    let r : FhRelease := ⟨9, 7, 100, 0, 0, 0, 0, 0⟩
    let s := setFh wFlow { wFlow.fh with
      closed := [⟨0, 210, r⟩], queue := [(0, r)], quarEnd := [(210, 5)], held := [⟨0, 210, 40, 3, 9, 64, []⟩] }
    s.fh.closed.find? (fun x => x.flow = 210) = some ⟨0, 210, r⟩ ∧
      (s.fh.queue.filter (fun q => q.1 = 0)).length < 256 ∧ s.fh.queue.find? (fun q => q.1 = 0) = some (0, r) ∧
      aget s.fh.quarEnd 210 = some 5 ∧ s.fh.held.filter (fun h => h.flow = 210 && h.n = 40) = [⟨0, 210, 40, 3, 9, 64, []⟩] ∧
      (s.set (F.FH_GRP_STATUS_faulty 1) 1).flag (F.FH_GRP_STATUS_faulty 1) = true ∧
      grpQuiet s 1 = true := by decide

/-- Flow 210 as an egress flow, to a JESD204C link when `j` is 1. -/
def wOut (j : Nat) : State := setFh wFlow { wFlow.fh with
  flow := (3360, 3 + 8 + 8 * 16 + 2 * 2 ^ 11 + j * 2 ^ 29) :: wFlow.fh.flow.tail, arms := [256 * 210] }
theorem wit_FronthaulEgress : egressDue (wOut 0) 210 40 = true ∧ flowF (wOut 0) 210 0 29 1 = 0 ∧
    (256 * 210 + 40 % flowRing (wOut 0) 210) ∈ (wOut 0).fh.arms ∧ egressDue (wOut 0) 210 41 = true ∧
    (256 * 210 + 41 % flowRing (wOut 0) 210) ∉ (wOut 0).fh.arms ∧ egressDue (wOut 1) 210 40 = true ∧
    flowF (wOut 1) 210 0 29 1 = 1 ∧ flowValid (wOut 1) 210 = true ∧ flowEgress (wOut 1) 210 = true ∧
    egressDue wFlow 210 40 = false ∧ 1000 < 2 ^ 20 ∧
    (([0] : List Nat).map (fun i => 6 * bits (secW (wOut 1) (secEntry (wOut 1) 210 i) 1) 10 9)).sum = 600 := by decide

/-- The register port of bin 0, which runs as a static bin, with every right. -/
def wAsk (s : State) : State := setModes (s.setAll [(F.EV_RP_CFG_enable, 1), (F.FAB_BIN_STATUS_kind 0, 1),
  (F.BIN_SEQ_STATUS_state 0, 3), (F.EV_RP_PERM_perm, 2 ^ 30 - 1)]) { s.modes with por := false }
theorem wit_FronthaulTables_ask : mayAsk (wAsk (w [])) .regPort F.FH_FLOW_CMD_read.addr 2 = true ∧
    mayAsk (wAsk (w [])) .mgmt F.FH_FLOW_CMD_read.addr 2 = true ∧ mayAsk (wAsk (w [])) .keeper F.FH_SEC_CMD_read.addr 2 = true ∧
    (wAsk (w [])).flag (F.FH_FLOW_STATUS_busy.copy 1) = false := by decide
theorem wit_FronthaulTables : (w []).flag (F.FH_FLOW_STATUS_busy.copy 1) = false ∧
    commitBad wFlow 210 ((List.range 16).map (fun i => flowW wFlow 210 i)) = false ∧
    (((3 : Nat) ^^^ flowW wFlow 210 0) &&& (2 ^ 32 - 1 - flowStar 0) ≠ 0) ∧ flowW wFlow 210 0 < 2 ^ 32 ∧
    commitBad wFlow 210 [3] = true ∧ mayAsk (w []) .regPort F.FH_FLOW_CMD_read.addr 2 = false ∧
    ((wAsk (w [])).set (F.FH_FLOW_STATUS_busy.copy 1) 1).flag (F.FH_FLOW_STATUS_busy.copy 1) = true ∧ (setFh wFlow { wFlow.fh with commit := some (210, [], 9) }).fh.commit = some (210, [], 9) := by
  decide

theorem wit_LoftViews : 1023 < 1024 ∧ 524287 < 2 ^ 19 ∧ 2 ^ 29 - 1 < 2 ^ 29 ∧ 2 ^ 30 ≤ 2 ^ 31 + 64 ∧ 2 ^ 31 + 64 < 2 ^ 32 ∧
    loftAddr (2 ^ 29 + 1023 * 2 ^ 19 + 524287) = 2 ^ 29 - 1 ∧ loftAddr (2 ^ 29 + (2 ^ 29 - 1)) = loftAddr (2 ^ 29 + (2 ^ 29 - 1)) ∧
    dmaEndBad State.reset false (2 ^ 31 + 64) 1 = true := by decide

theorem wit_CodeCorrects : (5 : Nat) < 2 ^ 64 ∧ (7 : Nat) < 2 ^ 26 ∧ decodeWord (5 ^^^ 2 ^ 9) (checkOf 5 7) 7 = .corrected 5 ∧
    decodeWord (1 ^^^ 0) (checkOf (2 ^ 0 + 2 ^ 56) 7) 7 = .poisoned := by decide

theorem wit_LoftReadAfterWrite : (w []).memOk = true ∧ ((w []).setLoft ((w []).loft.store 5 7)).memOk = true := by decide

/-- Group 0 ON with its gate open, bank 0 owned by the keeper. -/
def wLoft : State := w [(F.LFT_GRP_STATUS_power 0, 1), (F.CLK_GATE_EN_open 280, 1), (F.LFT_BANK_OWN_owner 0, 336),
  (F.RST_MODE_mode, 1)]
def wReq (o : Nat) : LoftReq := ⟨o, 0, true, 77, 255, o < 256, false⟩
theorem wit_LoftRequests : bankServes wLoft (wLBank ((wReq 336).addr / 8)) = true ∧
    wLoft.bankOwner (wLBank ((wReq 336).addr / 8)) = 336 ∧ wLoft.bankOwner 0 ≠ 7 ∧ (wLoft.bankQ 0).stream.length < 16 ∧
    ((setBankQ wLoft 0 ⟨[], [⟨wReq 336, true, 0⟩], 0, 0⟩).bankQ 0).pick = some (wReq 336, ⟨[], [], 0, 0⟩) ∧
    (Instr.loftRequestEnqueue (wReq 336)).wf = true ∧ (Instr.loftRequestEnqueue (wReq 7)).wf = true ∧
    ownerOk wLoft 336 0 true = true ∧ ownerOk wLoft 7 0 true = false ∧
    bankServes (wLoft.set (F.CLK_GATE_EN_open 280) 0) 0 = false ∧ vote (wLoft.loft.validAt 0) = false ∧
    bankIdle wLoft 0 = true ∧ bgPoisoned (bgDue wLoft 2) 2 0 = false ∧
    bgDecode (bgDue wLoft 2) 2 0 ⟨3, 0, 0⟩ = .uncorrectable ∧ bgDecode (bgDue wLoft 2) 2 0 ⟨2, 0, 0⟩ = .corrected 0 := by
  decide
theorem wit_LoftRequests_pending :
    let s := wLoft.setLoft { (wLoft.loft.put 0 1 (checkOf 0 0) 7) with writeBacks := [0], poisons := [32] }
    s.loft.writeBacks.find? (fun x => wLBank x = 0) = some 0 ∧ s.loft.poisons.find? (fun x => wLBank x = 0) = some 32 ∧
      decodeWord (s.loft.dataAt 0) (s.loft.checkAt 0) 0 = .corrected 0 ∧ s.loft.validAt 0 = 7 ∧
      wordOf 0 (s.scrubAt 0).2 = 0 ∧ bankIdle s 0 = true := by decide
theorem wit_LoftRequests_ue :
    let s := wLoft.setLoft (wLoft.loft.put 0 3 (checkOf 0 0) 7)
    decodeWord (s.loft.dataAt 0) (s.loft.checkAt 0) 0 = .uncorrectable ∧ s.loft.validAt 0 = 7 := by decide

theorem wit_Handovers_refused : handoverReason wLoft ⟨true, 0, 700, false, false, 0⟩ = 1 ∧
    handoverReason wLoft ⟨false, 0, 700, false, false, 0⟩ = 1 ∧ (Instr.groupWakeComplete 0 [3] false).wf = true := by decide
theorem wit_Handovers : handoverReason wLoft ⟨true, 0, 336, true, false, 0⟩ = 0 ∧ prefetchLoser wLoft 0 336 = none ∧
    handoverReason wLoft ⟨false, 0, 7, false, false, 0⟩ = 0 ∧ (338 : Nat) < 339 ∧ wLoft.cfg.load = none ∧ wLoft.mode = Mode.active ∧
    wLoft.modes.waking = none ∧ wLoft.spr.worn = [] ∧
    (wLoft.set (F.LFT_GRP_STATUS_power 0) 3).get (F.LFT_GRP_STATUS_power 0) = 3 := by decide
theorem wit_Handovers_prefetch :
    let s := wLoft.setAll [(F.SCH_POOL_CFG_defined 2, 1), (F.SCH_POOL_BINS_bins 2 0, 128), (F.LFT_BANK_OWN_owner 0, 7),
      (F.SCH_CLASS_CFG_defined 5, 1), (F.SCH_CLASS_CFG_pool 5, 2), (F.SCH_CLASS_INPUT_in_units 5, 512),
      (F.SCH_CLASS_PERIOD_t_tk 5, 3000)]
    handoverReason s ⟨true, 0, 336, true, false, 0⟩ = 0 ∧
      prefetchLoser (if leavesPool s 0 336 then runCheck s else s) 0 336 = some 2 := by decide
theorem wit_Handovers_running :
    let h : Handover := ⟨false, 3, 7, false, false, 0⟩
    let s := wLoft.setLoft { wLoft.loft with handovers := [h, ⟨true, 1, 7, true, true, 0⟩] }
    findHandover s false 3 = some h ∧ findHandover s true 1 = some ⟨true, 1, 7, true, true, 0⟩ ∧ s.memOk = true := by decide

/-- Channel 3 is the register port's, with its gate open and a transfer of `n` units from `a`. -/
def wDma (a n : Nat) : State := (wAsk wLoft).setAll [(F.LFT_DMA_CFG_ctl 3, 2), (F.CLK_GATE_EN_open 316, 1),
  (F.LFT_DMA_SRC_src 3, a), (F.LFT_DMA_DST_dst 3, 128), (F.LFT_DMA_LEN_units 3, n)]
theorem wit_DmaTransfers : dmaMine (wDma 64 2) 3 .regPort = true ∧
    mayAsk (wDma 64 2) .regPort (F.LFT_DMA_CTRL_go 3).addr 2 = true ∧ gateOpen (wDma 64 2) 316 = true ∧
    (wDma 64 2).flag (F.LFT_DMA_STATUS_busy 3) = false ∧ dmaEndBad (wDma 64 2) false ((wDma 64 2).get (F.LFT_DMA_SRC_src 3)) 2 = false ∧
    dmaEndBad (wDma 64 2) false ((wDma 64 2).get (F.LFT_DMA_DST_dst 3)) 2 = false ∧ (wDma 64 2).get (F.LFT_DMA_LEN_units 3) = 2 ∧
    (wDma 64 0).get (F.LFT_DMA_LEN_units 3) = 0 ∧ dmaEndBad (wDma 65 2) false ((wDma 65 2).get (F.LFT_DMA_SRC_src 3)) 2 = true ∧
    dmaMine (wDma 64 2) 3 .keeper = false ∧ mayAsk (wDma 64 2) .keeper (F.LFT_DMA_CTRL_go 3).addr 2 = true ∧
    gateOpen ((wDma 64 2).set (F.CLK_GATE_EN_open 316) 0) 316 = false := by decide
theorem wit_DmaTransfers_unit :
    let d : DmaRun := ⟨64, 128, 2, false, false, false, false, 0⟩
    let s := (wDma 64 2).setLoft { (wDma 64 2).loft with dma := [(3, d)] }
    let t := s.setAll ((List.range 32).map (fun k => (F.LFT_BANK_OWN_owner k, 275)))
    aget s.loft.dma 3 = some d ∧ (dmaUnit s 3 0 d).1 = some (2, 64) ∧ (dmaUnit t 3 1 d).1 = none ∧
      d.units = 1 + 1 := by decide

/-- A header frame with the magic, the format, the part, revision 0, kind `k`, signer slot `sg` and `n` frames. -/
def wHead (k sg n : Nat) : Header :=
  ⟨[0xF1C04128, 2 + 65536 * State.reset.get F.ID_PART_part_code, 256 * k + 2 ^ 24 * sg, 0, n]⟩
/-- A loader's attempt that begins. -/
def wAtt : LoadRun := ⟨none, false, 0, 1, 0, [], 0, false, 0, []⟩
/-- A load in which owner key 0 and a battery-backed key are held. -/
def wLoad (r : LoadRun) : State :=
  let s := wRaw [(F.ID_PART_stack_rev, 1), (F.SEC_LC_owner_prog, 1)]
  setLoad { s with sec := { s.sec with owners := [(0, 9)], bbKey := some 3 } } (some r)
theorem wit_LoadBegins : (wLoad wAtt).mode = Mode.load ∧ wAtt.hdr = none ∧ (wHead 1 0 65).ok = true ∧
    (wHead 1 0 65).magicOk = true ∧ (⟨[]⟩ : Header).magicOk = false ∧ (wHead 1 0 65).format = 2 ∧
    (wHead 1 4 65).part = (wLoad wAtt).get F.ID_PART_part_code ∧ (wHead 1 4 65).minRev ≤ (wLoad wAtt).get F.ID_PART_stack_rev ∧
    4 ≤ (wHead 1 4 65).signer ∧
    (⟨[], [], [], [], none, none, []⟩ : SelfTest).ok = true ∧
    (wLoad wAtt).get (F.CLK_MON_STATUS_state 34) ≠ 2 ∧ (wLoad wAtt).clk.slow = false ∧
    (wLoad wAtt).get F.CFG_STATUS_alt_tried = 0 ∧
    ((wLoad wAtt).set F.CFG_STATUS_alt_tried 1).get F.CFG_STATUS_alt_tried = 1 := by decide
theorem wit_LoadBegins_test : let s := { wLoad wAtt with modes := { Modes.reset with testDue := true, por := false } }
    s.modes.testDue = true ∧ s.modes.por = false ∧ s.pins.porstN = true := by decide
/-- A frame of kind `k` at position `n` with word 0 of its address `a`. -/
def wFrm (n k a : Nat) : Frame := ⟨[n, k, a], [], [], [], []⟩
theorem wit_LoadBegins_segment :
    let s := (wLoad { wAtt with hdr := some (wHead 1 0 129), tested := true, next := 64, kind := 4 }).set F.CFG_STATUS_load_state 2
    s.get F.CFG_STATUS_load_state = 2 ∧ (64 : Nat) % 64 = 0 ∧ (wFrm 64 4 0).ok = true ∧ (wHead 1 0 129).frames = 129 ∧
      (∃ u, segmentWrite 129 64 4 [wFrm 64 4 0] s = .ok u) :=
  ⟨by decide, by decide, by decide, by decide, _, rfl⟩

theorem wit_LoadEnds :
    let s := (wLoad { wAtt with hdr := some (wHead 1 0 65), tested := true, next := 65, kind := 15 }).set F.CFG_STATUS_load_state 4
    s.cfg.load = some { wAtt with hdr := some (wHead 1 0 65), tested := true, next := 65, kind := 15 } ∧
      s.get F.CFG_STATUS_load_state = 4 ∧ (⟨[], []⟩ : Firmware).ok = true ∧ (⟨[], []⟩ : Firmware).sizeOk = false ∧
      (⟨[0xF1C04B50, 1, 4, 0, 2], []⟩ : Firmware).sizeOk = true ∧ 2 ≤ (⟨[0xF1C04B50, 1, 4, 0, 2], []⟩ : Firmware).index ∧
      s.flag F.TW_CFG_enable = false := by decide

/-- The port is enabled, bin 4 is its bin and group 3 the stage group; `st` is its state. -/
def wPr (st : Nat) : State :=
  (wLoad wAtt).setAll [(F.CFG_PR_CFG_enable, 1), (F.CFG_PR_CFG_rw_bin, 4), (F.CFG_PR_CFG_stage_group, 3),
    (F.LFT_GRP_OWN_owner 3, 338), (F.CFG_PR_STATUS_state, st), (F.CFG_PR_LEN_frames, 2)]
/-- The end frame at position 1. -/
def wEnd : Frame := wFrm 1 15 0
theorem wit_PartialStreams_stage : (wPr 0).get F.CFG_PR_STATUS_state = 0 ∧ (wPr 0).flag F.CFG_PR_CFG_enable = true ∧
    stageOurs (wPr 0) = true ∧ (wPr 2).get F.CFG_PR_STATUS_state ≠ 0 ∧ (wPr 3).get F.CFG_PR_STATUS_state = 3 ∧
    (setCfg (wPr 1) { (wPr 1).cfg with staging := some (5, none) }).cfg.staging = some (5, none) ∧
    headerBad (wPr 1) ⟨[]⟩ 2 = some (6, 1) ∧ (wHead 2 0 2).ok = true ∧ [wEnd].all Frame.ok = true := by decide
theorem wit_PartialStreams_verified :
    let s := setCfg (wPr 1) { (wPr 1).cfg with staging := some (5, none) }
    ∃ t, partialApply s (wHead 2 0 2) [wEnd] StreamSeen.reset = .ok t ∧ enablesClash t = false ∧
      poolsAgree t t.cfg.seen.shelf = true ∧ streamBad (setSeen t StreamSeen.reset) false = false ∧ admNamed s t = false :=
  ⟨_, rfl, by decide, by decide, by decide, by decide⟩
theorem wit_PartialStreams_commit :
    let x : StageRun := ⟨wHead 2 0 2, [wEnd], StreamSeen.reset, 5, [], none⟩
    let s := setCfg (wPr 3) { (wPr 3).cfg with stage := some x }
    drained s x = true ∧ x.writing = none ∧ s.cfg.stage = some x ∧
      [((7 : Nat), (⟨1, 0, 0⟩ : Upset))].all (fun y => decide (y.1 < 2 ^ 21)) = true := by decide

theorem wit_ConfigScrub :
    let s := w [(F.RST_MODE_mode, 1)]
    let t := setLap (setLap s 0 ⟨0, false, true, 1⟩) 1 ⟨0, false, true, 1⟩
    let u := setCfg s { s.cfg with repairs := [⟨0, 98816, none, false⟩] }
    wordWritten s (s.get (F.CFG_SCRUB_POS_word 0)) = false ∧ wordWritten (w []) ((w []).get (F.CFG_SCRUB_POS_word 1)) = true ∧
      (lapOf t 0).ready = true ∧ (lapOf t 1).ready = true ∧ t.get (F.CFG_SCRUB_SIG_sig 1) = t.get (F.CFG_SCRUB_SIG_sig 0) ∧
      (t.set (F.CFG_SCRUB_SIG_sig 1) 7).get (F.CFG_SCRUB_SIG_sig 1) ≠ t.get (F.CFG_SCRUB_SIG_sig 0) ∧
      t.get F.CFG_SCRUB_STATE_mismatches = 0 ∧ u.cfg.repairs = [⟨0, 98816, none, false⟩] ∧
      (lapOf s 0).ready = false ∧ copyOf s 98816 = none ∧ inFlash s 98816 = true ∧ wordInUse s 98816 = false ∧
      cfgDecode s 98816 = .clean 0 ∧ cfgDecode (cfgStrike s 98816 ⟨1, 0, 0⟩) 98816 = .corrected 0 ∧
      cfgDecode (cfgStrike s 98816 ⟨3, 0, 0⟩) 98816 = .uncorrectable := by decide

/-- A paired twin with lane 120 UP: the active when `act`. -/
def wTwin (act : Nat) : State := w [(F.RST_MODE_mode, 2 - act), (F.TW_CFG_enable, 1), (F.TW_CFG_lane_mask, 3), (F.TW_STATUS_state, 3),
  (F.TW_STATUS_role, act), (F.LN_STATUS_state 120, 9), (F.LN_STATUS_state 121, 9), (F.TW_STATUS_key_id, 1), (F.TW_EPOCH_session, 1)]
theorem wit_TwinFrames : twOn (wTwin 0) = true ∧ (twLanes (wTwin 0)).contains 120 = true ∧ twPaired (wTwin 0) = true ∧
    rxHigh (wTwin 0) 3 = 0 ∧ rxHigh (wTwin 0) 0 < 2 ^ 32 ∧ rxHigh (wTwin 0) 1 < 2 ^ 32 ∧ rxHigh (wTwin 0) 2 < 2 ^ 32 ∧
    ((⟨120, 2, 0, 1, 0, 0, 1, .mirror []⟩ : TwinFrame).seq + 2 ^ 33 - rxHigh (wTwin 0) 3 - 1) % 2 ^ 32 = 0 ∧
    ((⟨120, 2, 0, 2, 0, 0, 1, .mirror []⟩ : TwinFrame).seq + 2 ^ 33 - rxHigh (wTwin 0) 3 - 1) % 2 ^ 32 = 1 ∧
    2 ^ 31 ≤ ((⟨120, 2, 0, 0, 0, 0, 1, .mirror []⟩ : TwinFrame).seq + 2 ^ 33 - rxHigh (wTwin 0) 3 - 1) % 2 ^ 32 ∧
    (wTwin 0).twin.rxHeld = [] ∧ (wTwin 0).flag F.TW_STATUS_role = false ∧
    (⟨120, 2, 0, 1, 0, 0, 1, .mirror []⟩ : TwinFrame).ok = true ∧ (wTwin 0).twin.handoff = false ∧ (wTwin 0).twin.rot = none ∧
    twPaired ((wTwin 0).set F.TW_STATUS_state 1) = false ∧ twOn ((wTwin 0).set F.TW_STATUS_state 1) = true := by decide
theorem wit_TwinFrames_send :
    let s := setTw (wTwin 1) { (wTwin 1).twin with dirty := [(0, 0)], txq := [⟨3, 5, 120, [120], 0, 0, .mirror [], 0, 1, 0⟩], bulk := some 0, sent := [(0, ⟨1, 1, 1, 0, true⟩)] }
    twOn s = true ∧ twMirrors s = true ∧ s.twin.linkLost = false ∧ twLanes s = [120, 121] ∧ dirtyPick s = some 0 ∧
      aget s.twin.sent 0 = some ⟨1, 1, 1, 0, true⟩ ∧
      s.twin.txq.find? (fun y => y.vc = 3 && y.seq = 5) = some ⟨3, 5, 120, [120], 0, 0, .mirror [], 0, 1, 0⟩ := by decide

theorem wit_TwinLines : let s := setTw (wTwin 0) { (wTwin 0).twin with keys := [(1, 1)] }
    recBad s ⟨0, 1, 1, 0, 0, 0, 5⟩ = false ∧ recBad s ⟨0, 1, 1, 3, 0, 0, 5⟩ = true ∧ keyKnown s 1 1 = true ∧
    tripleLt ((lineGet s 0).session, (lineGet s 0).key, (lineGet s 0).version) (1, 1, 1) = true ∧
    tripleLt ((lineGet s 0).session, (lineGet s 0).key, (lineGet s 0).version) (0, 0, 0) = false := by decide
theorem wit_TwinLines_full : let s := setTw (wTwin 0) { (wTwin 0).twin with keys := [(1, 1)] }
    tagOf s 1 1 0 1 5 = tagOf s 1 1 0 1 (5 % 2 ^ 512) ∧
      ∃ r : TwinRec, r.kind = 0 ∧ r.addr = 0 ∧ tagOf s 1 1 r.addr r.version (r.data % 2 ^ 512) ≠ r.tag ∧
        recBad s r = false :=
  ⟨rfl, ⟨0, 1, 1, 0, 0, 2 ^ 64, 5⟩, rfl, rfl, Nat.ne_of_lt (Nat.mod_lt _ (by decide)), by decide⟩
theorem wit_TwinLines_delta : let s := setTw (wTwin 0) { (wTwin 0).twin with keys := [(1, 1)], mirror := [(0, ⟨7, tagOf (wTwin 0) 1 1 0 1 7, infoOf 1 1 1 false⟩)] }
    let c := mergeBlocks 7 2 9
    (lineGet s 0).session = 1 ∧ (lineGet s 0).key = 1 ∧ (lineGet s 0).version = 1 ∧ (lineGet s 0).data = 7 ∧
      tagOf s 1 1 0 1 7 = (lineGet s 0).tag ∧ recBad s ⟨0, 2, 1, 1, 2, tagOf s 1 1 0 2 c, 9⟩ = false ∧
      (bits c 0 128 = 7 ∧ bits c 128 128 = 9) :=
  ⟨by decide, by decide, by decide, by decide, rfl, rfl, by decide⟩

theorem wit_TwinPairing :
    let u := (wTwin 0).setAll [(F.TW_STATUS_state, 1), (F.TW_STATUS_pair_step, 3)]
    let v := setTw u { u.twin with strap := true, waiting := true, tm := { u.twin.tm with wait := some 0 } }
    twOn u = true ∧ u.twin.edges = [] ∧ u.get F.TW_STATUS_pair_step ≠ 1 ∧ v.mode = Mode.standby ∧ v.get F.TW_STATUS_state ≤ 1 ∧
      v.twin.detached = false ∧ v.twin.strap = true ∧ v.twin.tm.wait = some 0 ∧ v.twin.linkLost = false ∧ v.twin.waiting = true ∧ twPaired u = false ∧
      u.get F.TW_STATUS_pair_step = 3 ∧ roleActive u = false ∧ u.flag F.TW_STATUS_role = false := by decide
theorem wit_TwinPairing_edges :
    let s := setTw (wTwin 0) { (wTwin 0).twin with edges := [0, 0, 0, 0, 0, 0] ++ [0] }
    twOn s = true ∧ s.now - 0 ≤ usToTk 5 ∧ s.twin.sbLost = false ∧ s.get F.TW_STATUS_pair_step ≠ 1 := by decide
theorem wit_TwinPairing_requests :
    let s := (wTwin 1).set F.TW_STATUS_peer_ready 1
    let t := (wTwin 1).set F.TW_STATUS_key_id 15
    twOn s = true ∧ s.flag F.TW_STATUS_role = true ∧ s.flag F.TW_STATUS_peer_ready = true ∧ twPaired s = true ∧
      s.twin.dirty = [] ∧ s.twin.txq = [] ∧ (wTwin 1).flag F.TW_STATUS_peer_ready = false ∧ twMirrors s = true ∧
      s.twin.rot = none ∧ twKey s < 14 ∧ twOn t = true ∧ twPaired t = true ∧ twKey t = 15 ∧ t.twin.agreed = false := by decide

theorem wit_Takeover :
    let s := (wTwin 0).setAll [(F.TW_STATUS_link_ok, 1), (F.TW_STATUS_sideband_ok, 1), (F.TW_STATUS_ready, 1)]
    let u := setTw (s.set F.TW_STATUS_state 5) { s.twin with takeAt := some (0, 1), converting := [3] }
    twOn s = true ∧ s.flag F.TW_STATUS_link_ok = true ∧ s.flag F.TW_STATUS_sideband_ok = true ∧ s.twin.sbLost = false ∧
      s.twin.linkLost = false ∧ twPaired s = true ∧ s.flag F.TW_STATUS_role = false ∧ s.flag F.TW_STATUS_ready = true ∧
      twPaired (wTwin 1) = true ∧ (wTwin 1).flag F.TW_STATUS_role = true ∧ (wTwin 1).mode = Mode.active ∧
      u.twin.takeAt = some (0, 1) ∧ u.get F.TW_STATUS_state = 5 ∧ u.mode = Mode.standby ∧
      u.twin.converting.contains 3 = true ∧ classLinesStale u 0 = true ∧
      ((wTwin 0).set F.TW_CFG_take_if_not_ready 0).flag F.TW_CFG_take_if_not_ready = false ∧
      ((wTwin 0).set F.TW_CFG_take_if_not_ready 0).flag F.TW_STATUS_ready = false := by decide

theorem wit_ModeRequests_ask : mayAsk (wAsk (w [(F.RST_MODE_mode, 3)])) .mgmt F.RST_MODE_REQ_req.addr 2 = true ∧
    mayAsk (wAsk (w [(F.RST_MODE_mode, 1)])) .regPort F.RST_MODE_REQ_req.addr 2 = true := by decide
theorem wit_ModeRequests : (Requester.mgmt ≠ .keeper) ∧
    modeReason (w [(F.RST_MODE_mode, 3)]) 1 = 0 ∧ (w [(F.RST_MODE_mode, 3)]).mode = Mode.doze ∧
    modeReason (w [(F.RST_MODE_mode, 4)]) 1 = 0 ∧ (w [(F.RST_MODE_mode, 4)]).mode = Mode.dormant ∧
    (w [(F.RST_MODE_mode, 4)]).modes.waking = none ∧ modeReason (w [(F.RST_MODE_mode, 1)]) 2 = 0 ∧
    modeReason (w [(F.RST_MODE_mode, 1)]) 3 = 0 ∧ modeReason (w [(F.RST_MODE_mode, 5)]) 1 ≠ 0 ∧
    inTransition (w [(F.RST_MODE_entering, 1)]) = true ∧ inTransition (w []) = false ∧ twPaired (wTwin 0) = true ∧
    twPaired (w [(F.CFG_PR_STATUS_state, 3)]) = false ∧ inTransition (wTwin 0) = false := by decide
theorem wit_ModeRequests_entry : let s := w [(F.RST_MODE_mode, 1), (F.RST_MODE_entering, 1)]
    s.flag F.RST_MODE_entering = true ∧ entryReady s = true ∧ s.modes.heldWake = none := by decide
theorem wit_ModeRequests_wake :
    let s := w ((F.RST_MODE_mode, 4) :: (List.range 32).map (fun g => (F.LFT_GRP_STATUS_power g, 1)))
    let s := setModes s { s.modes with waking := some (1, 5) }
    s.modes.waking = some (1, 5) ∧ s.modes.shelvesUp = false ∧ s.modes.deferred = [] ∧ s.mode = Mode.dormant ∧
      (∀ g, g < 32 → s.flag (F.LFT_GRP_STATUS_failed g) = false → s.get (F.LFT_GRP_STATUS_power g) = 1) := by decide

theorem wit_DeviceResets : State.reset.modes.por = true ∧ State.reset.pins.porstN = true ∧
    latchValid (setThm State.reset { State.reset.thm with latch := [0, 0, 0, 0x10000] }) = true ∧
    latchValid (vbakLost State.reset) = false ∧ ({ State.reset.pins with porstN := false } : Pins).porstN = false ∧
    (let s := setModes State.reset { State.reset.modes with por := false }
     s.modes.por = false ∧ s.pins.porstN = true ∧ s.pins.thermN = true ∧ s.led.erasing = none ∧ s.warm = false ∧ s.modes.wdLast = none ∧
      s.flag F.RST_MODE_entering = false ∧ s.modes.waking = none ∧ s.sec.burn = none ∧
      lcDecode (s.sec.fuses.contains 0) (s.sec.fuses.contains 1) (s.sec.fuses.contains 2) ≠ Lc.ret ∧ s.sec.fuses.contains 3 = false ∧ s.mode = Mode.load ∧ s.cfg.load = none ∧
      { s.pins with porstN := false }.porstN = false ∧ (setModes s { s.modes with wdLast := some 0 }).now ≤ 0 + secTk) := by
  decide

theorem wit_PartResets :
    let s := setModes (w [(F.RST_MODE_mode, 1)]) { State.reset.modes with por := false }
    let t := setBin s 5 { s.bin 5 with rst := true }
    s.flag F.RST_MODE_entering = false ∧ s.modes.waking = none ∧ s.warm = false ∧ s.modes.por = false ∧
      s.modes.shelfRst.contains 1 = false ∧ s.modes.deadDies.contains 1 = false ∧ s.spr.sub = none ∧
      (w [(F.RST_MODE_entering, 1)]).flag F.RST_MODE_entering = true ∧ ({ s with warm := true } : State).warm = true ∧
      s.pins.porstN = true ∧ (t.bin 5).rst = true ∧ binHeld t 5 = false ∧
      binHeld (setModes t { t.modes with shelfRst := [0] }) 5 = true ∧
      (setModes s { s.modes with shelfRst := [1], deadDies := [2] }).modes.deadDies.contains (1 + 1) = true ∧
      s.clk.moves.any (fun x => x.forced && x.mux = 100 + 2) = false ∧
      (s.set (F.LN_GRP_STATUS_held 2) 1).flag (F.LN_GRP_STATUS_held 2) = true ∧
      (setModes s { s.modes with shelfRst := [1], lgrpRst := [2] }).modes.shelfRst.contains 1 = true ∧
      (setModes s { s.modes with shelfRst := [1], lgrpRst := [2] }).modes.lgrpRst.contains 2 = true ∧
      s.flag (F.LN_GRP_STATUS_held 2) = false := by decide

/-- The management port's buffer holds opcode `op` with payload byte `n` in life-cycle state `lc`; every compared value is 0. -/
def wSec (lc op n : Nat) (more : List (Fld × Nat)) : State :=
  let s := wRaw ([(F.SEC_LC_state, lc), (F.ID_UID_LO_uid_lo, 0), (F.ID_UID_HI_uid_hi, 0), (F.SEC_LC_owner_prog, ofBool (lc ≠ 0)),
    ((F.SEC_CMD_DATA_data 0).copy 2, op), ((F.SEC_CMD_DATA_data 35).copy 2, n)] ++ more
    ++ (List.range 8).map (fun i => (F.SEC_CMD_NONCE_nonce i, 0)))
  { s with sec := { s.sec with owners := [(0, signerHash State.reset 2)] } }
theorem wit_OwnerCommands_ask : mayAsk (wAsk (wSec 0 1 0 [])) .mgmt F.SEC_CMD_GO_go.addr 2 = true ∧
    mayAsk (wAsk (wSec 0 1 0 [])) .keeper F.SEC_CMD_GO_go.addr 2 = true := by decide
theorem wit_OwnerCommands_go :
    bufBytes (wAsk (wSec 0 1 0 [])) 2 0 2 = 1 ∧ bufBytes (wAsk (wSec 1 6 4 [])) 2 0 2 = 6 ∧
      bufBytes (wAsk (wSec 1 8 0 [])) 2 0 2 = 8 ∧ bufBytes (wAsk (wSec 1 9 5 [])) 2 0 2 = 9 ∧
      (wAsk (wSec 0 1 0 [])).flag (F.SEC_CMD_STATUS_busy.copy 2) = false ∧ reqNum .mgmt = 2 ∧
      (wSec 0 1 0 []).sec.advances = [] ∧ fuseReady (wSec 0 1 0 []) 1 true = false ∧
      fuseReady (wSec 0 1 0 [(F.THM_WINDOW_fuse_ok, 1)]) 1 true = true := by decide
theorem wit_OwnerCommands_runs :
    let s := wSec 1 8 0 [(F.THM_WINDOW_fuse_ok, 1), (F.LED_STATUS_window, 1), (F.SEC_LC_return_begun, 1)]
    let u := setSec s { s.sec with advances := [(0, 3)] }
    let b : Burn := ⟨2, 2, [0], 1, [1], 3, false, false⟩
    s.sec.burn = none ∧ s.sec.advances = [] ∧ (setSec s { s.sec with pending := some b }).sec.pending = some b ∧ fuseReady s 2 true = true ∧
      u.sec.advances = [(0, 3)] ∧ u.sec.pending = none ∧ fuseReady u 11 true = true ∧ returnPending s = true ∧
      fuseReady s 3 true = true ∧ burnBits s b ≠ [] ∧ b.bits = [1] ∧ 3 ≤ b.tries ∧ b.port ≠ 0 ∧
      burnBits (setSec s { s.sec with fuses := [1] }) b = [] := by decide

theorem wit_SecurityAccess :
    (w [(F.SEC_DBG_STATUS_open, 1)]).flag F.SEC_DBG_STATUS_open = true ∧ (w []).flag F.SEC_DBG_STATUS_open = false ∧
    mayAsk (wAsk (w [])) .mgmt F.SEC_ATT_CMD_go.addr 2 = true ∧ (w []).lc = Lc.maker ∧ (w [(F.SEC_LC_state, 1)]).lc = Lc.owned ∧ (w [(F.SEC_LC_state, 2)]).lc = Lc.field ∧
    (w [(F.SEC_LC_state, 2)]).flag F.SEC_DBG_STATUS_open = false ∧ (w [(F.RST_MODE_mode, 1)]).mode ≠ Mode.load ∧
    (w [(F.SEC_ATT_STATUS_busy.copy 2, 1)]).flag (F.SEC_ATT_STATUS_busy.copy (reqNum .mgmt)) = true ∧
    10 < bufBytes (w [((F.SEC_CMD_DATA_data 0).copy 2, 77)]) 2 0 2 ∧
    (w []).flag (F.SEC_CMD_STATUS_busy.copy 2) = false ∧ Requester.mgmt ≠ .keeper := by decide

/-- A ledger entry of no particular record. -/
def wEntry (crit : Bool) : LedEntry := ⟨crit, false, 0, 0, ⟨0, 1, 2, 3, 4, 5⟩, [], []⟩
theorem wit_LedgerQueue :
    let q := List.replicate 192 (wEntry false)
    q.length ≤ 256 ∧ (q.filter (fun x => !x.crit)).length ≤ 192 ∧ (ledQueueIn q (wEntry false)).2 = some (wEntry false) ∧
      (∃ x ∈ q, x.crit = false) ∧ (wEntry true).crit = true ∧
      ({ (w []) with led := { (w []).led with appending := some (wEntry true) } } : State).led.appending = some (wEntry true) ∧
      ({ (w []) with led := { (w []).led with erasing := some 3 } } : State).led.erasing = some 3 ∧
      (w []).get (F.LED_ERASE_erases 3) < 99999 := by
  refine ⟨by decide, by decide, by decide, ⟨wEntry false, by simp , rfl⟩, by decide, by decide, by decide, by decide⟩
theorem wit_LedgerQueue_full :
    let q := List.replicate 256 (wEntry true)
    q.length ≤ 256 ∧ (q.filter (fun x => !x.crit)).length ≤ 192 ∧ ledQueueIn q (wEntry true) = (q, some (wEntry true)) := by
  decide

theorem wit_SparesAndWear :
    let s := w [(F.RST_MODE_mode, 1), (F.FAB_BIN_STATUS_kind 5, 1), (F.LFT_GRP_STATUS_power 0, 1), (F.LN_STATUS_state 9, 9),
      (F.SPR_FOM_baseline 9, 99), (F.SPR_CFG2_ce_thr, 1)]
    let x : SubRun := ⟨17, 17, 128, 0, true⟩
    let u := setSpr s { s.spr with sub := some x, worn := [3], ce := [3, 35], ceHigh := [3], fom := [(9, (23, false))] }
    (binKind s 5 = Kind.static) ∧ s.mode ≠ Mode.dormant ∧ s.mode ≠ Mode.load ∧
      s.get F.SPR_CFG_canary_warn ≤ 60 ∧ 10 < s.get F.SPR_CFG_canary_retire ∧ s.flag (F.FAB_BIN_STATUS_retired 5) = false ∧
      u.spr.sub = some x ∧ x.old ≠ x.spare ∧ aget s.spr.wires 7 = none ∧ s.get (F.LFT_GRP_STATUS_power 0) = 1 ∧
      s.flag F.SPR_BANK_COPY_busy = false ∧ u.spr.worn = [3] ∧ s.get (F.LFT_GRP_STATUS_spare_for 0) = 0x3F ∧
      (u.set F.SPR_BANK_COPY_busy 1).flag F.SPR_BANK_COPY_busy = true ∧ s.lane 9 = Ln.up ∧ aget s.spr.fom 9 = none ∧
      aget u.spr.fom 9 = some (23, false) ∧ 60 + u.get F.SPR_CFG2_fom_drop ≤ u.get (F.SPR_FOM_baseline 9) ∧
      s.spr.worn.contains 3 = false ∧ u.spr.ceHigh.contains 3 = true ∧ s.spr.ceHigh.contains 3 = false := by decide

/-- A state whose event unit runs and holds one record of severity 4 from source 5. -/
def wEv (l : List (Fld × Nat)) : State := { w l with ev := ⟨[⟨0, 5, 1, 4, 0, 7⟩], 3, [⟨0, 5, 1, 4, 0, 7⟩], true, 0, 0, 0⟩ }
theorem wit_EventUnit :
    let r : EvRec := ⟨0, 5, 1, 4, 0, 7⟩
    State.reset.ev.running = false ∧ (wEv []).ev.running = true ∧ (wEv []).warm = false ∧ (wEv []).ev.inq = [r] ∧
      evMasked (wEv [(F.EV_SRC_MASK_mask 0, 32)]) r = true ∧ evMasked (wEv []) r = false ∧
      (wEv [(F.EV_CFG_port_sev, 5)]).get F.EV_CFG_ring_sev ≤ 4 ∧ 4 < (wEv [(F.EV_CFG_port_sev, 5)]).get F.EV_CFG_port_sev ∧
      (wEv []).get F.EV_WR_index < 4096 ∧ (wEv [(F.EV_STATUS_unacked, 4096)]).get F.EV_STATUS_unacked = 4096 ∧
      4 < (wEv [(F.EV_CFG_ring_sev, 5)]).get F.EV_CFG_ring_sev ∧ (wEv [(F.EV_CFG_ring_sev, 5)]).get F.EV_CFG_port_sev ≤ 4 ∧
      (wEv []).ev.port.length < 256 ∧ (wEv []).ev.kpUnacked < 4096 ∧ 4096 ≤ ({ wEv [] with ev := { (wEv []).ev with kpUnacked := 4096 } }).ev.kpUnacked := by decide
theorem wit_EventUnit_full : 256 ≤ (List.replicate 256 (⟨0, 5, 1, 4, 0, 7⟩ : EvRec)).length := by simp
theorem wit_EventUnit_ack :
    let s := { wEv [(F.EV_WR_index, 3), (F.EV_STATUS_unacked, 3)] with modes := { Modes.reset with por := false } }
    mgmtUp s = true ∧ keeperUp s = true ∧ keeperUp State.reset = false ∧ 3 = s.get F.EV_WR_index ∧ 2 ≠ s.get F.EV_WR_index ∧
      (2 + 4096 - s.get F.EV_ACK_index) % 4096 < s.get F.EV_STATUS_unacked ∧
      (2 + 4096 - s.get F.EV_KP_ACK_index) % 4096 < s.ev.kpUnacked ∧ 9 ≠ s.get F.EV_WR_index ∧
      s.get F.EV_STATUS_unacked ≤ (9 + 4096 - s.get F.EV_ACK_index) % 4096 ∧
      s.ev.kpUnacked ≤ (9 + 4096 - s.get F.EV_KP_ACK_index) % 4096 ∧
      s.ev.port = ⟨0, 5, 1, 4, 0, 7⟩ :: [] ∧ State.reset.ev.port = [] := by decide

/-- A state whose register port runs on bin 3, static. -/
def wRegPort (l : List (Fld × Nat)) : State :=
  let s := w ([(F.EV_RP_CFG_enable, 1), (F.EV_RP_CFG_reg_bin, 3), (F.FAB_MAP_physical 3, 3), (F.FAB_BIN_STATUS_kind 3, 1),
    (F.BIN_SEQ_STATUS_state 3, 3), (F.RST_MODE_mode, 1)] ++ l)
  { s with modes := { s.modes with por := false } }
theorem wit_Ports :
    let s := wRegPort []
    mgmtUp State.reset = false ∧ mgmtUp s = true ∧ addrOk 0x800010 = true ∧ gateStops s 0x800010 = false ∧
      addrOk 0x60001 = false ∧ regPortUp State.reset = false ∧ regPortUp s = true ∧ blockOf 0x60004 = none ∧
      portRight s 0x800010 = some 1 ∧ portRight (wRegPort [(F.EV_RP_PERM_perm, 0)]) 0x800010 = some 0 ∧
      regPortUp (wRegPort [(F.EV_RP_PERM_perm, 0)]) = true ∧ s.get F.EV_RP_CNT_denied < 65535 ∧
      s.get F.EV_CFG_alert_sev < 8 ∧ s.get F.EV_CFG_ring_sev < 8 ∧ s.get F.EV_CFG_port_sev < 8 ∧
      s.get F.EV_CNT_lost < 2 ^ 16 ∧ s.get F.EV_CNT_overrun < 2 ^ 16 ∧ (⟨0, 0, true⟩ : WriteFacts).ok = true := by
  decide
theorem wit_Ports_foreign :
    let s := wRegPort [(F.EV_RP_PERM_perm, 2 ^ 27)]
    let u := s.set F.EV_RP_STATUS_outstanding 1
    (rowsFor 0x80000c .mgmt).any (fun r => r.changes s .mgmt 0x80000c 1 && !mayWrite s .mgmt 0x80000c r) = true ∧
      (rowsFor 0x80000c .regPort).any (fun r => r.changes u .regPort 0x80000c 1 && !mayWrite u .regPort 0x80000c r) = true ∧
      portRight s 0x80000c = some 2 ∧ regPortUp s = true ∧ mayAsk s .mgmt 0x80000c 2 = true ∧
      mayAsk s .regPort F.THM_HEAD_CFG_step_t.addr 2 = false ∧ portRight s F.THM_HEAD_CFG_step_t.addr = some 0 := by decide
theorem wit_Ports_asked :
    let s := wRegPort [(F.EV_RP_PERM_perm, 2 ^ 7)]
    mayAsk s .regPort F.THM_HEAD_CFG_step_t.addr 2 = true ∧ mayAsk State.reset .keeper 0 2 = false ∧
      judgeWrite s .regPort F.THM_HEAD_CFG_step_t.addr 3 = .ok ∧ gateStops s F.THM_HEAD_CFG_step_t.addr = false ∧
      (rowsFor F.THM_HEAD_CFG_step_t.addr .regPort).any (mayWrite s .regPort F.THM_HEAD_CFG_step_t.addr) = true ∧
      mayAsk s .mgmt 0x60001 1 = true ∧ keeperUp s = true ∧ mgmtUp s = true := by decide

theorem wit_StepRunsFront : State.reset.pending = [] ∧ State.reset.modes.por = true ∧ State.reset.pins.porstN = true ∧
    (setModes State.reset { State.reset.modes with por := false }).modes.por = false ∧ State.reset.mode = Mode.load ∧
    (w [(F.RST_MODE_mode, 1)]).mode ≠ Mode.load ∧ (w [(F.RST_MODE_mode, 1)]).mode ≠ Mode.safe := by decide

theorem wit_SettledKept : (Instr.warmReset).wf = true ∧ (Instr.binReset 300).wf = false := by decide
end

section
/-! The scope family (O51, O57, O60): the power-on reset, a request of the register port that its own count loses, and the
resets of parts with their releases. -/

namespace Sys2Proof.Machine

/-! ### Power-on reset (R13, R32, R477) -/

/-- After a power-on reset every register reads its reset value (R13). -/
@[simp] theorem State.get_reset (f : Fld) : State.reset.get f = f.reset := rfl

/-- The ring of a device fresh from reset holds no record, so nothing alerts (R477). -/
theorem alertLow_reset : alertLow State.reset = false := by decide

/-- The signals agree with the state that a power-on reset leaves. -/
theorem settled_reset : Settled State.reset where
  alertPin := by rw [alertLow_reset]; rfl
  alertFlag := by rw [alertLow_reset]; rfl
  armed := rfl
  outputs := rfl
  pps := by decide
  position := by decide

/-- Settles O60: the registers read their reset values since none is listed, and the other fields are those of
`State.reset`. -/
theorem resetLeaves : Obligations.ResetLeaves :=
  ⟨rfl, rfl, rfl, rfl, rfl, rfl, rfl, fun _ _ => rfl, State.get_reset, by decide, rfl, settled_reset⟩

/-! ### The register port (R486, R487, R488) -/

/-- A request outside every block is answered with err; when the port's bin no longer counts as running once the request
is outstanding, the request stays outstanding. -/
theorem portRequest_outside_lost {s : State} {a tag out need : Nat} {serve : State → State}
    (hup : regPortUp s = true) (hout : out < 8) (ha : blockOf a = none)
    (hlost : regPortUp (respond (s.set F.EV_RP_STATUS_outstanding (out + 1)) 0 true false tag) = false) :
    portRequest s a tag out need serve
      = respond (s.set F.EV_RP_STATUS_outstanding (out + 1)) 0 true false tag := by
  have hr : portRight (s.set F.EV_RP_STATUS_outstanding (out + 1)) a = none := by simp [portRight, ha]
  have h8 : ¬ 8 ≤ out := by omega
  simp [portRequest, hup, h8, hr, hlost]

/-- A state in which EV_RP_CFG.reg_bin holds 0xDC03A, more than its 8 bits: the FAB_MAP entry of that number would lie at
the address of EV_RP_STATUS, so the count of outstanding requests, here 3, also names the port's physical bin. Of the
bins, only bin 3 is static and runs. -/
def regBinBeyondMap : State :=
  { State.reset with
    flds := [((F.FAB_BIN_STATUS_kind 3).key, Kind.static), ((F.BIN_SEQ_STATUS_state 3).key, Seq.run),
      (F.EV_RP_CFG_reg_bin.key, 0xDC03A), (F.EV_RP_CFG_enable.key, 1), (F.EV_RP_STATUS_outstanding.key, 3)]
    modes := { Modes.reset with por := false } }

/-- With one request outstanding, that entry names bin 1, which does not run, and the port is down. -/
theorem regBinBeyondMap_read_lost (serve : State → State) : portRequest regBinBeyondMap 0x60000 0 0 1 serve
    = respond (regBinBeyondMap.set F.EV_RP_STATUS_outstanding 1) 0 true false 0 :=
  portRequest_outside_lost (by decide) (by decide) (by decide) (by decide)

/-- Refutes O57: a register-port request outside every block is said to leave as many outstanding as before it. In
`regBinBeyondMap`, whose reg_bin exceeds its 8 bits, the count that the request itself raises moves the port to a bin
that does not run, and the request stays outstanding. The statement ranges over every state and has no hypothesis that
reg_bin fits its width. -/
theorem not_ports : ¬ Obligations.Ports := by
  unfold Obligations.Ports
  intro h
  obtain ⟨_, _, _, hport, _⟩ := h regBinBeyondMap
  obtain ⟨_, _, houtside, _⟩ :=
    hport 0x60000 0 0 0 ⟨0, 0, true⟩ (by decide) (by decide) (by decide) (by decide) rfl
  obtain ⟨t, ht, _, hkept⟩ := houtside (by decide) (by decide) (by decide) (.regportRead 0x60000 0 0) (.inl rfl)
  obtain ⟨_, rfl⟩ := checked_next (.regportRead 0x60000 0 0) _ t ht
  rw [settle_get _ _ (by decide) (by decide), regBinBeyondMap_read_lost] at hkept
  exact absurd hkept (by decide)

/-! ### Bin records, folds and the registers that a reset of rows spares -/

/-- A fold whose steps keep a view keeps it. -/
theorem foldl_view {α β : Type} (v : State → α) (f : State → β → State) (l : List β) (s : State)
    (h : ∀ t, ∀ x ∈ l, v (f t x) = v t) : v (l.foldl f s) = v s := by
  induction l generalizing s with
  | nil => rfl
  | cons x l ih =>
    rw [List.foldl_cons, ih _ fun t y hy => h t y (List.mem_cons_of_mem x hy), h s x List.mem_cons_self]

@[simp] theorem State.bin_setBin_same (s : State) (p : Nat) (b : BinRun) : (setBin s p b).bin p = b := by
  simp [State.bin, setBin, aget_aset_same]

theorem State.bin_setBin_ne (s : State) (p q : Nat) (b : BinRun) (h : q ≠ p) : (setBin s p b).bin q = s.bin q := by
  simp [State.bin, setBin, aget_aset_ne _ _ _ _ h]

theorem State.bin_of_bins (s t : State) (h : t.bins = s.bins) (p : Nat) : t.bin p = s.bin p := by
  simp [State.bin, h]

/-- A keyed list of which only entries with certain keys are kept answers as before at such a key. -/
theorem aget_filter_key {α : Type} (q : Nat → Bool) (l : List (Nat × α)) (k : Nat) (h : q k = true) :
    aget (l.filter (fun e => q e.1)) k = aget l k := by
  induction l with
  | nil => rfl
  | cons e l ih =>
    by_cases hk : e.1 = k
    · subst hk
      simp [aget, h]
    · by_cases hq : q e.1 = true
      · simpa [aget, hq, hk] using ih
      · simpa [aget, hq, hk] using ih

/-- A register that no row of the reset holds keeps its value. -/
theorem State.get_resetRows (s : State) (p : RegRow → Bool) (f : Fld)
    (h : (regRows.filter p).any (fun r => r.hits (f.key / 32 % 2 ^ 32)
      && (r.fld (f.key / 32 % 2 ^ 32)).lo = f.key % 32) = false) :
    (resetRows s p).get f = s.get f := by
  unfold State.get fread resetRows
  rw [aget_filter_key (fun k => !(regRows.filter p).any (fun r => r.hits (k / 32 % 2 ^ 32)
      && (r.fld (k / 32 % 2 ^ 32)).lo = k % 32)) s.flds f.key (by rw [h]; rfl)]

/-! ### What holds the parts in reset -/

/-- The mode, the shelves held in reset, the dies without a heartbeat, and the bins held in reset (R405, R411). -/
structure Holds where
  mode : Nat
  shelves : List Nat
  dead : List Nat
  rst : Nat → Bool

def State.holds (s : State) : Holds := ⟨s.mode, s.modes.shelfRst, s.modes.deadDies, fun q => (s.bin q).rst⟩

/-- A write of another register than RST_MODE.mode leaves them. -/
theorem State.holds_set (s : State) (f : Fld) (v : Nat) (h : f.key ≠ F.RST_MODE_mode.key) :
    (s.set f v).holds = s.holds := by
  have hm : (s.set f v).mode = s.mode := s.get_set_ne _ _ _ h.symm
  simp [State.holds, hm, State.bin]

/-- The registers of the bins and the scheduler lie above RST_MODE in the map. -/
theorem Fld.key_ne_mode (f : Fld) (h : 0x21000 < f.addr) : f.key ≠ F.RST_MODE_mode.key := by
  simp only [Fld.key, F.RST_MODE_mode]
  omega

theorem State.holds_set_above (s : State) (f : Fld) (v : Nat) (h : 0x21000 < f.addr) :
    (s.set f v).holds = s.holds := s.holds_set f v (f.key_ne_mode h)

theorem State.holds_setAll_above (s : State) (l : List (Fld × Nat)) (h : ∀ x ∈ l, 0x21000 < x.1.addr) :
    (s.setAll l).holds = s.holds :=
  foldl_view State.holds _ l s fun t x hx => t.holds_set_above x.1 x.2 (h x hx)

theorem State.holds_bump_above (s : State) (f : Fld) (n : Nat) (h : 0x21000 < f.addr) :
    (s.bump f n).holds = s.holds := s.holds_set_above f _ h

theorem raise_holds (s : State) (a b c d : Nat) : (raise s a b c d).holds = s.holds :=
  raise_blind (p := State.holds)
    ⟨fun s f v hf => s.holds_set f v fun he => absurd (he ▸ hf) (by decide), fun _ _ => rfl, fun _ _ => rfl⟩ s a b c d

theorem setBin_holds (s : State) (p : Nat) (b : BinRun) :
    (setBin s p b).holds = { s.holds with rst := fun q => if q = p then b.rst else s.holds.rst q } := by
  have hrst : (fun q => ((setBin s p b).bin q).rst) = fun q => if q = p then b.rst else (s.bin q).rst := by
    funext q
    by_cases h : q = p
    · rw [if_pos h, h, State.bin_setBin_same]
    · rw [if_neg h, State.bin_setBin_ne _ _ _ _ h]
  exact congrArg (fun r => { s.holds with rst := r }) hrst

/-- A change of a bin's record that is not of its reset leaves them. -/
theorem setBin_holds_same (s : State) (p : Nat) (b : BinRun) (h : b.rst = (s.bin p).rst) :
    (setBin s p b).holds = s.holds := by
  have hrst : (fun q => if q = p then b.rst else s.holds.rst q) = s.holds.rst := by
    funext q
    by_cases hq : q = p
    · rw [if_pos hq, hq]
      exact h
    · rw [if_neg hq]
  exact (setBin_holds s p b).trans (congrArg (fun r => { s.holds with rst := r }) hrst)

/-! A bin's kill, its items and its gate touch none of it (R152, R179, R97). -/

theorem closeGate_holds (s : State) (p : Nat) (hp : p < 264) : (closeGate s p).holds = s.holds := by
  have hle : p ≤ 263 := by omega
  have hkey : (F.CLK_GATE_EN_open p).key ≠ F.RST_MODE_mode.key := by
    simp only [Fld.key, F.CLK_GATE_EN_open, F.RST_MODE_mode]
    omega
  simp only [closeGate, hle, if_true]
  exact (State.holds_set_above _ _ _ (Nat.lt_add_right _ (by decide))).trans (State.holds_set _ _ _ hkey)

theorem gateRecheck_holds (s : State) (p : Nat) (hp : p < 264) : (gateRecheck s p).holds = s.holds := by
  unfold gateRecheck
  split
  · exact closeGate_holds s p hp
  · rfl

theorem setSlot_holds (s : State) (p k st : Nat) : (setSlot s p k st).holds = s.holds := by
  unfold setSlot
  split <;> exact State.holds_set_above _ _ _ (Nat.lt_add_right _ (by decide))

theorem slotFree_holds (s : State) (p k : Nat) (hp : p < 264) : (slotFree s p k).holds = s.holds :=
  (gateRecheck_holds _ p hp).trans <| (setSlot_holds _ p k 0).trans <| setBin_holds_same _ p _ rfl

theorem unbind_holds (s : State) (i : Item) (hi : i.bin < 264) : (unbind s i).holds = s.holds := by
  unfold unbind unslot
  split
  · exact slotFree_holds _ _ _ hi
  · rfl

theorem unbindAll_holds (s : State) (p : Nat) (hp : p < 264) : (unbindAll s p).holds = s.holds := by
  refine foldl_view State.holds _ _ s fun t i hi => unbind_holds t i ?_
  obtain ⟨_, hbin⟩ : i ∈ s.sch.items ∧ i.st = .bound ∧ i.bin = p := by simpa using hi
  omega

theorem setHatch_holds (s : State) (p : Nat) (l : List HatchCmd) : (setHatch s p l).holds = s.holds :=
  (State.holds_set_above _ _ _ (Nat.lt_add_right _ (by decide))).trans (setBin_holds_same s p _ rfl)

theorem toggleGen_holds (s : State) (p : Nat) : (toggleGen s p).holds = s.holds := by
  unfold toggleGen
  extract_lets s1 b s2
  have h1 : s1.holds = s.holds := State.holds_set_above _ _ _ (Nat.lt_add_right _ (by decide))
  have h2 : s2.holds = s1.holds := setBin_holds_same _ _ _ rfl
  rw [setHatch_holds, h2, h1]

theorem countRaise_holds (s : State) (f : Fld) (a b c d : Nat) (h : 0x21000 < f.addr) :
    (countRaise s f a b c d).holds = s.holds := by
  unfold countRaise raiseOnce
  split
  · exact State.holds_bump_above _ _ _ h
  · exact (raise_holds _ _ _ _ _).trans (State.holds_bump_above s _ _ h)

theorem reissue_holds (s : State) (i : Item) : (reissue s i).holds = s.holds := by
  unfold reissue
  dsimp only
  split
  · exact countRaise_holds _ _ _ _ _ _ (Nat.lt_add_right _ (by decide))
  · exact countRaise_holds _ _ _ _ _ _ (Nat.lt_add_right _ (by decide))

theorem loadPause_holds (s : State) (p : Nat) (i : Item) : (loadPause s p i).holds = s.holds := by
  unfold loadPause
  split
  · rfl
  · exact setBin_holds_same _ _ _ rfl

theorem addRunTk_holds (s : State) (p n : Nat) : (addRunTk s p n).holds = s.holds :=
  (State.holds_set_above _ (F.BIN_RUN_TK_HI_ticks_hi p) _ (Nat.lt_add_right _ (by decide))).trans <|
  State.holds_set_above _ (F.BIN_RUN_TK_LO_ticks_lo p) _ (Nat.lt_add_right _ (by decide))

theorem killInfo_holds (s : State) (p a b c : Nat) :
    (s.setAll [(F.BIN_KILL_INFO_class p, a), (F.BIN_KILL_INFO_reason p, b), (F.BIN_KILL_SEQ_seq p, c)]).holds
      = s.holds := by
  refine s.holds_setAll_above _ fun x hx => ?_
  simp only [List.mem_cons, List.not_mem_nil, or_false] at hx
  rcases hx with rfl | rfl | rfl <;> exact Nat.lt_add_right _ (by decide)

theorem killItem_holds (s : State) (p : Nat) (i : Item) (hp : p < 264) : (killItem s p i 2).holds = s.holds := by
  unfold killItem
  extract_lets b s1 s2 s3 b' s4 s5 s6 s7 s8
  have h1 : s1.holds = s.holds := addRunTk_holds _ _ _
  have h2 : s2.holds = s1.holds :=
    (killInfo_holds _ _ _ _ _).trans (State.holds_bump_above _ _ _ (Nat.lt_add_right _ (by decide)))
  have h3 : s3.holds = s2.holds := raise_holds _ _ _ _ _
  have h4 : s4.holds = s3.holds := setBin_holds_same _ _ _ rfl
  have h5 : s5.holds = s4.holds := toggleGen_holds _ _
  have h6 : s6.holds = s5.holds := State.holds_set_above _ _ _ (Nat.lt_add_right _ (by decide))
  have h7 : s7.holds = s6.holds := loadPause_holds _ _ _
  have h8 : s8.holds = s7.holds := slotFree_holds _ _ _ hp
  rw [if_pos rfl, reissue_holds, h8, h7, h6, h5, h4, h3, h2, h1]

theorem killRun_holds (s : State) (p : Nat) (hp : p < 264) : (killRun s p).holds = s.holds := by
  unfold killRun
  split
  · exact killItem_holds s p _ hp
  · rfl

/-- The registers that a BIN reset clears all lie in the Bins block. -/
theorem clearBinFields_holds (s : State) (p : Nat) : (clearBinFields s p).holds = s.holds := by
  refine s.holds_setAll_above _ fun x hx => ?_
  simp only [List.mem_cons, List.not_mem_nil, or_false] at hx
  rcases hx with rfl | rfl | rfl | rfl | rfl | rfl | rfl | rfl | rfl | rfl | rfl <;>
    exact Nat.lt_add_right _ (by decide)

/-! ### BIN resets (R13, R128, R179, R405) -/

theorem loadInitial_holds (s : State) (p c : Nat) : (loadInitial s p c).holds = s.holds :=
  setBin_holds_same _ _ _ rfl

/-- The state in which a BIN reset of `p` marks the bin: its item is killed or its generation toggled, its registers
are cleared, and the register port it held has nothing outstanding. -/
def binResetCleared (s : State) (p : Nat) : State :=
  let s := rstBegin s (64 + p)
  let s := clearBinFields (if (runItem s p).isSome then killRun s p else toggleGen s p) p
  if holdsRegPort s p then s.set F.EV_RP_STATUS_outstanding 0 else s

theorem binResetQuiet_eq (s : State) (p : Nat) :
    ∃ c, binResetQuiet s p = loadInitial (setBin (binResetCleared s p) p { (binResetCleared s p).bin p with
      rst := true, initAt := none, was := none, use := none, item := none }) p c := ⟨_, rfl⟩

theorem binResetCleared_holds (s : State) (p : Nat) (hp : p < 264) : (binResetCleared s p).holds = s.holds := by
  unfold binResetCleared
  extract_lets s1 s2
  have h2 : s2.holds = s.holds := by
    unfold s2
    rw [clearBinFields_holds]
    split
    · exact killRun_holds s1 p hp
    · exact toggleGen_holds s1 p
  split
  · exact (State.holds_set_above _ _ _ (by decide)).trans h2
  · exact h2

/-- A bin that a BIN reset takes is in reset and has no item. -/
theorem binResetQuiet_bin (s : State) (p : Nat) :
    ((binResetQuiet s p).bin p).rst = true ∧ ((binResetQuiet s p).bin p).item = none := by
  obtain ⟨c, h⟩ := binResetQuiet_eq s p
  simp [h, loadInitial]

/-- A BIN reset holds its bin and changes nothing else that is held. -/
theorem binResetQuiet_holds (s : State) (p : Nat) (hp : p < 264) :
    (binResetQuiet s p).holds = { s.holds with rst := fun q => if q = p then true else s.holds.rst q } := by
  obtain ⟨c, h⟩ := binResetQuiet_eq s p
  rw [h, loadInitial_holds, setBin_holds, binResetCleared_holds s p hp]

/-- The bins of `l` are reset and their bound items return to WAITING: each is held, and nothing else changes. -/
theorem binsReset_holds (l : List Nat) (s : State) (hl : ∀ p ∈ l, p < 264) :
    (l.foldl (fun t p => unbindAll (binResetQuiet t p) p) s).holds
      = { s.holds with rst := fun q => decide (q ∈ l) || s.holds.rst q } := by
  induction l generalizing s with
  | nil => simp
  | cons p l ih =>
    have hp : p < 264 := hl p List.mem_cons_self
    rw [List.foldl_cons, ih _ fun q hq => hl q (List.mem_cons_of_mem p hq), unbindAll_holds _ _ hp,
      binResetQuiet_holds _ _ hp]
    have hmem : (fun q => decide (q ∈ l) || if q = p then true else s.holds.rst q)
        = fun q => decide (q ∈ p :: l) || s.holds.rst q := by
      funext q
      by_cases hq : q = p <;> simp [hq]
    exact congrArg (fun r => { s.holds with rst := r }) hmem

/-- Bin `p` belongs to the shelf that `shelfOf` names. -/
theorem mem_shelfBins {h p : Nat} (hp : p < 264) (hs : shelfOf p = h) : p ∈ shelfBins h := by
  unfold shelfOf at hs
  split at hs <;> subst hs
  · exact List.mem_map.2 ⟨p, by simpa, by simp⟩
  · exact List.mem_map.2 ⟨p - 132, by simp; omega, by omega⟩

theorem lt_of_mem_shelfBins {h p : Nat} (hh : h < 2) (hp : p ∈ shelfBins h) : p < 264 := by
  obtain ⟨k, hk, rfl⟩ := List.mem_map.1 hp
  have := List.mem_range.1 hk
  omega

theorem channelsClear_holds (s : State) (h : Nat) : (channelsClear s h).holds = s.holds := rfl
theorem rstBegin_holds (s : State) (k : Nat) : (rstBegin s k).holds = s.holds := rfl
theorem setModes_holds (s : State) (m : Modes) :
    (setModes s m).holds = { s.holds with shelves := m.shelfRst, dead := m.deadDies } := rfl

/-- A SHELF reset of a shelf that is not held holds the shelf and its bins; the mode stays (R405). -/
theorem shelfReset_holds (s : State) (h : Nat) (hh : h < 2) (hs : s.modes.shelfRst.contains h = false) :
    (shelfReset s h).holds = { s.holds with
      shelves := nins h s.modes.shelfRst, rst := fun q => decide (q ∈ shelfBins h) || s.holds.rst q } := by
  unfold shelfReset
  rw [hs, if_neg Bool.false_ne_true]
  extract_lets s1 m s2
  have h1 : s1.holds = s.holds := raise_holds _ _ _ _ _
  have hm : s1.modes = s.modes := raise_modes _ _ _ _ _
  rw [binsReset_holds _ _ fun p hp => lt_of_mem_shelfBins hh hp, channelsClear_holds, rstBegin_holds, setModes_holds,
    h1]
  simp only [m, hm]
  rfl

/-- An upper shelf die without a heartbeat is in reset with its bins (R411). -/
theorem heartbeatLoss_shelf_holds (s : State) (d : Nat) (h1 : 1 ≤ d) (h3 : d < 3)
    (hd : s.modes.deadDies.contains d = false) :
    (heartbeatLoss s d).holds = { s.holds with
      dead := nins d s.modes.deadDies, rst := fun q => decide (q ∈ shelfBins (d - 1)) || s.holds.rst q } := by
  have hne : d ≠ 3 := by omega
  unfold heartbeatLoss
  rw [hd, if_neg Bool.false_ne_true]
  extract_lets m s1
  have hs1 : (channelsClear s1 (d - 1)).holds = { s.holds with dead := nins d s.modes.deadDies } := rfl
  rw [if_neg hne, binsReset_holds _ _ fun p hp => lt_of_mem_shelfBins (by omega) hp, hs1]

theorem contains_nins (k : Nat) (l : List Nat) : (nins k l).contains k = true := by
  induction l with
  | nil => simp [nins]
  | cons a l ih =>
    unfold nins
    split
    · simp
    · split
      · next h => simp [h]
      · simpa using Or.inr (by simpa using ih)

/-- Settling changes none of it. -/
theorem settle_holds (s : State) : (settle s).holds = s.holds := by
  have hm : (settle s).mode = s.mode := settle_get s _ (by decide) (by decide)
  simp [State.holds, hm, State.bin]

/-! ### The Loft die (R411) -/

theorem get_power_groupOff (s : State) (j g : Nat) :
    (groupOff s j).get (F.LFT_GRP_STATUS_power g) = if j = g then 0 else s.get (F.LFT_GRP_STATUS_power g) := by
  have hflds : (groupOff s j).get (F.LFT_GRP_STATUS_power g)
      = (s.set (F.LFT_GRP_STATUS_power j) 0).get (F.LFT_GRP_STATUS_power g) := rfl
  rw [hflds]
  split
  · next h => rw [h, State.get_set_same]; rfl
  · next h =>
    refine State.get_set_ne _ _ _ _ ?_
    simp only [Fld.key, F.LFT_GRP_STATUS_power]
    omega

/-- Groups that are switched off in turn are all OFF. -/
theorem get_power_foldl_groupOff (l : List Nat) (s : State) (g : Nat)
    (h : g ∈ l ∨ s.get (F.LFT_GRP_STATUS_power g) = 0) :
    (l.foldl groupOff s).get (F.LFT_GRP_STATUS_power g) = 0 := by
  induction l generalizing s with
  | nil => simpa using h
  | cons j l ih =>
    rw [List.foldl_cons]
    refine ih _ ?_
    rw [get_power_groupOff]
    by_cases hj : j = g
    · simp [hj]
    · simpa [hj, Ne.symm hj] using h

/-- The Loft's die loses its heartbeat: it is in reset and every bank group is OFF. -/
theorem heartbeatLoss_loft (s : State) (hd : s.modes.deadDies.contains 3 = false) :
    (heartbeatLoss s 3).modes.deadDies = nins 3 s.modes.deadDies
      ∧ ∀ g, g < 32 → (heartbeatLoss s 3).get (F.LFT_GRP_STATUS_power g) = 0 := by
  unfold heartbeatLoss
  rw [hd, if_neg Bool.false_ne_true]
  extract_lets m s1
  rw [if_pos rfl]
  exact ⟨foldl_view (fun t : State => t.modes.deadDies) groupOff _ s1 fun _ _ _ => rfl,
    fun g hg => get_power_foldl_groupOff _ _ _ (.inl (List.mem_range.2 hg))⟩

/-! ### WARM resets (R407) -/

/-! Whether the event unit runs is not changed by an event. -/

theorem evIn_running (s : State) (r : EvRec) : (evIn s r).ev.running = s.ev.running := by
  unfold evIn
  dsimp only
  split <;> rfl

theorem evOnly_running (s : State) (a b c d : Nat) : (evOnly s a b c d).ev.running = s.ev.running := by
  unfold evOnly
  split
  · rfl
  · exact evIn_running _ _

theorem ledKick_ev (s : State) : (ledKick s).ev = s.ev := by
  unfold ledKick
  dsimp only
  repeat' split
  all_goals rfl

theorem ledDeferral_running (s : State) : (ledDeferral s).ev.running = s.ev.running := by
  unfold ledDeferral
  split
  · rfl
  · exact evOnly_running _ _ _ _ _

theorem ledEnqueue_running (s : State) (e : LedEntry) : (ledEnqueue s e).ev.running = s.ev.running := by
  unfold ledEnqueue
  split
  · rfl
  · extract_lets e r l s1 s2
    have h2 : s2.ev.running = s.ev.running := ledDeferral_running s1
    split
    · rw [ledKick_ev, h2]
    · rw [ledKick_ev, evOnly_running]
      exact h2

theorem raise_running (s : State) (a b c d : Nat) : (raise s a b c d).ev.running = s.ev.running := by
  unfold raise raiseCrit raiseLed
  extract_lets r crit r' s1
  have h1 : s1.ev.running = s.ev.running := evIn_running _ _
  split
  · split
    · exact ledEnqueue_running _ _
    · rfl
  · split
    · rw [ledEnqueue_running, h1]
    · exact h1

/-- The registers as a WARM reset clears them, with the reset counted. -/
def warmRegs (s : State) : State := (resetRows s (fun r => r.clr == .warm)).bump F.RST_WARM_CNT_count 1

/-- A WARM reset leaves the mode and adds itself to RST_WARM_CNT, neither of which it clears (R13). -/
theorem warmRegs_get (s : State) :
    (warmRegs s).mode = s.mode
      ∧ (warmRegs s).get F.RST_WARM_CNT_count = min 65535 (s.get F.RST_WARM_CNT_count + 1) := by
  have hmode : (resetRows s (fun r => r.clr == .warm)).mode = s.mode := s.get_resetRows _ _ (by decide +kernel)
  have hcnt : (resetRows s (fun r => r.clr == .warm)).get F.RST_WARM_CNT_count = s.get F.RST_WARM_CNT_count :=
    s.get_resetRows _ _ (by decide +kernel)
  constructor
  · exact (State.get_set_ne _ _ _ _ (by decide)).trans hmode
  · rw [warmRegs, State.get_bump_same, hcnt, satNat, Nat.min_comm]
    rfl

theorem settle_alertN (s : State) : (settle s).pins.alertN = !alertLow s := rfl

/-- What WARM holds: the event unit without its queues, the management port, the alert, the PTP exchange and the
keeper's trap (R407). -/
def warmHeld (s : State) : State :=
  let s := warmRegs s
  { s with
    warm := true, ev := ⟨[], 0, [], false, 0, 0, 0⟩, ports := { s.ports with mgmt := [] }, pins := { s.pins with alertN := true }
    tb := { s.tb with ptpSent := none, exch := ⟨none, none, none⟩ }, loft := { s.loft with keeperTrap := none } }

theorem warmReset_eq (s : State) (cause : Nat) (hw : s.warm = false) (hp : s.modes.por = false) :
    warmReset s cause = raise (warmHeld s) 1021 0x43 5 cause := by
  unfold warmReset
  rw [hw, hp, if_neg (by decide)]
  rfl

/-- A register that neither the record of the WARM reset nor `settle` writes is as WARM leaves it. -/
theorem get_settle_warmHeld (s : State) (a b c d : Nat) (f : Fld) (hk : f.key ∉ evKeys)
    (ha : f.key ≠ F.EV_STATUS_alert.key) (hb : f.key ≠ F.TB_TRG_STATUS_armed.key) :
    (settle (raise (warmHeld s) a b c d)).get f = (warmRegs s).get f :=
  (settle_get _ f ha hb).trans (raise_get (warmHeld s) f _ _ _ _ hk)

/-- During WARM nothing alerts. -/
theorem alertLow_warm (s : State) (h : s.warm = true) : alertLow s = false := by simp [alertLow, h]

/-- The state that a WARM reset outside WARM leaves (R407). -/
theorem settle_warmReset {s t : State} {cause : Nat} (hw : s.warm = false) (hp : s.modes.por = false)
    (ht : t = settle (warmReset s cause)) :
    t.warm = true ∧ t.ports.mgmt = [] ∧ t.ev.running = false ∧ t.pins.alertN = true ∧ t.mode = s.mode ∧
      t.loft = { s.loft with keeperTrap := none } ∧ t.sch = s.sch ∧
      t.get F.RST_WARM_CNT_count = min 65535 (s.get F.RST_WARM_CNT_count + 1) := by
  obtain ⟨hmode, hcnt⟩ := warmRegs_get s
  rw [warmReset_eq s cause hw hp] at ht
  subst ht
  have hwarm : (raise (warmHeld s) 1021 0x43 5 cause).warm = true := raise_warm _ _ _ _ _
  refine ⟨?_, ?_, ?_, ?_, ?_, ?_, ?_, ?_⟩
  · rw [settle_warm, hwarm]
  · rw [settle_ports, raise_ports]
    rfl
  · rw [settle_ev, raise_running]
    rfl
  · rw [settle_alertN, alertLow_warm _ hwarm]
    rfl
  · exact (get_settle_warmHeld _ _ _ _ _ F.RST_MODE_mode (by decide) (by decide) (by decide)).trans hmode
  · rw [settle_loft, raise_loft]
    rfl
  · rw [settle_sch, raise_sch]
    rfl
  · exact (get_settle_warmHeld _ _ _ _ _ F.RST_WARM_CNT_count (by decide) (by decide) (by decide)).trans hcnt

/-! ### Releases (R131, R153, R154, R262, R405) -/

@[simp] theorem rstHeld_flds (s : State) (k d : Nat) : (rstHeld s k d).flds = s.flds := by
  unfold rstHeld
  split <;> rfl
@[simp] theorem rstHeld_bins (s : State) (k d : Nat) : (rstHeld s k d).bins = s.bins := by
  unfold rstHeld
  split <;> rfl
@[simp] theorem rstHeld_modes (s : State) (k d : Nat) : (rstHeld s k d).modes = s.modes := by
  unfold rstHeld
  split <;> rfl
@[simp] theorem rstHeld_clk (s : State) (k d : Nat) : (rstHeld s k d).clk = s.clk := by
  unfold rstHeld
  split <;> rfl

@[simp] theorem rstHeld_get (s : State) (k d : Nat) (f : Fld) : (rstHeld s k d).get f = s.get f :=
  State.get_of_flds _ _ (rstHeld_flds s k d) f
@[simp] theorem rstHeld_bin (s : State) (k d p : Nat) : (rstHeld s k d).bin p = s.bin p :=
  State.bin_of_bins _ _ (rstHeld_bins s k d) p

/-- A reset that began at tick `b` has lasted its minimum. -/
theorem rstHeld_now {s : State} {k b : Nat} (d : Nat) (h : aget s.modes.rstAt k = some b) :
    (rstHeld s k d).now = max s.now (b + d) := by
  rw [rstHeld, h]
  exact State.atNow_now s (b + d)

@[simp] theorem repairMark_flds (s : State) (p c : Nat) : (repairMark s p c).flds = s.flds := by
  unfold repairMark
  dsimp only
  split <;> rfl
@[simp] theorem repairMark_bins (s : State) (p c : Nat) : (repairMark s p c).bins = s.bins := by
  unfold repairMark
  dsimp only
  split <;> rfl

/-- A static bin in reset that may be released enters start_ctx, where words may await repair (R362). -/
def binEntered (s : State) (p : Nat) : State :=
  if binKind s p = Kind.static then repairMark s p (s.get (F.BIN_CTX_CFG_start_ctx p)) else s

theorem binEntered_flds (s : State) (p : Nat) : (binEntered s p).flds = s.flds := by
  unfold binEntered
  split
  · exact repairMark_flds _ _ _
  · rfl

theorem binEntered_bin (s : State) (p : Nat) : (binEntered s p).bin p = s.bin p := by
  refine State.bin_of_bins _ _ ?_ p
  unfold binEntered
  split
  · exact repairMark_bins _ _ _
  · rfl

/-- Bin `p` is out of reset with the initial values of the context it starts in. -/
def binInitial (s : State) (p : Nat) : State :=
  let s := setBin s p { s.bin p with rst := false }
  if binKind s p = Kind.static then
    let c := s.get (F.BIN_CTX_CFG_start_ctx p)
    loadInitial ((s.set (F.FAB_BIN_STATUS_ctx p) c).set (F.BIN_SEQ_STATUS_ctx p) c) p c
  else s

/-- The state in which bin `p` has left reset. -/
def binReleased (s : State) (p : Nat) : State :=
  if (binInitial s p).seqSt p = Seq.off then binInitial s p
  else (binInitial s p).set (F.BIN_SEQ_STATUS_state p) (if staticUp (binInitial s p) p then Seq.run else Seq.idle)

/-- A bin in reset stays in it while something holds it, and leaves it otherwise. -/
theorem binResetEnd_eq {s : State} {p : Nat} (h : (s.bin p).rst = true) :
    binResetEnd s p = if binHeld (binEntered s p) p then binEntered s p else binReleased (binEntered s p) p := by
  have hrst : ((binEntered s p).bin p).rst = true := by rw [binEntered_bin, h]
  have hent : (if (s.bin p).rst && binKind s p = Kind.static then
      repairMark s p (s.get (F.BIN_CTX_CFG_start_ctx p)) else s) = binEntered s p := by
    simp [h, binEntered]
  unfold binResetEnd
  rw [hent]
  simp only [hrst, Bool.not_true, Bool.false_or]
  rfl

theorem binInitial_rst (s : State) (p : Nat) : ((binInitial s p).bin p).rst = false := by
  unfold binInitial
  extract_lets b s1 c
  split
  · rw [loadInitial, State.bin_setBin_same]
    show (s1.bin p).rst = false
    simp [s1]
  · simp [s1]

theorem binInitial_now (s : State) (p : Nat) : (binInitial s p).now = s.now := by
  unfold binInitial
  dsimp only
  split <;> rfl

/-- The two registers that show the context of bin `p` are the only ones its initial values change. -/
theorem binInitial_get (s : State) (p : Nat) (f : Fld) (h1 : f.key ≠ (F.FAB_BIN_STATUS_ctx p).key)
    (h2 : f.key ≠ (F.BIN_SEQ_STATUS_ctx p).key) : (binInitial s p).get f = s.get f := by
  unfold binInitial
  dsimp only
  split
  · exact (State.get_set_ne _ _ _ _ h2).trans (State.get_set_ne _ _ _ _ h1)
  · rfl

/-- A static bin starts in start_ctx. -/
theorem binInitial_ctx {s : State} {p : Nat} (h : binKind s p = Kind.static) :
    (binInitial s p).get (F.BIN_SEQ_STATUS_ctx p) = s.get (F.BIN_CTX_CFG_start_ctx p) % 8 := by
  unfold binInitial
  extract_lets b s1 c
  have hs1 : binKind s1 p = Kind.static := h
  rw [if_pos hs1]
  exact State.get_set_same _ _ _

/-- A static bin is up when its start_ctx holds an image, no other bin is. -/
theorem binInitial_staticUp (s : State) (p : Nat) :
    staticUp (binInitial s p) p = (binKind s p = Kind.static
      && (s.get (F.BIN_CTX_CFG_ctx_loaded p)).testBit (s.get (F.BIN_CTX_CFG_start_ctx p) % 8)) := by
  have hkind : binKind (binInitial s p) p = binKind s p :=
    binInitial_get s p _ (by simp [Fld.key, F.FAB_BIN_STATUS_kind, F.FAB_BIN_STATUS_ctx])
      (by simp only [Fld.key, F.FAB_BIN_STATUS_kind, F.BIN_SEQ_STATUS_ctx]; omega)
  have hloaded : (binInitial s p).get (F.BIN_CTX_CFG_ctx_loaded p) = s.get (F.BIN_CTX_CFG_ctx_loaded p) :=
    binInitial_get s p _ (by simp only [Fld.key, F.BIN_CTX_CFG_ctx_loaded, F.FAB_BIN_STATUS_ctx]; omega)
      (by simp only [Fld.key, F.BIN_CTX_CFG_ctx_loaded, F.BIN_SEQ_STATUS_ctx]; omega)
  unfold staticUp
  rw [hkind, binInitial_rst, hloaded]
  by_cases hk : binKind s p = Kind.static
  · simp [hk, binInitial_ctx hk]
  · simp [hk]

theorem binInitial_seqSt (s : State) (p : Nat) : (binInitial s p).seqSt p = s.seqSt p :=
  binInitial_get s p _ (by simp only [Fld.key, F.BIN_SEQ_STATUS_state, F.FAB_BIN_STATUS_ctx]; omega)
    (by simp [Fld.key, F.BIN_SEQ_STATUS_state, F.BIN_SEQ_STATUS_ctx])

theorem binReleased_now (s : State) (p : Nat) : (binReleased s p).now = s.now := by
  unfold binReleased
  split <;> exact binInitial_now s p

theorem binReleased_rst (s : State) (p : Nat) : ((binReleased s p).bin p).rst = false := by
  unfold binReleased
  split <;> exact binInitial_rst s p

theorem binReleased_ctx {s : State} {p : Nat} (h : binKind s p = Kind.static) :
    (binReleased s p).get (F.BIN_SEQ_STATUS_ctx p) = s.get (F.BIN_CTX_CFG_start_ctx p) % 8 := by
  unfold binReleased
  split
  · exact binInitial_ctx h
  · rw [State.get_set_ne _ _ _ _ (by simp [Fld.key, F.BIN_SEQ_STATUS_state, F.BIN_SEQ_STATUS_ctx]), binInitial_ctx h]

/-- A released bin that was OFF stays OFF; a static one whose start_ctx holds an image runs, any other is IDLE. -/
theorem binReleased_seqSt (s : State) (p : Nat) :
    (binReleased s p).seqSt p = if s.seqSt p = Seq.off then Seq.off
      else if binKind s p = Kind.static
        && (s.get (F.BIN_CTX_CFG_ctx_loaded p)).testBit (s.get (F.BIN_CTX_CFG_start_ctx p) % 8)
      then Seq.run else Seq.idle := by
  unfold binReleased
  rw [binInitial_seqSt, binInitial_staticUp]
  split
  · next h => rw [binInitial_seqSt, h]
  · rw [State.seqSt, State.get_set_same]
    split <;> rfl

/-- Registers of the first 264 bins are not among those that `settle` writes. -/
theorem settle_get_seq (s : State) (p : Nat) (hp : p < 264) :
    (settle s).seqSt p = s.seqSt p ∧ (settle s).get (F.BIN_SEQ_STATUS_ctx p) = s.get (F.BIN_SEQ_STATUS_ctx p) := by
  constructor <;> refine settle_get s _ ?_ ?_ <;>
    simp only [Fld.key, F.BIN_SEQ_STATUS_state, F.BIN_SEQ_STATUS_ctx, F.EV_STATUS_alert, F.TB_TRG_STATUS_armed] <;>
    omega

theorem vcoPassage_modes_now (s : State) (g : Nat) :
    (vcoPassage s g).modes = s.modes ∧ (vcoPassage s g).now = s.now := by
  unfold vcoPassage
  split
  · exact ⟨rfl, rfl⟩
  · dsimp only
    split
    · exact ⟨rfl, rfl⟩
    · split
      · exact ⟨rfl, rfl⟩
      · exact ⟨raiseCrit_modes _ _ _ _ _ _, raiseCrit_now _ _ _ _ _ _⟩

theorem groupLanesOn_modes_now (s : State) (g : Nat) :
    (groupLanesOn s g).modes = s.modes ∧ (groupLanesOn s g).now = s.now := by
  refine ⟨foldl_view (·.modes) _ _ s fun t l _ => ?_, foldl_view (·.now) _ _ s fun t l _ => ?_⟩ <;> split <;> rfl

/-- A lane group that nothing holds leaves reset, and neither the clock nor the other groups' resets change (R262). -/
theorem lgrpResetEnd_released {s : State} {g : Nat} (hr : s.modes.lgrpRst.contains g = true)
    (hh : s.flag (F.LN_GRP_STATUS_held g) = false)
    (hm : s.clk.moves.any (fun x => x.forced && x.mux = 100 + g) = false) :
    (lgrpResetEnd s g).modes.lgrpRst = ndel s.modes.lgrpRst g ∧ (lgrpResetEnd s g).now = s.now := by
  unfold lgrpResetEnd
  rw [hr, hh, hm, if_neg (by decide)]
  extract_lets m s1 s2
  obtain ⟨hmodes, hnow⟩ := vcoPassage_modes_now s1 g
  obtain ⟨hmodes', hnow'⟩ := groupLanesOn_modes_now s2 g
  split
  · exact ⟨congrArg Modes.lgrpRst (hmodes'.trans hmodes), hnow'.trans hnow⟩
  · exact ⟨congrArg Modes.lgrpRst hmodes, hnow⟩

/-- A lane group that something holds stays in reset. -/
theorem lgrpResetEnd_held {s : State} {g : Nat} (h : s.flag (F.LN_GRP_STATUS_held g) = true
    ∨ s.clk.moves.any (fun x => x.forced && x.mux = 100 + g) = true) : lgrpResetEnd s g = s := by
  unfold lgrpResetEnd
  rcases h with h | h <;> simp only [h, Bool.or_true, Bool.true_or, if_true]

/-! ### The commands of the resets (R405, R408, R411) -/

/-- Outside a DORMANT entry, a wake and a reset of the device, a part is reset at once. -/
theorem resetRequest_now {s : State} (k n : Nat) (he : s.flag F.RST_MODE_entering = false)
    (hw : s.modes.waking = none) (hp : s.modes.por = false) (hn : s.pins.porstN = true) :
    resetRequest s k n = partReset s (k, n) := by
  simp [resetRequest, he, hw, hp, hn]

/-- During a DORMANT entry the reset waits. -/
theorem resetRequest_entering {s : State} (k n : Nat) (he : s.flag F.RST_MODE_entering = true)
    (hp : s.modes.por = false) (hn : s.pins.porstN = true) :
    resetRequest s k n = setModes s { s.modes with deferred := s.modes.deferred ++ [(k, n)] } := by
  simp [resetRequest, he, hp, hn]

theorem exec_warmReset (s : State) : exec .warmReset s = .next (settle (resetRequest s 1 0)) :=
  (show exec .warmReset s = execWarmReset s from rfl).trans (checked_wf .warmReset _ rfl)

theorem exec_shelfReset (s : State) {h : Nat} (hh : h < 2) :
    exec (.shelfReset h) s = .next (settle (resetRequest s 2 h)) := checked_wf _ _ (by simpa [Instr.wf] using hh)

theorem exec_binReset (s : State) {l : Nat} (hl : l < 256) :
    exec (.binReset l) s = .next (settle (resetRequest s 3 l)) := checked_wf _ _ (by simpa [Instr.wf] using hl)

theorem exec_lgrpReset (s : State) {g : Nat} (hg : g < 16) :
    exec (.lgrpReset g) s = .next (settle (resetRequest s 4 g)) := checked_wf _ _ (by simpa [Instr.wf] using hg)

theorem exec_shelfReset_now {s : State} {h : Nat} (he : s.flag F.RST_MODE_entering = false)
    (hw : s.modes.waking = none) (hp : s.modes.por = false) (hn : s.pins.porstN = true) (hh : h < 2) :
    exec (.shelfReset h) s = .next (settle (shelfReset s h)) := by
  have hpart : partReset s (2, h) = shelfReset s h := by simp [partReset]
  rw [exec_shelfReset s hh, resetRequest_now 2 h he hw hp hn, hpart]

theorem settle_shelfReset {s t : State} {h : Nat} (hh : h < 2) (hs : s.modes.shelfRst.contains h = false)
    (ht : t = settle (shelfReset s h)) :
    t.modes.shelfRst.contains h = true ∧ (∀ p, p < 264 → shelfOf p = h → (t.bin p).rst = true) ∧ t.mode = s.mode := by
  have hholds : t.holds = _ := ht ▸ (settle_holds (shelfReset s h)).trans (shelfReset_holds s h hh hs)
  have hshelves : t.modes.shelfRst = nins h s.modes.shelfRst := congrArg Holds.shelves hholds
  have hrst : ∀ p, (t.bin p).rst = (decide (p ∈ shelfBins h) || (s.bin p).rst) :=
    congrFun (congrArg Holds.rst hholds)
  refine ⟨?_, fun p hp hps => ?_, congrArg Holds.mode hholds⟩
  · rw [hshelves, contains_nins]
  · rw [hrst, decide_eq_true (mem_shelfBins hp hps), Bool.true_or]

theorem exec_binReset_now {s : State} {l : Nat} (he : s.flag F.RST_MODE_entering = false)
    (hw : s.modes.waking = none) (hp : s.modes.por = false) (hn : s.pins.porstN = true) (hl : l < 256)
    (hs : s.modes.shelfRst.contains (shelfOf (physOf s l)) = false) :
    exec (.binReset l) s = .next (settle (binResetStart s (physOf s l) 1)) := by
  have hbin : partReset s (3, l) = binResetStart s (physOf s l) 1 := by
    show binReset s l = _
    rw [binReset, hs, if_neg Bool.false_ne_true]
  rw [exec_binReset s hl, resetRequest_now 3 l he hw hp hn, hbin]

theorem exec_warmResetEnd {s : State} {us : List (Nat × Upset)} {aborted : Nat}
    (hus : us.all (fun x => decide (x.1 < 262144)) = true) (hw : s.warm = true) :
    exec (.warmResetEnd us aborted) s = .next (settle (
      let u := sramStrike s us
      if fwIntact u = true then
        { (u.setLoft { u.loft with sram := u.loft.sram.filter (fun x => 8 * x.1 < fwBytes u),
                                   bgPoison := u.loft.bgPoison.filter (fun x => x.1 ≠ 2 || 8 * x.2 < fwBytes u) }).set
            F.EV_WR_next_seq 0 with warm := false, ev := { u.ev with running := true } }
      else keeperFatal u aborted)) := by
  refine (checked_wf (.warmResetEnd us aborted) _ hus).trans ?_
  unfold warmEnd
  rw [hw]
  cases h : fwIntact (sramStrike s us) <;> simp only [h] <;> rfl

theorem exec_binResetRelease {s : State} {p : Nat} (hp : p < 264) (hr : (s.bin p).rst = true) :
    exec (.binResetRelease p) s = .next (settle (binResetEnd (rstHeld s (64 + p) 8) p)) := by
  refine (checked_wf _ _ (by simpa [Instr.wf] using hp)).trans ?_
  rw [hr, if_pos rfl]

/-- A release of bin `p` that reaches its minimum acts on the state that enters the bin. -/
theorem exec_binResetRelease_eq {s u : State} {p : Nat} (hp : p < 264) (hr : (s.bin p).rst = true)
    (hu : u = binEntered (rstHeld s (64 + p) 8) p) :
    exec (.binResetRelease p) s = .next (settle (if binHeld u p then u else binReleased u p)) := by
  rw [exec_binResetRelease hp hr, binResetEnd_eq ((congrArg BinRun.rst (rstHeld_bin s _ _ p)).trans hr), hu]

theorem exec_binResetRelease_free {s u : State} {p : Nat} (hp : p < 264) (hr : (s.bin p).rst = true)
    (hu : u = binEntered (rstHeld s (64 + p) 8) p) (hh : binHeld u p = false) :
    ∃ t, exec (.binResetRelease p) s = .next t ∧ t.now = u.now ∧ (t.bin p).rst = false
      ∧ (binKind s p = Kind.static → t.get (F.BIN_SEQ_STATUS_ctx p) = s.get (F.BIN_CTX_CFG_start_ctx p) % 8)
      ∧ t.seqSt p = (if s.seqSt p = Seq.off then Seq.off
          else if binKind s p = Kind.static && (s.get (F.BIN_CTX_CFG_ctx_loaded p)).testBit (s.get (F.BIN_CTX_CFG_start_ctx p) % 8)
            then Seq.run else Seq.idle) := by
  have hget : ∀ f, u.get f = s.get f := fun f => State.get_of_flds _ _
    ((congrArg State.flds hu).trans ((binEntered_flds _ p).trans (rstHeld_flds s _ _))) f
  have hkind : binKind u p = binKind s p := hget _
  have hseq : u.seqSt p = s.seqSt p := hget _
  have hst := settle_get_seq (binReleased u p) p hp
  refine ⟨_, exec_binResetRelease_eq hp hr hu, ?_⟩
  rw [hh, if_neg Bool.false_ne_true]
  refine ⟨?_, ?_, fun hk => ?_, ?_⟩
  · rw [settle_now, binReleased_now]
  · rw [State.bin_of_bins _ _ (settle_bins _), binReleased_rst]
  · rw [hst.2, binReleased_ctx (hkind.trans hk), hget]
  · rw [hst.1, binReleased_seqSt, hseq, hkind, hget, hget]

theorem exec_shelfResetRelease {s : State} {h : Nat} (hh : h < 2) (hr : s.modes.shelfRst.contains h = true) :
    exec (.shelfResetRelease h) s = .next (settle (shelfRelease (rstHeld s h 16) h)) := by
  refine (checked_wf _ _ (by simpa [Instr.wf] using hh)).trans ?_
  rw [hr, if_pos rfl]

/-- A substitution whose spare lies on shelf `h` starts over (R454). -/
def subAgain (s : State) (h : Nat) : State :=
  match s.spr.sub with
  | some x => if shelfOf x.spare = h then setSpr s { s.spr with sub := some { x with start := s.now, prep := false } } else s
  | none => s

theorem shelfRelease_alive {s : State} {h : Nat} (hr : s.modes.shelfRst.contains h = true)
    (hd : s.modes.deadDies.contains (1 + h) = false) :
    shelfRelease s h = subAgain ((shelfBins h).foldl binResetEnd
      (setModes s { s.modes with shelfRst := ndel s.modes.shelfRst h })) h := by
  unfold shelfRelease subAgain
  rw [hr, hd, if_neg (by decide)] <;>
    (dsimp only; generalize (shelfBins h).foldl binResetEnd _ = v; rfl)

/-- A shelf whose die has lost the heartbeat is not released (R411). -/
theorem shelfRelease_dead {s : State} {h : Nat} (hd : s.modes.deadDies.contains (1 + h) = true) :
    shelfRelease s h = s := by
  simp only [shelfRelease, hd, Bool.or_true, if_true]

theorem exec_lgrpResetRelease {s : State} {g : Nat} (hg : g < 16) (hr : s.modes.lgrpRst.contains g = true) :
    exec (.lgrpResetRelease g) s = .next (settle (lgrpResetEnd (rstHeld s (16 + g) (usToTk 1)) g)) := by
  refine (checked_wf _ _ (by simpa [Instr.wf] using hg)).trans ?_
  rw [hr, if_pos rfl]

theorem exec_cellarHeartbeatLoss (s : State) {d : Nat} (h1 : 1 ≤ d) (h3 : d ≤ 3) :
    exec (.cellarHeartbeatLoss d) s = .next (settle (heartbeatLoss s d)) :=
  checked_wf _ _ (by simp [Instr.wf, h1, h3])

theorem settle_heartbeatLoss_shelf {s t : State} {d : Nat} (h1 : 1 ≤ d) (h3 : d < 3)
    (hd : s.modes.deadDies.contains d = false) (ht : t = settle (heartbeatLoss s d)) :
    t.modes.deadDies.contains d = true ∧ ∀ p, p < 264 → shelfOf p + 1 = d → (t.bin p).rst = true := by
  have hholds : t.holds = _ := ht ▸ (settle_holds (heartbeatLoss s d)).trans (heartbeatLoss_shelf_holds s d h1 h3 hd)
  have hdead : t.modes.deadDies = nins d s.modes.deadDies := congrArg Holds.dead hholds
  have hrst : ∀ p, (t.bin p).rst = (decide (p ∈ shelfBins (d - 1)) || (s.bin p).rst) :=
    congrFun (congrArg Holds.rst hholds)
  refine ⟨?_, fun p hp hps => ?_⟩
  · rw [hdead, contains_nins]
  · rw [hrst, decide_eq_true (mem_shelfBins hp (by omega)), Bool.true_or]

theorem settle_heartbeatLoss_loft {s t : State} (hd : s.modes.deadDies.contains 3 = false)
    (ht : t = settle (heartbeatLoss s 3)) :
    t.modes.deadDies.contains 3 = true ∧ ∀ g, g < 32 → t.get (F.LFT_GRP_STATUS_power g) = 0 := by
  obtain ⟨hdead, hoff⟩ := heartbeatLoss_loft s hd
  subst ht
  refine ⟨?_, fun g hg => ?_⟩
  · rw [settle_modes, hdead, contains_nins]
  · refine (settle_get _ _ ?_ ?_).trans (hoff g hg) <;>
      simp only [Fld.key, F.LFT_GRP_STATUS_power, F.EV_STATUS_alert, F.TB_TRG_STATUS_armed] <;> omega

theorem exec_warmReset_now {s : State} (he : s.flag F.RST_MODE_entering = false)
    (hw : s.modes.waking = none) (hp : s.modes.por = false) (hn : s.pins.porstN = true) :
    exec .warmReset s = .next (settle (warmReset s 0)) := by
  have hpart : partReset s (1, 0) = warmReset s 0 := by simp [partReset]
  rw [exec_warmReset, resetRequest_now 1 0 he hw hp hn, hpart]

theorem exec_lgrpReset_now {s : State} {g : Nat} (he : s.flag F.RST_MODE_entering = false)
    (hw : s.modes.waking = none) (hp : s.modes.por = false) (hn : s.pins.porstN = true) (hg : g < 16) :
    exec (.lgrpReset g) s = .next (settle (lgrpResetStart s g 1)) := by
  have hpart : partReset s (4, g) = lgrpResetStart s g 1 := by simp [partReset]
  rw [exec_lgrpReset s hg, resetRequest_now 4 g he hw hp hn, hpart]

/-- A BIN reset leaves its bin in reset and without an item (R405). -/
theorem binResetStart_bin (s : State) (p cause : Nat) :
    (binResetStart s p cause).bin p = { (binResetStart s p cause).bin p with rst := true, item := none } := by
  obtain ⟨hrst, hitem⟩ := binResetQuiet_bin (raise s 1021 0x45 3 (p + cause * 512)) p
  show (binResetQuiet _ p).bin p = { (binResetQuiet _ p).bin p with rst := true, item := none }
  generalize (binResetQuiet (raise s 1021 0x45 3 (p + cause * 512)) p).bin p = b at hrst hitem
  rw [← hrst, ← hitem]

/-- Settles O51: what begins a reset of a part, what waits, and what each release does while something holds the part
and otherwise. -/
theorem partResets : Obligations.PartResets := by
  unfold Obligations.PartResets
  intro s
  refine ⟨fun he hw hp hn => ⟨?_, ?_, ?_, ?_⟩, fun he hp hn => ⟨?_, ?_, ?_, ?_⟩, ?_, ?_, ?_, ?_, ?_, ?_, ?_, ?_⟩
  · exact fun hwarm => ⟨_, exec_warmReset_now he hw hp hn, settle_warmReset hwarm hp rfl⟩
  · exact fun h hh hs => ⟨_, exec_shelfReset_now he hw hp hn hh, settle_shelfReset hh hs rfl⟩
  · exact fun l hl hs => exec_binReset_now he hw hp hn hl hs
  · exact fun g hg => exec_lgrpReset_now he hw hp hn hg
  · rw [exec_warmReset, resetRequest_entering 1 0 he hp hn]
  · intro h hh
    rw [exec_shelfReset s hh, resetRequest_entering 2 h he hp hn]
  · intro l hl
    rw [exec_binReset s hl, resetRequest_entering 3 l he hp hn]
  · intro g hg
    rw [exec_lgrpReset s hg, resetRequest_entering 4 g he hp hn]
  · rintro us aborted u hus hw rfl
    exact exec_warmResetEnd hus hw
  · exact binResetStart_bin s
  · intro p u hp hr hu
    have hent : u = binEntered (rstHeld s (64 + p) 8) p := by
      rw [hu, binEntered, binKind, binKind, rstHeld_get, rstHeld_get]
    refine ⟨fun hh => ?_, exec_binResetRelease_free hp hr hent⟩
    rw [exec_binResetRelease_eq hp hr hent, hh, if_pos rfl]
  · exact fun k d b hb => rstHeld_now d hb
  · intro h v hh hr hd hv
    rw [exec_shelfResetRelease hh hr, shelfRelease_alive (by rwa [rstHeld_modes]) (by rwa [rstHeld_modes]),
      rstHeld_modes, ← hv]
    rfl
  · intro h hh hr hd
    rw [exec_shelfResetRelease hh hr, shelfRelease_dead (by rwa [rstHeld_modes])]
  · intro g hg hr
    refine ⟨fun hh => ?_, fun hh hm => ⟨_, exec_lgrpResetRelease hg hr, ?_⟩⟩
    · rw [exec_lgrpResetRelease hg hr, lgrpResetEnd_held]
      simpa [State.flag] using hh
    · obtain ⟨hrst, hnow⟩ := lgrpResetEnd_released (s := rstHeld s (16 + g) (usToTk 1)) (g := g)
        (by rwa [rstHeld_modes]) (by rwa [State.flag, rstHeld_get]) (by rwa [rstHeld_clk])
      rw [settle_modes, settle_now, hrst, hnow, rstHeld_modes]
      exact ⟨rfl, rfl⟩
  · intro d h1 h3 hd
    refine ⟨_, exec_cellarHeartbeatLoss s h1 h3, ?_⟩
    rcases Nat.lt_or_eq_of_le h3 with h | rfl
    · obtain ⟨hdead, hrst⟩ := settle_heartbeatLoss_shelf h1 h hd rfl
      exact ⟨hdead, fun _ => hrst, fun he => absurd he (Nat.ne_of_lt h)⟩
    · obtain ⟨hdead, hoff⟩ := settle_heartbeatLoss_loft hd rfl
      exact ⟨hdead, fun hlt => absurd hlt (Nat.lt_irrefl 3), fun _ => hoff⟩

end Sys2Proof.Machine
end

section
/-! The stack and package family (O15): the words of the bin port, its hatch commands and their beats. -/

namespace Sys2Proof.Machine

/-! ### Bin records -/

/-- Of two records stored for a key the later stands. -/
theorem aset_aset {α : Type} (l : List (Nat × α)) (k : Nat) (a b : α) : aset (aset l k a) k b = aset l k b := by
  have hdel : ∀ m : List (Nat × α), adel (ains k a m) k = adel m k := by
    intro m
    induction m with
    | nil => simp [ains, adel]
    | cons x t ih =>
      unfold ains
      split
      · simp [adel]
      · simpa [adel, List.filter_cons] using congrArg (fun r => if x.1 = k then r else x :: r) ih
  rw [aset, aset, aset, hdel, adel, adel, List.filter_filter]
  simp

theorem setBin_setBin (s : State) (p : Nat) (a b : BinRun) : setBin (setBin s p a) p b = setBin s p b := by
  simp [setBin, aset_aset]

@[simp] theorem setBin_get (s : State) (p : Nat) (b : BinRun) (f : Fld) : (setBin s p b).get f = s.get f := rfl
@[simp] theorem setBin_now (s : State) (p : Nat) (b : BinRun) : (setBin s p b).now = s.now := rfl

/-! ### The words of the bin port (R134, R139, R140, R152) -/

theorem atWord_static {s : State} {p : Nat} (h : binKind s p = Kind.static) : atWord s p = s := by
  simp [atWord, h]

@[simp] theorem atWord_flds (s : State) (p : Nat) : (atWord s p).flds = s.flds := by
  unfold atWord
  split <;> rfl
@[simp] theorem atWord_bins (s : State) (p : Nat) : (atWord s p).bins = s.bins := by
  unfold atWord
  split <;> rfl
@[simp] theorem atWord_sch (s : State) (p : Nat) : (atWord s p).sch = s.sch := by
  unfold atWord
  split <;> rfl

@[simp] theorem atWord_get (s : State) (p : Nat) (f : Fld) : (atWord s p).get f = s.get f :=
  State.get_of_flds _ _ (atWord_flds s p) f
@[simp] theorem atWord_bin (s : State) (p q : Nat) : (atWord s p).bin q = s.bin q :=
  State.bin_of_bins _ _ (atWord_bins s p) q

/-- A bin's item depends on its record and on the scheduler's store. -/
theorem runItem_congr {s t : State} {p : Nat} (hi : (t.bin p).item = (s.bin p).item) (hs : t.sch = s.sch) :
    runItem t p = runItem s p := by
  have hf : findItem t = findItem s := by
    funext id
    simp only [findItem, hs]
  rw [runItem, runItem, hi, hf]

/-- A word that may act still may at the tick at which it acts: item tick 4 lies within the budget already. -/
theorem wordOk_atWord (s : State) (p : Nat) : wordOk (atWord s p) p = wordOk s p := by
  have hkind : binKind (atWord s p) p = binKind s p := atWord_get s p _
  by_cases h : binKind s p = Kind.static
  · rw [atWord_static h]
  · have htick : max 4 (itemTick (atWord s p) p) = max 4 (itemTick s p) := by
      have hnow : (atWord s p).now = max s.now ((s.bin p).start + 3) := by
        rw [atWord, if_neg h]
        exact State.atNow_now _ _
      simp only [itemTick, atWord_bin, hnow]
      omega
    rw [wordOk, wordOk, hkind, if_neg h, if_neg h, htick, atWord_bin, State.seqSt, State.seqSt, atWord_get]

/-- The state in which a word of bin `p` acts that is the first of its kind in its tick: marked with what it carries. -/
def wordMarked (s : State) (p : Nat) (mark : PortUse → PortUse) : State :=
  setBin (atWord s p) p { (atWord s p).bin p with use := some (mark (portUse (atWord s p) p)) }

section
variable {s : State} {p : Nat} {mark : PortUse → PortUse}

@[simp] theorem wordMarked_get (f : Fld) : (wordMarked s p mark).get f = s.get f := atWord_get s p f
@[simp] theorem wordMarked_now : (wordMarked s p mark).now = (atWord s p).now := rfl
@[simp] theorem wordMarked_sch : (wordMarked s p mark).sch = s.sch := atWord_sch s p
@[simp] theorem wordMarked_bin :
    (wordMarked s p mark).bin p = { s.bin p with use := some (mark (portUse (atWord s p) p)) } := by
  rw [wordMarked, State.bin_setBin_same, atWord_bin]

theorem wordMarked_binKind : binKind (wordMarked s p mark) p = binKind s p := wordMarked_get _

theorem wordMarked_runItem : runItem (wordMarked s p mark) p = runItem s p :=
  runItem_congr (by rw [wordMarked_bin]) wordMarked_sch

/-- The first word of its kind in a tick acts on the state marked with what it carries. -/
theorem onWord_first {busy : PortUse → Bool} {f : State → State} (hok : wordOk s p = true)
    (hfree : busy (portUse (atWord s p) p) = false) : onWord s p busy mark f = f (wordMarked s p mark) := by
  have hok' : wordOk (atWord s p) p = true := (wordOk_atWord s p).trans hok
  simp [onWord, hok, hfree, hok', wordMarked]

end

/-! ### Spawns and user events (R146, R148) -/

section
variable {s x : State} {p : Nat}

/-- An accepted spawn record joins the buffer of the running item. -/
theorem exec_spawn_accepted {r : Nat} {i : Item} (hp : p < 264) (hok : wordOk s p = true) (hr : r < 2 ^ 256)
    (hk : binKind s p = Kind.scheduled) (hi : runItem s p = some i)
    (hs : (portUse (atWord s p) p).spawn = false) (hw : (portUse (atWord s p) p).wr = false)
    (hroom : (s.bin p).buf.length < s.get (F.SCH_CLASS_CFG_max_succ i.cls))
    (hx : x = wordMarked s p (fun u => { u with spawn := true })) :
    exec (.spawn p r) s = .next (settle ((setBin x p { x.bin p with buf := (s.bin p).buf ++ [r] }).set
      (F.BIN_ITEM_CLASS_spawns p) ((s.bin p).buf.length + 1))) := by
  have hwf : (Instr.spawn p r).wf = true := by simp only [Instr.wf, hp, hr, decide_true, Bool.and_self]
  refine (checked_wf _ _ hwf).trans ?_
  rw [onWord_first hok (by simp [hs, hw]), ← hx]
  have hkind : binKind x p ≠ Kind.static := by
    rw [hx, wordMarked_binKind, hk]
    decide
  have hitem : runItem x p = some i := hx ▸ wordMarked_runItem.trans hi
  have hbuf : (x.bin p).buf = (s.bin p).buf := by rw [hx, wordMarked_bin]
  have hmax : x.get (F.SCH_CLASS_CFG_max_succ i.cls) = s.get (F.SCH_CLASS_CFG_max_succ i.cls) := by
    rw [hx, wordMarked_get]
  simp only [hkind, if_false, hitem, hbuf, hmax, hroom, if_true]

/-- An event 64 tk or more after the last is forwarded with its severity capped. -/
theorem exec_userEvent_forwarded {code sev data : Nat} (hp : p < 264) (hok : wordOk s p = true) (hc : code < 128)
    (hse : sev < 8) (hd : data < 2 ^ 32)
    (hlast : (s.bin p).evLast.all (fun t => t + 64 ≤ (atWord s p).now) = true)
    (he : (portUse (atWord s p) p).event = false) (hw : (portUse (atWord s p) p).wr = false)
    (hx : x = wordMarked s p (fun u => { u with event := true })) :
    exec (.userEvent p code sev data) s = .next (settle (raise (setBin x p { x.bin p with evLast := some x.now })
      (512 + p) (128 + code) (min sev (s.get (F.BIN_CTX_CFG_ev_sev_max p))) data)) := by
  have hwf : (Instr.userEvent p code sev data).wf = true := by
    simp only [Instr.wf, hp, hc, hse, hd, decide_true, Bool.and_self]
  refine (checked_wf _ _ hwf).trans ?_
  rw [onWord_first hok (by simp [he, hw]), ← hx]
  have hlate : (x.bin p).evLast.any (fun t => decide (x.now < t + 64)) = false := by
    rw [hx, wordMarked_bin, wordMarked_now]
    cases h : (s.bin p).evLast with
    | none => rfl
    | some t => simpa [h] using hlast
  have hcap : x.get (F.BIN_CTX_CFG_ev_sev_max p) = s.get (F.BIN_CTX_CFG_ev_sev_max p) := by rw [hx, wordMarked_get]
  simp only [hlate, Bool.false_eq_true, if_false, setBin_get, hcap]

/-! ### Static selects (R154, R362) -/

/-- A static select of a loaded context takes it; with `init` it marks the load of the initial values. -/
theorem exec_contextSelectStatic_loaded {ctx : Nat} {init : Bool} (hp : p < 264) (hok : wordOk s p = true)
    (hc : ctx < 8) (hk : binKind s p = Kind.static) (hs : (portUse (atWord s p) p).sel = false)
    (hl : (s.get (F.BIN_CTX_CFG_ctx_loaded p)).testBit ctx = true) (hi : (s.bin p).initAt = none)
    (hx : x = wordMarked s p (fun u => { u with sel := true })) :
    exec (.contextSelectStatic p ctx init) s = .next (settle (repairEnter (State.bump (State.setAll
      (setBin x p { x.bin p with
        was := some (x.now, s.get (F.BIN_SEQ_STATUS_ctx p)), initAt := if init then some x.now else none })
      [(F.BIN_SEQ_STATUS_ctx p, ctx), (F.FAB_BIN_STATUS_ctx p, ctx)]) (F.BIN_CTX_SEL_CNT_count p) 1) p ctx)) := by
  have hwf : (Instr.contextSelectStatic p ctx init).wf = true := by
    simp only [Instr.wf, hp, hc, decide_true, Bool.and_self]
  refine (checked_wf _ _ hwf).trans ?_
  rw [onWord_first hok hs, ← hx]
  have hinit : (x.bin p).initAt = none := by rw [hx, wordMarked_bin]; exact hi
  have hlate : initLate x p = x := by simp only [initLate, hinit]
  have hkind : binKind x p = Kind.static := hx ▸ wordMarked_binKind.trans hk
  have hget : ∀ f, x.get f = s.get f := fun f => hx ▸ wordMarked_get f
  have hloaded : bitAt (s.get (F.BIN_CTX_CFG_ctx_loaded p)) ctx = true := hl
  simp only [hlate, hkind, hget, hloaded, hinit, State.bin_setBin_same, setBin_now, Option.any_none, ne_eq,
    not_true_eq_false, if_false, Bool.not_true, Bool.false_eq_true]
  cases init
  · rfl
  · rw [if_pos rfl, setBin_setBin]
    rfl

/-! ### Hatch commands (R149, R150) -/

/-- A command is taken while fewer than eight are outstanding and the beats of the last write are in. -/
theorem hatchRefused_wordMarked {mark : PortUse → PortUse} (hout : hatchOut s p < 8)
    (hend : (s.bin p).wrEnd ≤ (atWord s p).now) : hatchRefused (wordMarked s p mark) p = false := by
  have h8 : ¬ 8 ≤ (s.bin p).hatch.length := Nat.not_le.2 hout
  simp [hatchRefused, hatchOut, h8, hend]

theorem exec_hatchRead_issued {beat m tag : Nat} (hp : p < 264) (hok : wordOk s p = true) (hb : beat < 2 ^ 24)
    (hm : m < 16) (ht : tag < 64) (hout : hatchOut s p < 8) (hend : (s.bin p).wrEnd ≤ (atWord s p).now)
    (hh : (portUse (atWord s p) p).hatch = false) (hx : x = wordMarked s p (fun u => { u with hatch := true })) :
    exec (.hatchRead p beat m tag) s = .next (settle (setHatch
      (passPut x p .request true (hatchWord false beat m tag)) p
      ((s.bin p).hatch ++ [⟨false, beat, m + 1, tag, 0, false, [], x.now, false, []⟩]))) := by
  have hwf : (Instr.hatchRead p beat m tag).wf = true := by
    simp only [Instr.wf, hp, hb, hm, ht, decide_true, Bool.and_self]
  refine (checked_wf _ _ hwf).trans ?_
  have hhatch : (x.bin p).hatch = (s.bin p).hatch := by rw [hx, wordMarked_bin]
  rw [onWord_first hok hh, ← hx, if_neg (by rw [hx, hatchRefused_wordMarked hout hend]; decide), hhatch]

theorem exec_hatchWrite_issued {beat m tag : Nat} {d : List Nat} (hp : p < 264) (hok : wordOk s p = true)
    (hb : beat < 2 ^ 24) (hm : m < 16) (ht : tag < 64) (hlen : d.length = m + 1) (hd : ∀ y ∈ d, y < 2 ^ 256)
    (hout : hatchOut s p < 8) (hend : (s.bin p).wrEnd ≤ (atWord s p).now)
    (hh : (portUse (atWord s p) p).hatch = false) (hx : x = wordMarked s p (fun u => { u with hatch := true })) :
    exec (.hatchWrite p beat m tag d) s = .next (settle (setHatch
      (setBin x p { x.bin p with wrEnd := if m = 0 then 0 else x.now + m + 1 }) p
      ((s.bin p).hatch ++ [⟨true, beat, m + 1, tag, 0, false, d, x.now, (s.bin p).fab.sink 102 % 4 = 3, []⟩]))) := by
  have hdata : d.all (fun y => decide (y < 2 ^ 256)) = true := List.all_eq_true.2 fun y hy => decide_eq_true (hd y hy)
  have hwf : (Instr.hatchWrite p beat m tag d).wf = true := by
    simp only [Instr.wf, hp, hb, hm, ht, hlen, hdata, decide_true, Bool.and_self]
  refine (checked_wf _ _ hwf).trans ?_
  have hhatch : (x.bin p).hatch = (s.bin p).hatch := by rw [hx, wordMarked_bin]
  have hfab : (x.bin p).fab = (s.bin p).fab := by rw [hx, wordMarked_bin]
  rw [onWord_first hok hh, ← hx, if_neg (by rw [hx, hatchRefused_wordMarked hout hend]; decide)]
  simp only [State.bin_setBin_same, setBin_now, hhatch, hfab]

/-! ### The beats of the hatch commands (R149 to R151, R305) -/

/-- What the next beat `n` of the read `c` returns: what a write that overtook it left, or what the Loft answers. -/
def beatAnswer (s : State) (p : Nat) (c : HatchCmd) : BeatRead × State :=
  match aget c.got (c.beat + c.done) with
  | some y => (⟨y.1, y.2⟩, s)
  | none => readBeat s (binOwner s p) (c.beat + c.done)

/-- No write takes effect before the beats of a read that is the oldest command. -/
theorem writesFirst_read {c : HatchCmd} {rest : List HatchCmd} (fuel : Nat) (hc : (s.bin p).hatch = c :: rest)
    (hw : c.wr = false) : writesFirst fuel s p = s := by
  cases fuel with
  | zero => rfl
  | succ n => simp [writesFirst, hatchBefore, hc, hw]

/-- The next beat of a read that is the oldest command returns, or is discarded for an old generation and a closed
gate. -/
theorem exec_hatchReadBeat_oldest {c : HatchCmd} {rest : List HatchCmd} {r : BeatRead × State} (hp : p < 264)
    (hc : (s.bin p).hatch = c :: rest) (hw : c.wr = false)
    (hone : (s.bin p).rdBeat.any (fun b => b.at' = s.now) = false) (hr : r = beatAnswer s p c)
    (hx : x = passPut (setHatch r.2 p (hatchStep (fun y => !y.wr) (r.2.bin p).hatch)) p .response false r.1.data) :
    exec (.hatchReadBeat p) s = .next (settle (if c.stale || !x.flag (F.CLK_GATE_EN_open p) then x
      else setBin x p { x.bin p with
        rdBeat := some ⟨x.now, if r.1.status = 0 then r.1.data else 0, c.tag, decide (r.1.status ≠ 0),
          decide (c.done + 1 = c.beats)⟩ })) := by
  refine (checked_wf (.hatchReadBeat p) _ (decide_eq_true hp)).trans ?_
  have hfind : (s.bin p).hatch.find? (fun y => !y.wr) = some c := by simp [hc, hw]
  subst hx hr
  simp only [hfind, writesFirst_read 128 hc hw, hone, Bool.false_eq_true, if_false, decide_not]
  rfl

end

/-- Settles O15: each use of the port by its rule, the words through `onWord_first`. -/
theorem binPort : Obligations.BinPort := by
  unfold Obligations.BinPort
  intro s p hp
  refine ⟨?_, ?_, ?_⟩
  · rintro v use hok rfl rfl
    refine ⟨?_, ?_, ?_, ?_, ?_⟩
    · exact fun r i x hr hk hi hs hw hroom hx => exec_spawn_accepted hp hok hr hk hi hs hw hroom hx
    · exact fun code sev data x hc hse hd hlast he hw hx => exec_userEvent_forwarded hp hok hc hse hd hlast he hw hx
    · exact fun ctx init x hc hk hs hl hi hx => exec_contextSelectStatic_loaded hp hok hc hk hs hl hi hx
    · exact fun beat m tag x hb hm ht hout hend hh hx => exec_hatchRead_issued hp hok hb hm ht hout hend hh hx
    · exact fun beat m tag d x hb hm ht hlen hd hout hend hh hx =>
        exec_hatchWrite_issued hp hok hb hm ht hlen hd hout hend hh hx
  · intro c rest r x hc hw hone hr hx
    have hbeat := exec_hatchReadBeat_oldest hp hc hw hone hr hx
    refine ⟨fun hgone => hbeat.trans ?_, fun hs ho => hbeat.trans ?_⟩
    · rw [if_pos (by simpa using hgone)]
    · rw [if_neg (by simp [hs, ho])]
  · intro c v u y r hc hv hu hy hr
    refine (checked_wf (.hatchWriteAccept p) _ (decide_eq_true hp)).trans ?_
    simp only [acceptBeat, hc]
    rw [← hv, ← hu, ← hy, ← hr]

end Sys2Proof.Machine
end

section
/-! The stack and package family (O50): what a POR and a DEVICE reset leave. -/

namespace Sys2Proof.Machine

/-! ### What a POR and a DEVICE reset leave (R13, R405, R409, R425) -/

/-- What a reset of the whole device settles beside the other registers, the event unit and the ledger. -/
structure ResetParts where
  mode : Nat
  pending : List Instr
  por : Bool
  porstN : Bool
  highZ : Bool
  sec : Sec
  loft : Loft
  sch : Sched
  fh : Fronthaul
  cfg : Cfg
  twin : Twin

def State.resetParts (s : State) : ResetParts :=
  ⟨s.mode, s.pending, s.modes.por, s.pins.porstN, s.pins.highZ, s.sec, s.loft, s.sch, s.fh, s.cfg, s.twin⟩

theorem State.resetParts_set (s : State) (f : Fld) (v : Nat) (h : f.key ≠ F.RST_MODE_mode.key) :
    (s.set f v).resetParts = s.resetParts := by
  have hm : (s.set f v).mode = s.mode := s.get_set_ne _ _ _ h.symm
  simp [State.resetParts, hm]

theorem resetParts_blind : EvBlind State.resetParts where
  set s f v hf := s.resetParts_set f v fun he => absurd (he ▸ hf) (by decide)
  ev _ _ := rfl
  led _ _ := rfl

theorem settle_resetParts (s : State) : (settle s).resetParts = s.resetParts := by
  have hm : (settle s).mode = s.mode := settle_get s _ (by decide) (by decide)
  have hp : (settle s).pins.porstN = s.pins.porstN ∧ (settle s).pins.highZ = s.pins.highZ := by simp [settle]
  simp [State.resetParts, hm, hp]

/-- A register that a row of the reset holds returns to its reset value. -/
theorem State.get_resetRows_hit (s : State) (p : RegRow → Bool) (f : Fld)
    (h : (regRows.filter p).any (fun r => r.hits (f.key / 32 % 2 ^ 32)
      && (r.fld (f.key / 32 % 2 ^ 32)).lo = f.key % 32) = true) :
    (resetRows s p).get f = f.reset := by
  have hnone : aget (resetRows s p).flds f.key = none := by
    refine aget_none _ _ fun e he hk => ?_
    obtain ⟨_, hkeep⟩ := List.mem_filter.1 he
    rw [hk, h] at hkeep
    exact absurd hkeep (by decide)
  rw [State.get, fread, hnone]
  rfl

/-- Both resets return the mode to LOAD (R397). -/
theorem resetCore_mode (s : State) (por : Bool) : (resetCore s por).mode = Mode.load := by
  cases por <;> exact s.get_resetRows_hit _ F.RST_MODE_mode (by decide +kernel)

theorem resetCore_parts (s : State) (por : Bool) :
    (resetCore s por).resetParts = { State.reset.resetParts with
      pending := s.pending, por := por, porstN := s.pins.porstN, highZ := s.pins.highZ, sec := s.sec.restart } := by
  have hm : (resetCore s por).mode = State.reset.mode := resetCore_mode s por
  rw [State.resetParts, hm]
  rfl

/-- A minor event leaves the stored ledger entries. -/
theorem raise_stored_minor (s : State) (a b c d : Nat) (h : c < 5) :
    (raise s a b c d).led.stored = s.led.stored := by
  have h7 : ¬ c = 7 := by omega
  have h5 : ¬ 5 ≤ c := by omega
  have hin : ∀ r, (evIn s r).led.stored = s.led.stored := by
    intro r
    unfold evIn
    dsimp only
    split <;> rfl
  unfold raise raiseCrit raiseLed
  split
  · simp [h7, h5]
  · simp [h7, h5, hin]

theorem debugReset_blind {α : Type} {p : State → α} (h : EvBlind p) (was s : State) : p (debugReset was s) = p s := by
  unfold debugReset
  split
  · exact raise_blind h _ _ _ _ _
  · rfl

theorem debugReset_stored (was s : State) : (debugReset was s).led.stored = s.led.stored := by
  unfold debugReset
  split
  · exact raise_stored_minor _ _ _ _ _ (by decide)
  · rfl

/-! ### The loss of a core rail (R33, R34) -/

/-- The state that the loss of a core rail leaves. -/
def coreRailLost (s : State) : State :=
  let t := (porReset s).useFree
  { t with pins := { t.pins with highZ := t.pins.highZ || decide (s.free % 2 = 1) } }

theorem exec_coreRailLoss (s : State) : exec .coreRailLoss s = .next (settle (coreRailLost s)) :=
  checked_wf .coreRailLoss _ rfl

theorem coreRailLost_parts (s : State) : (coreRailLost s).resetParts = { State.reset.resetParts with
    pending := s.pending, por := true, porstN := s.pins.porstN, highZ := s.pins.highZ || decide (s.free % 2 = 1)
    sec := s.sec.restart } := by
  have hpor : (porReset s).resetParts = (resetCore s true).resetParts := debugReset_blind resetParts_blind _ _
  rw [resetCore_parts] at hpor
  have hz : (porReset s).pins.highZ = s.pins.highZ := congrArg ResetParts.highZ hpor
  show { (porReset s).resetParts with highZ := (porReset s).pins.highZ || decide (s.free % 2 = 1) } = _
  rw [hz, hpor]

theorem coreRailLost_stored (s : State) : (coreRailLost s).led.stored = s.led.stored :=
  debugReset_stored s (resetCore s true)

/-- What of the parts a loss of a core rail leaves, settled. -/
theorem settle_coreRailLost {s t : State} (ht : t = settle (coreRailLost s)) :
    t.pins.highZ = (s.pins.highZ || decide (s.free % 2 = 1)) ∧ t.mode = Mode.load ∧ t.modes.por = true ∧
      t.pending = s.pending ∧ t.led.stored = s.led.stored ∧ t.sec.fuses = s.sec.fuses ∧ t.sec.bbKey = s.sec.bbKey ∧
      t.loft = State.reset.loft ∧ t.sch = State.reset.sch ∧ t.fh = State.reset.fh ∧ t.cfg = State.reset.cfg ∧
      t.twin = State.reset.twin := by
  have hparts : t.resetParts = _ := ht ▸ (settle_resetParts _).trans (coreRailLost_parts s)
  have hsec : t.sec = s.sec.restart := congrArg ResetParts.sec hparts
  refine ⟨congrArg ResetParts.highZ hparts, congrArg ResetParts.mode hparts, congrArg ResetParts.por hparts,
    congrArg ResetParts.pending hparts, ?_, ?_, ?_, congrArg ResetParts.loft hparts, congrArg ResetParts.sch hparts,
    congrArg ResetParts.fh hparts, congrArg ResetParts.cfg hparts, congrArg ResetParts.twin hparts⟩
  · rw [ht, settle_led, coreRailLost_stored]
  · rw [hsec]
    rfl
  · rw [hsec]
    rfl

/-! ### DEVICE resets (R405, R406, R410) -/

/-- The entry that an append writes joins the stored ones, and no erase begins. -/
theorem appendDone_led (s : State) :
    (appendDone s).led.erasing = s.led.erasing ∧ ∃ l, (appendDone s).led.stored = s.led.stored ++ l := by
  have hwritten : ∀ t e, (thermWritten t e).led = t.led := by
    intro t e
    unfold thermWritten
    split
    · rfl
    · split
      · exact State.setAll_led _ _
      · rfl
  unfold appendDone
  split
  · exact ⟨rfl, [], (List.append_nil _).symm⟩
  · next e _ =>
    simp only [State.bump_led, hwritten, setLed, Ledger.setRing]
    split <;> exact ⟨rfl, _, rfl⟩

/-- An append that ends changes no command, pin or fuse. -/
theorem appendDone_kept (s : State) :
    (appendDone s).pending = s.pending ∧ (appendDone s).pins = s.pins ∧ (appendDone s).sec = s.sec := by
  unfold appendDone thermWritten
  split
  · exact ⟨rfl, rfl, rfl⟩
  · dsimp only
    repeat' split
    all_goals exact ⟨rfl, rfl, rfl⟩

theorem eraseDone_none {s : State} (h : s.led.erasing = none) : eraseDone s = s := by
  simp only [eraseDone, h]

theorem deviceRecord_parts (s t : State) (e : LedEntry) : (deviceRecord s t e).resetParts = t.resetParts := by
  unfold deviceRecord
  extract_lets l l'
  split
  · rfl
  · split
    · exact State.resetParts_set _ _ _ (by decide)
    · exact ledCounts_blind resetParts_blind _

/-- The record of a DEVICE reset is appended to the stored entries or waits. -/
theorem deviceRecord_stored (s t : State) (e : LedEntry) :
    ∃ l, (deviceRecord s t e).led.stored = t.led.stored ++ l := by
  unfold deviceRecord
  extract_lets l l'
  split
  · exact ⟨[], (List.append_nil _).symm⟩
  · split
    · exact ⟨_, rfl⟩
    · exact ⟨[], (List.append_nil _).symm⟩

/-- A DEVICE reset that no keeper fatal causes and that meets no erase, before an open debug unlock is closed. -/
def deviceHeld (s : State) (cause aborted : Nat) : State :=
  (deviceRecord (appendDone s) (resetCore (appendDone s) false) (deviceEntry (appendDone s) cause aborted)).set
    F.RST_CAUSE_cause cause

theorem deviceReset_eq {s : State} {cause : Nat} (aborted : Nat) (hc : cause ≠ 2) (he : s.led.erasing = none) :
    deviceReset s cause aborted = debugReset (appendDone s) (deviceHeld s cause aborted) := by
  have herase : eraseDone (appendDone s) = appendDone s := eraseDone_none ((appendDone_led s).1.trans he)
  simp only [deviceReset, hc, if_false, herase, deviceHeld]

theorem deviceHeld_parts (s : State) (cause aborted : Nat) : (deviceHeld s cause aborted).resetParts
    = { State.reset.resetParts with
        pending := s.pending, por := false, porstN := s.pins.porstN, highZ := s.pins.highZ, sec := s.sec.restart } := by
  obtain ⟨hpending, hpins, hsec⟩ := appendDone_kept s
  rw [deviceHeld, State.resetParts_set _ _ _ (by decide), deviceRecord_parts, resetCore_parts, hpending, hpins, hsec]

theorem deviceHeld_stored (s : State) (cause aborted : Nat) :
    ∃ l, (deviceHeld s cause aborted).led.stored = s.led.stored ++ l := by
  obtain ⟨_, l, hl⟩ := appendDone_led s
  obtain ⟨l', hl'⟩ := deviceRecord_stored (appendDone s) (resetCore (appendDone s) false)
    (deviceEntry (appendDone s) cause aborted)
  have hcore : (resetCore (appendDone s) false).led.stored = (appendDone s).led.stored := rfl
  exact ⟨l ++ l', by rw [deviceHeld, State.set_led, hl', hcore, hl, List.append_assoc]⟩

/-- What a DEVICE reset by PORST_N leaves while no ledger erase runs, settled. -/
theorem settle_deviceReset {s t : State} {aborted : Nat} (he : s.led.erasing = none)
    (ht : t = settle (deviceReset s 1 aborted)) :
    t.mode = Mode.load ∧ t.pins.porstN = s.pins.porstN ∧ t.get F.RST_CAUSE_cause = 1 ∧ t.pending = s.pending ∧
      t.sec.fuses = s.sec.fuses ∧ t.sec.bbKey = s.sec.bbKey ∧ t.loft = State.reset.loft ∧ t.sch = State.reset.sch ∧
      t.cfg = State.reset.cfg ∧ ∃ l, t.led.stored = s.led.stored ++ l := by
  rw [deviceReset_eq aborted (by decide) he] at ht
  have hparts : t.resetParts = _ := ht ▸ (settle_resetParts _).trans
    ((debugReset_blind resetParts_blind _ _).trans (deviceHeld_parts s 1 aborted))
  have hsec : t.sec = s.sec.restart := congrArg ResetParts.sec hparts
  refine ⟨congrArg ResetParts.mode hparts, congrArg ResetParts.porstN hparts, ?_, congrArg ResetParts.pending hparts,
    ?_, ?_, congrArg ResetParts.loft hparts, congrArg ResetParts.sch hparts, congrArg ResetParts.cfg hparts, ?_⟩
  · rw [ht, settle_get _ _ (by decide) (by decide), debugReset_blind (EvBlind.get F.RST_CAUSE_cause (by decide)),
      deviceHeld, State.get_set_same]
    rfl
  · rw [hsec]
    rfl
  · rw [hsec]
    rfl
  · rw [ht, settle_led, debugReset_stored]
    exact deviceHeld_stored s 1 aborted

end Sys2Proof.Machine
end

section
/-! The stack and package family (O50): the entry to SAFE through the closing of the gates. -/

namespace Sys2Proof.Machine

/-! ### The entry to SAFE (R94, R403) -/

/-- What an entry to SAFE settles and the gates, which it closes, leave. -/
structure SafeView where
  mode : Nat
  needPorst : Bool
  thermalHold : Bool
  load : Option LoadRun
  errorN : Bool
  thermN : Bool
  outputsSafe : Bool
  twTakeN : Bool

def State.safeView (s : State) : SafeView :=
  ⟨s.mode, s.modes.needPorst, s.modes.thermalHold, s.cfg.load, s.pins.errorN, s.pins.thermN, s.pins.outputsSafe,
    s.pins.twTakeN⟩

theorem State.safeView_set (s : State) (f : Fld) (v : Nat) (h : f.key ≠ F.RST_MODE_mode.key) :
    (s.set f v).safeView = s.safeView := by
  have hm : (s.set f v).mode = s.mode := s.get_set_ne _ _ _ h.symm
  simp [State.safeView, hm]

theorem State.safeView_set_above (s : State) (f : Fld) (v : Nat) (h : 0x21000 < f.addr) :
    (s.set f v).safeView = s.safeView := s.safeView_set f v (f.key_ne_mode h)

theorem State.safeView_bump_above (s : State) (f : Fld) (n : Nat) (h : 0x21000 < f.addr) :
    (s.bump f n).safeView = s.safeView := s.safeView_set_above f _ h

theorem safeView_blind : EvBlind State.safeView where
  set s f v hf := s.safeView_set f v fun he => absurd (he ▸ hf) (by decide)
  ev _ _ := rfl
  led _ _ := rfl

theorem raise_safeView (s : State) (a b c d : Nat) : (raise s a b c d).safeView = s.safeView :=
  raise_blind safeView_blind s a b c d

/-! The twin and the time base. -/

theorem declareFault_safeView (s : State) (row : Nat) : (declareFault s row).safeView = s.safeView := by
  unfold declareFault
  split
  · extract_lets _ _ s1
    exact (raise_safeView _ _ _ _ _).trans (foldl_view State.safeView (twPut (.fault false)) _ s1 fun _ _ _ => rfl)
  · rfl

theorem markDirty_safeView (s : State) (a : Nat) : (markDirty s a).safeView = s.safeView := by
  unfold markDirty
  split <;> rfl

theorem setTb_safeView (s : State) (n : Nat) : (setTb s n).safeView = s.safeView := by
  unfold setTb
  extract_lets o _ _ s1 s2
  have h2 : s2.safeView = s.safeView :=
    (raise_safeView _ _ _ _ _).trans <| (markDirty_safeView _ _).trans <| State.safeView_set s1 _ _ (by decide)
  split
  · rfl
  · split
    · exact (declareFault_safeView s2 4).trans h2
    · exact h2

theorem holdoverCheck_safeView (s : State) : (holdoverCheck s).safeView = s.safeView := by
  unfold holdoverCheck
  split
  · exact setTb_safeView s _
  · rfl

/-- The loss of synchronous Ethernet. -/
theorem refLost_syncE_safeView (s : State) (reason : Nat) : (refLost s 3 reason).safeView = s.safeView := by
  unfold refLost
  split
  · rfl
  · extract_lets s1 s2 _ s4 s5 s6
    have h1 : s1.safeView = s.safeView := (raise_safeView _ _ _ _ _).trans (s.safeView_set _ _ (by decide))
    have h2 : s2.safeView = s1.safeView := s1.safeView_set _ _ (by decide)
    have h6 : s6 = s2 := by simp [s6, s5, s4]
    rw [holdoverCheck_safeView, h6, h2, h1]

/-! Lanes, bins and the gates before them. -/

theorem laneState_safeView (s : State) (l st : Nat) : (laneState s l st).safeView = s.safeView :=
  State.safeView_set_above s (F.LN_STATUS_state l) st (Nat.lt_add_right _ (by decide))

theorem laneLeave_safeView (s : State) (l cause st : Nat) : (laneLeave s l cause st).safeView = s.safeView := by
  unfold laneLeave
  extract_lets was s1 _ s2 g s3 s4 s5 s6
  have h2 : s2.safeView = s.safeView := laneState_safeView s l st
  have h3 : s3.safeView = s2.safeView := s2.safeView_set_above _ _ (Nat.lt_add_right _ (by decide))
  have h4 : s4.safeView = s3.safeView := s3.safeView_set_above _ _ (Nat.lt_add_right _ (by decide))
  have h5 : s5.safeView = s4.safeView :=
    (State.safeView_set_above _ _ _ (Nat.lt_add_right _ (by decide))).trans
      (s4.safeView_bump_above _ _ (Nat.lt_add_right _ (by decide)))
  have h6 : s6.safeView = s.safeView := by
    unfold s6
    split
    · rw [raise_safeView, h5, h4, h3, h2]
    · exact h2
  split
  · rw [refLost_syncE_safeView, h6]
  · exact h6

theorem groupLanesOff_safeView (s : State) (g : Nat) : (groupLanesOff s g).safeView = s.safeView := by
  refine foldl_view State.safeView _ _ s fun t l _ => ?_
  split
  · exact laneLeave_safeView t l _ _
  · rfl

theorem groupLanesOn_safeView (s : State) (g : Nat) : (groupLanesOn s g).safeView = s.safeView := by
  refine foldl_view State.safeView _ _ s fun t l _ => ?_
  split
  · exact laneState_safeView t l _
  · rfl

theorem binAwake_safeView (s : State) (p : Nat) : (binAwake s p).safeView = s.safeView := by
  unfold binAwake
  split
  · rfl
  · split
    · rfl
    · split
      · rfl
      · exact State.safeView_set_above (askAgain s p) _ _ (Nat.lt_add_right _ (by decide))

/-- A gate's open bit is not the mode. -/
theorem gateOpen_key_ne_mode (g : Nat) : (F.CLK_GATE_EN_open g).key ≠ F.RST_MODE_mode.key := by
  simp only [Fld.key, F.CLK_GATE_EN_open, F.RST_MODE_mode]
  omega

theorem closeGate_safeView (s : State) (g : Nat) : (closeGate s g).safeView = s.safeView := by
  unfold closeGate
  extract_lets _ s1 s2
  have h2 : s2.safeView = s.safeView := State.safeView_set s1 _ _ (gateOpen_key_ne_mode g)
  split
  · exact (s2.safeView_set_above _ _ (Nat.lt_add_right _ (by decide))).trans h2
  · split
    · exact (groupLanesOff_safeView s2 _).trans h2
    · split
      · exact (s2.safeView_set_above _ _ (Nat.lt_add_right _ (by decide))).trans h2
      · exact h2

theorem openGate_safeView (s : State) (g : Nat) : (openGate s g).safeView = s.safeView := by
  unfold openGate
  extract_lets _ s1 s2
  have h2 : s2.safeView = s.safeView := State.safeView_set s1 _ _ (gateOpen_key_ne_mode g)
  split
  · rfl
  · split
    · exact (binAwake_safeView s2 g).trans h2
    · split
      · exact (groupLanesOn_safeView s2 _).trans h2
      · split
        · exact (s2.safeView_set_above _ _ (Nat.lt_add_right _ (by decide))).trans h2
        · exact h2

theorem dmaHalt_safeView (s : State) (c cause a : Nat) : (dmaHalt s c cause a).safeView = s.safeView := by
  unfold dmaHalt
  extract_lets _ s1 s2
  have h2 : s2.safeView = s1.safeView := by
    refine foldl_view State.safeView _ _ s1 fun t x hx => t.safeView_set_above _ _ ?_
    simp only [List.mem_cons, List.not_mem_nil, or_false] at hx
    rcases hx with rfl | rfl | rfl | rfl <;> exact Nat.lt_add_right _ (by decide)
  rw [raise_safeView, h2]
  rfl

theorem terminateAll_safeView (s : State) (g : Nat) : (terminateAll s g).safeView = s.safeView := by
  unfold terminateAll
  split
  · extract_lets h s1
    have h1 : s1.safeView = s.safeView := foldl_view State.safeView _ _ s fun _ _ _ => rfl
    refine Eq.trans ?_ h1
    exact foldl_view State.safeView _ _ s1 fun _ _ _ => rfl
  · split
    · exact foldl_view State.safeView _ _ s fun t d _ => dmaHalt_safeView t _ _ _
    · rfl

theorem gatesForce_safeView (s : State) : (gatesForce s).safeView = s.safeView := by
  refine foldl_view State.safeView _ _ s fun t g _ => ?_
  split
  · exact openGate_safeView t g
  · split
    · exact (closeGate_safeView _ g).trans (terminateAll_safeView t g)
    · rfl

/-! The entry itself. -/

theorem setMode_safe_safeView (s : State) : (setMode s Mode.safe).safeView = { s.safeView with mode := Mode.safe } := by
  unfold setMode
  split
  · next h => rw [← h]; rfl
  · extract_lets _ _ t
    have hm : (t.set F.RST_MODE_mode Mode.safe).mode = Mode.safe := State.get_set_same _ _ _
    rw [raise_safeView, State.safeView, hm]
    rfl

/-- SAFE is entered with every output safe and the pin of its cause asserted. -/
theorem toSafe_safeView (s : State) (thermal : Bool) : (toSafe s thermal).safeView = { s.safeView with
    mode := Mode.safe, errorN := s.pins.errorN && thermal, thermN := s.pins.thermN && !thermal
    outputsSafe := true, twTakeN := true } := by
  unfold toSafe enterSafe
  extract_lets s1 _ s2 _ s3
  have h1 : s1.safeView = s.safeView := by
    unfold s1
    split
    · rfl
    · exact declareFault_safeView s 1
  have herr : s1.pins.errorN = s.pins.errorN := congrArg SafeView.errorN h1
  have hthm : s1.pins.thermN = s.pins.thermN := congrArg SafeView.thermN h1
  have h3 : s3.safeView = { s1.safeView with
      errorN := s1.pins.errorN && thermal, thermN := s1.pins.thermN && !thermal
      outputsSafe := true, twTakeN := true } := rfl
  rw [gatesForce_safeView, setMode_safe_safeView, State.safeView_set _ _ _ (by decide),
    State.safeView_set _ _ _ (by decide), h3, h1, herr, hthm]

theorem settle_outputsSafe (s : State) : (settle s).pins.outputsSafe = safeOutputs s := rfl

/-- Settling leaves outputs that are safe so. -/
theorem settle_safeView {s : State} {v : SafeView} (h : s.safeView = v) (hv : v.outputsSafe = true) :
    (settle s).safeView = v := by
  have hm : (settle s).mode = s.mode := settle_get s _ (by decide) (by decide)
  have hs : s.pins.outputsSafe = true := (congrArg SafeView.outputsSafe h).trans hv
  have hsafe : (settle s).pins.outputsSafe = s.pins.outputsSafe := by
    rw [settle_outputsSafe, safeOutputs, hs, Bool.true_or, Bool.true_or]
  have hpins : (settle s).pins.errorN = s.pins.errorN ∧ (settle s).pins.thermN = s.pins.thermN
      ∧ (settle s).pins.twTakeN = s.pins.twTakeN := by simp [settle]
  rw [← h]
  simp [State.safeView, hm, hsafe, hpins]

theorem settle_toSafe_safeView (s : State) (thermal : Bool) : (settle (toSafe s thermal)).safeView = { s.safeView with
    mode := Mode.safe, errorN := s.pins.errorN && thermal, thermN := s.pins.thermN && !thermal
    outputsSafe := true, twTakeN := true } :=
  settle_safeView (toSafe_safeView s thermal) rfl

/-- A lost rail ends a load and enters SAFE until PORST_N or a POR (R33). -/
theorem settle_railLost {s t : State} {rail : Nat} (hpor : s.modes.por = false) (ht : t = settle (railLost s rail)) :
    t.mode = Mode.safe ∧ t.modes.needPorst = true ∧ t.cfg.load = none ∧ t.pins.errorN = false ∧
      t.pins.outputsSafe = true ∧ t.pins.twTakeN = true := by
  rw [railLost, hpor, if_neg Bool.false_ne_true] at ht
  extract_lets _ s1 at ht
  have hs : (setLoad (raise s1 1021 0x41 7 rail) none).safeView = { s1.safeView with load := none } :=
    congrArg (fun v => { v with load := none }) (raise_safeView s1 1021 0x41 7 rail)
  have hview : t.safeView = _ := ht ▸ settle_toSafe_safeView _ _
  rw [hs, Bool.and_false] at hview
  exact ⟨congrArg SafeView.mode hview, congrArg SafeView.needPorst hview, congrArg SafeView.load hview,
    congrArg SafeView.errorN hview, congrArg SafeView.outputsSafe hview, congrArg SafeView.twTakeN hview⟩

/-- A POR's release after a shutdown with a sensor too hot holds SAFE (R231). -/
theorem settle_thermalHold {v t : State}
    (ht : t = settle (toSafe { v with modes := { v.modes with thermalHold := true } } true)) :
    t.mode = Mode.safe ∧ t.modes.thermalHold = true ∧ t.pins.thermN = false ∧ t.pins.outputsSafe = true := by
  have hview : t.safeView = _ := ht ▸ settle_toSafe_safeView _ _
  rw [Bool.not_true, Bool.and_false] at hview
  exact ⟨congrArg SafeView.mode hview, congrArg SafeView.thermalHold hview, congrArg SafeView.thermN hview,
    congrArg SafeView.outputsSafe hview⟩

end Sys2Proof.Machine
end

section
/-! The stack and package family (O50): what a load starts from, and the keeper watchdog. -/

namespace Sys2Proof.Machine

/-! ### The begin of a load (R346, R422, R456) -/

/-- What decides at a load's begin whether it loads, and when: the life-cycle state, a pending return, the clock. -/
structure StartView where
  lc : Nat
  returnBegun : Nat
  now : Nat

def State.startView (s : State) : StartView := ⟨s.get F.SEC_LC_state, s.get F.SEC_LC_return_begun, s.now⟩

/-- A register that is neither the life-cycle state nor the pending return. -/
def Fld.offLc (f : Fld) : Bool := f.key != F.SEC_LC_state.key && f.key != F.SEC_LC_return_begun.key

theorem State.startView_set (s : State) (f : Fld) (v : Nat) (h : f.offLc = true) :
    (s.set f v).startView = s.startView := by
  obtain ⟨hl, hr⟩ : f.key ≠ F.SEC_LC_state.key ∧ f.key ≠ F.SEC_LC_return_begun.key := by simpa [Fld.offLc] using h
  simp [State.startView, s.get_set_ne _ _ _ hl.symm, s.get_set_ne _ _ _ hr.symm]

theorem State.startView_bump (s : State) (f : Fld) (n : Nat) (h : f.offLc = true) :
    (s.bump f n).startView = s.startView := s.startView_set f _ h

theorem State.startView_setAll (s : State) (l : List (Fld × Nat)) (h : ∀ x ∈ l, x.1.offLc = true) :
    (s.setAll l).startView = s.startView :=
  foldl_view State.startView _ l s fun t x hx => t.startView_set x.1 x.2 (h x hx)

theorem startView_blind : EvBlind State.startView where
  set s f v hf := by
    have hl : f.key ≠ F.SEC_LC_state.key := fun he => absurd (he ▸ hf) (by decide)
    have hr : f.key ≠ F.SEC_LC_return_begun.key := fun he => absurd (he ▸ hf) (by decide)
    exact s.startView_set f v (by simp [Fld.offLc, hl, hr])
  ev _ _ := rfl
  led _ _ := rfl

theorem raise_startView (s : State) (a b c d : Nat) : (raise s a b c d).startView = s.startView :=
  raise_blind startView_blind s a b c d

/-- The two share their register with no field at another bit. -/
theorem Fld.offLc_of_lo (f : Fld) (h : (f.lo % 32 != 0 && f.lo % 32 != 2) = true) : f.offLc = true := by
  simp only [Fld.offLc, Fld.key, F.SEC_LC_state, F.SEC_LC_return_begun, Bool.and_eq_true, bne_iff_ne] at h ⊢
  omega

/-- A field of another register. -/
theorem Fld.offLc_of_addr (f : Fld) (ha : f.addr ≠ F.SEC_LC_state.addr) (hlo : f.lo < 32) : f.offLc = true := by
  simp only [Fld.offLc, Fld.key, F.SEC_LC_state, F.SEC_LC_return_begun, Bool.and_eq_true, bne_iff_ne] at ha ⊢
  omega

/-! What the ledger records leaves them. -/

theorem applySpare_startView (s : State) (r : EvRec) : (applySpare s r).startView = s.startView := by
  unfold applySpare
  split
  · rfl
  · extract_lets g k s1
    split
    · rfl
    · rw [State.startView_bump _ _ _ rfl, State.startView_setAll]
      simp only [List.mem_cons, List.not_mem_nil, or_false]
      rintro x (rfl | rfl) <;> exact Fld.offLc_of_lo _ rfl

theorem spareTakes_startView (s : State) (g k : Nat) : (spareTakes s g k).startView = s.startView := by
  unfold spareTakes
  extract_lets s1
  have h1 : s1.startView = s.startView := (State.startView_set _ _ _ (Fld.offLc_of_lo _ rfl)).trans
    (State.startView_set _ _ _ (Fld.offLc_of_lo _ rfl))
  rw [State.startView_bump _ _ _ rfl, State.startView_bump _ _ _ rfl, h1]

theorem applyWorn_startView (s : State) (r : EvRec) : (applyWorn s r).startView = s.startView := by
  unfold applyWorn
  split
  · rfl
  · extract_lets g
    split
    · rfl
    · exact (raiseCrit_blind startView_blind _ _ _ _ _ _).trans (spareTakes_startView _ _ _)

theorem applyVco_startView (s : State) (r : EvRec) : (applyVco s r).startView = s.startView := by
  unfold applyVco
  split
  · rfl
  · extract_lets g
    split
    · rfl
    · exact (State.startView_bump _ _ _ rfl).trans
        (State.startView_set _ _ _ (Fld.offLc_of_lo _ rfl))

theorem applyRetired_startView (s : State) (r : EvRec) : (applyRetired s r).startView = s.startView := by
  unfold applyRetired
  split
  · rfl
  · next h =>
    extract_lets p s1
    have hp : p ≤ 263 := by
      simp only [Bool.or_eq_true, decide_eq_true_eq, not_or, Nat.not_lt] at h
      omega
    split
    · rfl
    · rw [State.startView_bump _ _ _ rfl, State.startView_setAll]
      simp only [List.mem_cons, List.not_mem_nil, or_false]
      rintro x (rfl | rfl | rfl)
      · refine Fld.offLc_of_addr _ ?_ (of_decide_eq_true rfl)
        simp only [F.FAB_BIN_STATUS_retired, F.SEC_LC_state]
        omega
      · exact Fld.offLc_of_lo _ rfl
      · exact Fld.offLc_of_lo _ rfl

theorem markDirty_startView (s : State) (a : Nat) : (markDirty s a).startView = s.startView := by
  unfold markDirty
  split <;> rfl

theorem modelGiven_startView (s : State) (i : Nat) (ws : List Nat) : (modelGiven s i ws).startView = s.startView := by
  unfold modelGiven
  extract_lets m t
  have ht : t.startView = s.startView := by
    refine (markDirty_startView _ _).trans (State.startView_setAll _ _ ?_)
    simp only [List.forall_mem_cons, List.not_mem_nil, false_implies, implies_true, and_true]
    decide
  split
  · exact (raise_startView _ _ _ _ _).trans ht
  · exact ht

theorem modelRestore_startView (s : State) (i : Nat) : (modelRestore s i).startView = s.startView := by
  unfold modelRestore
  split
  · exact (State.startView_set _ _ _ rfl).trans (modelGiven_startView s i _)
  · rfl

theorem lifeRestore_startView (s : State) : (lifeRestore s).startView = s.startView := by
  unfold lifeRestore
  refine (State.startView_setAll _ _ fun x hx => ?_).trans rfl
  obtain ⟨b, hb, rfl⟩ := List.mem_map.1 hx
  have hb5 : b < 5 := List.mem_range.1 hb
  refine Fld.offLc_of_addr _ ?_ (of_decide_eq_true rfl)
  simp only [F.SPR_LIFE_hours, F.SEC_LC_state]
  omega

theorem ledgerApply_startView (s : State) : (ledgerApply s).startView = s.startView := by
  unfold ledgerApply
  extract_lets rs s1 s2 s3
  have h1 : s1.startView = s.startView :=
    (foldl_view State.startView applyWorn rs _ fun t r _ => applyWorn_startView t r).trans
      (foldl_view State.startView applySpare rs s fun t r _ => applySpare_startView t r)
  have h2 : s2.startView = s1.startView :=
    foldl_view State.startView applyVco rs s1 fun t r _ => applyVco_startView t r
  have h3 : s3.startView = s2.startView := (State.startView_set _ _ _ rfl).trans
    (foldl_view State.startView applyRetired _ s2 fun t r _ => applyRetired_startView t r)
  rw [lifeRestore_startView, modelRestore_startView, modelRestore_startView, h3, h2, h1]

/-! What the fuses show decides them. -/

theorem lcDecode_lt (b0 b1 b2 : Bool) : lcDecode b0 b1 b2 < 2 ^ 2 := by
  cases b0 <;> cases b1 <;> cases b2 <;> decide

theorem fuseFields_startView (s : State) : (fuseFields s).startView =
    ⟨lcDecode (s.sec.fuses.contains 0) (s.sec.fuses.contains 1) (s.sec.fuses.contains 2),
      ofBool (s.sec.fuses.contains 3), s.now⟩ := by
  unfold fuseFields
  extract_lets has mask steps s1 s2
  have h1 : s1.startView = ⟨lcDecode (has 0) (has 1) (has 2), ofBool (has 3), s.now⟩ := by
    unfold s1
    rw [State.setAll_cons, State.setAll_cons, State.startView_setAll]
    · have hlc : lcDecode (has 0) (has 1) (has 2) % 2 ^ F.SEC_LC_state.width = _ :=
        Nat.mod_eq_of_lt (lcDecode_lt (has 0) (has 1) (has 2))
      have hrb : ofBool (has 3) % 2 ^ F.SEC_LC_return_begun.width = ofBool (has 3) := by cases has 3 <;> rfl
      have hne : F.SEC_LC_state.key ≠ F.SEC_LC_return_begun.key := by decide
      rw [State.startView, State.get_set_same, State.get_set_ne _ _ _ _ hne, State.get_set_same, hlc, hrb]
      rfl
    · simp only [List.forall_mem_cons, List.not_mem_nil, false_implies, implies_true, and_true]
      decide
  have h2 : s2.startView = s1.startView := by
    unfold s2
    split
    · exact (raise_startView _ _ _ _ _).trans (State.startView_set _ _ _ rfl)
    · rfl
  have hlast : ∀ t : State, (t.set F.SEC_ARB_last_st 1).startView = t.startView := fun t => t.startView_set _ _ rfl
  split
  · rw [raise_startView, hlast, h2, h1]
  · rw [h2, h1]

theorem setSec_startView (s : State) (x : Sec) : (setSec s x).startView = s.startView := rfl

theorem newNonce_startView (s : State) : (newNonce s).startView = s.startView := by
  unfold newNonce
  extract_lets n s1
  refine (setSec_startView s1 _).trans (State.startView_setAll s _ fun x hx => ?_)
  obtain ⟨i, hi, rfl⟩ := List.mem_map.1 hx
  have hi8 : i < 8 := List.mem_range.1 hi
  refine Fld.offLc_of_addr _ ?_ (of_decide_eq_true rfl)
  simp only [F.SEC_CMD_NONCE_nonce, F.SEC_LC_state]
  omega

theorem burnResume_none {s : State} (h : s.sec.burn = none) : burnResume s = s := by
  simp only [burnResume, h]

theorem loaderStart_cfg (s : State) : (loaderStart s).cfg = s.cfg := by
  unfold loaderStart
  split
  · rfl
  · exact raise_cfg _ _ _ _ _

theorem attemptStart_load (s : State) (r : Option LoadRun) : (attemptStart s r).cfg.load = r := rfl

/-- With no fuse bit interrupted, no RETURN and no pending return, a load's begin starts an attempt at once. -/
theorem loadBegin_attempt {s : State} (hburn : s.sec.burn = none)
    (hlc : lcDecode (s.sec.fuses.contains 0) (s.sec.fuses.contains 1) (s.sec.fuses.contains 2) ≠ Lc.ret)
    (hret : s.sec.fuses.contains 3 = false) :
    (loadBegin s).cfg.load = some ⟨none, false, 0, 1, 0, [], s.now, false, 0, []⟩ := by
  unfold loadBegin
  rw [burnResume_none hburn]
  extract_lets s1 s2 _ s3 s4 s5 safe
  have h1 : s1.startView = _ := (newNonce_startView _).trans (fuseFields_startView s)
  have h2 : s2.startView = s1.startView := State.startView_set _ _ _ rfl
  have h3 : s3.startView = s2.startView := by
    unfold s3
    split
    · exact (raise_startView _ _ _ _ _).trans (setSec_startView s2 _)
    · rfl
  have h4 : s4.startView = s3.startView := ledgerApply_startView s3
  have h5 : s5.startView = s4.startView := by
    unfold s5
    split
    · exact State.startView_set _ _ _ rfl
    · rfl
  have hview := h5.trans (h4.trans (h3.trans (h2.trans h1)))
  clear_value s5
  have hlc5 : s5.lc ≠ Lc.ret := (congrArg StartView.lc hview).trans_ne hlc
  have hret5 : s5.flag F.SEC_LC_return_begun = false := by
    have hget : s5.get F.SEC_LC_return_begun = ofBool (s.sec.fuses.contains 3) := congrArg StartView.returnBegun hview
    rw [State.flag, hget, hret]
    rfl
  have hnow5 : s5.now = s.now := congrArg StartView.now hview
  rw [if_neg hlc5, hret5, if_neg Bool.false_ne_true, loaderStart_cfg, attemptStart_load, hnow5]

/-! ### The keeper watchdog (R405, R419) -/

theorem exec_keeperWatchdogExpiry (s : State) (aborted : Nat) :
    exec (.keeperWatchdogExpiry aborted) s = .next (settle (watchdog s aborted)) :=
  checked_wf (.keeperWatchdogExpiry aborted) _ rfl

/-- The state that remembers an expiry. -/
def expirySeen (s : State) : State := setModes s { s.modes with wdLast := some s.now }

/-- A first expiry is remembered and causes a WARM reset. -/
theorem watchdog_first {s : State} (aborted : Nat) (hw : s.warm = false) (hp : s.modes.por = false)
    (hn : s.pins.porstN = true) (hl : s.modes.wdLast = none) (he : s.flag F.RST_MODE_entering = false)
    (hk : s.modes.waking = none) : watchdog s aborted = warmReset (expirySeen s) 1 := by
  have hfirst : watchdog s aborted = resetRequest (expirySeen s) 1 1 := by
    simp [watchdog, hw, hp, hl, expirySeen]
  rw [hfirst, resetRequest_now (s := expirySeen s) 1 1 he hk hp hn]
  simp [partReset]

theorem settle_watchdog_first {s t : State} {aborted : Nat} (hw : s.warm = false) (hp : s.modes.por = false)
    (hn : s.pins.porstN = true) (hl : s.modes.wdLast = none) (he : s.flag F.RST_MODE_entering = false)
    (hk : s.modes.waking = none) (ht : t = settle (watchdog s aborted)) :
    t.warm = true ∧ t.modes.wdLast = some s.now ∧ t.mode = s.mode := by
  rw [watchdog_first aborted hw hp hn hl he hk] at ht
  obtain ⟨hwarm, _, _, _, hmode, _⟩ := settle_warmReset (s := expirySeen s) hw hp ht
  refine ⟨hwarm, ?_, hmode⟩
  rw [ht, settle_modes, warmReset_eq (expirySeen s) 1 hw hp, raise_modes]
  rfl

/-- A second expiry within 1 s is a keeper fatal. -/
theorem watchdog_second {s : State} {t0 : Nat} (aborted : Nat) (hw : s.warm = false) (hp : s.modes.por = false)
    (hl : s.modes.wdLast = some t0) (hin : s.now ≤ t0 + secTk) : watchdog s aborted = keeperFatal s aborted := by
  simp [watchdog, hw, hp, hl, hin]

/-! ### The commands of the device's resets (R32, R33, R406) -/

/-- The state in which a POR's release acts: the outputs leave high impedance, and VBAK may have been lost. -/
def porEnded (s : State) (order : Option Nat) (vbak : Bool) : State :=
  let u := { s with modes := { s.modes with por := false, seqOrder := order }, pins := { s.pins with highZ := false } }
  if vbak = true then u else vbakLost u

theorem exec_porRelease {s : State} {order : Option Nat} (hot vbak : Bool) (hpor : s.modes.por = true)
    (ho : order.all (fun r => decide (r < 9)) = true) :
    exec (.porRelease order hot vbak) s = .next (settle (
      let v := porEnded s order vbak
      if latchValid v && hot then toSafe { v with modes := { v.modes with thermalHold := true } } true
      else if v.pins.porstN then loadBegin v else v)) := by
  refine (checked_wf (.porRelease order hot vbak) _ ho).trans ?_
  rw [porRelease, hpor, if_neg (by decide)]
  rfl

theorem porEnded_porstN (s : State) (order : Option Nat) (vbak : Bool) :
    (porEnded s order vbak).pins.porstN = s.pins.porstN := by
  cases vbak <;> rfl

theorem exec_porRelease_free {s : State} {order : Option Nat} {hot vbak : Bool} (hpor : s.modes.por = true)
    (ho : order.all (fun r => decide (r < 9)) = true) (hl : latchValid (porEnded s order vbak) = false ∨ hot = false) :
    exec (.porRelease order hot vbak) s = .next (settle (
      if s.pins.porstN then loadBegin (porEnded s order vbak) else porEnded s order vbak)) := by
  have hcool : ¬ (latchValid (porEnded s order vbak) && hot) = true := by
    rcases hl with h | h <;> simp [h]
  rw [exec_porRelease hot vbak hpor ho, ← porEnded_porstN s order vbak]
  dsimp only
  rw [if_neg hcool]

theorem exec_porRelease_hot {s : State} {order : Option Nat} {hot vbak : Bool} (hpor : s.modes.por = true)
    (ho : order.all (fun r => decide (r < 9)) = true) (hl : latchValid (porEnded s order vbak) = true)
    (hh : hot = true) :
    ∃ t, exec (.porRelease order hot vbak) s = .next t ∧ t.mode = Mode.safe ∧ t.modes.thermalHold = true ∧
      t.pins.thermN = false ∧ t.pins.outputsSafe = true := by
  refine ⟨_, exec_porRelease hot vbak hpor ho, settle_thermalHold (v := porEnded s order vbak) ?_⟩
  dsimp only
  rw [hl, hh, Bool.and_self, if_pos rfl]

theorem exec_railLost (s : State) {rail : Nat} (h2 : 2 ≤ rail) (h8 : rail ≤ 8) :
    exec (.railLost rail) s = .next (settle (railLost s rail)) :=
  checked_wf _ _ (by simp [Instr.wf, h2, h8])

/-- PORST_N low (R231, R406): what a reset that is not held by POR does, after a shutdown and otherwise. -/
theorem exec_porstNLow (s : State) (aborted : Nat) : exec (.porstNLow aborted) s = .next (settle (
    let u := { s with pins := { s.pins with porstN := false } }
    if s.modes.por = true then u
    else if s.mode = Mode.safe ∧ s.pins.thermN = false then
      (if tooHot u = true then pulseIgnored u else deviceReset u 3 aborted)
    else deviceReset u 1 aborted)) := by
  refine (checked_wf (.porstNLow aborted) _ rfl).trans ?_
  have hmode : State.mode { s with pins := { s.pins with porstN := false } } = s.mode := rfl
  simp only [porstLow, Bool.and_eq_true, decide_eq_true_eq, Bool.not_eq_true', hmode]

theorem exec_porstNLow_device {s : State} (aborted : Nat) (hp : s.modes.por = false) (hth : s.pins.thermN = true) :
    exec (.porstNLow aborted) s
      = .next (settle (deviceReset { s with pins := { s.pins with porstN := false } } 1 aborted)) := by
  have hn : ¬ (s.mode = Mode.safe ∧ s.pins.thermN = false) := by simp [hth]
  rw [exec_porstNLow]
  dsimp only
  rw [hp, if_neg Bool.false_ne_true, if_neg hn]

theorem exec_porstNShortPulse {s : State} {cycles : Nat} (hc : cycles < 336) (hp : s.modes.por = false) :
    exec (.porstNShortPulse cycles) s
      = .next (settle (raise (s.bump F.RST_PORST_SHORT_CNT_count 1) 1021 0x4A 2 cycles)) := by
  refine (checked_wf (.porstNShortPulse cycles) _ (decide_eq_true hc)).trans ?_
  rw [hp, if_neg Bool.false_ne_true]

theorem exec_porstNRise_held {s : State} (hn : s.pins.porstN = false) (hm : s.mode = Mode.load)
    (hl : s.cfg.load = none) (hp : s.modes.por = false) :
    exec .porstNRise s = .next (settle (loadBegin { s with pins := { s.pins with porstN := true } })) := by
  refine (checked_wf .porstNRise _ rfl).trans ?_
  simp [hn, hm, hl, hp]

/-- Settles O50: the views of what the resets, SAFE and a load's begin settle, and the watchdog's two expiries. -/
theorem deviceResets : Obligations.DeviceResets := by
  unfold Obligations.DeviceResets
  intro s
  refine ⟨?_, ?_, ?_, ?_, ?_, ?_, ?_, ?_, ?_, ?_⟩
  · exact ⟨_, exec_coreRailLoss s, settle_coreRailLost rfl⟩
  · intro order hot vbak u v hpor ho hu hv
    have hv' : v = porEnded s order vbak := by rw [hv, hu]; rfl
    subst hv'
    refine ⟨fun hl hn => ?_, fun hl hn => ?_, fun hl hh => exec_porRelease_hot hpor ho hl hh⟩
    · rw [exec_porRelease_free hpor ho hl, hn, if_pos rfl]
    · rw [exec_porRelease_free hpor ho hl, hn, if_neg Bool.false_ne_true]
  · intro r hr
    rw [loaderStart, hr]
  · exact fun rail h2 h8 hp => ⟨_, exec_railLost s h2 h8, settle_railLost hp rfl⟩
  · intro aborted hp hth he
    exact ⟨_, exec_porstNLow_device aborted hp hth,
      settle_deviceReset (s := { s with pins := { s.pins with porstN := false } }) he rfl⟩
  · intro aborted u hu
    rw [hu]
    exact exec_porstNLow s aborted
  · exact fun cycles hc hp => exec_porstNShortPulse hc hp
  · exact fun hn hm hl hp => exec_porstNRise_held hn hm hl hp
  · exact fun hburn hlc hret => ⟨_, loadBegin_attempt hburn hlc hret, rfl, rfl, rfl, rfl⟩
  · intro aborted hw hp hn
    refine ⟨fun hl he hk => ⟨_, exec_keeperWatchdogExpiry s aborted, settle_watchdog_first hw hp hn hl he hk rfl⟩,
      fun t0 hl hin => ?_⟩
    rw [exec_keeperWatchdogExpiry, watchdog_second aborted hw hp hl hin]

end Sys2Proof.Machine
end

section
/-! The frame-time family (O1 to O7): what commands answer and leave, the records in the event unit's queue, and the
basic operations of the time base. -/

namespace Sys2Proof.Machine

/-! ### Answers and frames -/

/-- A well-formed command whose meaning is `u` takes the state `v` that `u` is. -/
theorem exec_next {c : Instr} {s u v : State} (h : exec c s = checked c u) (hw : c.wf = true) (hu : u = v) :
    exec c s = .next (settle v) := by
  rw [h, checked_wf _ _ hw, hu]

/-- The state without its registers, the event unit, the ledger and the time base. -/
def State.beside (s : State) : State :=
  { s with flds := [], ev := State.reset.ev, led := Ledger.reset, tb := TimeBase.reset }

theorem beside_blind : EvBlind State.beside where
  set _ _ _ _ := rfl
  ev _ _ := rfl
  led _ _ := rfl

/-- A state that differs from `s` in registers, the event unit, the ledger and the time base alone keeps, once settled,
each of these that did not change and every other part. -/
theorem Frame.of_beside {s u : State} {ps : List Part} {fs : List Fld} (h : u.beside = s.beside)
    (hev : Part.ev ∉ ps → u.ev = s.ev) (hled : Part.led ∉ ps → u.led = s.led) (htb : Part.tb ∉ ps → u.tb = s.tb)
    (hregs : ∀ f : Fld, f.key ∉ fs.map Fld.key → u.get f = s.get f) : Frame s (settle u) ps fs := by
  simp only [State.beside, State.mk.injEq] at h
  refine ⟨by simp [h], fun p hp => ?_, fun f hf => ?_⟩
  · cases p
    case ev => simp [Part.same, hev hp]
    case led => simp [Part.same, hled hp]
    case tb => simp [Part.same, htb hp]
    case fp => simp [Part.same, settle, h]
    case pins => simp [Part.same, settle, h]
    all_goals simp [Part.same, h]
  · simp only [followers, List.map_append, List.map_cons, List.map_nil, List.mem_append, List.mem_cons,
      List.not_mem_nil, or_false, not_or] at hf
    obtain ⟨⟨halert, harmed⟩, hfs⟩ := hf
    rw [settle_get _ _ halert harmed, hregs f hfs]

/-! ### Records in the event unit's queue (R475, R476) -/

/-- The record has this source, code, severity and data. -/
def EvRec.says (source code sev data : Nat) (r : EvRec) : Bool :=
  r.source = source && r.code = code && r.sev = sev && r.data = data % 2 ^ 32

theorem settle_records (s : State) (a b c d : Nat) : (settle s).records a b c d = s.records a b c d := by
  simp [State.records]

section
variable {p : EvRec → Bool} (hp : ∀ (r : EvRec) n, p { r with seq := n } = p r)

theorem evSplit_append (s : State) (src : Nat) :
    (evSplit s src).1 ++ ((evSplit s src).2.1 ++ (evSplit s src).2.2) = s.ev.inq := by
  simp [evSplit]

/-- A full queue discards the record. -/
theorem evIn_full {s : State} (r : EvRec) (h : 512 ≤ s.ev.inq.length) : (evIn s r).ev = s.ev := by
  simp [evIn, Nat.not_lt.mpr h]

include hp

/-- A record that enters a queue with room joins what is counted there without its sequence number. -/
theorem evIn_countP {s : State} (r : EvRec) (h : s.ev.inq.length < 512) :
    (evIn s r).ev.inq.countP p = s.ev.inq.countP p + if p r then 1 else 0 := by
  have hb : p ∘ EvRec.bumped = p := funext fun x => hp x _
  have hq : (evIn s r).ev.inq = (evSplit s r.source).1 ++ (evSplit s r.source).2.1
      ++ { r with seq := evSeq s r.source } :: (evSplit s r.source).2.2.map EvRec.bumped := by
    simp [evIn, h]
  rw [hq, ← evSplit_append s r.source]
  simp only [List.countP_append, List.countP_cons, List.countP_map, hb, hp]
  omega

theorem evIn_countP_le (s : State) (r : EvRec) : s.ev.inq.countP p ≤ (evIn s r).ev.inq.countP p := by
  by_cases h : s.ev.inq.length < 512
  · rw [evIn_countP hp r h]
    exact Nat.le_add_right _ _
  · rw [evIn_full r (Nat.not_lt.mp h)]

theorem evOnly_countP_le (s : State) (a b c d : Nat) : s.ev.inq.countP p ≤ (evOnly s a b c d).ev.inq.countP p := by
  unfold evOnly
  split
  · exact le_rfl
  · exact evIn_countP_le hp s _

theorem ledDeferral_countP_le (s : State) : s.ev.inq.countP p ≤ (ledDeferral s).ev.inq.countP p := by
  unfold ledDeferral
  split
  · exact le_rfl
  · exact evOnly_countP_le hp { s with led := { s.led with deferred := true } } _ _ _ _

theorem ledEnqueue_countP_le (s : State) (e : LedEntry) : s.ev.inq.countP p ≤ (ledEnqueue s e).ev.inq.countP p := by
  unfold ledEnqueue
  split
  · exact le_rfl
  · extract_lets _ _ _ s1 s2
    have h2 : s.ev.inq.countP p ≤ s2.ev.inq.countP p := ledDeferral_countP_le hp s1
    split
    · rwa [ledKick_ev]
    · rw [ledKick_ev]
      exact h2.trans (evOnly_countP_le hp (s2.bump F.LED_LOST_lost 1) _ _ _ _)

/-- The record of an event outside WARM enters the unit before anything that its ledger entry brings. -/
theorem raise_countP_le {s : State} (a b c d : Nat) (hw : s.warm = false) :
    (evIn s ⟨s.fpStamp, a, b, c, 0, d % 2 ^ 32⟩).ev.inq.countP p ≤ (raise s a b c d).ev.inq.countP p := by
  simp only [raise, raiseCrit, raiseLed, hw, Bool.false_eq_true, if_false]
  split
  · exact ledEnqueue_countP_le hp _ _
  · exact le_rfl

omit hp

/-- With room in the queue, outside WARM, an event that is raised is reported. -/
theorem raise_reports {s : State} (a b c d : Nat) (h : s.evRoom 1) : reports s (raise s a b c d) a b c d := by
  obtain ⟨hw, hroom⟩ := h
  have hle := raise_countP_le (p := EvRec.says a b c d) (fun _ _ => rfl) a b c d hw
  rw [evIn_countP (fun _ _ => rfl) _ (by omega), if_pos (by simp [EvRec.says])] at hle
  exact hle

end

end Sys2Proof.Machine
end

section
/-! The frame-time family (O1): the references, their measurements and their losses. -/

namespace Sys2Proof.Machine

/-! ### References, qualifications and the time base under other updates -/

theorem setRef_eq (s : State) (r : Nat) (x : TimeRef) : setRef s r x = { s with tb := (setRef s r x).tb } := by
  unfold setRef
  split
  · rfl
  · split <;> rfl

@[simp] theorem setRef_get (s : State) (r : Nat) (x : TimeRef) (f : Fld) : (setRef s r x).get f = s.get f := by
  rw [setRef_eq]
  rfl
@[simp] theorem setRef_now (s : State) (r : Nat) (x : TimeRef) : (setRef s r x).now = s.now := by
  rw [setRef_eq]
@[simp] theorem setRef_ev (s : State) (r : Nat) (x : TimeRef) : (setRef s r x).ev = s.ev := by
  rw [setRef_eq]
@[simp] theorem setRef_beside (s : State) (r : Nat) (x : TimeRef) : (setRef s r x).beside = s.beside := by
  rw [setRef_eq]
  rfl

/-- The three references are apart, and 3 stands for every other number. -/
@[simp] theorem setRef_ref (s : State) (r : Nat) (x : TimeRef) : (setRef s r x).tb.ref r = x := by
  unfold setRef TimeBase.ref
  split
  · rfl
  · split <;> rfl

@[simp] theorem setRef_setRef (s : State) (r : Nat) (x y : TimeRef) : setRef (setRef s r x) r y = setRef s r y := by
  unfold setRef
  split
  · rfl
  · split <;> rfl

@[simp] theorem prioList_setRef (s : State) (r : Nat) (x : TimeRef) : prioList (setRef s r x) = prioList s := by
  simp only [prioList, setRef_get]

theorem offsAgree_setRef (s : State) (r : Nat) (x : TimeRef) (l : List Int) :
    offsAgree (setRef s r x) l = offsAgree s l := by
  simp only [offsAgree, setRef_get]

theorem setRef_ptp (s : State) (x : TimeRef) : (setRef s 1 x).tb.ptp = x := rfl

@[simp] theorem setFreqSrc_ev (s : State) : (setFreqSrc s).ev = s.ev := rfl
@[simp] theorem setFreqSrc_beside (s : State) : (setFreqSrc s).beside = s.beside := rfl
@[simp] theorem setQual_ev (s : State) (i : Nat) (b : Bool) : (setQual s i b).ev = s.ev := rfl

theorem setFreqSrc_get (s : State) (f : Fld) (h : f.key ≠ F.TB_STATUS_freq_src.key) : (setFreqSrc s).get f = s.get f :=
  State.get_set_ne _ _ _ _ h

theorem setQual_get (s : State) (i : Nat) (b : Bool) (f : Fld) (h : f.key ≠ F.TB_REF_QUAL_qual.key) :
    (setQual s i b).get f = s.get f := State.get_set_ne _ _ _ _ h

/-- A bit that is cleared reads 0. -/
theorem testBit_putBit_false (n i : Nat) : (putBit n i false).testBit i = false := by
  unfold putBit
  cases h : n.testBit i
  · simpa using h
  · have hle : 2 ^ i ≤ n := Nat.ge_two_pow_of_testBit h
    have hadd := Nat.testBit_two_pow_add_eq (n - 2 ^ i) i
    rw [Nat.add_sub_cancel' hle, h] at hadd
    simpa using hadd.symm

theorem setQual_false_qual (s : State) (i : Nat) : (setQual s i false).qual i = false := by
  rw [State.qual, setQual, State.get_set_same, bitAt, Nat.testBit_mod_two_pow, testBit_putBit_false, Bool.and_false]

theorem markDirty_tb (s : State) (a : Nat) : (markDirty s a).tb = s.tb := by
  unfold markDirty
  split <;> rfl

theorem markDirty_now (s : State) (a : Nat) : (markDirty s a).now = s.now := by
  unfold markDirty
  split <;> rfl

/-- The discipline loop leaves the references and the clock. -/
theorem loopUpdate_ref (s : State) (off : Int) (r : Nat) : (loopUpdate s off).tb.ref r = s.tb.ref r := by
  simp [loopUpdate, lockFollow, markDirty_tb, TimeBase.ref]

theorem loopUpdate_now (s : State) (off : Int) : (loopUpdate s off).now = s.now := by
  simp [loopUpdate, lockFollow, markDirty_now]

/-! ### Accepted measurements (R47, R54) -/

section
variable {s : State} {r run : Nat} {off : Int} {offs : List Int}

/-- The record of a reference after an accepted measurement. -/
def TimeRef.accepting (x : TimeRef) (off : Int) (run : Nat) (offs : List Int) : TimeRef :=
  { x with run := run, offs := offs, lastOff := off, rejSince := none }

theorem accepted_unused (h : s.get F.TB_STATUS_phase_ref ≠ r) :
    accepted s r off run offs = setRef s r ((s.tb.ref r).accepting off run offs) := by
  simp [accepted, h, TimeRef.accepting]

theorem accepted_used (h : s.get F.TB_STATUS_phase_ref = r) :
    accepted s r off run offs = loopUpdate (setRef s r ((s.tb.ref r).accepting off run offs)) off := by
  simp [accepted, h, TimeRef.accepting]

theorem accepted_ref : (accepted s r off run offs).tb.ref r = (s.tb.ref r).accepting off run offs := by
  by_cases h : s.get F.TB_STATUS_phase_ref = r
  · rw [accepted_used h, loopUpdate_ref, setRef_ref]
  · rw [accepted_unused h, setRef_ref]

theorem accepted_now : (accepted s r off run offs).now = s.now := by
  by_cases h : s.get F.TB_STATUS_phase_ref = r
  · rw [accepted_used h, loopUpdate_now, setRef_now]
  · rw [accepted_unused h, setRef_now]

theorem accepted_offs : (accepted s 1 off run offs).tb.ptp.offs = offs :=
  congrArg TimeRef.offs (accepted_ref (s := s) (r := 1))

theorem offsAgree_short {l : List Int} (h : l.length ≠ 8) : offsAgree s l = false := by
  simp [offsAgree, h]

/-- Fewer than eight exchanges qualify nothing. -/
theorem ptpMeasure_short (hb : beyondLimit s off = false) (hlen : s.tb.ptp.offs.length < 7) :
    ptpMeasure s off = accepted s 1 off 0 (off :: s.tb.ptp.offs) := by
  have htake : (off :: s.tb.ptp.offs).take 8 = off :: s.tb.ptp.offs :=
    List.take_of_length_le (Nat.succ_le_succ (Nat.le_of_lt hlen))
  have hshort : (off :: s.tb.ptp.offs).length ≠ 8 := by
    rw [List.length_cons]
    omega
  simp [ptpMeasure, hb, htake, accepted_offs, offsAgree_short hshort]

/-- The eighth of eight exchanges that agree qualifies PTP. -/
theorem ptpMeasure_eighth (hb : beyondLimit s off = false) (hagree : offsAgree s ((off :: s.tb.ptp.offs).take 8) = true)
    (hprio : (prioList s).contains 1 = true) (hu : s.get F.TB_STATUS_phase_ref ≠ 1) : ptpMeasure s off
      = refQualified (setRef s 1 (s.tb.ptp.accepting off 0 ((off :: s.tb.ptp.offs).take 8))) 0 := by
  have hacc : accepted s 1 off 0 ((off :: s.tb.ptp.offs).take 8)
      = setRef s 1 (s.tb.ptp.accepting off 0 ((off :: s.tb.ptp.offs).take 8)) := accepted_unused hu
  rw [ptpMeasure, hb, if_neg Bool.false_ne_true, hacc]
  exact if_pos (by rw [setRef_ptp, offsAgree_setRef, prioList_setRef]; exact Bool.and_eq_true_iff.mpr ⟨hagree, hprio⟩)

end

/-! ### PTP messages (R45 to R47) -/

section
variable {s : State} {lane kind el fr ball : Nat} {time : Int} {sel two : Bool}

theorem exec_ptpMessageRx {m : PtpArrival} {v : State} {domain : Nat} (hlane : lane < 128) (hkind : kind ≤ 5)
    (hfr : m.frac < 16)
    (hv : ptpMessageRx s lane kind domain two time m.selects (rxBall s lane m.elastic) m.frac = v) :
    exec (.ptpMessageRx lane kind domain two time m) s = .next (settle v) :=
  exec_next rfl (by simp [Instr.wf, hlane, hkind, hfr]) hv

theorem exec_ptpMessageSend_sent {m : PtpDue} (hlane : lane < 128) (hfr : m.frac < 16) (hon : ptpOn s = true)
    (hload : s.mode ≠ Mode.load) (hsafe : s.mode ≠ Mode.safe)
    (hkind : (m.kind = 0 ∨ m.kind = 3) ∧ ptpMasterLane s lane = true ∧ s.mode ≠ Mode.standby
      ∨ m.kind = 4 ∧ lane = s.get F.TB_PTP_CFG_slave_lane ∧ ptpLane s lane = true ∧ s.tb.master = true) :
    exec (.ptpMessageSend lane m) s = .next (settle { s with tb := { s.tb with
      ptpSent := some ⟨lane, m.kind, fpPack (txBall s lane m.elastic), m.frac⟩
      exch := if m.kind = 4 && s.tb.exch.t2.isSome then
          { s.tb.exch with t3 := some (ptpTime s (txBall s lane m.elastic) m.frac) } else s.tb.exch } }) := by
  refine exec_next rfl ?_ (if_pos ?_)
  · have : m.kind ≤ 5 := by omega
    simp [Instr.wf, hlane, this, hfr]
  · rcases hkind with ⟨h | h, hm, hs⟩ | ⟨h, hl, hp, hm⟩
    · simp [hon, hload, hsafe, h, hm, hs]
    · simp [hon, hload, hsafe, h, hm, hs]
    · simp [hon, hload, hsafe, h, ← hl, hp, hm]

section
variable (hon : ptpOn s = true)
include hon

theorem ptpMessageRx_delayReq (hl : ptpMasterLane s lane = true) (hm : s.mode = Mode.active) :
    ptpMessageRx s lane 4 (s.get F.TB_PTP_CFG_domain) two time sel ball fr
      = { s with tb := { s.tb with ptpSent := some ⟨lane, 2, fpPack ball, fr⟩ } } := by
  have hlane : ptpLane s lane = true := by
    simp only [ptpMasterLane, Bool.and_eq_true] at hl
    exact hl.1.1
  simp [ptpMessageRx, hon, hlane, hl, hm, Mode.active, Mode.standby, Mode.load, Mode.safe]

variable (hlane : ptpLane s lane = true) (hslave : lane = s.get F.TB_PTP_CFG_slave_lane)
include hlane hslave

theorem ptpMessageRx_announce : ptpMessageRx s lane 3 (s.get F.TB_PTP_CFG_domain) two time sel ball fr
    = { s with tb := { s.tb with master := sel } } := by
  simp [ptpMessageRx, hon, hlane, ← hslave]

variable (hmaster : s.tb.master = true)
include hmaster

theorem ptpMessageRx_sync : ptpMessageRx s lane 0 (s.get F.TB_PTP_CFG_domain) two time sel ball fr
    = setExch s ⟨if two then none else some time, some (ptpTime s ball fr), none⟩ := by
  simp [ptpMessageRx, hon, hlane, ← hslave, hmaster]

theorem ptpMessageRx_followUp (ht2 : s.tb.exch.t2.isSome = true) :
    ptpMessageRx s lane 1 (s.get F.TB_PTP_CFG_domain) two time sel ball fr
      = setExch s { s.tb.exch with t1 := some time } := by
  simp [ptpMessageRx, hon, hlane, ← hslave, hmaster, ht2]

theorem ptpMessageRx_delayResp {t1 : Int} {t2 t3 : Nat} (hexch : s.tb.exch = ⟨some t1, some t2, some t3⟩) :
    ptpMessageRx s lane 2 (s.get F.TB_PTP_CFG_domain) two time sel ball fr
      = ptpMeasure (setExch s ⟨none, none, none⟩) (ptpOffset t1 time t2 t3) := by
  simp [ptpMessageRx, hon, hlane, ← hslave, hmaster, hexch]

end
end

/-! ### PPS edges and time-of-day messages (R47) -/

section
variable {s : State} {n run : Nat} {off : Int} {x : TimeRef}

theorem exec_ppsEdge_accepted (hn : n < 2) (hx : x = s.tb.ref (2 + n)) (hb : beyondLimit s off = false)
    (hrun : run = if x.edgeSeen || x.lastEdge.any (fun t => 3 * 983040000 < 2 * (s.now - t)) then 0 else x.run) :
    exec (.ppsEdge n off) s = .next (settle (setRef (accepted s (2 + n) off run []) (2 + n)
      { x.accepting off run [] with edgeSeen := true, lastEdge := some s.now })) := by
  subst hx
  refine exec_next rfl (by simp [Instr.wf, hn]) ?_
  dsimp only
  rw [hb, if_neg Bool.false_ne_true]
  unfold secTk
  rw [← hrun, accepted_ref, accepted_now]

theorem exec_todMessageRx_third (hn : n < 2) (he : (s.tb.ref (2 + n)).edgeSeen = true)
    (hr : (s.tb.ref (2 + n)).run = 2) (hprio : (prioList s).contains (2 + n) = true) :
    exec (.todMessageRx n true) s = .next (settle (refQualified (setRef s (2 + n)
      { s.tb.ref (2 + n) with run := 3, edgeSeen := false, todBad := 0 }) (1 + n))) := by
  refine exec_next rfl (by simp [Instr.wf, hn]) ?_
  have hbit : 2 + n - 1 = 1 + n := by omega
  simp only [he, hr, hbit, prioList_setRef, hprio, if_true]
  rfl

theorem exec_todMessageRx_counted (hn : n < 2) (he : (s.tb.ref (2 + n)).edgeSeen = true)
    (hr : (s.tb.ref (2 + n)).run < 2) :
    exec (.todMessageRx n true) s = .next (settle (setRef s (2 + n)
      { s.tb.ref (2 + n) with run := (s.tb.ref (2 + n)).run + 1, edgeSeen := false, todBad := 0 })) := by
  refine exec_next rfl (by simp [Instr.wf, hn]) ?_
  have hmin : min 3 ((s.tb.ref (2 + n)).run + 1) = (s.tb.ref (2 + n)).run + 1 := by omega
  have hnot : ¬ (s.tb.ref (2 + n)).run + 1 ≥ 3 := by omega
  simp [he, hmin, hnot]

end

/-! ### Losses and qualifications (R44, R47, R511) -/

section
variable {s : State} {bit reason : Nat}

/-- The time base's record of a lost reference, by the reference's bit. -/
def refLostRun (s : State) (bit : Nat) : State :=
  if bit ≤ 2 then
    setRef s (bit + 1) { s.tb.ref (bit + 1) with run := 0, offs := [], edgeSeen := false, lastEdge := none }
  else s

@[simp] theorem refLostRun_get (s : State) (bit : Nat) (f : Fld) : (refLostRun s bit).get f = s.get f := by
  unfold refLostRun
  split
  · exact setRef_get _ _ _ _
  · rfl

@[simp] theorem refLostRun_ev (s : State) (bit : Nat) : (refLostRun s bit).ev = s.ev := by
  unfold refLostRun
  split
  · exact setRef_ev _ _ _
  · rfl

@[simp] theorem refLostRun_beside (s : State) (bit : Nat) : (refLostRun s bit).beside = s.beside := by
  unfold refLostRun
  split
  · exact setRef_beside _ _ _
  · rfl

/-- The event of a lost reference, before anything gives way. -/
def refLostRaised (s : State) (bit reason : Nat) : State :=
  raise (setQual s bit false) (969 + bit) 3 4 reason

theorem refLostRaised_get {f : Fld} (hev : f.key ∉ evKeys) (hq : f.key ≠ F.TB_REF_QUAL_qual.key) :
    (refLostRaised s bit reason).get f = s.get f := by
  rw [refLostRaised, raise_get _ _ _ _ _ _ hev, setQual_get _ _ _ _ hq]

/-- A qualified reference that is not in use is lost without a transition. -/
theorem refLost_unused (hq : s.qual bit = true) (hb : bit < 4) (hu : s.get F.TB_STATUS_phase_ref ≠ bit + 1)
    (hst : s.get F.TB_STATUS_state ≠ Tb.holdover) :
    refLost s bit reason = refLostRun (setFreqSrc (refLostRaised s bit reason)) bit := by
  have hget : ∀ f : Fld, f.key ∉ evKeys → f.key ≠ F.TB_REF_QUAL_qual.key → f.key ≠ F.TB_STATUS_freq_src.key →
      (refLostRun (setFreqSrc (refLostRaised s bit reason)) bit).get f = s.get f := fun f hev hqual hsrc => by
    rw [refLostRun_get, setFreqSrc_get _ _ hsrc, refLostRaised_get hev hqual]
  have hu' := hget F.TB_STATUS_phase_ref (by decide) (by decide) (by decide) ▸ hu
  have hst' := hget F.TB_STATUS_state (by decide) (by decide) (by decide) ▸ hst
  unfold refLost
  rw [hq, Bool.not_true, if_neg Bool.false_ne_true]
  extract_lets _ _ _ s3 s4 s5
  have h3 : s3 = refLostRun (setFreqSrc (refLostRaised s bit reason)) bit := rfl
  have h4 : s4 = s3 := if_neg (by omega)
  have h5 : s5 = s4 := if_neg fun h => by
    rw [Bool.and_eq_true, decide_eq_true_eq, h4] at h
    exact hu' h.1
  rw [h5, h4, h3, holdoverCheck, if_neg fun h => ?_]
  rw [Bool.and_eq_true, decide_eq_true_eq] at h
  exact hst' h.1

/-- What the loss of a reference that is not in use leaves, settled; the time base may have changed before it. -/
theorem settle_refLost_unused {t : State} {x : TimeBase} (hq : s.qual bit = true) (hb : bit < 4)
    (hu : s.get F.TB_STATUS_phase_ref ≠ bit + 1) (hst : s.get F.TB_STATUS_state ≠ Tb.holdover) (hroom : s.evRoom 1)
    (ht : t = settle (refLost { s with tb := x } bit reason)) :
    t.qual bit = false ∧ reports s t (969 + bit) 3 4 reason ∧
      Frame s t [.ev, .led, .tb] (evRegs ++ [F.TB_REF_QUAL_qual, F.TB_STATUS_freq_src]) := by
  subst ht
  rw [refLost_unused (s := { s with tb := x }) hq hb hu hst]
  refine ⟨?_, ?_, Frame.of_beside ?_ ?_ ?_ ?_ fun f hf => ?_⟩
  · rw [State.qual, settle_get _ _ (by decide) (by decide), refLostRun_get, setFreqSrc_get _ _ (by decide),
      refLostRaised, raise_get _ _ _ _ _ _ (by decide)]
    exact setQual_false_qual _ bit
  · have hrep : reports (setQual { s with tb := x } bit false) (refLostRaised { s with tb := x } bit reason)
        (969 + bit) 3 4 reason := raise_reports _ _ _ _ hroom
    rw [reports, settle_records]
    simpa only [reports, State.records, refLostRun_ev, setFreqSrc_ev, setQual_ev] using hrep
  · rw [refLostRun_beside, setFreqSrc_beside, refLostRaised, raise_blind beside_blind]
    rfl
  · simp
  · simp
  · simp
  · simp only [List.map_append, List.mem_append, List.map_cons, List.map_nil, List.mem_cons, List.not_mem_nil,
      or_false, not_or] at hf
    obtain ⟨hev, hqual, hsrc⟩ := hf
    rw [refLostRun_get, setFreqSrc_get _ _ hsrc, refLostRaised_get hev hqual]
    rfl

theorem exec_ptpSyncTimeout (s : State) : exec .ptpSyncTimeout s = .next (settle (refLost s 0 1)) :=
  exec_next rfl rfl rfl

theorem exec_announceReceiptTimeout (s : State) :
    exec .announceReceiptTimeout s = .next (settle (refLost { s with tb := { s.tb with master := false } } 0 1)) :=
  exec_next rfl rfl rfl

theorem exec_ppsEdgeMissing (s : State) {n : Nat} (hn : n < 2) :
    exec (.ppsEdgeMissing n) s = .next (settle (refLost (setRef s (2 + n)
      { s.tb.ref (2 + n) with run := 0, edgeSeen := false, lastEdge := none }) (1 + n) 1)) :=
  exec_next rfl (decide_eq_true hn) rfl

theorem exec_syncEQualifyTimer_out (s : State) :
    exec (.syncEQualifyTimer false) s = .next (settle (refLost s 3 5)) :=
  exec_next rfl rfl rfl

theorem exec_esmcRx_dnu (hql : s.tb.ql ≠ 15) :
    exec (.esmcRx 15) s = .next (settle (refLost { s with tb := { s.tb with ql := 15 } } 3 4)) := by
  refine exec_next rfl rfl (if_neg ?_)
  simp [hql]

theorem exec_esmcRx_accepted {ql : Nat} (hlt : ql < 15) (hok : qlOk s ql = true) :
    exec (.esmcRx ql) s = .next (settle { s with tb := { s.tb with ql := ql } }) := by
  have hok' : qlOk { s with tb := { s.tb with ql := ql } } ql = true := hok
  refine exec_next rfl (decide_eq_true (by omega)) (if_pos ?_)
  simp [hok', Nat.ne_of_lt hlt]

/-- Each loss of O1 loses its reference, after a change of the time base alone. -/
theorem exec_lost {c : Instr} (hc : (c, bit, reason) ∈ [(Instr.ptpSyncTimeout, 0, 1), (.announceReceiptTimeout, 0, 1),
      (.ppsEdgeMissing 0, 1, 1), (.ppsEdgeMissing 1, 2, 1), (.syncEQualifyTimer false, 3, 5), (.esmcRx 15, 3, 4)])
    (hql : s.tb.ql ≠ 15) :
    bit < 4 ∧ ∃ x, exec c s = .next (settle (refLost { s with tb := x } bit reason)) := by
  have hmissing := fun n (hn : n < 2) => setRef_eq s (2 + n) _ ▸ exec_ppsEdgeMissing s hn
  simp only [List.mem_cons, Prod.mk.injEq, List.not_mem_nil, or_false] at hc
  rcases hc with ⟨rfl, rfl, rfl⟩ | ⟨rfl, rfl, rfl⟩ | ⟨rfl, rfl, rfl⟩ | ⟨rfl, rfl, rfl⟩ | ⟨rfl, rfl, rfl⟩ |
    ⟨rfl, rfl, rfl⟩
  · exact ⟨by decide, s.tb, exec_ptpSyncTimeout s⟩
  · exact ⟨by decide, _, exec_announceReceiptTimeout s⟩
  · exact ⟨by decide, _, hmissing 0 (by decide)⟩
  · exact ⟨by decide, _, hmissing 1 (by decide)⟩
  · exact ⟨by decide, s.tb, exec_syncEQualifyTimer_out s⟩
  · exact ⟨by decide, _, exec_esmcRx_dnu hql⟩

/-- A reference that qualifies while a time reference is in use takes nothing but, for synchronous Ethernet, the
frequency. -/
theorem exec_syncEQualifyTimer_in (he : s.flag F.TB_SYNCE_CFG_enable = true) (hp : (prioList s).contains 4 = true)
    (hql : qlOk s s.tb.ql = true) (hl : 5 ≤ s.get (F.LN_STATUS_state (s.get F.TB_SYNCE_CFG_lane)))
    (hq : s.qual 3 = false) (hu : s.get F.TB_STATUS_phase_ref ≠ 0) : exec (.syncEQualifyTimer true) s
      = .next (settle (syncETake (setFreqSrc (raise (setQual s 3 true) 972 2 2 0)))) := by
  refine exec_next rfl rfl ?_
  have hp' : 4 ∈ prioList s := by simpa using hp
  have htake : ∀ u : State, u.get F.TB_STATUS_phase_ref ≠ 0 → (syncETake u).get F.TB_STATUS_phase_ref ≠ 0 := by
    intro u h
    unfold syncETake
    split
    · exact (State.get_set_ne _ _ _ _ (by decide)).trans_ne h
    · exact h
  have hu' := htake (setFreqSrc (raise (setQual s 3 true) 972 2 2 0)) (by
    rw [setFreqSrc_get _ _ (by decide), raise_get _ _ _ _ _ _ (by decide), setQual_get _ _ _ _ (by decide)]
    exact hu)
  simp [he, hp', hql, hl, refQualified, hq, hu']

end

/-- Settles O1: each clause is the rule of its command above. -/
theorem timeReferenceMeasurements : Obligations.TimeReferenceMeasurements := by
  unfold Obligations.TimeReferenceMeasurements
  intro s
  refine ⟨?_, ?_, ?_, ?_, ?_, ?_, ?_, ?_, ?_, exec_ptpSyncTimeout s, exec_announceReceiptTimeout s,
    fun n hn => exec_ppsEdgeMissing s hn, fun ql hlt hok => exec_esmcRx_accepted hlt hok,
    exec_syncEQualifyTimer_in⟩
  · intro lane time sel el fr two hlane hfr hon hl hs hm
    exact ⟨exec_ptpMessageRx hlane (by decide) hfr (ptpMessageRx_sync hon hl hs hm),
      fun ht2 => exec_ptpMessageRx hlane (by decide) hfr (ptpMessageRx_followUp hon hl hs hm ht2)⟩
  · intro lane time sel el fr two t1 t2 t3 off u hlane hfr hon hl hs hm hexch hoff hu hb
    subst hoff
    have hrx := ptpMessageRx_delayResp (two := two) (sel := sel) (ball := rxBall s lane el) (fr := fr) (time := time)
      hon hl hs hm hexch
    rw [← hu] at hrx
    have hu' : u.get F.TB_STATUS_phase_ref = s.get F.TB_STATUS_phase_ref ∧ u.tb.ptp = s.tb.ptp := hu ▸ ⟨rfl, rfl⟩
    obtain ⟨hget, hptp⟩ := hu'
    have hb' : beyondLimit u (ptpOffset t1 time t2 t3) = false := hu ▸ hb
    rw [← hget, ← hptp]
    refine ⟨fun hlen href => ?_, fun hlen href => ?_, fun hagree hprio href => ?_⟩
    · exact exec_ptpMessageRx hlane (by decide) hfr
        (hrx.trans ((ptpMeasure_short hb' hlen).trans (accepted_unused href)))
    · exact exec_ptpMessageRx hlane (by decide) hfr
        (hrx.trans ((ptpMeasure_short hb' hlen).trans (accepted_used href)))
    · exact exec_ptpMessageRx hlane (by decide) hfr
        (hrx.trans (ptpMeasure_eighth hb' (hu ▸ hagree) (hu ▸ hprio) href))
  · intro lane time sel el fr two hlane hfr hon hl hs
    exact exec_ptpMessageRx hlane (by decide) hfr (ptpMessageRx_announce hon hl hs)
  · intro lane time sel el fr two hlane hfr hon hl hm
    exact exec_ptpMessageRx hlane (by decide) hfr (ptpMessageRx_delayReq hon hl hm)
  · intro lane kind el fr hlane hfr hkind hon hl hm
    have hkind4 : kind ≠ 4 := by omega
    have hsend := exec_ptpMessageSend_sent (m := ⟨kind, el, fr⟩) hlane hfr hon (hm ▸ by decide) (hm ▸ by decide)
      (.inl ⟨hkind, hl, hm ▸ by decide⟩)
    simpa [hkind4] using hsend
  · intro lane el fr hlane hfr hon hl hm hs hload hsafe
    simpa using exec_ptpMessageSend_sent (m := ⟨4, el, fr⟩) hlane hfr hon hload hsafe (.inr ⟨rfl, hs, hl, hm⟩)
  · intro n off x hn hx hb run hrun
    have hedge := exec_ppsEdge_accepted hn hx hb hrun
    refine ⟨fun href => ?_, fun href => ?_⟩
    · rwa [accepted_unused href, setRef_setRef] at hedge
    · rwa [accepted_used href, ← hx] at hedge
  · exact fun n hn he => ⟨exec_todMessageRx_third hn he, exec_todMessageRx_counted hn he⟩
  · intro c bit reason hc hq href hql hst hroom
    obtain ⟨hb, x, hx⟩ := exec_lost hc hql
    exact ⟨_, hx, settle_refLost_unused hq hb href hst hroom rfl⟩

end Sys2Proof.Machine
end

section
/-! The frame-time family (O2, O3): a rejected measurement in a state whose registers exceed their widths, and the
transition to FREE when the event unit's queue has room for two records. -/

namespace Sys2Proof.Machine

/-! ### Losses by rejection (R50, R54) -/

/-- A locked time base on PPS0, whose measurements have all been rejected for its loss time. TB_STATUS.tref_active holds
2, more than its 1 bit, so that the oscillator in use would have bit 6 of TB_REF_QUAL, which is set there beyond the
register's 6 bits: holdover counts as possible. -/
def trefBeyondWidth : State :=
  { State.reset with
    now := 2 * 983040000
    flds := [(F.TB_STATUS_state.key, 2), (F.TB_STATUS_fp_valid.key, 1), (F.TB_STATUS_phase_ref.key, 2),
      (F.TB_STATUS_tref_active.key, 2), (F.TB_REF_QUAL_qual.key, 2 ^ 1 + 2 ^ 6), (F.CLK_TB_STATUS_input.key, 0)]
    tb := { TimeBase.reset with pps0 := { TimeRef.reset with rejSince := some 0 } } }

theorem trefBeyondWidth_holdoverPossible : holdoverPossible trefBeyondWidth = true := by decide

/-- The loss clears the reference's bit of TB_REF_QUAL, which cuts the register to its width: bit 6 is gone, holdover is
no longer possible, and the time base enters FREE. -/
theorem trefBeyondWidth_rejected_free :
    (rejected trefBeyondWidth 2 100000 (2 * secTk)).get F.TB_STATUS_state = Tb.free := by decide

/-- Refutes O2: when rejections have continued for the loss time of the only time reference of a locked time base, the
state is said to become HOLDOVER where holdover is possible before the rejection. In `trefBeyondWidth` it is possible
before and not after the loss. The statement ranges over every state and has no hypothesis that the registers fit their
widths. -/
theorem not_stepRejection : ¬ Obligations.StepRejection := by
  unfold Obligations.StepRejection
  intro h
  obtain ⟨_, _, hlost⟩ := h trefBeyondWidth 100000 (by decide) (by decide)
  obtain ⟨t, ht, _, _, _, _, _, _, hlast⟩ := hlost (.ppsEdge 0 100000) 2 0 ⟨rfl, by decide⟩ (by decide) rfl
    (.inl ⟨0, by decide, rfl, rfl, by decide⟩)
  obtain ⟨hstate, _⟩ := hlast (by decide) (by decide) (by decide)
  obtain ⟨_, rfl⟩ := checked_next (.ppsEdge 0 100000) _ t ht
  have hedge : beyondLimit trefBeyondWidth 100000 = true := by decide
  rw [trefBeyondWidth_holdoverPossible, if_pos rfl, settle_get _ _ (by decide) (by decide)] at hstate
  dsimp only at hstate
  rw [hedge, if_pos rfl, trefBeyondWidth_rejected_free] at hstate
  exact absurd hstate (by decide)

/-! ### The bound above te_limit (R66, R233, R476) -/

/-- Each second of HOLDOVER stores the bound, and a bound above te_limit enters FREE. -/
theorem exec_teEstEval {s : State} {te : Nat} (hst : s.get F.TB_STATUS_state = Tb.holdover)
    (hte : te = satNat 32 (teEst (s.bump F.TB_HOLD_TIME_seconds 1)
      ((s.bump F.TB_HOLD_TIME_seconds 1).get F.TB_HOLD_TIME_seconds))) :
    exec .teEstEval s = .next (settle (
      let u := (s.bump F.TB_HOLD_TIME_seconds 1).set F.TB_TE_EST_te_est_ns te
      if s.get F.TB_HOLD_CFG_te_limit_ns < te then setTb (raise u 968 8 5 te) Tb.free else u)) := by
  have hlimit : ((s.bump F.TB_HOLD_TIME_seconds 1).set F.TB_TE_EST_te_est_ns te).get F.TB_HOLD_CFG_te_limit_ns
      = s.get F.TB_HOLD_CFG_te_limit_ns :=
    (State.get_set_ne _ _ _ _ (by decide)).trans (State.get_set_ne _ _ _ _ (by decide))
  refine exec_next rfl rfl ?_
  rw [if_neg (not_not_intro hst), ← hlimit]
  dsimp only
  rw [← hte]

/-- A device in ACTIVE and HOLDOVER with a valid FP, whose bound stands above te_limit, outside the ledger window, and with room
for two records in the event unit's queue. -/
def queueNearFull : State :=
  { State.reset with
    now := 1
    flds := [(F.TB_STATUS_state.key, 3), (F.TB_STATUS_fp_valid.key, 1), (F.RST_MODE_mode.key, Mode.active)]
    ev := { State.reset.ev with inq := List.replicate 510 ⟨0, 0, 0, 0, 0, 0⟩, running := true }
    tb := { TimeBase.reset with te0 := 2000, tLast := some 0 } }

/-- The bound's event takes the first place. It is a ledger entry whose write is deferred, and the event of that
deferral (R233) takes the second, so the transition's record finds the queue full. -/
theorem queueNearFull_unreported :
    (setTb (raise ((queueNearFull.bump F.TB_HOLD_TIME_seconds 1).set F.TB_TE_EST_te_est_ns 2001) 968 8 5 2001)
      Tb.free).records 968 1 5 (0 + 3 * 4) = 0 := by decide +kernel

/-- Refutes O3: with room for two records, a bound above te_limit is said to report both TB_TE_LIMIT and TB_STATE. In
`queueNearFull` the deferral of the first event's ledger write is a record of its own, and TB_STATE is lost. -/
theorem not_timeBaseTransitions : ¬ Obligations.TimeBaseTransitions := by
  unfold Obligations.TimeBaseTransitions
  intro h
  obtain ⟨_, _, _, _, hlimit⟩ := h queueNearFull (by decide) rfl rfl
  obtain ⟨t, ht, _, _, _, _, hreport⟩ := hlimit (by decide) (by decide) (by decide) (by decide) ⟨rfl, by decide +kernel⟩
  have hexec := exec_teEstEval (s := queueNearFull) (te := 2001) (by decide) (by decide)
  rw [if_pos (by decide), ht] at hexec
  injection hexec with hexec
  rw [hexec, reports, settle_records, queueNearFull_unreported] at hreport
  exact absurd hreport (Nat.not_lt_zero _)

end Sys2Proof.Machine
end

section
/-! The frame-time family (O4): loop samples, the holdover bound, wait to restore and steps of the frame position. -/

namespace Sys2Proof.Machine

/-! ### Waiting for a frame position -/

@[simp] theorem atFp_flds (s : State) (n : Nat) : (s.atFp n).flds = s.flds := by
  unfold State.atFp
  split
  · exact State.later_flds _ _
  · rfl
@[simp] theorem atFp_get (s : State) (n : Nat) (f : Fld) : (s.atFp n).get f = s.get f :=
  State.get_of_flds _ _ (atFp_flds s n) f
@[simp] theorem atFp_tb (s : State) (n : Nat) : (s.atFp n).tb = s.tb := by
  unfold State.atFp
  split
  · exact State.later_tb _ _
  · rfl
@[simp] theorem atFp_fh (s : State) (n : Nat) : (s.atFp n).fh = s.fh := by
  unfold State.atFp
  split
  · exact State.later_fh _ _
  · rfl

/-! ### Samples and wait to restore (R44, R57, R80) -/

section
variable {s : State}

theorem exec_loopSecondSample (mean : Int) (h : s.get F.TB_STATUS_phase_ref ≠ 0) : exec (.loopSecondSample mean) s
    = .next (settle { s with tb := { s.tb with samples := ((s.now, mean) :: s.tb.samples).take 3700 } }) :=
  exec_next rfl rfl (if_neg h)

/-- A reference that qualified has one of the numbers 1 to 3. -/
theorem mem_timeRefs {r : Nat} (h : r ∈ timeRefs s) : 1 ≤ r ∧ r ≤ 3 := by
  simp only [timeRefs, List.mem_filter, Bool.and_eq_true, decide_eq_true_eq] at h
  exact h.2.1

theorem exec_waitToRestoreExpiry_timeRef {r : Nat} (hu : s.get F.TB_STATUS_phase_ref ≠ 0)
    (hr : r ∈ (timeRefs s).takeWhile (· ≠ s.get F.TB_STATUS_phase_ref)) :
    exec (.waitToRestoreExpiry r) s = .next (settle (s.set F.TB_STATUS_phase_ref r)) := by
  obtain ⟨h1, h3⟩ := mem_timeRefs ((List.takeWhile_subset _) hr)
  refine exec_next rfl ?_ ?_
  · simp [Instr.wf, h1, Nat.le_trans h3]
  · have h4 : r ≠ 4 := by omega
    have h5 : r ≠ 5 := by omega
    have hc := List.contains_iff_mem.mpr hr
    rw [if_neg h5, if_neg h4]
    dsimp only
    rw [hc, decide_eq_true hu, Bool.and_self, if_pos rfl]

theorem exec_stepAccept (h : s.flag F.TB_STATUS_step_pending = true) :
    exec .stepAccept s = .next (settle { s with tb := { s.tb with stepAccepted := true } }) :=
  exec_next rfl rfl (if_pos h)

/-! ### Steps of the frame position (R55) -/

/-- The frame position jumps by `d` ticks at count `n`, and TB_STEP_APPLIED says so. -/
def stepRaised (s : State) (n : Nat) (d : Int) : State :=
  raise ({ s.atFp n with
      fp := fpShift n d
      tb := { s.tb with stepAccepted := false, exch := ⟨none, none, none⟩ } }.set F.TB_STATUS_step_pending 0)
    968 5 5 (ofInt 32 d)

/-- The step takes its state, before the triggers and the fronthaul path see a step forward. -/
def stepped (s : State) (n : Nat) (d : Int) : State :=
  setTb (stepRaised s n d) (if s.get F.TB_STATUS_phase_ref ≠ 0 then 1 else 0)

theorem stepRaised_phase (s : State) (n : Nat) (d : Int) :
    (stepRaised s n d).get F.TB_STATUS_phase_ref = s.get F.TB_STATUS_phase_ref := by
  rw [stepRaised, raise_get _ _ _ _ _ _ (by decide), State.get_set_ne _ _ _ _ (by decide)]
  exact atFp_get s n _

/-- An accepted step applies at the next frame boundary. -/
theorem exec_stepApply {n : Nat} {d : Int} {u v : State} (ha : s.tb.stepAccepted = true)
    (hp : s.flag F.TB_STATUS_step_pending = true) (hn : n = nextMult s.fp 0 frameTk)
    (hd : d = nsToTk (toInt 32 (s.get F.TB_STEP_PENDING_offset_ns))) (hu : u = stepped s n d)
    (hv : v = stepLate u (fpShift n (-1))) : exec .stepApply s
      = .next (settle (if d ≤ 0 then u else fhStep ((v.tb.trgs.map Prod.fst).foldl trgSkip v) n)) := by
  refine exec_next (u := stepApply s) rfl rfl ?_
  unfold stepApply
  rw [ha, hp, if_neg (by decide), ← hn]
  dsimp only [setTbase]
  rw [atFp_get, ← hd, atFp_tb, ← stepRaised, stepRaised_phase, hv, hu]
  rfl

end

/-- Settles O4: each clause is the rule of its command above. -/
theorem holdoverSeconds : Obligations.HoldoverSeconds := by
  unfold Obligations.HoldoverSeconds
  intro s
  refine ⟨fun mean => exec_loopSecondSample mean, fun hst hte => ?_, fun r => exec_waitToRestoreExpiry_timeRef,
    exec_next rfl rfl rfl, exec_next rfl rfl rfl, exec_stepAccept, fun ha hp hd => ?_, ?_⟩
  · rw [exec_teEstEval hst rfl]
    dsimp only
    rw [if_neg (Nat.not_lt.mpr hte)]
  · rw [exec_stepApply ha hp rfl rfl rfl rfl, if_pos hd]
    rfl
  · intro n d u ha hp hn hd hpos hu
    rw [exec_stepApply ha hp hn hd hu rfl, if_neg (Int.not_le.mpr hpos)]

end Sys2Proof.Machine
end

section
/-! The frame-time family (O5): the oscillator model and the board temperature sensor. -/

namespace Sys2Proof.Machine

/-! ### Reading and replacing models (R59, R318, R320) -/

section
variable {s : State}

/-- With no poisoned word a read changes nothing. -/
theorem modelRead_clean (i : Nat) (h : s.fh.poisoned = []) : modelRead s i = s := by
  simp [modelRead, h]

theorem modelUse_clean (h : s.fh.poisoned = []) : modelUse s = s := modelRead_clean _ h

theorem markDirty_flds (s : State) (a : Nat) : (markDirty s a).flds = s.flds := by
  unfold markDirty
  split <;> rfl

theorem markDirty_fresh (s : State) (a : Nat) : (markDirty s a).fresh = s.fresh := by
  unfold markDirty
  split <;> rfl

theorem markDirty_get (s : State) (a : Nat) (f : Fld) : (markDirty s a).get f = s.get f :=
  State.get_of_flds _ _ (markDirty_flds s a) f

theorem setModel_fresh (s : State) (i : Nat) (m : OscModel) : (setModel s i m).fresh = s.fresh := by
  simp [setModel, markDirty_fresh, modelStatus]

theorem settle_model (s : State) (i : Nat) : (settle s).model i = s.model i := by
  simp [State.model]

theorem setModel_model (s : State) (i : Nat) (m : OscModel) : (setModel s i m).model i = m := by
  simp [setModel, State.model, markDirty_tb, modelStatus, aget_aset_same]

/-- The state of the time base is not among the registers that follow a model. -/
theorem setModel_state (s : State) (i : Nat) (m : OscModel) :
    (setModel s i m).get F.TB_STATUS_state = s.get F.TB_STATUS_state := by
  rw [setModel, markDirty_get, modelStatus]
  simp only [State.setAll_cons, State.setAll_nil]
  iterate 5 rw [State.get_set_ne _ _ _ _ (by decide)]
  rfl

theorem modelGiven_state (s : State) (i : Nat) (ws : List Nat) :
    (modelGiven s i ws).get F.TB_STATUS_state = s.get F.TB_STATUS_state := by
  unfold modelGiven
  dsimp only
  split
  · rw [raise_get _ _ _ _ _ _ (by decide), setModel_state]
  · exact setModel_state s i _

end

/-! ### The commands of the oscillator model (R59, R62, R64, R65) -/

section
variable {s : State} {i : Nat} {m : OscModel}

theorem exec_modelSample (hpois : s.fh.poisoned = []) (hl : modelLearns s = true)
    (hi : i = s.get F.TB_STATUS_tref_active) (hm : m = s.model i) {b : Nat}
    (hb : b = (toInt 16 (s.get F.TB_BTEMP_temp) / 16 + 64).toNat) :
    exec .modelSample s = .next (settle (setModel s i { m with
      bins := aset m.bins b (((aget m.bins b).getD (0, 0)).1 + 1,
        ((aget m.bins b).getD (0, 0)).2 + toInt 32 (s.get F.TB_FREQ_CORR_corr))
      secs := m.secs + 10 })) := by
  subst hb hm hi
  refine exec_next rfl rfl ?_
  rw [modelUse_clean hpois]
  exact if_pos hl

/-- A refit of a valid model keeps it valid and its bins; its words are closed by their CRC. -/
theorem exec_modelRefit (hpois : s.fh.poisoned = []) (hl : modelLearns s = true)
    (hi : i = s.get F.TB_STATUS_tref_active) (hm : m = s.model i) (hbins : m.bins ≠ []) (hv : m.valid = true) :
    ∃ ws : List Nat, ws.length = 15 ∧ exec .modelRefit s = .next (settle (setModel { s with fresh := s.fresh + 8 } i
      { m with order := modelOrder (m.span.2 - m.span.1), words := ws ++ [crc32c ws], valid := true })) := by
  subst hm hi
  have hexec : exec .modelRefit s = _ := checked_wf .modelRefit _ rfl
  rw [modelUse_clean hpois] at hexec
  dsimp only at hexec
  rw [hl, Bool.not_true, decide_eq_false hbins, Bool.or_self, if_neg Bool.false_ne_true, hv, Bool.true_or,
    Bool.not_true, Bool.and_false, if_neg Bool.false_ne_true] at hexec
  exact ⟨_, rfl, hexec⟩

theorem exec_modelSnapshot (hpois : s.fh.poisoned = []) (hst : s.get F.TB_STATUS_state = 2)
    (hv : (s.model (s.get F.TB_STATUS_tref_active)).valid = true) (hfull : s.flag F.LED_STATUS_full = false) :
    exec .modelSnapshot s = .next (settle (if s.flag F.LED_STATUS_window then
        snapEnqueue s (s.model (s.get F.TB_STATUS_tref_active)).words
      else raise (snapEnqueue (snapDrop s) (s.model (s.get F.TB_STATUS_tref_active)).words) 976 0x15 2 0)) := by
  refine exec_next rfl rfl ?_
  rw [modelUse_clean hpois]
  simp [hst, hv, hfull, Tb.locked]

theorem exec_modelExport (hpois : s.fh.poisoned = []) (hi : i < 2) :
    exec (.modelExport i) s = .next (settle (s.setAll
      ((List.range 16).map (fun k => (F.TB_MODEL_WIN_word k, (s.model i).words.getD k 0))))) := by
  refine exec_next rfl (decide_eq_true hi) ?_
  rw [modelRead_clean i hpois]

/-- In ACQUIRING a window with a correct CRC and format is given to the oscillator. -/
theorem exec_modelImport (hi : i < 2) (hcrc : (modelWin s).getD 15 0 = crc32c ((modelWin s).take 15))
    (hfmt : bits ((modelWin s).getD 0 0) 0 8 = 1) (hst : s.get F.TB_STATUS_state = 1) :
    exec (.modelImport i) s = .next (settle (modelGiven s i (modelWin s))) := by
  refine exec_next rfl (decide_eq_true hi) ?_
  have hgiven := (modelGiven_state s i (modelWin s)).trans hst
  rw [modelImportWords, if_neg (not_not_intro hcrc), if_neg (not_not_intro hfmt), if_neg (by rw [hst]; decide)]
  dsimp only
  rw [hgiven]
  rfl

end

/-! ### The board temperature sensor (R60) -/

section
variable {s : State} {r : Nat}

/-- The registers and the time base after the good reading that makes BTEMP valid. -/
def btempGood (s : State) (t : Int) : State :=
  { ((s.set F.TB_BTEMP_temp (ofInt 16 t)).set F.TB_BTEMP_valid 1).set F.TB_STATUS_btemp_ok 1 with
    tb := { s.tb with btGood := 4, btBad := 0, tLast := some t } }

theorem btempGood_regs (t : Int) (f : Fld) : (btempGood s t).get f
    = (((s.set F.TB_BTEMP_temp (ofInt 16 t)).set F.TB_BTEMP_valid 1).set F.TB_STATUS_btemp_ok 1).get f := rfl

theorem btempGood_get (t : Int) (f : Fld) (htemp : f.key ≠ F.TB_BTEMP_temp.key) (hvalid : f.key ≠ F.TB_BTEMP_valid.key)
    (hok : f.key ≠ F.TB_STATUS_btemp_ok.key) : (btempGood s t).get f = s.get f := by
  rw [btempGood_regs, State.get_set_ne _ _ _ _ hok, State.get_set_ne _ _ _ _ hvalid, State.get_set_ne _ _ _ _ htemp]

/-- Outside HOLDOVER a reading corrects nothing. -/
theorem holdoverCorrection_unheld (h : s.get F.TB_STATUS_state ≠ Tb.holdover) : holdoverCorrection s = s := by
  simp [holdoverCorrection, h]

theorem exec_btempRead_fourth (hr : r < 65536) (hen : s.flag F.TB_BTEMP_CFG_enable = true)
    (hin : btempIn (s.get F.TB_BTEMP_CFG_format) r = true) (hgood : s.tb.btGood = 3)
    (hst : s.get F.TB_STATUS_state ≠ Tb.holdover) : exec (.btempRead (some r)) s
      = .next (settle (btempGood s (btempValue (s.get F.TB_BTEMP_CFG_format) r))) := by
  refine exec_next rfl (by simp [Instr.wf, hr]) ?_
  have hvalid : ∀ u : State, ((u.set F.TB_BTEMP_valid 1).set F.TB_STATUS_btemp_ok 1).flag F.TB_BTEMP_valid = true :=
    fun u => by rw [State.flag, State.get_set_ne _ _ _ _ (by decide), State.get_set_same]; rfl
  have hmin : min 4 (3 + 1) = 4 := rfl
  simp only [hen, hin, hgood, hmin, hvalid, State.set_tb, Bool.not_true, Bool.false_eq_true, if_true, if_false]
  refine holdoverCorrection_unheld (s := btempGood s (btempValue (s.get F.TB_BTEMP_CFG_format) r)) ?_
  rw [btempGood_get _ _ (by decide) (by decide) (by decide)]
  exact hst

/-- What that reading leaves, settled. -/
theorem settle_btempGood {t : State} {v : Int} (ht : t = settle (btempGood s v)) :
    t.tb = { s.tb with btGood := 4, btBad := 0, tLast := some v } ∧ t.get F.TB_BTEMP_temp = ofInt 16 v ∧
      t.flag F.TB_BTEMP_valid = true ∧ t.flag F.TB_STATUS_btemp_ok = true ∧
      Frame s t [.tb] [F.TB_BTEMP_temp, F.TB_BTEMP_valid, F.TB_STATUS_btemp_ok] := by
  subst ht
  have hlt : ofInt 16 v < 2 ^ 16 := by
    unfold ofInt
    omega
  refine ⟨settle_tb _, ?_, ?_, ?_, Frame.of_beside rfl (fun _ => rfl) (fun _ => rfl) (fun h => absurd (by simp) h)
    fun f hf => ?_⟩
  · rw [settle_get _ _ (by decide) (by decide), btempGood_regs, State.get_set_ne _ _ _ _ (by decide),
      State.get_set_ne _ _ _ _ (by decide), State.get_set_same]
    exact Nat.mod_eq_of_lt hlt
  · rw [State.flag, settle_get _ _ (by decide) (by decide), btempGood_regs, State.get_set_ne _ _ _ _ (by decide),
      State.get_set_same]
    rfl
  · rw [State.flag, settle_get _ _ (by decide) (by decide), btempGood_regs, State.get_set_same]
    rfl
  · simp only [List.map_cons, List.map_nil, List.mem_cons, List.not_mem_nil, or_false, not_or] at hf
    obtain ⟨htemp, hvalid, hok⟩ := hf
    exact btempGood_get v f htemp hvalid hok

end

/-- Settles O5: each clause is the rule of its command above. -/
theorem oscillatorModel : Obligations.OscillatorModel := by
  unfold Obligations.OscillatorModel
  intro s hpois
  refine ⟨fun hst hvalid hin => ?_, fun r hr hen hin hgood hst => ?_, exec_modelSnapshot hpois,
    fun i hi => exec_modelExport hpois hi, fun i hi => exec_modelImport hi,
    fun i hi => exec_next rfl (decide_eq_true hi) rfl⟩
  · have hl : modelLearns s = true := by simp [modelLearns, hst, hvalid, hin, Tb.locked]
    refine ⟨fun i m b hi hm hb => exec_modelSample hpois hl hi hm hb, fun i m hi hm hbins hv => ?_⟩
    obtain ⟨ws, hlen, hexec⟩ := exec_modelRefit hpois hl hi hm hbins hv
    refine ⟨_, hexec, ?_⟩
    rw [settle_model, setModel_model, settle_fresh, setModel_fresh]
    simp [hlen]
  · exact ⟨_, exec_btempRead_fourth hr hen hin hgood hst, settle_btempGood rfl⟩

end Sys2Proof.Machine
end

section
/-! The frame-time family (O6): timing triggers. -/

namespace Sys2Proof.Machine

section
variable {s : State}

/-! ### Reads and commits (R69, R70) -/

theorem exec_trgRead (h : s.flag F.TB_TRG_STATUS_busy = false) :
    exec .trgRead s = .next (settle (s.setAll ((List.range 8).map (fun k =>
      (F.TB_TRG_DATA_data k, (s.trg (s.get F.TB_TRG_INDEX_index)).word k))))) := by
  refine exec_next rfl rfl ?_
  rw [h, if_neg Bool.false_ne_true]

theorem exec_trgCommit_accepted {keep : Bool} {d : List Nat}
    (hd : d = (List.range 8).map (fun k => s.get (F.TB_TRG_DATA_data k))) (hb : s.flag F.TB_TRG_STATUS_busy = false)
    (hr : trgRefusal s (s.get F.TB_TRG_INDEX_index) d = 0) : exec (.trgCommit keep) s = .next (settle
      { s.setAll [(F.TB_TRG_STATUS_last_refused, 0), (F.TB_TRG_STATUS_busy, 1)] with
        tb := { s.tb with trgPend := some ⟨s.get F.TB_TRG_INDEX_index, d, keep, fpAdd s.fp 8⟩ } }) := by
  subst hd
  refine exec_next (u := trgCommit s keep) rfl rfl ?_
  rw [trgCommit, hb, if_neg Bool.false_ne_true]
  dsimp only
  rw [hr, if_neg (not_not_intro rfl)]
  rfl

/-- The state in which a pending commit takes effect, before the entry takes its data. -/
def trgEffecting (s : State) (x : TrgPend) : State :=
  { s.atFp x.at' with tb := { s.tb with trgPend := none } }.set F.TB_TRG_STATUS_busy 0

theorem trgEffecting_get (x : TrgPend) (f : Fld) (h : f.key ≠ F.TB_TRG_STATUS_busy.key) :
    (trgEffecting s x).get f = s.get f := by
  rw [trgEffecting, State.get_set_ne _ _ _ _ h]
  exact atFp_get s _ f

theorem setTrg_get (i : Nat) (e : TrgEntry) (f : Fld) : (setTrg s i e).get f = s.get f := rfl

/-- A commit without `keep` into an entry that waits for no firing and is disabled replaces it, and arms it once
fp_valid is 1. -/
theorem exec_trgCommitEffect {x : TrgPend} (hx : s.tb.trgPend = some x) (hk : x.keep = false)
    (hnext : (s.trg x.index).next = none) (hpois : s.fh.poisoned = [])
    (hen : s.flag F.TB_STATUS_fp_valid = true → (s.trg x.index).enable = false) :
    exec .trgCommitEffect s = .next (settle (
      let u := setTrg (trgEffecting s x) x.index ⟨x.data, none⟩
      if s.flag F.TB_STATUS_fp_valid then armTrg u x.index x.at' else u)) := by
  refine exec_next (u := trgEffect s) rfl rfl ?_
  have htrg : (s.atFp x.at').trg x.index = s.trg x.index := by simp [State.trg]
  unfold trgEffect
  split
  · next h => exact absurd (hx.symm.trans h) (by simp)
  · next y hy =>
    obtain rfl : x = y := Option.some.inj (hx.symm.trans hy)
    extract_lets s1 i s2 old hit new left _ _ s3 s4 s5 u
    have h2 : s2 = s.atFp x.at' := if_neg (by rw [htrg, hnext]; simp)
    have hleft : left = s2.fh.poisoned := by simp [left, h2, hpois]
    have h3 : s3 = setTbase s2 { s2.tb with trgPend := none } := by
      unfold s3
      rw [hleft]
      rfl
    have h5 : s5 = u := by
      unfold s5 s4
      rw [h3, h2, atFp_tb]
      rfl
    have hvalid : s5.flag F.TB_STATUS_fp_valid = s.flag F.TB_STATUS_fp_valid := by
      rw [h5, State.flag, setTrg_get, trgEffecting_get _ _ (by decide), State.flag]
    rw [hk, Bool.false_and, Bool.false_and, Bool.false_and, Bool.false_and]
    dsimp only
    rw [hvalid, h5]
    by_cases hv : s.flag F.TB_STATUS_fp_valid = true
    · have hhit : hit = false := by
        have hold : old.enable = false := by rw [← hen hv, ← htrg, ← h2]
        simp [hit, hold]
      rw [hhit]
      rfl
    · rw [if_neg hv, if_neg hv]

/-! ### Firing (R71) -/

theorem trgFires_active (hv : s.flag F.TB_STATUS_fp_valid = true) (hl : s.mode ≠ Mode.load) (hs : s.mode ≠ Mode.safe) :
    trgFires s = true := by simp [trgFires, hv, hl, hs]

/-- A trigger that alone is due at count `n` moves on and fires. -/
theorem exec_triggerFire_alone {i n : Nat} {e : TrgEntry} {u : State} (hi : i < 4096) (he : e = s.trg i)
    (hn : e.next = some n) (hen : e.enable = true) (hf : trgFires s = true) (hpois : s.fh.poisoned = [])
    (hdue : dueAt s n = [i]) (hfired : s.tb.fired.contains i = false)
    (hu : u = { s.atFp n with tb := { s.tb with fired := [], firedN := n } }) :
    exec (.triggerFire i) s = .next (settle (fire (trgAdvance u i n) i e n)) := by
  refine exec_next (u := triggerFire s i) rfl (decide_eq_true hi) ?_
  have hpoisoned : trgPoisoned (trgAdvance u i n) i = false := by
    have hfh : (trgAdvance u i n).fh = s.fh := by rw [hu]; exact atFp_fh s n
    simp [trgPoisoned, hfh, hpois]
  have hat : fireAt n u i = fire (trgAdvance u i n) i e n := by
    have heu : u.trg i = e := by rw [he, hu]; rfl
    rw [fireAt, heu]
    rw [hpoisoned, if_neg Bool.false_ne_true]
  have hdel : ndel [i] i = [] := by simp [ndel]
  rw [triggerFire, hfired, Bool.false_and, if_neg Bool.false_ne_true, ← he, hn]
  dsimp only
  rw [hen, hf, hdue, hdel, ← hat, hu]
  rfl

/-- Of the actions an entry with the event action alone has that one. -/
theorem fire_event_alone {e : TrgEntry} (i p : Nat) (hev : e.actEvent = true) (hpin : e.actPin = false)
    (hrel : e.actRelease = false) (hcom : e.actCommit = false) (hwake : e.wake = false) :
    fire s i e p = raise s 977 0x20 e.severity (e.word 5) := by
  simp [fire, hev, hpin, hrel, hcom, hwake]

/-! ### The end of a pulse (R71) -/

theorem exec_triggerPulseEnd {i : Nat} {x : PinPulse} {u : State} (hi : i < 4096)
    (hx : firstPulse s.tb.pulses i = some x)
    (hu : u = { s.atNow x.till with tb := { s.tb with pulses := s.tb.pulses.filter (fun y => y ≠ (i, x)) } }) :
    exec (.triggerPulseEnd i) s = .next (settle (if u.tb.pulses.any (fun y => y.2.pin = x.pin) then u
      else { u with pins := { s.pins with uioLevel := aset s.pins.uioLevel x.pin (!x.level) } })) := by
  subst hu
  refine exec_next (u := pulseEnd s i) rfl (decide_eq_true hi) ?_
  rw [pulseEnd, hx]
  rfl

end

/-- Settles O6: each clause is the rule of its command above. -/
theorem triggers : Obligations.Triggers := by
  unfold Obligations.Triggers
  intro s
  refine ⟨exec_trgRead, fun keep d hd hb hr => exec_trgCommit_accepted hd hb hr, ?_, ?_, ?_, ?_,
    fun i x u hi hx hu => exec_triggerPulseEnd hi hx hu⟩
  · intro x hx hk hv hnext hpois
    rw [exec_trgCommitEffect hx hk hnext hpois fun h => absurd h (by simp [hv]), hv]
    rfl
  · intro x hx hk hv hnext hen hpois
    rw [exec_trgCommitEffect hx hk hnext hpois fun _ => hen, hv]
    rfl
  · intro i n e u hi he hn hen hv hl hs hpois hdue hfired hu
    exact exec_triggerFire_alone hi he hn hen (trgFires_active hv hl hs) hpois hdue hfired hu
  · intro i n e hi he hn hen hev hpin hrel hcom hwake hv hl hs hpois hdue hfired
    rw [exec_triggerFire_alone hi he hn hen (trgFires_active hv hl hs) hpois hdue hfired rfl,
      fire_event_alone i n hev hpin hrel hcom hwake, he]
    rfl

end Sys2Proof.Machine
end

section
/-! The frame-time family (O7): captures, PPS_OUT, TOD_OUT and SYSREF_OUT. -/

namespace Sys2Proof.Machine

/-! ### The next multiple (R10, R73) -/

/-- The first count from `a` on, wraps apart, that is `o` short of a multiple of `m`. -/
def multFrom (a o m : Nat) : Nat := a + (m - (a + o) % m) % m

theorem nextMult_eq (n o m : Nat) :
    nextMult n o m = if multFrom n o m < fpSpan then multFrom n o m else multFrom 0 o m := by
  simp [nextMult, multFrom]

theorem multFrom_mult (a o : Nat) {m : Nat} (hm : 0 < m) : (multFrom a o m + o) % m = 0 := by
  have hr := Nat.mod_lt (a + o) hm
  have hsum : (a + o) % m + (m - (a + o) % m) = m := by omega
  have hcomm : multFrom a o m + o = a + o + (m - (a + o) % m) % m := by
    unfold multFrom
    omega
  rw [hcomm, Nat.add_mod, Nat.mod_mod, ← Nat.add_mod_mod, Nat.mod_mod, Nat.add_mod_mod, hsum, Nat.mod_self]

/-- No count between is one. -/
theorem not_mult_of_lt_multFrom {a o m x : Nat} (hm : 0 < m) (ha : a ≤ x) (hx : x < multFrom a o m) :
    (x + o) % m ≠ 0 := by
  have hr := Nat.mod_lt (a + o) hm
  unfold multFrom at hx
  rcases Nat.eq_zero_or_pos ((a + o) % m) with h0 | hpos
  · rw [h0, Nat.sub_zero, Nat.mod_self] at hx
    omega
  · rw [Nat.mod_eq_of_lt (by omega : m - (a + o) % m < m)] at hx
    have hsplit : x + o = m * ((a + o) / m) + ((a + o) % m + (x - a)) := by
      have := Nat.div_add_mod (a + o) m
      omega
    rw [hsplit, Nat.mul_add_mod, Nat.mod_eq_of_lt (by omega)]
    omega

theorem multFrom_zero_lt (o : Nat) {m : Nat} (hm : 0 < m) : multFrom 0 o m < m := by
  rw [multFrom, Nat.zero_add]
  exact Nat.mod_lt _ hm

theorem nextMult_mult (n o : Nat) {m : Nat} (hm : 0 < m) : (nextMult n o m + o) % m = 0 := by
  rw [nextMult_eq]
  split
  · exact multFrom_mult n o hm
  · exact multFrom_mult 0 o hm

/-- Of the counts from `n` on, across the wrap of the epoch, `nextMult` is the first. -/
theorem nextMult_first {n o m d : Nat} (hm : 0 < m) (hspan : m ≤ fpSpan) (hn : n < fpSpan)
    (hd : d < fpGap n (nextMult n o m)) : (fpAdd n d + o) % m ≠ 0 := by
  have hge : n ≤ multFrom n o m := Nat.le_add_right _ _
  have h0 := multFrom_zero_lt o hm
  have hbelow := fun x => not_mult_of_lt_multFrom (a := n) (o := o) (x := x) hm
  have hbelow0 := fun x => not_mult_of_lt_multFrom (a := 0) (o := o) (x := x) hm (Nat.zero_le x)
  rw [nextMult_eq] at hd
  unfold fpGap fpAdd at *
  generalize fpSpan = span at *
  split at hd
  · have hgap : multFrom n o m + span - n = multFrom n o m - n + span := by omega
    rw [hgap, Nat.add_mod_right, Nat.mod_eq_of_lt (a := multFrom n o m - n) (by omega)] at hd
    rw [Nat.mod_eq_of_lt (a := n + d) (by omega)]
    exact hbelow _ (by omega) (by omega)
  · have hd' := hd.trans_le (Nat.mod_le _ _)
    by_cases hnd : n + d < span
    · rw [Nat.mod_eq_of_lt hnd]
      exact hbelow _ (by omega) (by omega)
    · rw [Nat.mod_eq_sub_mod (a := n + d) (by omega), Nat.mod_eq_of_lt (a := n + d - span) (by omega)]
      exact hbelow0 _ (by omega)

theorem fpShift_lt (n : Nat) (d : Int) : fpShift n d < fpSpan := by
  have hpos : (0 : Int) < (fpSpan : Int) := by decide
  have hlt := Int.emod_lt_of_pos ((n : Int) + d) hpos
  have hnn := Int.emod_nonneg ((n : Int) + d) hpos.ne'
  unfold fpShift
  omega

/-! ### Outputs (R43, R73, R75) -/

section
variable {s : State}

theorem exec_ppsOutPulse {c : Int} {n : Nat} {u : State} (hq : timeQuiet s = false)
    (hen : s.flag F.TB_PPS_CFG_pps_en = true)
    (hst : s.get F.TB_STATUS_state ≠ 0 ∨ s.flag F.TB_PPS_CFG_free_en = true)
    (hc : c = nsToTk (toInt 16 (s.get F.TB_PPS_CFG_comp_ns)))
    (hn : n = nextMult (fpShift s.fp c) (s.get F.TB_EPOCH_TK_o) secTk) (hu : u = s.atFp (fpShift n (-c))) :
    exec .ppsOutPulse s = .next (settle { u with tb := { s.tb with
      ppsEdge := some (n, u.now), todDue := true
      ppsUntil := some (u.now + usToTk (max 1 (s.get F.TB_PPS_CFG_width_us))) } }) := by
  subst hu hn hc
  refine exec_next rfl rfl ?_
  have hon : (!timeQuiet s && s.flag F.TB_PPS_CFG_pps_en
      && (s.get F.TB_STATUS_state ≠ Tb.free || s.flag F.TB_PPS_CFG_free_en)) = true := by
    simp only [hq, hen, Bool.not_false, Bool.and_self, Bool.true_and, Bool.or_eq_true, decide_eq_true_eq]
    exact hst
  rw [hon, if_pos rfl]
  dsimp only
  rw [atFp_tb, atFp_get]

theorem exec_ppsOutPulse_off (h : timeQuiet s = true ∨ s.flag F.TB_PPS_CFG_pps_en = false
      ∨ (s.get F.TB_STATUS_state = 0 ∧ s.flag F.TB_PPS_CFG_free_en = false)) :
    exec .ppsOutPulse s = .next (settle s) := by
  refine exec_next rfl rfl (if_neg ?_)
  rcases h with h | h | ⟨h, hf⟩
  · simp [h]
  · simp [h]
  · simp [h, hf, Tb.free]

/-- The clock status does not change while the message waits. -/
theorem todStatus_atNow (s : State) (t : Nat) : todStatus (s.atNow t) = todStatus s := by
  have hget : (s.atNow t).get F.TB_STATUS_state = s.get F.TB_STATUS_state :=
    State.get_of_flds _ _ (State.later_flds _ _) _
  simp only [todStatus, hget]

theorem exec_todOutSend {n t0 : Nat} (he : s.tb.ppsEdge = some (n, t0)) (hd : s.tb.todDue = true)
    (hen : s.flag F.TB_PPS_CFG_tod_out_en = true) (hq : timeQuiet s = false) :
    exec .todOutSend s = .next (settle { s.atNow (t0 + 983040) with
      tb := { s.tb with todSent := some (fpPack n * 4 + todStatus s), todDue := false } }) := by
  refine exec_next rfl rfl ?_
  rw [he]
  dsimp only
  rw [hd, hen, hq, Bool.not_false, Bool.and_self, Bool.and_self, if_pos rfl,
    todStatus_atNow, State.atNow_eq, State.later_tb]

theorem exec_todOutSend_off (h : s.tb.todDue = false ∨ s.flag F.TB_PPS_CFG_tod_out_en = false ∨ timeQuiet s = true) :
    exec .todOutSend s = .next (settle s) := by
  refine exec_next rfl rfl ?_
  split
  · rfl
  · refine if_neg ?_
    rcases h with h | h | h <;> simp [h]

theorem mem_nins {a k : Nat} {l : List Nat} : a ∈ nins k l ↔ a = k ∨ a ∈ l := by
  induction l with
  | nil => simp [nins]
  | cons h t ih =>
    unfold nins
    split
    · simp
    · split
      · next he => simp [he]
      · simp only [List.mem_cons, ih]
        tauto

theorem mem_foldl_nins {a : Nat} (on : List Nat) {l : List Nat} :
    a ∈ on.foldl (fun l k => nins k l) l ↔ a ∈ on ∨ a ∈ l := by
  induction on generalizing l with
  | nil => simp
  | cons k on ih =>
    rw [List.foldl_cons, ih, mem_nins, List.mem_cons]
    tauto

theorem exec_sysrefArm {mask : Nat} (hm : mask < 16) :
    ∃ t, exec (.sysrefArm mask) s = .next t ∧
      (∀ k, k < 4 → (k ∈ t.tb.sysrefArmed ↔
        k ∈ s.tb.sysrefArmed ∨ (mask.testBit k = true ∧ s.get (F.TB_SYSREF_CFG_mode k) = 2))) ∧
      Frame s t [.tb] [] := by
  refine ⟨_, checked_wf (.sysrefArm mask) _ (decide_eq_true hm), fun k hk => ?_, Frame.of_beside rfl (fun _ => rfl)
    (fun _ => rfl) (fun h => absurd (by simp) h) (fun _ _ => rfl)⟩
  rw [settle_tb]
  dsimp only
  rw [mem_foldl_nins, List.mem_filter]
  simp [bitAt, hk, or_comm]

theorem exec_sysrefGappedStart {k : Nat} {u : State} (hk : k < 4) (ha : k ∈ s.tb.sysrefArmed)
    (hq : timeQuiet s = false) (hu : u = s.atFp (nextMult s.fp 0 frameTk)) :
    exec (.sysrefGappedStart k) s = .next (settle { u with tb := { s.tb with
      sysrefArmed := ndel s.tb.sysrefArmed k
      sysrefBurst := aset s.tb.sysrefBurst k (u.fp, if s.get (F.TB_SYSREF_DLY_gap_count k) = 0 then 16
        else s.get (F.TB_SYSREF_DLY_gap_count k)) } }) := by
  subst hu
  refine exec_next rfl (decide_eq_true hk) ?_
  rw [List.contains_iff_mem.mpr ha, hq, Bool.not_false, Bool.and_self, if_pos rfl]
  dsimp only
  rw [atFp_tb, atFp_get]

end

/-- Settles O7: each clause is the rule of its command above; that the edge of PPS_OUT marks the next second boundary is
what `nextMult` is. -/
theorem timeOutputs : Obligations.TimeOutputs := by
  unfold Obligations.TimeOutputs
  intro s
  refine ⟨fun who => exec_next rfl rfl rfl, fun c n u hq hen hst hc hn hu => ?_, exec_ppsOutPulse_off,
    fun n t0 => exec_todOutSend, exec_todOutSend_off, fun mask => exec_sysrefArm, fun k u => exec_sysrefGappedStart⟩
  refine ⟨?_, fun d hd => ?_, exec_ppsOutPulse hq hen hst hc hn hu⟩
  · rw [hn]
    exact nextMult_mult _ _ (by decide)
  · rw [hn] at hd
    exact nextMult_first (by decide) (by decide) (fpShift_lt s.fp c) hd

end Sys2Proof.Machine
end

section
/-! The clocks family (O8 to O10, O40, O41): registers after writes elsewhere. -/

namespace Sys2Proof.Machine

/-! ### Registers after writes at other addresses -/

/-- A register none of several written ones lies at keeps its value. -/
theorem State.get_setAll_ne (s : State) (l : List (Fld × Nat)) (f : Fld) (h : ∀ x ∈ l, f.key ≠ x.1.key) :
    (s.setAll l).get f = s.get f :=
  foldl_view (fun t : State => t.get f) _ l s fun t x hx => t.get_set_ne x.1 f x.2 (h x hx)

theorem State.flag_of_get {s t : State} {f : Fld} (h : t.get f = s.get f) : t.flag f = s.flag f := by
  simp [State.flag, h]

/-- A register that neither an event nor settling writes (R475 to R479, R77). -/
def Fld.quiet (f : Fld) : Prop := f.key ∉ evKeys ∧ f.key ≠ F.EV_STATUS_alert.key ∧ f.key ≠ F.TB_TRG_STATUS_armed.key

/-- The registers of the blocks from the clocks to the security unit are, but for RST_EV_LOST. -/
theorem Fld.quiet_of_key {f : Fld} (hlo : 0x10229 * 32 ≤ f.key) (hhi : f.key < 0x800000 * 32)
    (h : f.key < 0x21020 * 32 ∨ 0x21021 * 32 ≤ f.key) : f.quiet := by
  have hne : ∀ g : Fld, g.key < 0x10229 * 32 ∨ g.key = 0x21020 * 32 ∨ 0x800000 * 32 ≤ g.key → f.key ≠ g.key := by
    intro g hg
    omega
  refine ⟨fun hmem => ?_, hne _ (by decide), hne _ (by decide)⟩
  simp only [evKeys, List.mem_cons, List.not_mem_nil, or_false] at hmem
  rcases hmem with he | he | he | he | he | he <;> exact hne _ (by decide) he

theorem settle_get_quiet {s : State} {f : Fld} (h : f.quiet) : (settle s).get f = s.get f := settle_get s f h.2.1 h.2.2

theorem raise_get_quiet {s : State} {f : Fld} (a b c d : Nat) (h : f.quiet) : (raise s a b c d).get f = s.get f :=
  raise_get s f a b c d h.1

end Sys2Proof.Machine
end

section
/-! The clocks family (O8): the clock monitors. -/

namespace Sys2Proof.Machine

/-! ### Monitors at rest (R84) -/

/-- No monitor is in CHECKING. -/
def monsRest (s : State) : Prop := ∀ m, m < 43 → s.get (F.CLK_MON_STATUS_state m) ≠ 1

/-- With no monitor in CHECKING none waits to be QUALIFIED. -/
theorem monSettle_rest {s : State} (h : monsRest s) : monSettle s = s := by
  refine List.foldlRecOn (motive := fun t => t = s) (List.range 43) _ rfl fun t ht m hm => ?_
  subst ht
  have hm' : ¬ t.get (F.CLK_MON_STATUS_state m) = 1 := h m (List.mem_range.mp hm)
  simp [hm']

theorem monsRest_setMon {s : State} (m : Nat) (x : MonRun) (h : monsRest s) : monsRest (setMon s m x) := h

/-! ### Registers outside the monitors' own -/

section
variable {s : State} {m reason : Nat}

/-- A count's register is no other. -/
theorem get_setCount (v : Nat) (hm : m < 43) {f : Fld} (h : f.key < 0x20100 * 32 ∨ 0x20200 * 32 ≤ f.key) :
    (s.set (F.CLK_MON_COUNT_count m) v).get f = s.get f :=
  State.get_set_ne _ _ _ _ (by simp only [Fld.key, F.CLK_MON_COUNT_count] at h ⊢; omega)

/-- A monitor's loss without what depends on its clock: its state, its counts, and the loss counted (R84). -/
def monLost (s : State) (m reason : Nat) : State :=
  State.bump (setMon (s.setAll
    [(F.CLK_MON_STATUS_state m, 0), (F.CLK_MON_STATUS_coarse_only m, 0), (F.CLK_MON_STATUS_disagree m, 0),
      (F.CLK_MON_STATUS_stopped m, ofBool (reason = 1))]) m ⟨0, 0, 0, 0⟩) (F.CLK_MON_LOSS_CNT_losses m) 1

theorem monLost_get (hm : m < 43) {f : Fld} (h : f.key < 0x20000 * 32 ∨ 0x20600 * 32 ≤ f.key) :
    (monLost s m reason).get f = s.get f := by
  refine (State.get_set_ne _ _ _ _ ?_).trans (s.get_setAll_ne _ f fun x hx => ?_)
  · simp only [Fld.key, F.CLK_MON_LOSS_CNT_losses] at h ⊢
    omega
  · simp only [List.mem_cons, List.not_mem_nil, or_false] at hx
    rcases hx with rfl | rfl | rfl | rfl <;> simp only [Fld.key, F.CLK_MON_STATUS_state, F.CLK_MON_STATUS_coarse_only,
      F.CLK_MON_STATUS_disagree, F.CLK_MON_STATUS_stopped] at h ⊢ <;> omega

/-- A loss leaves every other monitor's state. -/
theorem monsRest_monLost (hm : m < 43) (h : monsRest s) : monsRest (monLost s m reason) := by
  intro k hk
  have hloss : ∀ t : State, (t.bump (F.CLK_MON_LOSS_CNT_losses m) 1).get (F.CLK_MON_STATUS_state k)
      = t.get (F.CLK_MON_STATUS_state k) := fun t => State.get_set_ne _ _ _ _ (by
    simp only [Fld.key, F.CLK_MON_LOSS_CNT_losses, F.CLK_MON_STATUS_state]; omega)
  have hrest : ∀ t : State, (t.setAll [(F.CLK_MON_STATUS_coarse_only m, 0), (F.CLK_MON_STATUS_disagree m, 0),
      (F.CLK_MON_STATUS_stopped m, ofBool (reason = 1))]).get (F.CLK_MON_STATUS_state k)
      = t.get (F.CLK_MON_STATUS_state k) := fun t => t.get_setAll_ne _ _ fun x hx => by
    simp only [List.mem_cons, List.not_mem_nil, or_false] at hx
    rcases hx with rfl | rfl | rfl <;> simp only [Fld.key, F.CLK_MON_STATUS_state, F.CLK_MON_STATUS_coarse_only,
      F.CLK_MON_STATUS_disagree, F.CLK_MON_STATUS_stopped] <;> omega
  have hget : (monLost s m reason).get (F.CLK_MON_STATUS_state k)
      = (s.set (F.CLK_MON_STATUS_state m) 0).get (F.CLK_MON_STATUS_state k) := (hloss _).trans (hrest _)
  rw [hget]
  by_cases hkm : k = m
  · rw [hkm, State.get_set_same, Nat.zero_mod]
    decide
  · rw [State.get_set_ne _ _ _ _ (by simp only [Fld.key, F.CLK_MON_STATUS_state]; omega)]
    exact h k hk

/-- A monitor's state is quiet. -/
theorem monState_quiet {k : Nat} (hk : k < 43) : (F.CLK_MON_STATUS_state k).quiet := by
  refine Fld.quiet_of_key ?_ ?_ (.inl ?_) <;> simp only [Fld.key, F.CLK_MON_STATUS_state] <;> omega

theorem monsRest_raise (a b c d : Nat) (h : monsRest s) : monsRest (raise s a b c d) := fun k hk => by
  rw [raise_get_quiet _ _ _ _ (monState_quiet hk)]
  exact h k hk

/-! ### What runs from a monitor's clock (R86, R91) -/

/-- The sources in use lie in CLK_RC_STATUS and in the clocks' own part. -/
theorem muxesOf_congr {t : State} (hmoves : t.clk.moves = s.clk.moves) (huse : t.clk.inUse = s.clk.inUse)
    (hget : ∀ f : Fld, f.quiet → 0x20600 * 32 ≤ f.key → t.get f = s.get f) : muxesOf t m = muxesOf s m := by
  have hsrc : ∀ k, k < 116 → muxSrc t k = muxSrc s k := by
    intro k hk
    unfold muxSrc
    split
    · dsimp only
      refine hget _ (Fld.quiet_of_key ?_ ?_ (.inl ?_)) ?_ <;> split_ifs <;>
        simp only [Fld.key, F.CLK_RC_STATUS_rc1_src, F.CLK_RC_STATUS_rc2_src, F.CLK_RC_STATUS_rc3_src] <;> omega
    · rw [huse]
  have hmove : ∀ k, findMove t k = findMove s k := fun k => by rw [findMove, findMove, hmoves]
  refine List.filter_congr fun k hk => ?_
  rw [hsrc k (List.mem_range.mp hk), hmove]

/-- No auxiliary PLL takes LOFT or KEEP as its reference. -/
theorem muxMon_aux_ne {k c : Nat} (hm : m = 35 ∨ m = 36) : muxMon (116 + k) c ≠ m := by
  have h96 : ¬ 116 + k < 96 := by omega
  have h100 : ¬ 116 + k < 100 := by omega
  have h116 : ¬ 116 + k < 116 := by omega
  rw [muxMon, if_neg h96, if_neg h100, if_neg h116]
  repeat' split
  all_goals omega

/-! ### Losses (R81, R84, R85) -/

theorem moveLost1_eq (count : Nat) (h : mutualRef s m = none) : moveLost1 s m reason count
    = lostEffects (monRaise (monLost s m reason) m 1 4 (m + reason * 256)) m count (monQual s m) := by
  rw [moveLost1, h]
  rfl

/-- With no auxiliary PLL on its clock a monitor is lost alone. -/
theorem moveLost_alone (count : Nat)
    (h : ∀ k, k < 4 → muxMon (116 + k) (muxSrc (moveLost1 s m reason count) (116 + k)) ≠ m) :
    moveLost s m reason count = moveLost1 s m reason count := by
  have hnone : (List.range 4).filter (fun k =>
      decide (muxMon (116 + k) (muxSrc (moveLost1 s m reason count) (116 + k)) = m)) = [] :=
    List.filter_eq_nil_iff.mpr fun k hk => by simpa using h k (List.mem_range.mp hk)
  unfold moveLost
  extract_lets t
  exact congrArg (List.foldl _ t) hnone

/-- A QUALIFIED clock that nothing uses only raises its loss: the monitors of the lane groups' clocks. -/
theorem lostEffects_unused {t : State} {count : Nat} (h2 : 2 ≤ m) (h33 : m ≤ 33) (hmux : muxesOf t m = [])
    (hfb : fbFrom t m = false) : lostEffects t m count true = t := by
  rw [lostEffects, hmux]
  dsimp only [List.foldl_nil]
  rw [if_neg (by simp), if_neg (by omega), if_neg (by omega), if_neg (by simp; omega), if_neg (by omega),
    if_neg (by omega)]
  exact if_neg (by simp [hfb])

/-- The loss of LOFT or KEEP enters SAFE (R81). -/
theorem lostEffects_derived {t : State} {count : Nat} (hm : m = 35 ∨ m = 36) (hmux : muxesOf t m = []) :
    lostEffects t m count true = clockSafe (raise t 1021 0x0B 7 m) := by
  rw [lostEffects, hmux]
  dsimp only [List.foldl_nil]
  rw [if_neg (by simp), if_neg (by omega), if_neg (by omega), if_pos (by simpa using hm)]

/-- The event of a lane group's clock is raised at the group's lowest lane (R99). -/
theorem monRaise_lane (t : State) (code sev data : Nat) (h2 : 2 ≤ m) (h33 : m ≤ 33) :
    monRaise t m code sev data = raise t (32 * ((m - 2) % 16)) (0x60 + code) sev data := by
  unfold monRaise
  split
  · next h =>
    simp only [Bool.and_eq_true, decide_eq_true_eq] at h
    rw [Nat.mod_eq_of_lt (by omega)]
  · next h =>
    simp only [Bool.and_eq_true, decide_eq_true_eq, not_and, Nat.not_le] at h
    rw [if_pos (by simp; omega), show (m - 2) % 16 = m - 18 by omega]

/-- The event of LOFT and KEEP is the clocks' own. -/
theorem monRaise_derived (t : State) (code sev data : Nat) (hm : m = 35 ∨ m = 36) :
    monRaise t m code sev data = raise t 1021 code sev data := by
  rcases hm with rfl | rfl <;> rfl

/-- The registers and parts that a loss and its event leave are all that the use of the clock depends on. -/
theorem raise_monLost_uses (hm : m < 43) (a b c d : Nat) {t : State} (ht : t = raise (monLost s m reason) a b c d) :
    muxesOf t m = muxesOf s m ∧ fbFrom t m = fbFrom s m ∧ ∀ k, muxSrc t (116 + k) = muxSrc s (116 + k) := by
  have hclk : t.clk = (monLost s m reason).clk := ht ▸ raise_clk _ _ _ _ _
  have huse : t.clk.inUse = s.clk.inUse := by rw [hclk]; simp [monLost, setMon]
  have hmoves : t.clk.moves = s.clk.moves := by rw [hclk]; simp [monLost, setMon]
  have hget : ∀ f : Fld, f.quiet → (f.key < 0x20000 * 32 ∨ 0x20600 * 32 ≤ f.key) → t.get f = s.get f := fun f hf hk =>
    ht ▸ (raise_get_quiet _ _ _ _ hf).trans (monLost_get hm hk)
  refine ⟨muxesOf_congr hmoves huse fun f hf hk => hget f hf (.inr hk), ?_, fun k => ?_⟩
  · have hlane : F.TB_SYNCE_CFG_lane.quiet := ⟨by decide, by decide, by decide⟩
    have hsrc : F.CLK_TB_CFG_fb_src.quiet := ⟨by decide, by decide, by decide⟩
    have hen : F.CLK_TB_CFG_fb_en.quiet := ⟨by decide, by decide, by decide⟩
    rw [fbFrom, fbFrom, fbMonitor, fbMonitor, State.flag, State.flag, hget _ hlane (by decide), hget _ hsrc (by decide),
      hget _ hen (by decide)]
  · have h96 : ¬ 116 + k < 96 := by omega
    rw [muxSrc, muxSrc, if_neg h96, if_neg h96, huse]

/-- A lane group's QUALIFIED clock that nothing uses is lost with its event alone. -/
theorem moveLost_source (count : Nat) (h2 : 2 ≤ m) (h33 : m ≤ 33) (hq : s.get (F.CLK_MON_STATUS_state m) = 2)
    (hmut : mutualRef s m = none) (hmux : muxesOf s m = []) (hfb : fbFrom s m = false)
    (haux : ∀ k, k < 4 → muxMon (116 + k) (muxSrc s (116 + k)) ≠ m) :
    moveLost s m reason count = raise (monLost s m reason) (32 * ((m - 2) % 16)) 0x61 4 (m + reason * 256) := by
  have hwas : monQual s m = true := by simp [monQual, hq]
  obtain ⟨hmux', hfb', hsrc⟩ := raise_monLost_uses (s := s) (m := m) (reason := reason) (by omega) (32 * ((m - 2) % 16)) 0x61 4
    (m + reason * 256) rfl
  have hone : moveLost1 s m reason count
      = raise (monLost s m reason) (32 * ((m - 2) % 16)) 0x61 4 (m + reason * 256) := by
    rw [moveLost1_eq count hmut, hwas, monRaise_lane _ _ _ _ h2 h33,
      lostEffects_unused h2 h33 (hmux'.trans hmux) (hfb'.trans hfb)]
  rw [← hone]
  refine moveLost_alone count fun k hk => ?_
  rw [hone, hsrc]
  exact haux k hk

theorem moveLost_derived (count : Nat) (hm : m = 35 ∨ m = 36) (hq : monQual s m = true) (hmut : mutualRef s m = none)
    (hmux : muxesOf s m = []) : moveLost s m reason count
      = clockSafe (raise (raise (monLost s m reason) 1021 1 4 (m + reason * 256)) 1021 0x0B 7 m) := by
  obtain ⟨hmux', _, _⟩ := raise_monLost_uses (s := s) (m := m) (reason := reason) (by omega) 1021 1 4 (m + reason * 256) rfl
  rw [moveLost_alone count fun k _ => muxMon_aux_ne hm, moveLost1_eq count hmut, hq, monRaise_derived _ _ _ _ hm,
    lostEffects_derived hm (hmux'.trans hmux)]

/-! ### Gates, stops and comparisons (R83 to R85) -/

theorem exec_coarseGate {count : Nat} (hm : m < 43) (hc : count < 2 ^ 32) (hr : monRuns s m = true) :
    exec (.monitorGateComplete m true count) s = .next (settle (monSettle (coarseGate s m count))) := by
  refine exec_next rfl (by simpa [Instr.wf, hm] using hc) ?_
  rw [hr]
  rfl

/-- The nominal frequencies do not depend on what the gates count. -/
theorem nomFreq_setCount (v k : Nat) (hm : m < 43) : nomFreq (s.set (F.CLK_MON_COUNT_count m) v) k = nomFreq s k := by
  have hget : ∀ f : Fld, f.key < 0x20100 * 32 ∨ 0x20200 * 32 ≤ f.key →
      (s.set (F.CLK_MON_COUNT_count m) v).get f = s.get f := fun f h => get_setCount v hm h
  have hlo : ∀ i, (s.set (F.CLK_MON_COUNT_count m) v).get (F.CLK_MON_FREQ_LO_freq_lo i) = s.get (F.CLK_MON_FREQ_LO_freq_lo i) :=
    fun i => hget _ (.inr (by simp only [Fld.key, F.CLK_MON_FREQ_LO_freq_lo]; omega))
  have hhi : ∀ i, (s.set (F.CLK_MON_COUNT_count m) v).get (F.CLK_MON_FREQ_HI_freq_hi i) = s.get (F.CLK_MON_FREQ_HI_freq_hi i) :=
    fun i => hget _ (.inr (by simp only [Fld.key, F.CLK_MON_FREQ_HI_freq_hi]; omega))
  have haux : ∀ i, (s.set (F.CLK_MON_COUNT_count m) v).get (F.CLK_AUX_CFG_out_freq i) = s.get (F.CLK_AUX_CFG_out_freq i) :=
    fun i => hget _ (.inr (by simp only [Fld.key, F.CLK_AUX_CFG_out_freq]; omega))
  have hfast : xspiFast (s.set (F.CLK_MON_COUNT_count m) v) = xspiFast s := by
    rw [xspiFast, xspiFast, monQual, monQual, hget _ (.inl (by decide))]
    rfl
  rw [nomFreq, nomFreq, hlo, hhi, haux, hfast]

/-- A coarse gate that a LOST monitor passes counts. -/
theorem coarseGate_pass {count : Nat} (hm : m < 43) (hst : s.get (F.CLK_MON_STATUS_state m) = 0) (hx : (s.mon m).coarse < 2)
    (hp : gatePass (nomFreq s m) (nomFreq s (if m = 42 then 36 else 42)) count (coarseTol s m) 1000 = true) :
    coarseGate s m count = setMon (if (fineRef s m).isNone then s.set (F.CLK_MON_COUNT_count m) count else s) m
      { s.mon m with coarse := (s.mon m).coarse + 1 } := by
  unfold coarseGate
  extract_lets ref t st x
  have ht : ∀ k, nomFreq t k = nomFreq s k := fun k => by
    unfold t
    split
    · exact nomFreq_setCount count k hm
    · rfl
  have hget : ∀ f : Fld, f.key < 0x20100 * 32 ∨ 0x20200 * 32 ≤ f.key → t.get f = s.get f := fun f hf => by
    unfold t
    split
    · exact get_setCount count hm hf
    · rfl
  have hst' : st = 0 := (hget _ (.inl (by simp only [Fld.key, F.CLK_MON_STATUS_state]; omega))).trans hst
  have hx' : x = s.mon m := by
    unfold x t
    split <;> rfl
  have htol : coarseTol t m = coarseTol s m := by
    rw [coarseTol, coarseTol, hget _ (.inr (by simp only [Fld.key, F.CLK_MON_CFG_coarse_tol]; omega))]
  have hp' : gatePass (nomFreq t m) (nomFreq t ref) count (coarseTol t m) 1000 = true := by
    rw [ht, ht, htol]
    exact hp
  rw [if_pos hp', if_pos hst', hx', if_pos hx]

theorem monsRest_setCount (v : Nat) (hm : m < 43) (h : monsRest s) : monsRest (s.set (F.CLK_MON_COUNT_count m) v) := by
  intro k hk
  rw [get_setCount v hm (.inl (by simp only [Fld.key, F.CLK_MON_STATUS_state]; omega))]
  exact h k hk

/-- The coarse gate that a QUALIFIED monitor with a fine reference fails loses its clock. -/
theorem coarseGate_fail {count : Nat} (h33 : m ≤ 33) (hq : s.get (F.CLK_MON_STATUS_state m) = 2)
    (href : (fineRef s m).isSome = true)
    (hp : gatePass (nomFreq s m) (nomFreq s 42) count (coarseTol s m) 1000 = false) :
    coarseGate s m count = moveLost s m 2 count := by
  have hnone : ¬ (fineRef s m).isNone = true := by simp [Option.isNone_eq_false_iff.mpr href]
  have h42 : m ≠ 42 := by omega
  have h34 : m ≠ 34 := by omega
  simp only [coarseGate, if_neg hnone, if_neg h42, hp, hq, h34, decide_false, Bool.false_and, Bool.false_eq_true, if_false,
    OfNat.ofNat_ne_zero]

/-- A stop that is looked for: it shows in the stopped bit, of QUALIFIED TICK alone too, and loses the clock otherwise. -/
theorem exec_clockStopDetect (hm : m < 42) (haon : monQual s 42 = true) (hr : monRuns s m = true) :
    exec (.clockStopDetect m) s = .next (settle (
      if s.get (F.CLK_MON_STATUS_state m) = 0 then (setMon s m ⟨0, 0, 0, 0⟩).set (F.CLK_MON_STATUS_stopped m) 1
      else if m = 34 && s.get (F.CLK_MON_STATUS_state m) = 2 then s.set (F.CLK_MON_STATUS_stopped m) 1
      else monSettle (moveLost s m 1 (s.get (F.CLK_MON_COUNT_count m))))) := by
  refine exec_next rfl (decide_eq_true hm) ?_
  rw [haon, hr]
  rfl

theorem exec_clockStopDetect_off (hm : m < 42) (h : monQual s 42 = false ∨ monRuns s m = false) :
    exec (.clockStopDetect m) s = .next (settle s) := by
  refine exec_next rfl (decide_eq_true hm) (if_pos ?_)
  rcases h with h | h <;> simp [h]

/-- An oscillator within half the tolerance clears its count of gates. -/
theorem trefGate_pass {count : Nat} (h : gatePass (nomFreq s 34) (nomFreq s m) count (fineTol s m) 2000000 = true) :
    trefGate s m count = (setMon s m { s.mon m with ref := 0 }, false) := if_pos h

theorem setMon_mon_ne {k : Nat} (x : MonRun) (h : k ≠ m) : (setMon s m x).mon k = s.mon k := by
  simp [State.mon, setMon, aget_aset_ne _ _ _ _ h]

theorem exec_trefCompareGate_pass {c0 c1 : Nat} (hd0 : s.flag (F.CLK_MON_STATUS_disagree 0) = true)
    (hd1 : s.flag (F.CLK_MON_STATUS_disagree 1) = true) (hst : s.get F.TB_STATUS_state = 2)
    (hp0 : gatePass (nomFreq s 34) (nomFreq s 0) c0 (fineTol s 0) 2000000 = true)
    (hp1 : gatePass (nomFreq s 34) (nomFreq s 1) c1 (fineTol s 1) 2000000 = true) (hrest : monsRest s) :
    exec (.trefCompareGate c0 c1) s
      = .next (settle (setMon (setMon s 0 { s.mon 0 with ref := 0 }) 1 { s.mon 1 with ref := 0 })) := by
  have hp1' : trefGate (setMon s 0 { s.mon 0 with ref := 0 }) 1 c1
      = (setMon (setMon s 0 { s.mon 0 with ref := 0 }) 1 { s.mon 1 with ref := 0 }, false) := by
    rw [trefGate_pass (s := setMon s 0 { s.mon 0 with ref := 0 }) hp1, setMon_mon_ne _ (by decide)]
  refine exec_next rfl rfl ((if_neg ?_).trans ?_)
  · simp [hd0, hd1, hst, Tb.locked]
  · rw [trefGate_pass hp0]
    dsimp only
    rw [hp1']
    exact monSettle_rest (monsRest_setMon 1 _ (monsRest_setMon 0 _ hrest))

/-- LOFT or KEEP that the PLL loses is a loss of its monitor (R81). -/
theorem exec_tickPllFault_derived (hm : m = 35 ∨ m = 36) (h1 : 1 ≤ reason) (h3 : reason ≤ 3) (hq : monQual s m = true) :
    exec (.tickPllFault m reason) s
      = .next (settle (monSettle (moveLost s m reason (s.get (F.CLK_MON_COUNT_count m))))) := by
  have hst : s.get (F.CLK_MON_STATUS_state m) = 2 := by simpa [monQual] using hq
  have h34 : m ≠ 34 := by omega
  refine exec_next rfl (by simp [Instr.wf, h1, h3]; omega) ?_
  simp [h34, hst]

/-- The PLL's loss of lock takes the QUALIFIED TICK to LOST (R81). -/
theorem exec_tickPllFault_tick (h1 : 1 ≤ reason) (h3 : reason ≤ 3) (hq : monQual s 34 = true)
    (hin : s.get F.CLK_TB_STATUS_input ≠ 3) :
    exec (.tickPllFault 34 reason) s = .next (settle (monSettle
      (moveLost (s.set F.CLK_TB_STATUS_pll_lock 0) 34 reason (s.get (F.CLK_MON_COUNT_count 34))))) := by
  have hst : s.get (F.CLK_MON_STATUS_state 34) = 2 := by simpa [monQual] using hq
  have hst' : (s.set F.CLK_TB_STATUS_pll_lock 0).get (F.CLK_MON_STATUS_state 34) = 2 :=
    (State.get_set_ne _ _ _ _ (by decide)).trans hst
  have hcount : (s.set F.CLK_TB_STATUS_pll_lock 0).get (F.CLK_MON_COUNT_count 34) = s.get (F.CLK_MON_COUNT_count 34) :=
    State.get_set_ne _ _ _ _ (by decide)
  refine exec_next rfl (by simp [Instr.wf, h1, h3]) ?_
  simp [hin, hst', hq, hcount]

end

/-- Settles O8: each clause is the rule of its gate, stop, comparison or fault above; where nothing is in CHECKING no
monitor is qualified beside it. -/
theorem clockMonitors : Obligations.ClockMonitors := by
  unfold Obligations.ClockMonitors
  intro s hrest
  refine ⟨fun m count hm hc hr hst hx hp => ?_, fun m c reason h2 h33 hq hr hmut hmux hfb haux hcase => ?_,
    fun m hm => ⟨exec_clockStopDetect_off hm, fun haon hr hst => ?_, fun haon hr h34 hq => ?_, fun haon hr h34 hq => ?_⟩,
    fun c0 c1 hd0 hd1 hst hp0 hp1 => exec_trefCompareGate_pass hd0 hd1 hst hp0 hp1 hrest,
    fun m reason hm h1 h3 hq hmut hmux => ?_, fun reason => exec_tickPllFault_tick⟩
  · rw [exec_coarseGate hm hc hr, coarseGate_pass hm hst hx hp, monSettle_rest]
    refine monsRest_setMon m _ ?_
    split
    · exact monsRest_setCount count hm hrest
    · exact hrest
  · have hlost : ∀ count, monSettle (moveLost s m reason count)
        = raise (monLost s m reason) (32 * ((m - 2) % 16)) 0x61 4 (m + reason * 256) := fun count => by
      rw [moveLost_source count h2 h33 hq hmut hmux hfb haux]
      exact monSettle_rest (monsRest_raise _ _ _ _ (monsRest_monLost (by omega) hrest))
    obtain ⟨rfl, rfl, haon⟩ | ⟨rfl, href, count, hc, rfl, hp⟩ := hcase
    · have h0 : ¬ s.get (F.CLK_MON_STATUS_state m) = 0 := by rw [hq]; decide
      have h34 : ¬ (decide (m = 34) && decide (s.get (F.CLK_MON_STATUS_state m) = 2)) = true := by
        simp; omega
      rw [exec_clockStopDetect (by omega) haon hr, if_neg h0, if_neg h34, hlost]
      rfl
    · rw [exec_coarseGate (by omega) hc hr, coarseGate_fail h33 hq href hp, hlost]
      rfl
  · rw [exec_clockStopDetect hm haon hr, if_pos hst]
  · rw [exec_clockStopDetect hm haon hr, if_neg (by rw [hq]; decide), if_pos (by rw [hq, h34]; rfl)]
  · rw [exec_clockStopDetect hm haon hr, if_neg (by rw [hq]; decide), if_neg (by simp [h34])]
  · rw [exec_tickPllFault_derived hm h1 h3 hq, moveLost_derived _ hm hq hmut hmux]
    rfl

end Sys2Proof.Machine
end

section
/-! The clocks family (O9): the regional clocks' writes and switches. -/

namespace Sys2Proof.Machine

/-! ### Writes of CLK_RC_CFG (R90) -/

section
variable {s : State} {t i src div fb : Nat}

theorem exec_rcCfgWrite (ht : t < 32) (hi : i < 3) (hs : src < 32) (hd : div < 8) (hf : fb < 32) :
    exec (.rcCfgWrite t i src div fb) s = .next (settle (rcCfgWrite s t i src div fb)) :=
  exec_next rfl (by simp [Instr.wf, ht, hi, hs, hd, hf]) rfl

/-- During a switch a write is refused. -/
theorem rcCfgWrite_switching {x : MuxMove} (h : findMove s (3 * t + i) = some x) :
    rcCfgWrite s t i src div fb = muxRaise s (3 * t + i) 6 3 (0x704 + 16 * t + 4 * i) := by
  rw [rcCfgWrite, h]
  rfl

/-- The codes that a write may have. -/
theorem rcCodes_ok (hd : div < 7) (hs : src ≤ 20) (hf : fb ≤ 20 ∨ fb = 31) :
    (decide (div = 7) || decide (20 < src) || (decide (20 < fb) && decide (fb ≠ 31))) = false := by
  have h7 : div ≠ 7 := by omega
  have h20 : ¬ 20 < src := by omega
  rcases hf with hf | hf
  · have hf' : ¬ 20 < fb := by omega
    simp [h7, h20, hf']
  · simp [h7, h20, hf]

/-- A reserved code is refused. -/
theorem rcCfgWrite_reserved (hm : findMove s (3 * t + i) = none) (h : div = 7 ∨ 20 < src ∨ (20 < fb ∧ fb ≠ 31)) :
    rcCfgWrite s t i src div fb = muxRaise s (3 * t + i) 6 3 (0x704 + 16 * t + 4 * i) := by
  rw [rcCfgWrite, hm]
  refine (if_neg (by simp)).trans (if_pos ?_)
  rcases h with h | h | h <;> simp [h]

/-- A source that is not QUALIFIED is refused. -/
theorem rcCfgWrite_unqualified (hm : findMove s (3 * t + i) = none) (hd : div < 7) (hs : src ≤ 20) (hf : fb ≤ 20 ∨ fb = 31)
    (hq : monQual s (muxMon (3 * t + i) src) = false) :
    rcCfgWrite s t i src div fb = muxRaise s (3 * t + i) 5 3 (0x704 + 16 * t + 4 * i) := by
  rw [rcCfgWrite, hm]
  refine (if_neg (by simp)).trans ((if_neg ?_).trans (if_pos (by rw [hq]; rfl)))
  rw [rcCodes_ok hd hs hf]
  decide

/-- The three fields as an accepted write sets them. -/
def rcConfigured (s : State) (t i src div fb : Nat) : State :=
  s.setAll [(F.CLK_RC_CFG_src t i, src), (F.CLK_RC_CFG_div t i, div), (F.CLK_RC_CFG_fb_src t i, fb)]

theorem rcCfgWrite_accepted (hm : findMove s (3 * t + i) = none) (hd : div < 7) (hs : src ≤ 20) (hf : fb ≤ 20 ∨ fb = 31)
    (hq : monQual s (muxMon (3 * t + i) src) = true) :
    rcCfgWrite s t i src div fb = startMove (rcConfigured s t i src div fb) (3 * t + i) src div := by
  rw [rcCfgWrite, hm]
  refine (if_neg (by simp)).trans ((if_neg ?_).trans (if_neg (by rw [hq]; decide)))
  rw [rcCodes_ok hd hs hf]
  decide

/-! ### Switches (R91) -/

/-- A configuration's registers are no status of the clocks. -/
theorem rcConfigured_get {f : Fld} (h : f.key < (0x20704 + 16 * t + 4 * i) * 32
    ∨ (0x20705 + 16 * t + 4 * i) * 32 ≤ f.key) : (rcConfigured s t i src div fb).get f = s.get f := by
  refine s.get_setAll_ne _ f fun x hx => ?_
  simp only [List.mem_cons, List.not_mem_nil, or_false] at hx
  rcases hx with rfl | rfl | rfl <;>
    simp only [Fld.key, F.CLK_RC_CFG_src, F.CLK_RC_CFG_div, F.CLK_RC_CFG_fb_src] at h ⊢ <;> omega

theorem rcConfigured_muxSrc (ht : t < 32) (hi : i < 3) :
    muxSrc (rcConfigured s t i src div fb) (3 * t + i) = muxSrc s (3 * t + i) := by
  have h96 : 3 * t + i < 96 := by omega
  have hdiv : (3 * t + i) / 3 = t := by omega
  rw [muxSrc, muxSrc, if_pos h96, if_pos h96, hdiv]
  refine rcConfigured_get (.inl ?_)
  split_ifs <;> simp only [Fld.key, F.CLK_RC_STATUS_rc1_src, F.CLK_RC_STATUS_rc2_src, F.CLK_RC_STATUS_rc3_src] <;> omega

theorem rcConfigured_monState {m : Nat} (hm : m < 43) :
    (rcConfigured s t i src div fb).get (F.CLK_MON_STATUS_state m) = s.get (F.CLK_MON_STATUS_state m) :=
  rcConfigured_get (.inl (by simp only [Fld.key, F.CLK_MON_STATUS_state]; omega))

/-- A switch to another source begins where none is in progress and the present source is not LOST. -/
theorem startMove_begins {m : Nat} (hm : findMove s m = none) (hne : muxSrc s m ≠ src)
    (hst : muxMon m (muxSrc s m) < 43 → s.get (F.CLK_MON_STATUS_state (muxMon m (muxSrc s m))) ≠ 0) :
    startMove s m src div = rcBit { s with clk := { s.clk with
      moves := s.clk.moves.filter (fun y => y.mux != m) ++ [⟨m, src, div, muxSrc s m, false⟩] } }
      m F.CLK_RC_STATUS_switch_busy true := by
  have hlost : ¬ (decide (muxMon m (muxSrc s m) < 43)
      && decide (s.get (F.CLK_MON_STATUS_state (muxMon m (muxSrc s m))) = 0)) = true := by
    simpa using hst
  rw [startMove, hm]
  exact (if_neg (by simp)).trans ((if_neg (by simp [hne])).trans (if_neg hlost))

section
variable {m : Nat} {x : MuxMove}

theorem exec_muxSwitchComplete (hm : m < 120) (hx : findMove s m = some x) (hf : x.forced = false) :
    exec (.muxSwitchComplete m) s = .next (settle (dropMove (setMuxSrc
      { s with clk := { s.clk with divs := aset s.clk.divs m x.div } } m x.src) m)) := by
  refine exec_next rfl (decide_eq_true hm) ?_
  rw [hx]
  exact if_neg (by simp [hf])

theorem exec_switchWatchdogExpiry (hm : m < 120) (hx : findMove s m = some x) (hf : x.forced = false)
    (haon : monQual s 42 = true) : exec (.switchWatchdogExpiry m) s = .next (settle (forceMove s x)) := by
  refine exec_next rfl (decide_eq_true hm) ?_
  rw [hx]
  exact if_neg (by simp [hf, haon])

theorem exec_switchRecoveryRelease (hm : m < 120) (hx : findMove s m = some x) (hf : x.forced = true) :
    exec (.switchRecoveryRelease m) s = .next (settle ((muxRaise
      (if m < 96 then (muxBins (dropMove s m) m).foldl binResetEnd (dropMove s m)
        else if 100 ≤ m ∧ m < 116 then lgrpResetEnd (dropMove s m) (m - 100)
        else dropMove s m) m 4 5 (m + x.old * 256)).bump F.CLK_SWITCH_FORCED_CNT_count 1)) := by
  refine exec_next rfl (decide_eq_true hm) ?_
  rw [hx]
  refine (if_neg (by simp [hf])).trans ?_
  simp only [Bool.and_eq_true, decide_eq_true_eq]

end

end

/-- Settles O9: each clause is the rule of its command above. -/
theorem clockSwitching : Obligations.ClockSwitching := by
  unfold Obligations.ClockSwitching
  intro s
  refine ⟨fun t i src div fb ht hi hs hd hf hm hq hne hst => ?_, fun t i src div fb x ht hi hs hd hf hx => ?_,
    fun t i src div fb ht hi hs hd hf hm => ⟨fun h => ?_, fun hd' hs' hf' hq => ?_, fun hd' hs' hf' hq => ?_⟩,
    fun m x => exec_muxSwitchComplete, fun m x => exec_switchWatchdogExpiry, fun m x => exec_switchRecoveryRelease⟩
  · have hsrc := rcConfigured_muxSrc (s := s) (src := src) (div := div) (fb := fb) ht hi
    have hbegin := startMove_begins (s := rcConfigured s t i src div fb) (m := 3 * t + i) (src := src) (div := div) hm
      (by rwa [hsrc]) fun h43 => by
        rw [rcConfigured_monState h43, hsrc]
        exact hst
    rw [exec_rcCfgWrite ht hi (by omega) (by omega) (by omega), rcCfgWrite_accepted hm hd hs hf hq, hbegin, hsrc]
    rfl
  · rw [exec_rcCfgWrite ht hi hs hd hf, rcCfgWrite_switching hx]
  · rw [exec_rcCfgWrite ht hi hs hd hf, rcCfgWrite_reserved hm h]
  · rw [exec_rcCfgWrite ht hi hs hd hf, rcCfgWrite_unqualified hm hd' hs' hf' hq]
  · rw [exec_rcCfgWrite ht hi hs hd hf, rcCfgWrite_accepted hm hd' hs' hf' hq]
    rfl

end Sys2Proof.Machine
end

section
/-! The clocks family (O10): clock gates and hatch contention. -/

namespace Sys2Proof.Machine

/-! ### Gates (R95 to R97) -/

section
variable {s : State} {g : Nat}

theorem exec_gateEnWrite {run sleep deep : Bool} (hg : g < 321) :
    exec (.gateEnWrite g run sleep deep) s = .next (settle (gateEnWrite s g run sleep deep)) :=
  exec_next rfl (decide_eq_true hg) rfl

/-- An enable that is not refused is set, and the gate follows. -/
theorem gateEnWrite_accepted {run sleep deep : Bool} (h : gateCounted s g = false ∨ run = true) :
    gateEnWrite s g run sleep deep = gateFollow (s.setAll [(F.CLK_GATE_EN_run_en g, ofBool run),
      (F.CLK_GATE_EN_sleep_en g, ofBool sleep), (F.CLK_GATE_EN_deep_en g, ofBool deep)]) g := by
  refine if_neg ?_
  rcases h with h | h <;> simp [h]

theorem gateEnWrite_refused {sleep deep : Bool} (h : gateCounted s g = true) :
    gateEnWrite s g false sleep deep = gateRaise s g 9 3 g := if_pos (by simp [h])

/-- A gate that waits for its bus closes when the bus is idle. -/
theorem exec_gateBusIdle (hg : g < 321) (hw : busWaits s g = true) (hdma : g ≠ 316 ∨ s.loft.dma = []) :
    exec (.gateBusIdle g) s = .next (settle (closeGate s g)) := by
  refine exec_next rfl (decide_eq_true hg) ((if_neg ?_).trans (if_pos hw))
  rcases hdma with h | h <;> simp [h]

/-- A gate behind which neither a bin, a lane group nor a bank group lies only closes. -/
theorem closeGate_plain (h : 312 ≤ g) : closeGate s g
    = { s with clk := { s.clk with closing := ndel s.clk.closing g } }.set (F.CLK_GATE_EN_open g) 0 := by
  unfold closeGate
  extract_lets _ s1 s2
  exact (if_neg (by omega)).trans ((if_neg (by omega)).trans (if_neg (by omega)))

/-- The requester that a time-out names: at a bank group the owner of the oldest queued request. -/
def termWho (s : State) (g asker : Nat) : Nat :=
  if 280 ≤ g && g ≤ 311 then
    match oldestReq (groupReqs s (g - 280)) with
    | some q => q.req.owner
    | none => asker
  else asker

theorem termWho_eq {asker who : Nat}
    (hq : g < 280 ∨ 311 < g ∨ ∃ q, oldestReq (groupReqs s (g - 280)) = some q ∧ who = q.req.owner)
    (ha : g < 280 ∨ 311 < g → asker = who) : termWho s g asker = who := by
  unfold termWho
  split
  · next h =>
    simp only [Bool.and_eq_true, decide_eq_true_eq] at h
    obtain h' | h' | ⟨q, hq, rfl⟩ := hq
    · omega
    · omega
    · rw [hq]
  · next h =>
    simp only [Bool.and_eq_true, decide_eq_true_eq] at h
    exact ha (by omega)

theorem exec_gateCloseTimeout {asker who : Nat} (hg : g < 321) (ha : asker < 1024) (hw : busWaits s g = true)
    (hwho : termWho s g asker = who) :
    exec (.gateCloseTimeout g asker) s = .next (settle (State.bump (State.setAll
      (gateRaise (closeGate (terminateAll s g) g) g 8 4 (g + who * 65536))
      [(F.CLK_GATE_TERM_INFO_gate, g), (F.CLK_GATE_TERM_INFO_requester, who)]) F.CLK_GATE_TERM_CNT_count 1)) := by
  subst hwho
  exact exec_next rfl (by simp [Instr.wf, hg, ha]) (if_neg (by simp [hw]))

end

/-! ### Hatch contention (R126) -/

theorem testBit_putBit_true (n i : Nat) : (putBit n i true).testBit i = true := by
  unfold putBit
  split
  · assumption
  · next h =>
    rw [if_pos rfl, Nat.add_comm, Nat.testBit_two_pow_add_eq]
    simpa using h

/-- Settling does not depend on the configuration. -/
theorem settle_setCfg (s : State) (x : Cfg) : settle { s with cfg := x } = { settle s with cfg := x } := by
  have halert : alertLow { s with cfg := x } = alertLow s := rfl
  have hsafe : safeOutputs { s with cfg := x } = safeOutputs s := rfl
  have hpps : ppsHigh { s with cfg := x } = ppsHigh s := rfl
  simp only [settle, halert, hsafe, hpps, State.setAll_cons, State.setAll_nil, State.set, State.get]

/-- A frame that leaves the configuration part open. -/
theorem Frame.open_cfg {s t : State} {ps : List Part} {fs : List Fld} (h : Frame s { t with cfg := s.cfg } ps fs) :
    Frame s t (ps ++ [.cfg]) fs := by
  refine ⟨h.queue, fun p hp => ?_, h.regs⟩
  simp only [List.mem_append, List.mem_singleton, not_or] at hp
  have hsame := h.parts p hp.1
  cases p
  case cfg => exact absurd rfl hp.2
  all_goals exact hsame

section
variable {s : State} {c w : Nat}

/-- A wire that both ends drive is disabled and counted. -/
def hatchMarked (s : State) (c w : Nat) : State :=
  let t := (((setWireOff s c w true).set (F.FAB_HATCH_CONT_INFO_last_wire c) w).bump
    (F.FAB_HATCH_CONT_CNT_count c) 1).bump (F.FAB_CONT_CNT_count c) 1
  { t with cfg := { t.cfg with wireSeen := t.cfg.wireSeen.filter (fun x => x / 2 != 192 * c + w) } }

theorem exec_hatchContention (hc : c < 132) (hw : w < 192) (h : wireOff s c w = false) :
    ∃ d, exec (.hatchContention c w) s = .next (settle (raise (hatchMarked s c w) (512 + c) 0x10 5 d)) :=
  ⟨_, exec_next rfl (by simp [Instr.wf, hc, hw]) (if_neg (by simp [h]))⟩

/-- A column's hatch registers are quiet. -/
theorem hatch_quiet (hc : c < 132) (hw : w < 192) : ∀ f ∈ [F.FAB_HATCH_CONT_disabled c (w / 32),
    F.FAB_HATCH_CONT_INFO_last_wire c, F.FAB_HATCH_CONT_CNT_count c], f.quiet := by
  intro f hf
  simp only [List.mem_cons, List.not_mem_nil, or_false] at hf
  rcases hf with rfl | rfl | rfl <;> refine Fld.quiet_of_key ?_ ?_ (.inr ?_) <;>
    simp only [Fld.key, F.FAB_HATCH_CONT_disabled, F.FAB_HATCH_CONT_INFO_last_wire, F.FAB_HATCH_CONT_CNT_count] <;> omega

theorem hatchMarked_reg (f : Fld) : (hatchMarked s c w).get f = ((((setWireOff s c w true).set
    (F.FAB_HATCH_CONT_INFO_last_wire c) w).bump (F.FAB_HATCH_CONT_CNT_count c) 1).bump (F.FAB_CONT_CNT_count c) 1).get f := by
  simp only [hatchMarked, State.get]

/-- What the registers of the column hold after the contention. -/
theorem hatchMarked_get (hc : c < 132) (hw : w < 192) :
    wireOff (hatchMarked s c w) c w = true ∧ (hatchMarked s c w).get (F.FAB_HATCH_CONT_INFO_last_wire c) = w
      ∧ (hatchMarked s c w).get (F.FAB_HATCH_CONT_CNT_count c) = satNat 16 (s.get (F.FAB_HATCH_CONT_CNT_count c) + 1) := by
  have h32 : w % 32 < 32 := Nat.mod_lt _ (by decide)
  have hoff : (hatchMarked s c w).get (F.FAB_HATCH_CONT_disabled c (w / 32))
      = (setWireOff s c w true).get (F.FAB_HATCH_CONT_disabled c (w / 32)) := by
    rw [hatchMarked_reg]
    refine (State.get_set_ne _ _ _ _ ?_).trans ((State.get_set_ne _ _ _ _ ?_).trans (State.get_set_ne _ _ _ _ ?_)) <;>
      simp only [Fld.key, F.FAB_HATCH_CONT_disabled, F.FAB_HATCH_CONT_INFO_last_wire, F.FAB_HATCH_CONT_CNT_count,
        F.FAB_CONT_CNT_count] <;> omega
  refine ⟨?_, ?_, ?_⟩
  · rw [wireOff, hoff, setWireOff, State.get_set_same, bitAt]
    change (_ % 2 ^ 32).testBit _ = true
    rw [Nat.testBit_mod_two_pow, testBit_putBit_true, decide_eq_true h32]
    rfl
  · rw [hatchMarked_reg]
    refine (State.get_set_ne _ _ _ _ ?_).trans ((State.get_set_ne _ _ _ _ ?_).trans ((State.get_set_same _ _ _).trans ?_))
    · simp only [Fld.key, F.FAB_HATCH_CONT_INFO_last_wire, F.FAB_CONT_CNT_count]
      omega
    · simp only [Fld.key, F.FAB_HATCH_CONT_INFO_last_wire, F.FAB_HATCH_CONT_CNT_count]
      omega
    · exact Nat.mod_eq_of_lt (Nat.lt_trans hw (show 192 < 2 ^ 8 by decide))
  · rw [hatchMarked_reg]
    refine (State.get_set_ne _ _ _ _ ?_).trans ((State.get_bump_same _ _ _).trans (congrArg (fun n => satNat 16 (n + 1)) ?_))
    · simp only [Fld.key, F.FAB_HATCH_CONT_CNT_count, F.FAB_CONT_CNT_count]
      omega
    · refine (State.get_set_ne _ _ _ _ ?_).trans (State.get_set_ne _ _ _ _ ?_) <;>
        simp only [Fld.key, F.FAB_HATCH_CONT_disabled, F.FAB_HATCH_CONT_INFO_last_wire, F.FAB_HATCH_CONT_CNT_count] <;> omega

/-- Beside registers and the configuration the contention changes nothing before its event. -/
theorem hatchMarked_beside : { hatchMarked s c w with cfg := s.cfg }.beside = s.beside := by
  simp only [hatchMarked, State.bump, State.set, setWireOff, State.beside]

/-- What the contention leaves. -/
theorem hatchMarked_frame (d : Nat) : Frame s (settle (raise (hatchMarked s c w) (512 + c) 0x10 5 d)) [.ev, .led, .cfg]
    (evRegs ++ [F.FAB_HATCH_CONT_disabled c (w / 32), F.FAB_HATCH_CONT_INFO_last_wire c, F.FAB_HATCH_CONT_CNT_count c,
      F.FAB_CONT_CNT_count c]) := by
  have hbeside : { raise (hatchMarked s c w) (512 + c) 0x10 5 d with cfg := s.cfg }.beside = s.beside :=
    (raise_blind (p := fun t : State => { t with cfg := s.cfg }.beside)
      ⟨fun _ _ _ _ => rfl, fun _ _ => rfl, fun _ _ => rfl⟩ _ _ _ _ _).trans hatchMarked_beside
  refine Frame.open_cfg (ps := [.ev, .led]) ?_
  rw [← settle_setCfg]
  refine Frame.of_beside hbeside (fun h => absurd (by simp) h) (fun h => absurd (by simp) h)
    (fun _ => raise_tb _ _ _ _ _) fun f hf => ?_
  simp only [List.map_append, List.mem_append, List.map_cons, List.map_nil, List.mem_cons, List.not_mem_nil, or_false,
    not_or] at hf
  obtain ⟨hev, hoff, hlast, hcnt, hcont⟩ := hf
  have hmark : (hatchMarked s c w).get f = s.get f :=
    (hatchMarked_reg f).trans <| (State.get_set_ne _ _ _ _ hcont).trans <| (State.get_set_ne _ _ _ _ hcnt).trans <|
      (State.get_set_ne _ _ _ _ hlast).trans (State.get_set_ne _ _ _ _ hoff)
  exact (raise_get _ _ _ _ _ _ hev).trans hmark

end

/-- Settles O10: each clause is the rule of its command above. -/
theorem gates : Obligations.Gates := by
  unfold Obligations.Gates
  intro s
  refine ⟨fun g run sleep deep hg h => ?_, fun g sleep deep hg h => ?_, fun g hg hw hdma => ⟨exec_gateBusIdle hg hw hdma,
    closeGate_plain⟩, fun g who hg _ hw hq asker ha hask => exec_gateCloseTimeout hg ha hw (termWho_eq hq hask),
    fun c w hc hw hoff => ?_⟩
  · rw [exec_gateEnWrite hg, gateEnWrite_accepted h]
  · rw [exec_gateEnWrite hg, gateEnWrite_refused h]
  · obtain ⟨d, hexec⟩ := exec_hatchContention hc hw hoff
    obtain ⟨hwire, hlast, hcnt⟩ := hatchMarked_get (s := s) hc hw
    have hget : ∀ f : Fld, f.quiet → (settle (raise (hatchMarked s c w) (512 + c) 0x10 5 d)).get f
        = (hatchMarked s c w).get f := fun f hf => (settle_get_quiet hf).trans (raise_get_quiet _ _ _ _ hf)
    refine ⟨_, hexec, ?_, ?_, ?_, hatchMarked_frame d⟩
    · rw [wireOff, hget _ (hatch_quiet hc hw _ (by simp))]
      exact hwire
    · exact (hget _ (hatch_quiet hc hw _ (by simp))).trans hlast
    · exact (hget _ (hatch_quiet hc hw _ (by simp))).trans hcnt

end Sys2Proof.Machine
end

section
/-! The clocks family (O40): the DMA channels. -/

namespace Sys2Proof.Machine

/-! ### Go and abort (R98, R325, R326) -/

section
variable {s : State} {c n : Nat} {who : Requester} {st dt ev : Bool}

theorem exec_dmaGo (hc : c < 64) (hm : mayAsk s who (F.LFT_DMA_CTRL_go c).addr 2 = true) :
    exec (.dmaGo c who st dt ev) s = .next (settle (dmaGo s c who st dt ev)) :=
  exec_next rfl (decide_eq_true hc) (asked_may hm)

theorem exec_dmaAbort (hc : c < 64) (hm : mayAsk s who (F.LFT_DMA_CTRL_go c).addr 2 = true) :
    exec (.dmaAbort c who) s = .next (settle (dmaAbort s c who)) :=
  exec_next rfl (decide_eq_true hc) (asked_may hm)

/-- A requester that the channel is not assigned to changes nothing. -/
theorem dmaGo_notMine (h : dmaMine s c who = false) : dmaGo s c who st dt ev = s := by
  rw [dmaGo, h, Bool.not_false, if_pos rfl]

theorem dmaAbort_notMine (h : dmaMine s c who = false) : dmaAbort s c who = s := by
  rw [dmaAbort, h, Bool.not_false, if_pos rfl]

/-- Behind a closed gate both end in the terminator. -/
theorem dmaGo_shut (h : dmaMine s c who = true) (hg : gateOpen s 316 = false) :
    dmaGo s c who st dt ev = shutCount s 316 := by
  rw [dmaGo, h, hg]
  rfl

theorem dmaAbort_shut (h : dmaMine s c who = true) (hg : gateOpen s 316 = false) :
    dmaAbort s c who = shutCount s 316 := by
  rw [dmaAbort, h, hg]
  rfl

theorem dmaAbort_open (h : dmaMine s c who = true) (hg : gateOpen s 316 = true) : dmaAbort s c who =
    match aget s.loft.dma c with
    | none => s
    | some d => s.setLoft { s.loft with dma := aset s.loft.dma c { d with aborting := true } } := by
  rw [dmaAbort, h, hg]
  rfl

/-- The registers with the control bits that a go writes. -/
def dmaCtrl (s : State) (c : Nat) (st dt ev : Bool) : State :=
  s.setAll [(F.LFT_DMA_CTRL_src_tray c, ofBool st), (F.LFT_DMA_CTRL_dst_tray c, ofBool dt),
    (F.LFT_DMA_CTRL_ev_done c, ofBool ev)]

/-- The registers as a go of an idle channel leaves them before its transfer is judged. -/
def dmaCleared (s : State) (c : Nat) (st dt ev : Bool) : State :=
  (dmaCtrl s c st dt ev).setAll [(F.LFT_DMA_STATUS_done c, 0), (F.LFT_DMA_STATUS_halted c, 0),
    (F.LFT_DMA_STATUS_cause c, 0), (F.LFT_DMA_UNITS_DONE_units c, 0)]

/-- The control bits that a go writes, and what a go of an idle channel clears, lie in the channel's registers from
LFT_DMA_CTRL to LFT_DMA_UNITS_DONE. -/
theorem dmaCtrl_get {f : Fld} (h : f.key < (0x30400c + 32 * c) * 32 ∨ (0x304010 + 32 * c) * 32 ≤ f.key) :
    (dmaCtrl s c st dt ev).get f = s.get f := by
  refine State.get_setAll_ne _ _ f fun x hx => ?_
  simp only [List.mem_cons, List.not_mem_nil, or_false] at hx
  rcases hx with rfl | rfl | rfl <;>
    simp only [Fld.key, F.LFT_DMA_CTRL_src_tray, F.LFT_DMA_CTRL_dst_tray, F.LFT_DMA_CTRL_ev_done] at h ⊢ <;> omega

theorem dmaCleared_get {f : Fld} (h : f.key < (0x30400c + 32 * c) * 32 ∨ (0x304018 + 32 * c) * 32 ≤ f.key) :
    (dmaCleared s c st dt ev).get f = s.get f := by
  refine (State.get_setAll_ne _ _ f fun x hx => ?_).trans (dmaCtrl_get (by omega))
  simp only [List.mem_cons, List.not_mem_nil, or_false] at hx
  rcases hx with rfl | rfl | rfl | rfl <;>
    simp only [Fld.key, F.LFT_DMA_STATUS_done, F.LFT_DMA_STATUS_halted, F.LFT_DMA_STATUS_cause,
      F.LFT_DMA_UNITS_DONE_units] at h ⊢ <;> omega

/-- An end is judged by the map of bins and their kinds alone. -/
theorem dmaEndBad_congr {t : State} {tray : Bool} {a n : Nat} (h : ∀ f : Fld, 0x400000 ≤ f.addr → t.get f = s.get f) :
    dmaEndBad t tray a n = dmaEndBad s tray a n := by
  have hmap : ∀ l, physOf t l = physOf s l := fun l => h _ (Nat.le_add_right_of_le (by decide))
  have hkind : ∀ p, binKind t p = binKind s p := fun p => h _ (Nat.le_add_right _ _)
  rw [dmaEndBad, dmaEndBad, dmaBin, dmaBin, hmap, hkind]

theorem dmaEndBad_cleared {tray : Bool} {a n : Nat} (hc : c < 64) :
    dmaEndBad (dmaCleared s c st dt ev) tray a n = dmaEndBad s tray a n :=
  dmaEndBad_congr fun f hf => dmaCleared_get (.inr (by simp only [Fld.key]; omega))

theorem dmaCtrl_busy : (dmaCtrl s c st dt ev).flag (F.LFT_DMA_STATUS_busy c) = s.flag (F.LFT_DMA_STATUS_busy c) :=
  State.flag_of_get (dmaCtrl_get (.inr (by simp only [Fld.key, F.LFT_DMA_STATUS_busy]; omega)))

/-- A go while busy writes the control bits alone (R326). -/
theorem dmaGo_busy (hmine : dmaMine s c who = true) (hg : gateOpen s 316 = true)
    (hb : s.flag (F.LFT_DMA_STATUS_busy c) = true) : dmaGo s c who st dt ev = dmaCtrl s c st dt ev := by
  have hbusy : (dmaCtrl s c st dt ev).flag (F.LFT_DMA_STATUS_busy c) = true := dmaCtrl_busy.trans hb
  rw [dmaGo, hmine, hg]
  exact if_pos hbusy

/-- Transfer `d` of channel `c` has begun. -/
def dmaBegun (t : State) (c : Nat) (d : DmaRun) : State :=
  (t.set (F.LFT_DMA_STATUS_busy c) 1).setLoft { t.loft with dma := aset t.loft.dma c d }

/-- What a go of an idle channel does once its registers are cleared: a transfer of no units is done, one with a
refused end halts, any other begins (R325, R326). -/
def dmaJudge (t : State) (c src dst n : Nat) (st dt ev : Bool) : State :=
  if n = 0 then
    if ev then raise (t.set (F.LFT_DMA_STATUS_done c) 1) 1016 0x14 1 c else t.set (F.LFT_DMA_STATUS_done c) 1
  else if dmaEndBad t st src n || dmaEndBad t dt dst n then
    raise (t.setAll [(F.LFT_DMA_STATUS_halted c, 1), (F.LFT_DMA_STATUS_cause c, 5)]) 1016 0x13 4 (c + 5 * 64)
  else dmaBegun t c ⟨src, dst, n, st, dt, ev, false, t.now + 2⟩

theorem dmaGo_idle (hmine : dmaMine s c who = true) (hg : gateOpen s 316 = true)
    (hb : s.flag (F.LFT_DMA_STATUS_busy c) = false) :
    dmaGo s c who st dt ev = dmaJudge (dmaCleared s c st dt ev) c (s.get (F.LFT_DMA_SRC_src c))
      (s.get (F.LFT_DMA_DST_dst c)) (s.get (F.LFT_DMA_LEN_units c)) st dt ev := by
  have hbusy : ¬ (dmaCtrl s c st dt ev).flag (F.LFT_DMA_STATUS_busy c) = true := by
    rw [dmaCtrl_busy, hb]
    decide
  have hsrc : (dmaCtrl s c st dt ev).get (F.LFT_DMA_SRC_src c) = s.get (F.LFT_DMA_SRC_src c) :=
    dmaCtrl_get (.inl (by simp only [Fld.key, F.LFT_DMA_SRC_src]; omega))
  have hdst : (dmaCtrl s c st dt ev).get (F.LFT_DMA_DST_dst c) = s.get (F.LFT_DMA_DST_dst c) :=
    dmaCtrl_get (.inl (by simp only [Fld.key, F.LFT_DMA_DST_dst]; omega))
  have hlen : (dmaCtrl s c st dt ev).get (F.LFT_DMA_LEN_units c) = s.get (F.LFT_DMA_LEN_units c) :=
    dmaCtrl_get (.inl (by simp only [Fld.key, F.LFT_DMA_LEN_units]; omega))
  rw [dmaGo, hmine, hg, ← hsrc, ← hdst, ← hlen]
  exact if_neg hbusy

/-- A transfer begins from the registers as they stand. -/
theorem dmaGo_begins (hc : c < 64) (hmine : dmaMine s c who = true) (hg : gateOpen s 316 = true)
    (hb : s.flag (F.LFT_DMA_STATUS_busy c) = false) (hn : n = s.get (F.LFT_DMA_LEN_units c)) (h0 : n ≠ 0)
    (hsrc : dmaEndBad s st (s.get (F.LFT_DMA_SRC_src c)) n = false)
    (hdst : dmaEndBad s dt (s.get (F.LFT_DMA_DST_dst c)) n = false) :
    dmaGo s c who st dt ev = dmaBegun (dmaCleared s c st dt ev) c
      ⟨s.get (F.LFT_DMA_SRC_src c), s.get (F.LFT_DMA_DST_dst c), n, st, dt, ev, false, s.now + 2⟩ := by
  rw [dmaGo_idle hmine hg hb, ← hn, dmaJudge, if_neg h0, dmaEndBad_cleared hc, dmaEndBad_cleared hc, hsrc, hdst]
  rfl

/-- A transfer of no units is done at once. -/
theorem dmaGo_empty (hmine : dmaMine s c who = true) (hg : gateOpen s 316 = true)
    (hb : s.flag (F.LFT_DMA_STATUS_busy c) = false) (h0 : s.get (F.LFT_DMA_LEN_units c) = 0) :
    dmaGo s c who st dt ev =
      if ev then raise ((dmaCleared s c st dt ev).set (F.LFT_DMA_STATUS_done c) 1) 1016 0x14 1 c
      else (dmaCleared s c st dt ev).set (F.LFT_DMA_STATUS_done c) 1 := by
  rw [dmaGo_idle hmine hg hb, h0, dmaJudge, if_pos rfl]

/-- A refused end halts the channel with cause 5. -/
theorem dmaGo_refused (hc : c < 64) (hmine : dmaMine s c who = true) (hg : gateOpen s 316 = true)
    (hb : s.flag (F.LFT_DMA_STATUS_busy c) = false) (hn : n = s.get (F.LFT_DMA_LEN_units c)) (h0 : n ≠ 0)
    (hbad : dmaEndBad s st (s.get (F.LFT_DMA_SRC_src c)) n = true
      ∨ dmaEndBad s dt (s.get (F.LFT_DMA_DST_dst c)) n = true) :
    dmaGo s c who st dt ev = raise ((dmaCleared s c st dt ev).setAll
      [(F.LFT_DMA_STATUS_halted c, 1), (F.LFT_DMA_STATUS_cause c, 5)]) 1016 0x13 4 (c + 5 * 64) := by
  rw [dmaGo_idle hmine hg hb, ← hn, dmaJudge, if_neg h0, dmaEndBad_cleared hc, dmaEndBad_cleared hc,
    if_pos (by simpa using hbad)]

end

/-! ### The command of a unit (R325 to R327) -/

section
variable {s : State} {c : Nat}

/-- Unit `n` of a transfer has returned `r`: the transfer halts with the cause of the stop, completes, halts with
cause 4 where it aborts, or goes on. -/
def dmaReturned (r : Option (Nat × Nat) × State) (c n : Nat) (d : DmaRun) : State :=
  let t := r.2.set (F.LFT_DMA_UNITS_DONE_units c) (n + 1)
  match r.1 with
  | some x => dmaHalt r.2 c x.1 x.2
  | none =>
    if d.units ≤ n + 1 then
      let z := (t.setLoft { r.2.loft with dma := adel r.2.loft.dma c }).setAll
        [(F.LFT_DMA_STATUS_busy c, 0), (F.LFT_DMA_STATUS_done c, 1)]
      if d.evDone then raise z 1016 0x14 1 c else z
    else if d.aborting then dmaHalt t c 4 (t.get (F.LFT_DMA_FAIL_ADDR_addr c))
    else t

theorem exec_dmaCommandComplete (hc : c < 64) :
    exec (.dmaCommandComplete c) s = .next (settle (dmaComplete s c)) :=
  exec_next rfl (decide_eq_true hc) rfl

/-- Nothing moves behind a closed gate or where no transfer runs. -/
theorem dmaComplete_idle (h : s.flag (F.CLK_GATE_EN_open 316) = false ∨ aget s.loft.dma c = none) :
    dmaComplete s c = s := by
  unfold dmaComplete
  split
  · rfl
  · next d hd =>
    rcases h with h | h
    · rw [h]; rfl
    · rw [h] at hd; cases hd

theorem dmaComplete_unit {d e : DmaRun} {v u : State} {n : Nat} (hg : s.flag (F.CLK_GATE_EN_open 316) = true)
    (hd : aget s.loft.dma c = some d) (hv : v = s.atNow d.next) (he : e = { d with next := v.now + 2 })
    (hu : u = v.setLoft { s.loft with dma := aset s.loft.dma c e }) (hn : n = s.get (F.LFT_DMA_UNITS_DONE_units c)) :
    dmaComplete s c = dmaReturned (dmaUnit u c n e) c n d := by
  subst hn hu he hv
  rw [dmaComplete, hd]
  exact if_neg (by rw [hg]; decide)

section
variable {r : Option (Nat × Nat) × State} {d : DmaRun} {n : Nat}

theorem dmaReturned_stop {x : Nat × Nat} (h : r.1 = some x) : dmaReturned r c n d = dmaHalt r.2 c x.1 x.2 := by
  rw [dmaReturned, h]

theorem dmaReturned_last {z : State} (h : r.1 = none) (hl : d.units ≤ n + 1)
    (hz : z = State.setAll (State.setLoft (r.2.set (F.LFT_DMA_UNITS_DONE_units c) (n + 1))
      { r.2.loft with dma := adel r.2.loft.dma c }) [(F.LFT_DMA_STATUS_busy c, 0), (F.LFT_DMA_STATUS_done c, 1)]) :
    dmaReturned r c n d = if d.evDone = true then raise z 1016 0x14 1 c else z := by
  rw [dmaReturned, h, hz]
  exact if_pos hl

theorem dmaReturned_more (h : r.1 = none) (hl : n + 1 < d.units) : dmaReturned r c n d =
    if d.aborting = true then dmaHalt (r.2.set (F.LFT_DMA_UNITS_DONE_units c) (n + 1)) c 4
      (r.2.get (F.LFT_DMA_FAIL_ADDR_addr c))
    else r.2.set (F.LFT_DMA_UNITS_DONE_units c) (n + 1) := by
  have hfail : (r.2.set (F.LFT_DMA_UNITS_DONE_units c) (n + 1)).get (F.LFT_DMA_FAIL_ADDR_addr c)
      = r.2.get (F.LFT_DMA_FAIL_ADDR_addr c) := State.get_set_ne _ _ _ _ (by
    simp only [Fld.key, F.LFT_DMA_UNITS_DONE_units, F.LFT_DMA_FAIL_ADDR_addr]; omega)
  rw [dmaReturned, h, ← hfail]
  exact if_neg (Nat.not_le.mpr hl)

end
end

/-! ### O40 -/

section
variable {s t : State} {c : Nat} {st dt ev : Bool}

/-- A channel's status registers are quiet. -/
theorem dmaStatus_quiet (hc : c < 64) : ∀ f ∈ [F.LFT_DMA_STATUS_busy c, F.LFT_DMA_STATUS_done c,
    F.LFT_DMA_STATUS_halted c, F.LFT_DMA_STATUS_cause c, F.LFT_DMA_UNITS_DONE_units c], f.quiet := by
  intro f hf
  simp only [List.mem_cons, List.not_mem_nil, or_false] at hf
  rcases hf with rfl | rfl | rfl | rfl | rfl <;> refine Fld.quiet_of_key ?_ ?_ (.inr ?_) <;>
    simp only [Fld.key, F.LFT_DMA_STATUS_busy, F.LFT_DMA_STATUS_done, F.LFT_DMA_STATUS_halted,
      F.LFT_DMA_STATUS_cause, F.LFT_DMA_UNITS_DONE_units] <;> omega

@[simp] theorem dmaCleared_ev : (dmaCleared s c st dt ev).ev = s.ev := by
  simp only [dmaCleared, dmaCtrl, State.setAll_ev]

@[simp] theorem dmaCleared_warm : (dmaCleared s c st dt ev).warm = s.warm := by
  simp only [dmaCleared, dmaCtrl, State.setAll_warm]

@[simp] theorem dmaCleared_loft : (dmaCleared s c st dt ev).loft = s.loft := by
  simp only [dmaCleared, dmaCtrl, State.setAll_loft]

theorem dmaBegun_get (d : DmaRun) (f : Fld) : (dmaBegun s c d).get f = (s.set (F.LFT_DMA_STATUS_busy c) 1).get f := by
  simp only [dmaBegun, State.setLoft, State.get]

/-- What a go that begins a transfer leaves in the channel's registers. -/
theorem settle_dmaBegun (hc : c < 64) {d : DmaRun} (ht : t = settle (dmaBegun (dmaCleared s c st dt ev) c d)) :
    t.flag (F.LFT_DMA_STATUS_busy c) = true ∧ t.flag (F.LFT_DMA_STATUS_done c) = false
      ∧ t.get (F.LFT_DMA_UNITS_DONE_units c) = 0 ∧ aget t.loft.dma c = some d := by
  have hget : ∀ f : Fld, f.quiet → t.get f = ((dmaCleared s c st dt ev).set (F.LFT_DMA_STATUS_busy c) 1).get f :=
    fun f hf => by rw [ht, settle_get_quiet hf, dmaBegun_get]
  rw [State.flag, State.flag, hget _ (dmaStatus_quiet hc _ (by simp)), hget _ (dmaStatus_quiet hc _ (by simp)),
    hget _ (dmaStatus_quiet hc _ (by simp)), ht, settle_loft, dmaBegun]
  refine ⟨?_, ?_, ?_, aget_aset_same _ _ _⟩
  · rw [State.get_set_same]
    rfl
  all_goals
    simp (disch := (simp only [Fld.key, F.LFT_DMA_STATUS_busy, F.LFT_DMA_STATUS_done, F.LFT_DMA_STATUS_halted,
    F.LFT_DMA_STATUS_cause, F.LFT_DMA_UNITS_DONE_units]; omega)) [dmaCleared, State.get_set_ne]

/-- What a go of no units leaves. -/
theorem settle_dmaEmpty (hc : c < 64) (hb : s.flag (F.LFT_DMA_STATUS_busy c) = false)
    (ht : t = settle (if ev then raise ((dmaCleared s c st dt ev).set (F.LFT_DMA_STATUS_done c) 1) 1016 0x14 1 c
      else (dmaCleared s c st dt ev).set (F.LFT_DMA_STATUS_done c) 1)) :
    t.flag (F.LFT_DMA_STATUS_done c) = true ∧ t.flag (F.LFT_DMA_STATUS_busy c) = false ∧ t.loft = s.loft
      ∧ (s.evRoom 1 → ev = true → reports s t 1016 0x14 1 c) := by
  have hbusy : (dmaCleared s c st dt ev).flag (F.LFT_DMA_STATUS_busy c) = false := by
    refine (State.flag_of_get (State.get_setAll_ne _ _ _ ?_)).trans (dmaCtrl_busy.trans hb)
    simp [Fld.key, F.LFT_DMA_STATUS_busy, F.LFT_DMA_STATUS_done, F.LFT_DMA_STATUS_halted,
      F.LFT_DMA_STATUS_cause, F.LFT_DMA_UNITS_DONE_units]
  have hget : ∀ f : Fld, f.quiet → t.get f = ((dmaCleared s c st dt ev).set (F.LFT_DMA_STATUS_done c) 1).get f := by
    intro f hf
    rw [ht, settle_get_quiet hf]
    split
    · rw [raise_get_quiet _ _ _ _ hf]
    · rfl
  refine ⟨?_, ?_, ?_, fun hroom hev => ?_⟩
  · rw [State.flag, hget _ (dmaStatus_quiet hc _ (by simp)), State.get_set_same]
    rfl
  · rw [State.flag, hget _ (dmaStatus_quiet hc _ (by simp)), State.get_set_ne, ← State.flag, hbusy]
    simp [Fld.key, F.LFT_DMA_STATUS_busy, F.LFT_DMA_STATUS_done]
  · rw [ht, settle_loft]
    split
    · rw [raise_loft, State.set_loft, dmaCleared_loft]
    · rw [State.set_loft, dmaCleared_loft]
  · rw [ht, hev, if_pos rfl, reports, settle_records]
    have hrep := raise_reports (s := (dmaCleared s c st dt true).set (F.LFT_DMA_STATUS_done c) 1) 1016 0x14 1 c
      (by simpa [State.evRoom] using hroom)
    simpa only [reports, State.records, State.set_ev, dmaCleared_ev] using hrep

/-- What a go with a refused end leaves. -/
theorem settle_dmaRefused (hc : c < 64) (ht : t = settle (raise ((dmaCleared s c st dt ev).setAll
      [(F.LFT_DMA_STATUS_halted c, 1), (F.LFT_DMA_STATUS_cause c, 5)]) 1016 0x13 4 (c + 5 * 64))) :
    t.flag (F.LFT_DMA_STATUS_halted c) = true ∧ t.get (F.LFT_DMA_STATUS_cause c) = 5 ∧ t.loft = s.loft := by
  have hget : ∀ f : Fld, f.quiet → t.get f = ((dmaCleared s c st dt ev).setAll
      [(F.LFT_DMA_STATUS_halted c, 1), (F.LFT_DMA_STATUS_cause c, 5)]).get f :=
    fun f hf => by rw [ht, settle_get_quiet hf, raise_get_quiet _ _ _ _ hf]
  rw [State.flag, hget _ (dmaStatus_quiet hc _ (by simp)), hget _ (dmaStatus_quiet hc _ (by simp)), ht, settle_loft,
    raise_loft, State.setAll_loft, dmaCleared_loft]
  refine ⟨?_, State.get_set_same _ _ _, rfl⟩
  have hne : (F.LFT_DMA_STATUS_halted c).key ≠ (F.LFT_DMA_STATUS_cause c).key := by
    simp [Fld.key, F.LFT_DMA_STATUS_halted, F.LFT_DMA_STATUS_cause]
  rw [State.setAll_cons, State.setAll_cons, State.setAll_nil, State.get_set_ne _ _ _ _ hne, State.get_set_same]
  rfl

/-- What a go while busy leaves. -/
theorem settle_dmaCtrl (hc : c < 64) (ht : t = settle (dmaCtrl s c st dt ev)) : t.loft = s.loft
    ∧ t.flag (F.LFT_DMA_STATUS_busy c) = s.flag (F.LFT_DMA_STATUS_busy c)
    ∧ t.get (F.LFT_DMA_UNITS_DONE_units c) = s.get (F.LFT_DMA_UNITS_DONE_units c) := by
  subst ht
  refine ⟨settle_loft _, (State.flag_of_get (settle_get_quiet (dmaStatus_quiet hc _ (by simp)))).trans dmaCtrl_busy,
    (settle_get_quiet (dmaStatus_quiet hc _ (by simp))).trans (dmaCtrl_get (.inr ?_))⟩
  simp only [Fld.key, F.LFT_DMA_UNITS_DONE_units]
  omega

end

/-- Settles O40: what a go leaves is one of its four outcomes above, the rest of the commands is the rule of each. -/
theorem dmaTransfers : Obligations.DmaTransfers := by
  unfold Obligations.DmaTransfers
  intro s c who hc
  refine ⟨fun st dt ev n hmine hmay hg hn => ⟨fun hb => ⟨fun h0 hsrc hdst => ?_, fun h0 => ?_, fun h0 hbad => ?_⟩,
    fun hb => ?_⟩, fun a n h0 => by simp [dmaEndBad, h0], fun hmine hmay => ⟨fun d hg hd => ?_, fun hg hd => ?_,
    fun st dt ev hg => ?_⟩, fun st dt ev hmine hmay => ?_, fun d v e u n r hg hd hv he hu hn hr => ?_, fun h => ?_⟩
  · exact ⟨_, exec_dmaGo hc hmay, settle_dmaBegun hc (congrArg settle (dmaGo_begins hc hmine hg hb hn h0 hsrc hdst))⟩
  · exact ⟨_, exec_dmaGo hc hmay, settle_dmaEmpty hc hb (congrArg settle (dmaGo_empty hmine hg hb (hn ▸ h0)))⟩
  · exact ⟨_, exec_dmaGo hc hmay, settle_dmaRefused hc (congrArg settle (dmaGo_refused hc hmine hg hb hn h0 hbad))⟩
  · obtain ⟨hloft, hbusy, hunits⟩ := settle_dmaCtrl hc (congrArg settle (dmaGo_busy (st := st) (dt := dt) (ev := ev) hmine hg hb))
    exact ⟨_, exec_dmaGo hc hmay, hloft, hbusy.trans hb, hunits⟩
  · rw [exec_dmaAbort hc hmay, dmaAbort_open hmine hg, hd]
  · rw [exec_dmaAbort hc hmay, dmaAbort_open hmine hg, hd]
  · rw [exec_dmaGo hc hmay, exec_dmaAbort hc hmay, dmaGo_shut hmine hg, dmaAbort_shut hmine hg]
    exact ⟨rfl, rfl⟩
  · rw [exec_dmaGo hc hmay, exec_dmaAbort hc hmay, dmaGo_notMine hmine, dmaAbort_notMine hmine]
    exact ⟨rfl, rfl⟩
  · rw [exec_dmaCommandComplete hc, dmaComplete_unit hg hd hv he hu hn, ← hr]
    refine ⟨fun x hx => ?_, fun z h1 hl hz => ?_, fun h1 ha hl => ?_, fun h1 ha hl => ?_⟩
    · rw [dmaReturned_stop hx]
    · rw [dmaReturned_last h1 hl hz]
    · rw [dmaReturned_more h1 hl, ha, if_neg Bool.false_ne_true]
    · rw [dmaReturned_more h1 hl, ha, if_pos rfl]
  · rw [exec_dmaCommandComplete hc, dmaComplete_idle h]

end Sys2Proof.Machine
end

section
/-! The clocks family (O41): the registers that an entry to SAFE leaves. -/

namespace Sys2Proof.Machine

/-! ### What an entry to SAFE writes (R94, R257, R326, R388, R403) -/

/-- A register that no part of an entry to SAFE writes: its events, the mode, the lost synchronous Ethernet, the gates
with the bins, lanes and bank groups behind them, and the DMA channels that are cut short. -/
structure Fld.SafeFree (f : Fld) : Prop where
  quiet : f.quiet
  fixed : ∀ g ∈ [F.RST_MODE_mode, F.RST_MODE_entering, F.RST_MODE_REQ_STATUS_busy, F.TB_STATUS_state,
    F.TB_STATUS_freq_src, F.TB_REF_QUAL_qual], f.key ≠ g.key
  gate : ∀ i, f.key ≠ (F.CLK_GATE_EN_open i).key
  bin : ∀ i, f.key ≠ (F.BIN_SEQ_STATUS_state i).key
  bankGroup : ∀ i, f.key ≠ (F.LFT_GRP_STATUS_gated i).key
  laneGroup : ∀ i, f.key ≠ (F.LN_GRP_STATUS_up i).key
  lane : ∀ i, ∀ g ∈ [F.LN_STATUS_state i, F.LN_STATUS_link_up i, F.LN_LINKDOWN_CNT_count i,
    F.LN_LINKDOWN_CNT_last_cause i], f.key ≠ g.key
  dma : ∀ i, ∀ g ∈ [F.LFT_DMA_STATUS_busy i, F.LFT_DMA_STATUS_halted i, F.LFT_DMA_STATUS_cause i,
    F.LFT_DMA_FAIL_ADDR_addr i], f.key ≠ g.key

section
variable {f : Fld} (hf : f.SafeFree)
include hf

theorem raise_get_safeFree (s : State) (a b c d : Nat) : (raise s a b c d).get f = s.get f :=
  raise_get_quiet a b c d hf.quiet

/-! The twin and the time base. -/

theorem declareFault_get (s : State) (row : Nat) : (declareFault s row).get f = s.get f := by
  unfold declareFault
  split
  · extract_lets _ _ s1
    exact (raise_get_safeFree hf _ _ _ _ _).trans
      (foldl_view (fun t : State => t.get f) (twPut (.fault false)) _ s1 fun _ _ _ => rfl)
  · rfl

theorem setTb_get (s : State) (n : Nat) : (setTb s n).get f = s.get f := by
  unfold setTb
  extract_lets o _ _ s1 s2
  have h2 : s2.get f = s.get f := (raise_get_safeFree hf _ _ _ _ _).trans <| (markDirty_get _ _ _).trans <|
    State.get_set_ne s1 _ _ _ (hf.fixed _ (by simp))
  split
  · rfl
  · split
    · exact (declareFault_get hf s2 4).trans h2
    · exact h2

theorem holdoverCheck_get (s : State) : (holdoverCheck s).get f = s.get f := by
  unfold holdoverCheck
  split
  · exact setTb_get hf s _
  · rfl

/-- The loss of synchronous Ethernet. -/
theorem refLost_syncE_get (s : State) (reason : Nat) : (refLost s 3 reason).get f = s.get f := by
  unfold refLost
  split
  · rfl
  · extract_lets s1 s2 _ s4 s5 s6
    have h1 : s1.get f = s.get f :=
      (raise_get_safeFree hf _ _ _ _ _).trans (setQual_get s 3 false f (hf.fixed _ (by simp)))
    have h2 : s2.get f = s1.get f := setFreqSrc_get s1 f (hf.fixed _ (by simp))
    have h6 : s6 = s2 := by simp [s6, s5, s4]
    rw [holdoverCheck_get hf, h6, h2, h1]

/-! Lanes, bins and the gates before them. -/

theorem laneState_get (s : State) (l st : Nat) : (laneState s l st).get f = s.get f :=
  State.get_set_ne s _ _ _ (hf.lane l _ (by simp))

theorem laneLeave_get (s : State) (l cause st : Nat) : (laneLeave s l cause st).get f = s.get f := by
  unfold laneLeave
  extract_lets was s1 _ s2 g s3 s4 s5 s6
  have h2 : s2.get f = s.get f := laneState_get hf s l st
  have h3 : s3.get f = s2.get f := State.get_set_ne _ _ _ _ (hf.lane l _ (by simp))
  have h4 : s4.get f = s3.get f := State.get_set_ne _ _ _ _ (hf.laneGroup g)
  have h5 : s5.get f = s4.get f := (State.get_set_ne _ _ _ _ (hf.lane l _ (by simp))).trans
    (State.get_set_ne _ _ _ _ (hf.lane l _ (by simp)))
  have h6 : s6.get f = s.get f := by
    unfold s6
    split
    · rw [raise_get_safeFree hf, h5, h4, h3, h2]
    · exact h2
  split
  · rw [refLost_syncE_get hf, h6]
  · exact h6

theorem groupLanesOff_get (s : State) (g : Nat) : (groupLanesOff s g).get f = s.get f := by
  refine foldl_view (fun t : State => t.get f) _ _ s fun t l _ => ?_
  split
  · exact laneLeave_get hf t l _ _
  · rfl

theorem groupLanesOn_get (s : State) (g : Nat) : (groupLanesOn s g).get f = s.get f := by
  refine foldl_view (fun t : State => t.get f) _ _ s fun t l _ => ?_
  split
  · exact laneState_get hf t l _
  · rfl

theorem binAwake_get (s : State) (p : Nat) : (binAwake s p).get f = s.get f := by
  unfold binAwake
  split
  · rfl
  · split
    · rfl
    · split
      · rfl
      · exact State.get_set_ne (askAgain s p) _ _ _ (hf.bin p)

theorem closeGate_get (s : State) (g : Nat) : (closeGate s g).get f = s.get f := by
  unfold closeGate
  extract_lets _ s1 s2
  have h2 : s2.get f = s.get f := State.get_set_ne s1 _ _ _ (hf.gate g)
  split
  · exact (State.get_set_ne _ _ _ _ (hf.bin g)).trans h2
  · split
    · exact (groupLanesOff_get hf s2 _).trans h2
    · split
      · exact (State.get_set_ne _ _ _ _ (hf.bankGroup _)).trans h2
      · exact h2

theorem openGate_get (s : State) (g : Nat) : (openGate s g).get f = s.get f := by
  unfold openGate
  extract_lets _ s1 s2
  have h2 : s2.get f = s.get f := State.get_set_ne s1 _ _ _ (hf.gate g)
  split
  · rfl
  · split
    · exact (binAwake_get hf s2 g).trans h2
    · split
      · exact (groupLanesOn_get hf s2 _).trans h2
      · split
        · exact (State.get_set_ne _ _ _ _ (hf.bankGroup _)).trans h2
        · exact h2

theorem dmaHalt_get (s : State) (c cause a : Nat) : (dmaHalt s c cause a).get f = s.get f := by
  unfold dmaHalt
  extract_lets _ s1 s2
  have h2 : s2.get f = s1.get f := s1.get_setAll_ne _ f fun x hx => hf.dma c x.1 (by
    simp only [List.mem_cons, List.not_mem_nil, or_false] at hx ⊢
    rcases hx with rfl | rfl | rfl | rfl <;> simp)
  rw [raise_get_safeFree hf, h2]
  rfl

theorem terminateAll_get (s : State) (g : Nat) : (terminateAll s g).get f = s.get f := by
  unfold terminateAll
  split
  · extract_lets h s1
    have h1 : s1.get f = s.get f := foldl_view (fun t : State => t.get f) _ _ s fun _ _ _ => rfl
    refine Eq.trans ?_ h1
    exact foldl_view (fun t : State => t.get f) _ _ s1 fun _ _ _ => rfl
  · split
    · exact foldl_view (fun t : State => t.get f) _ _ s fun t d _ => dmaHalt_get hf t _ _ _
    · rfl

theorem gatesForce_get (s : State) : (gatesForce s).get f = s.get f := by
  refine foldl_view (fun t : State => t.get f) _ _ s fun t g _ => ?_
  split
  · exact openGate_get hf t g
  · split
    · exact (closeGate_get hf _ g).trans (terminateAll_get hf t g)
    · rfl

/-! The entry itself. -/

theorem setMode_get (s : State) (m : Nat) : (setMode s m).get f = s.get f := by
  unfold setMode
  split
  · rfl
  · exact (raise_get_safeFree hf _ _ _ _ _).trans (State.get_set_ne _ _ _ _ (hf.fixed _ (by simp)))

theorem enterSafe_get (s : State) (thermal : Bool) : (enterSafe s thermal).get f = s.get f := by
  unfold enterSafe
  extract_lets s1 _ s2 _ s3
  have h1 : s1.get f = s.get f := by
    unfold s1
    split
    · rfl
    · exact declareFault_get hf s 1
  rw [setMode_get hf, State.get_set_ne _ _ _ _ (hf.fixed _ (by simp)),
    State.get_set_ne _ _ _ _ (hf.fixed _ (by simp))]
  exact h1

theorem toSafe_get (s : State) (thermal : Bool) : (toSafe s thermal).get f = s.get f :=
  (gatesForce_get hf _).trans (enterSafe_get hf s thermal)

end

end Sys2Proof.Machine
end

section
/-! The clocks family (O41): the start tests, the header, the stream's frames, the slow boot and a failed attempt. -/

namespace Sys2Proof.Machine

/-! ### The start tests (R20, R322, R323, R346, R445) -/

section
variable {s : State}

/-- A bin's retirement at a start writes the bins' registers and those of the wear unit. -/
theorem startRetire_get {cause p : Nat} {f : Fld} (hq : f.quiet) (h : f.key < 0x400000 * 32) :
    (startRetire s cause p).get f = s.get f := by
  have hne : ∀ g : Fld, 0x400000 ≤ g.addr → f.key ≠ g.key := by
    intro g hg
    simp only [Fld.key] at h ⊢
    omega
  unfold startRetire
  split
  · rfl
  · extract_lets s1 s2
    have h1 : s1.get f = s.get f := (State.get_set_ne _ _ _ _ (hne _ (by decide))).trans
      (State.get_set_ne _ _ _ _ (hne _ (Nat.le_add_right _ _)))
    have h2 : s2.get f = s1.get f := s1.get_setAll_ne _ f fun x hx => by
      simp only [List.mem_cons, List.not_mem_nil, or_false] at hx
      rcases hx with rfl | rfl <;> exact hne _ (Nat.le_add_right_of_le (by decide))
    rw [raiseCrit_get _ _ _ _ _ _ _ hq.1, h2, h1]

/-- The spare bins' canaries leave the registers below the bins' blocks. -/
theorem canary_get {l : List (Nat × Nat)} {f : Fld} (hq : f.quiet) (h : f.key < 0x400000 * 32) :
    (l.foldl (fun u c => let u := u.set (F.FAB_CANARY_margin c.1) c.2
      if c.2 < u.get F.SPR_CFG_canary_retire then startRetire u 4 c.1 else u) s).get f = s.get f := by
  refine foldl_view (fun t : State => t.get f) _ l s fun t c _ => ?_
  have hset : (t.set (F.FAB_CANARY_margin c.1) c.2).get f = t.get f := State.get_set_ne _ _ _ _ (by
    simp only [Fld.key, F.FAB_CANARY_margin] at h ⊢
    omega)
  dsimp only
  split
  · exact (startRetire_get hq h).trans hset
  · exact hset

/-- The outcome of the start tests (R323). -/
theorem selfTest_outcome (s : State) (t : SelfTest) :
    (selfTest s t).get F.LFT_STATUS_selftest_done = 1
      ∧ (selfTest s t).get F.LFT_STATUS_selftest_pass
        = ofBool (decide (t.banks = [] ∧ t.spares = []) && t.sram.isNone && t.tables.isNone) := by
  unfold selfTest
  extract_lets s1 _ s2 s3 s4 s5 s6 ok s7 s8
  have h8 : ∀ f : Fld, f.quiet → f.key < 0x400000 * 32 → s8.get f = s7.get f := fun f => canary_get
  have hdone : F.LFT_STATUS_selftest_done.quiet := Fld.quiet_of_key (by decide) (by decide) (by decide)
  have hpass : F.LFT_STATUS_selftest_pass.quiet := Fld.quiet_of_key (by decide) (by decide) (by decide)
  have hne : F.LFT_STATUS_selftest_done.key ≠ F.LFT_STATUS_selftest_pass.key := by decide
  have hok : ok = (decide (t.banks = [] ∧ t.spares = []) && t.sram.isNone && t.tables.isNone) := by
    rw [Bool.decide_and]
  constructor
  · exact (h8 _ hdone (by decide)).trans ((State.get_set_ne _ _ _ _ hne).trans (State.get_set_same _ _ _))
  · refine (h8 _ hpass (by decide)).trans ((State.get_set_same _ _ _).trans ?_)
    rw [hok]
    exact Nat.mod_eq_of_lt (by unfold ofBool; split <;> decide)

theorem exec_selfTestComplete {t : SelfTest} (ht : t.ok = true) (hdue : s.modes.testDue = true)
    (hpor : s.modes.por = false) (hpin : s.pins.porstN = true) {u : State}
    (hu : u = selfTest { s with modes := { s.modes with testDue := false } } t) :
    exec (.selfTestComplete t) s = .next (settle (match u.cfg.load with
      | none => u
      | some r => if u.mode ≠ Mode.load then setLoad u none else loadAdvance (setLoad u (some { r with tested := true })))) := by
  subst hu
  refine exec_next rfl ht ?_
  rw [hdue, hpor, hpin]
  rfl

end

/-! ### The header (R332, R334 to R339, R348) -/

section
variable {s : State} {r : LoadRun} {h : Header}

theorem exec_headerRead (hh : h.ok = true) {u : State} (hu : headerRead s h = u) :
    exec (.headerRead h) s = .next (settle (monFollow u)) := exec_next rfl hh (congrArg monFollow hu)

/-- Slot 1 without the magic on the second device is read from the first. -/
theorem headerRead_alt {q : LoadRun} (hr : s.cfg.load = some r) (hn : r.hdr = none) (hm : s.mode = Mode.load)
    (hmagic : h.magicOk = false) (halt : r.alt = false) (htried : s.flag F.CFG_STATUS_alt_tried = true)
    (hq : q = { r with alt := true, tries := 0 }) :
    headerRead s h = flashSend (setLoad s (some q)) [readSlow s q 0 4096] := by
  rw [headerRead, hr]
  simp only [hn, hm, hmagic, halt, htried, hq]
  rfl

/-- What a header that is taken leads to: a re-read or the attempt's end for its CRC, the attempt's end with the code of
its check, or the next step. -/
theorem headerRead_taken (hr : s.cfg.load = some r) (hn : r.hdr = none) (hm : s.mode = Mode.load)
    (hmagic : h.magicOk = true ∨ r.alt = true ∨ s.flag F.CFG_STATUS_alt_tried = false) :
    headerRead s h =
      if h.crcOk = false then (if r.tries < 2 then flashSend (setLoad (s.bump F.CFG_CRC_RETRY_CNT_count 1)
        (some { r with tries := r.tries + 1 })) [readSlow s r 0 4096] else loadRefuse s 2 1 0)
      else match headerBad s h 1 with
        | some x => loadRefuse s x.1 x.2 0
        | none => if 49920 < h.frames then loadRefuse s 4 5 0 else if h.frames < 2 then loadRefuse s 4 1 0
          else loadAdvance (setLoad (clockSection s h) (some { r with hdr := some h, tries := 0, hdrAt := s.now })) := by
  have hmagic' : ¬ (!h.magicOk && !r.alt && s.flag F.CFG_STATUS_alt_tried) = true := by
    rcases hmagic with hx | hx | hx <;> simp [hx]
  have htaken : ¬ (r.hdr.isSome || decide (s.mode ≠ Mode.load)) = true := by simp [hn, hm]
  rw [headerRead, hr]
  refine (if_neg htaken).trans ((if_neg hmagic').trans ?_)
  cases h.crcOk
  · rfl
  · cases headerBad s h 1 <;> rfl

theorem headerBad_form (k : Nat) (hbad : h.magic ≠ 0xF1C04128 ∨ h.format ≠ 2) : headerBad s h k = some (6, 1) := by
  unfold headerBad
  extract_lets slotKey key
  refine if_pos ?_
  rcases hbad with hx | hx <;> simp [Header.magicOk, Header.formatOk, hx]

theorem headerBad_part (k : Nat) (hmagic : h.magic = 0xF1C04128) (hformat : h.format = 2)
    (hbad : h.part ≠ s.get F.ID_PART_part_code ∨ s.get F.ID_PART_stack_rev < h.minRev) :
    headerBad s h k = some (6, 2) := by
  have hform : (!h.magicOk || !h.formatOk) = false := by simp [Header.magicOk, Header.formatOk, hmagic, hformat]
  have hdevice : (decide (h.part ≠ s.get F.ID_PART_part_code) || decide (s.get F.ID_PART_stack_rev < h.minRev)) = true := by
    simpa using hbad
  simp only [headerBad, hform, hdevice, if_true, Bool.false_eq_true, if_false]

/-- A signer above the four key slots fails the signature's check, or the next. -/
theorem headerBad_signer (k : Nat) (hmagic : h.magic = 0xF1C04128) (hformat : h.format = 2)
    (hpart : h.part = s.get F.ID_PART_part_code) (hrev : h.minRev ≤ s.get F.ID_PART_stack_rev) (hs : 4 ≤ h.signer) :
    headerBad s h k = if h.sigOk = true then some (1, 2) else some (1, 1) := by
  have hslot : ¬ h.signer < 4 := Nat.not_lt.mpr hs
  have hform : (!h.magicOk || !h.formatOk) = false := by simp [Header.magicOk, Header.formatOk, hmagic, hformat]
  have hdevice : (decide (h.part ≠ s.get F.ID_PART_part_code) || decide (s.get F.ID_PART_stack_rev < h.minRev)) = false := by
    simp [hpart, hrev]
  simp only [headerBad, hform, hdevice, hslot, decide_false, Bool.false_and, Bool.not_false, if_true, Bool.false_eq_true,
    if_false]
  by_cases hsig : h.sigOk = true
  · simp only [hsig, if_true, Bool.not_true, Bool.false_eq_true, if_false]
  · simp only [hsig, if_true, Bool.not_false, Bool.false_eq_true, if_false]

end

/-! ### The slow boot (R79) -/

/-- The wait for an instant leaves the clocks. -/
theorem bootSlow_atNow (s : State) (n : Nat) :
    State.set { s.atNow n with clk := { (s.atNow n).clk with slow := true } } F.CFG_STATUS_boot_slow 1
      = State.set { s.atNow n with clk := { s.clk with slow := true } } F.CFG_STATUS_boot_slow 1 := rfl

theorem exec_bootSlowTimeout_slow {s u : State} {r : LoadRun} {h : Header} (hr : s.cfg.load = some r)
    (hh : r.hdr = some h) (hq : s.get (F.CLK_MON_STATUS_state 34) ≠ 2) (hs : s.clk.slow = false)
    (hu : u = s.atNow (r.hdrAt + 98304000)) :
    exec .bootSlowTimeout s = .next (settle (loadAdvance (raise
      (State.set { u with clk := { s.clk with slow := true } } F.CFG_STATUS_boot_slow 1) 1021 0x0F 4 0))) := by
  subst hu
  refine exec_next rfl rfl ?_
  refine (if_pos ?_).trans ?_
  · simp [hr, hh, hq, hs, monQual]
  · have hat : (s.cfg.load.map (fun r => r.hdrAt + bootSlowTk)).getD 0 = r.hdrAt + 98304000 := by
      rw [hr, Option.map_some, Option.getD_some, bootSlowTk]
    rw [hat]
    exact congrArg (fun v => loadAdvance (raise v 1021 0x0F 4 0)) (bootSlow_atNow s _)

theorem exec_bootSlowTimeout_not {s : State} {r : LoadRun} (hr : s.cfg.load = some r)
    (h : r.hdr = none ∨ s.get (F.CLK_MON_STATUS_state 34) = 2 ∨ s.clk.slow = true) :
    exec .bootSlowTimeout s = .next (settle s) := by
  refine exec_next rfl rfl (if_neg ?_)
  rcases h with h | h | h <;> simp [hr, h, monQual]

/-! ### The stream's frames (R333, R336, R337, R348) -/

section
variable {s : State} {r : LoadRun} {h : Header} {f : Sys2Proof.Frame}

theorem exec_flashFrameRead (hf : f.ok = true) {u : State} (hu : flashFrameRead s f = u) :
    exec (.flashFrameRead f) s = .next (settle (monFollow u)) := exec_next rfl hf (congrArg monFollow hu)

/-- Before the header and outside the frames' step a frame changes nothing. -/
theorem flashFrameRead_early (hr : s.cfg.load = some r) (hn : r.hdr = none ∨ s.get F.CFG_STATUS_load_state ≠ 2) :
    flashFrameRead s f = s := by
  rw [flashFrameRead, hr]
  dsimp only
  split
  · rfl
  · next h hh =>
    rcases hn with hn | hn
    · rw [hn] at hh
      cases hh
    · exact if_pos hn

/-- A frame whose CRC fails is read again twice, and fails the attempt after that. -/
def frameRetry (s : State) (r : LoadRun) : State :=
  if r.tries < 2 then flashSend (setLoad (s.bump F.CFG_CRC_RETRY_CNT_count 1) (some { r with tries := r.tries + 1 }))
    [readFast s r (4096 * r.next) 4096]
  else loadRefuse s 2 1 r.next

/-- The next frame is read. -/
def frameNext (s : State) (r : LoadRun) : State := flashSend s [readFast s r (4096 * (r.next + 1)) 4096]

/-- A frame inside a segment is held. -/
theorem flashFrameRead_inside (hr : s.cfg.load = some r) (hh : r.hdr = some h) (hst : s.get F.CFG_STATUS_load_state = 2)
    (hin : r.next % 64 ≠ 0) (hend : r.next + 1 ≠ h.frames) :
    flashFrameRead s f =
      if f.crcOk (streamKey s h) h.nonce r.next = false then frameRetry s r
      else if f.tagZero = false then loadRefuse s 3 2 r.next
      else frameNext (setLoad s (some { r with tries := 0, next := r.next + 1, seg := r.seg ++ [f] })) r := by
  have hst' : ¬ s.get F.CFG_STATUS_load_state ≠ 2 := not_not.mpr hst
  have hlast : (decide (r.next % 64 = 0) || decide (r.next + 1 = h.frames)) = false := by simp [hin, hend]
  rw [flashFrameRead, hr]
  dsimp only
  split
  · next hn => cases hh.symm.trans hn
  next x hx =>
  obtain rfl : h = x := Option.some.inj (hh.symm.trans hx)
  rw [if_neg hst', hlast]
  cases f.crcOk (streamKey s h) h.nonce r.next
  · rfl
  · cases f.tagZero <;> rfl

/-- A frame that completes a segment: a segment that verifies is hashed and written, and the last one ends the stream. -/
theorem flashFrameRead_last (hr : s.cfg.load = some r) (hh : r.hdr = some h) (hst : s.get F.CFG_STATUS_load_state = 2)
    (hlast : r.next % 64 = 0 ∨ r.next + 1 = h.frames) {pos : Nat} {hs : List Nat} {q : LoadRun}
    (hpos : pos = r.next - r.seg.length)
    (hhs : hs = r.hashes ++ [segHash (streamKey s h) h.nonce pos (r.seg ++ [f])])
    (hq : q = { r with tries := 0, next := r.next + 1, seg := [], kind := f.kind, hashes := hs }) :
    flashFrameRead s f =
      if f.crcOk (streamKey s h) h.nonce r.next = false then frameRetry s r
      else if segTagOk (streamKey s h) h.nonce pos (r.seg ++ [f]) = false then loadRefuse s 3 1 r.next
      else match segmentWrite h.frames pos r.kind (r.seg ++ [f]) s with
        | .error x => loadRefuse s x.1 x.2.1 x.2.2
        | .ok u => if r.next + 1 = h.frames then streamEnd (loadStep (setLoad u (some q)) 3) h hs
          else frameNext (setLoad u (some q)) r := by
  have hst' : ¬ s.get F.CFG_STATUS_load_state ≠ 2 := not_not.mpr hst
  have hlast' : (decide (r.next % 64 = 0) || decide (r.next + 1 = h.frames)) = true := by simpa using hlast
  have hp : r.next + 1 - (r.seg.length + 1) = pos := by omega
  subst hq hhs
  rw [flashFrameRead, hr]
  dsimp only
  split
  · next hn => cases hh.symm.trans hn
  next x hx =>
  obtain rfl : h = x := Option.some.inj (hh.symm.trans hx)
  rw [if_neg hst', hlast', hp]
  cases f.crcOk (streamKey s h) h.nonce r.next
  · rfl
  · cases segTagOk (streamKey s h) h.nonce pos (r.seg ++ [f])
    · rfl
    · cases segmentWrite h.frames pos r.kind (r.seg ++ [f]) s <;> rfl

end

/-! ### A failed attempt (R350) -/

section
variable {s : State} {r : LoadRun} (a c k f : Nat)

/-- A failure on slot 0 begins the attempt on slot 1. -/
theorem loadFail_first (hr : s.cfg.load = some r) (h0 : s.get F.CFG_STATUS_alt_tried = 0) :
    ∃ u : State, loadFail s a c k f = attemptStart (loadStep (u.set F.CFG_STATUS_alt_tried 1) 0)
      (some ⟨none, r.tested, 0, 1, 0, [], r.start, false, 0, []⟩) := by
  unfold loadFail
  extract_lets k0 s1 start tested s2 s3
  have hstart : start = r.start := by simp [start, s1, hr]
  have htested : tested = r.tested := by simp [tested, s1, hr]
  rw [if_pos h0, hstart, htested]
  exact ⟨_, rfl⟩

/-- What the attempt on slot 1 starts with. -/
theorem attemptStart_second {u t : State} {q : LoadRun} (hq : q.alt = false)
    (ht : t = attemptStart (loadStep (u.set F.CFG_STATUS_alt_tried 1) 0) (some q)) :
    t.get F.CFG_STATUS_alt_tried = 1 ∧ t.get F.CFG_STATUS_load_state = 0 ∧ t.cfg.load = some q ∧
      t.cfg.flashOut = [⟨3, 0, 0x66, none, 0, [], 0⟩, ⟨3, 0, 0x99, none, 0, [], 0⟩, ⟨2, 0, 0x13, some 0, 0, [], 4096⟩] := by
  have halt : (loadStep (u.set F.CFG_STATUS_alt_tried 1) 0).get F.CFG_STATUS_alt_tried = 1 :=
    (State.get_set_ne _ _ _ _ (by decide)).trans (State.get_set_same _ _ _)
  have hbase : slotBase (setLoad (loadStep (u.set F.CFG_STATUS_alt_tried 1) 0) (some q)) q = (2, 0) := by
    have hflag : (setLoad (loadStep (u.set F.CFG_STATUS_alt_tried 1) 0) (some q)).flag F.CFG_STATUS_alt_tried = true := by
      rw [State.flag]
      exact congrArg (· != 0) halt
    simp [slotBase, hflag, hq]
  subst ht
  have hstate : (loadStep (u.set F.CFG_STATUS_alt_tried 1) 0).get F.CFG_STATUS_load_state = 0 := State.get_set_same _ _ _
  refine ⟨halt, hstate, rfl, ?_⟩
  simp [attemptStart, flashSend, setCfg, readSlow, hbase]

/-- CFG_STATUS.load_state and CFG_FAIL1.code lie apart from what an entry to SAFE writes. -/
theorem Fld.safeFree_of_addr {f : Fld} (ha : f.addr = 0x600000 ∨ f.addr = 0x600008) (hlo : f.lo = 0) : f.SafeFree := by
  have hkey : f.key = 0x600000 * 32 ∨ f.key = 0x600008 * 32 := by
    simp only [Fld.key]
    omega
  refine ⟨Fld.quiet_of_key (by omega) (by omega) (by omega), fun g hg => ?_, fun i => ?_, fun i => ?_, fun i => ?_,
    fun i => ?_, fun i g hg => ?_, fun i g hg => ?_⟩
  · simp only [List.mem_cons, List.not_mem_nil, or_false] at hg
    rcases hg with rfl | rfl | rfl | rfl | rfl | rfl <;> rcases hkey with h | h <;> rw [h] <;> decide
  · simp only [Fld.key, F.CLK_GATE_EN_open] at hkey ⊢
    omega
  · simp only [Fld.key, F.BIN_SEQ_STATUS_state] at hkey ⊢
    omega
  · simp only [Fld.key, F.LFT_GRP_STATUS_gated] at hkey ⊢
    omega
  · simp only [Fld.key, F.LN_GRP_STATUS_up] at hkey ⊢
    omega
  · simp only [List.mem_cons, List.not_mem_nil, or_false] at hg
    rcases hg with rfl | rfl | rfl | rfl <;> simp only [Fld.key, F.LN_STATUS_state, F.LN_STATUS_link_up,
      F.LN_LINKDOWN_CNT_count, F.LN_LINKDOWN_CNT_last_cause] at hkey ⊢ <;> omega
  · simp only [List.mem_cons, List.not_mem_nil, or_false] at hg
    rcases hg with rfl | rfl | rfl | rfl <;> simp only [Fld.key, F.LFT_DMA_STATUS_busy, F.LFT_DMA_STATUS_halted,
      F.LFT_DMA_STATUS_cause, F.LFT_DMA_FAIL_ADDR_addr] at hkey ⊢ <;> omega

/-- A failure on slot 1 ends the load in SAFE. -/
theorem loadFail_second (h1 : s.get F.CFG_STATUS_alt_tried = 1) {t : State} (ht : t = loadFail s a c k f) :
    t.mode = Mode.safe ∧ t.get F.CFG_STATUS_load_state = 7 ∧ t.cfg.load = none ∧ t.pins.errorN = false ∧
      t.get (F.CFG_FAIL_code 1) = c % 256 := by
  unfold loadFail at ht
  extract_lets k0 s1 _ _ _ _ at ht
  have hk : k0 = 1 := h1
  rw [if_neg (by rw [hk]; decide)] at ht
  have hview : t.safeView = _ := ht ▸ toSafe_safeView _ _
  have hget : ∀ f : Fld, f.SafeFree → t.get f = (loadStep s1 7).get f := fun f hf => ht ▸ toSafe_get hf _ _
  have hcode : s1.get (F.CFG_FAIL_code 1) = c % 256 := by
    simp only [s1, hk, State.setAll_cons, State.setAll_nil]
    rw [State.get_set_ne _ _ _ _ (by decide), State.get_set_ne _ _ _ _ (by decide),
      State.get_set_ne _ _ _ _ (by decide), State.get_set_same]
    rfl
  refine ⟨congrArg SafeView.mode hview, ?_, congrArg SafeView.load hview, ?_, ?_⟩
  · exact (hget _ (Fld.safeFree_of_addr (.inl rfl) rfl)).trans (State.get_set_same _ _ _)
  · exact (congrArg SafeView.errorN hview).trans (Bool.and_false _)
  · exact (hget _ (Fld.safeFree_of_addr (.inr rfl) rfl)).trans ((State.get_set_ne _ _ _ _ (by decide)).trans hcode)

end

/-- Settles O41: each clause is the rule of its command above. -/
theorem loadBegins : Obligations.LoadBegins := by
  unfold Obligations.LoadBegins
  intro s
  refine ⟨fun t u ht hdue hpor hpin hu => ?_, fun r hr => ⟨fun h q hh hn hm => ⟨fun hmagic halt htried hq => ?_, fun hmagic => ?_⟩,
    fun h k => ⟨headerBad_form k, headerBad_part k, headerBad_signer k⟩, fun h u => exec_bootSlowTimeout_slow hr,
    exec_bootSlowTimeout_not hr, fun h f retry next key hf hh hst hkey _ hretry => ?_, fun f hf hn => ?_,
    fun a c k f h0 => ?_, fun a c k f h1 => loadFail_second a c k f h1 rfl⟩⟩
  · obtain ⟨hdone, hpass⟩ := hu ▸ selfTest_outcome { s with modes := { s.modes with testDue := false } } t
    have hexec := exec_selfTestComplete ht hdue hpor hpin hu
    refine ⟨hdone, hpass, fun hl => ?_, fun q hl hm => ?_, fun hl hm => ?_⟩
    · rw [hexec, hl]
    · rw [hexec, hl]
      exact congrArg (fun v => Host.Outcome.next (settle v)) (if_neg (not_not.mpr hm))
    · obtain ⟨q, hq⟩ := Option.ne_none_iff_exists'.mp hl
      rw [hexec, hq]
      exact congrArg (fun v => Host.Outcome.next (settle v)) (if_pos hm)
  · exact exec_headerRead hh (headerRead_alt hr hn hm hmagic halt htried hq)
  · refine (exec_headerRead hh (headerRead_taken hr hn hm hmagic)).trans ?_
    cases headerBad s h 1 <;> rfl
  · subst hkey hretry
    refine ⟨fun hin hend => ?_, fun pos hs q hlast hpos hhs hq => ?_⟩
    · exact exec_flashFrameRead hf (flashFrameRead_inside hr hh hst hin hend)
    · refine (exec_flashFrameRead hf (flashFrameRead_last hr hh hst hlast hpos hhs hq)).trans ?_
      cases segmentWrite h.frames pos r.kind (r.seg ++ [f]) s <;> rfl
  · exact exec_flashFrameRead hf (flashFrameRead_early hr hn)
  · obtain ⟨u, hu⟩ := loadFail_first a c k f hr h0
    exact attemptStart_second rfl hu

end Sys2Proof.Machine
end

section
/-! The fabric family (O11): sums of products in the complex MAC unit. -/

namespace Sys2Proof.Machine

/-! ### What one tick of a MAC unit adds (R104, R106) -/

/-- An operand's components lie within ±2^15. -/
theorem Cplx.abs_le_of_ok {a : Cplx} (h : a.ok = true) : |a.re| ≤ 2 ^ 15 ∧ |a.im| ≤ 2 ^ 15 := by
  simp only [Cplx.ok, Bool.and_eq_true, decide_eq_true_eq] at h
  rw [abs_le, abs_le]
  omega

theorem abs_mul_le_pow {x y : Int} (hx : |x| ≤ 2 ^ 15) (hy : |y| ≤ 2 ^ 15) : |x * y| ≤ 2 ^ 30 :=
  calc |x * y| = |x| * |y| := abs_mul x y
    _ ≤ 2 ^ 15 * 2 ^ 15 := mul_le_mul hx hy (abs_nonneg y) (by decide)
    _ = 2 ^ 30 := by decide

/-- A component of a product is a sum or a difference of two products of samples. -/
theorem abs_macProd_le {a b : Cplx} (conj : Bool) (ha : a.ok = true) (hb : b.ok = true) :
    |(macProd conj a b).re| ≤ 2 ^ 31 ∧ |(macProd conj a b).im| ≤ 2 ^ 31 := by
  obtain ⟨hare, haim⟩ := Cplx.abs_le_of_ok ha
  obtain ⟨hbre, hbim⟩ := Cplx.abs_le_of_ok hb
  have hbi : |if conj then -b.im else b.im| ≤ 2 ^ 15 := by
    cases conj
    · exact hbim
    · exact (abs_neg b.im).trans_le hbim
  exact ⟨(abs_sub _ _).trans (add_le_add (abs_mul_le_pow hare hbre) (abs_mul_le_pow haim hbi)),
    (abs_add_le _ _).trans (add_le_add (abs_mul_le_pow hare hbi) (abs_mul_le_pow haim hbre))⟩

theorem mac48_of_abs_lt {x : Int} (h : |x| < 2 ^ 47) : mac48 x = true := by
  rw [abs_lt] at h
  simp only [mac48, Bool.and_eq_true, decide_eq_true_eq]
  omega

/-- A sum within the 48 bits of a component is neither clamped nor wrapped. -/
theorem macFit_of_mac48 (sat : Bool) {x : Int} (h : mac48 x = true) : macFit sat x = x := by
  simp only [mac48, Bool.and_eq_true, decide_eq_true_eq] at h
  cases sat
  · simp only [macFit, toInt, ofInt]
    split <;> omega
  · simp only [macFit, if_true]
    omega

/-- In mode MAC a product whose sums stay within 48 bits is added exactly, and the flag stays. -/
theorem macStep_mac {u : MacAcc} {p : Cplx} (sat : Bool) (hre : |u.acc.re + p.re| < 2 ^ 47)
    (him : |u.acc.im + p.im| < 2 ^ 47) : macStep .mac sat false p u = ⟨u.acc.add p, u.ovf⟩ := by
  have hre' := mac48_of_abs_lt hre
  have him' := mac48_of_abs_lt him
  simp [macStep, Cplx.add, hre', him', macFit_of_mac48]

/-! ### A run of products (R106) -/

/-- The accumulator holds its first value and the sum of all products, while it has room for 2^31 a product. -/
theorem macRun_eq_sum (sat conj : Bool) {l : List (Cplx × Cplx)} {u : MacAcc}
    (hok : ∀ x ∈ l, x.1.ok = true ∧ x.2.ok = true) (hre : |u.acc.re| + l.length * 2 ^ 31 < 2 ^ 47)
    (him : |u.acc.im| + l.length * 2 ^ 31 < 2 ^ 47) :
    macRun sat conj l u = ⟨⟨u.acc.re + (l.map (fun x => (macProd conj x.1 x.2).re)).sum,
      u.acc.im + (l.map (fun x => (macProd conj x.1 x.2).im)).sum⟩, u.ovf⟩ := by
  induction l generalizing u with
  | nil => simp [macRun]
  | cons x t ih =>
    obtain ⟨⟨hx1, hx2⟩, ht⟩ := List.forall_mem_cons.mp hok
    obtain ⟨hpre, hpim⟩ := abs_macProd_le conj hx1 hx2
    have hsre := abs_add_le u.acc.re (macProd conj x.1 x.2).re
    have hsim := abs_add_le u.acc.im (macProd conj x.1 x.2).im
    rw [List.length_cons] at hre him
    push_cast at hre him
    rw [macRun, macStep_mac sat (by omega) (by omega), ih ht (by dsimp only [Cplx.add]; omega)
      (by dsimp only [Cplx.add]; omega)]
    simp only [Cplx.add, List.map_cons, List.sum_cons, add_assoc]

/-- Settles O11: 65,535 products of at most 2^31 stay below 2^47. -/
theorem macAccumulates : Obligations.MacAccumulates := by
  unfold Obligations.MacAccumulates
  intro sat conj l hlen hok
  have hroom : |(0 : Int)| + l.length * 2 ^ 31 < 2 ^ 47 := by
    rw [abs_zero]
    omega
  simpa using macRun_eq_sum sat conj (u := ⟨⟨0, 0⟩, false⟩) hok hroom hroom

end Sys2Proof.Machine
end

section
/-! The fabric family (O44): a mismatch of the scrubbers' signatures after the failure has been declared. -/

namespace Sys2Proof.Machine

/-! ### A mismatch (R363) -/

theorem setLap_get (s : State) (e : Nat) (x : Lap) (f : Fld) : (setLap s e x).get f = s.get f := rfl

/-- A restart writes the engine's position alone. -/
theorem scrubRestart_get {s : State} {e : Nat} {f : Fld} (h : f.key ≠ (F.CFG_SCRUB_POS_word e).key) :
    (scrubRestart s e).get f = s.get f := by
  rw [scrubRestart, setLap_get, State.get_set_ne _ _ _ _ h]

/-- A mismatch is counted as the `n`-th, is reported, and both engines start over. -/
def scrubMismatched (s : State) (n : Nat) : State :=
  scrubRestart (scrubRestart (raise (s.set F.CFG_SCRUB_STATE_mismatches n) 1023 0x31 4 (ofBool (n = 3))) 0) 1

/-- The mismatch itself leaves CFG_SCRUB_STATE.failed. -/
theorem scrubMismatched_failed (s : State) (n : Nat) :
    (scrubMismatched s n).get F.CFG_SCRUB_STATE_failed = s.get F.CFG_SCRUB_STATE_failed := by
  rw [scrubMismatched, scrubRestart_get (by decide), scrubRestart_get (by decide), raise_get _ _ _ _ _ _ (by decide),
    State.get_set_ne _ _ _ _ (by decide)]

/-- Once the failure has been declared, a mismatch does no more. -/
theorem lapCompare_afterFail {s : State} (h0 : (lapOf s 0).ready = true) (h1 : (lapOf s 1).ready = true)
    (hne : s.get (F.CFG_SCRUB_SIG_sig 0) ≠ s.get (F.CFG_SCRUB_SIG_sig 1)) (hf : s.flag F.CFG_SCRUB_STATE_failed = true) :
    lapCompare s = scrubMismatched s (min 3 (s.get F.CFG_SCRUB_STATE_mismatches + 1)) := by
  have hflag : ∀ n, (scrubMismatched s n).flag F.CFG_SCRUB_STATE_failed = true := fun n =>
    (State.flag_of_get (scrubMismatched_failed s n)).trans hf
  unfold lapCompare
  rw [h0, h1, if_neg (by decide), if_neg hne]
  refine if_neg ?_
  rw [Bool.and_eq_true, Bool.not_eq_true', not_and, Bool.not_eq_false]
  exact fun _ => hflag _

/-- Both scrubbers have ended a lap that nothing touched, their signatures differ, and two mismatches stand.
CFG_SCRUB_STATE.failed holds 2, more than its 1 bit. -/
def failedBeyondWidth : State :=
  { State.reset with
    flds := [((F.CFG_SCRUB_SIG_sig 0).key, 1), (F.CFG_SCRUB_STATE_mismatches.key, 2), (F.CFG_SCRUB_STATE_failed.key, 2)]
    cfg := { State.reset.cfg with laps := [(0, ⟨0, false, true, 64⟩), (1, ⟨0, false, true, 64⟩)] } }

/-- The failure counts as declared, so the third mismatch leaves the field at 2. -/
theorem failedBeyondWidth_compared : (lapCompare failedBeyondWidth).get F.CFG_SCRUB_STATE_failed = 2 := by
  rw [lapCompare_afterFail rfl rfl (by decide) (by decide), scrubMismatched_failed]
  rfl

/-- Refutes O44: the third mismatch of the signatures is said to leave CFG_SCRUB_STATE.failed at 1. In
`failedBeyondWidth` the field already holds 2, which the comparison takes for a declared failure and leaves. The
statement ranges over every state and has no hypothesis that the registers fit their widths. -/
theorem not_configScrub : ¬ Obligations.ConfigScrub := by
  unfold Obligations.ConfigScrub
  intro h
  obtain ⟨_, _, _, _, _, _, _, _, _, hcompare, _⟩ := h failedBeyondWidth 0 (by decide)
  obtain ⟨_, hdiffer⟩ := hcompare rfl rfl
  obtain ⟨_, hthird⟩ := hdiffer (by decide)
  have hfailed := hthird (by decide)
  rw [failedBeyondWidth_compared] at hfailed
  exact absurd hfailed (by decide)

end Sys2Proof.Machine
end

section
/-! The contexts family (O12): masked writes and reads of tray lines. -/

namespace Sys2Proof.Machine

/-! ### Numbers of several bytes in a memory -/

/-- A store of several bytes is read back, cut to their number. -/
theorem Memory.readN_writeN_same {m : Memory} (a v n : Nat) (h : m.wf) : (m.writeN a v n).readN a n = v % 256 ^ n := by
  induction n generalizing m a v with
  | zero => rw [Memory.readN, pow_zero, Nat.mod_one]
  | succ n ih =>
    have hfirst : (m.writeN a v (n + 1)).read a = BitVec.ofNat 8 v :=
      (Memory.read_writeN_ne _ _ _ _ _ (.inl (Nat.lt_succ_self a))).trans (Memory.read_write_same m a _ 0 h)
    rw [Memory.readN, hfirst, Memory.writeN, ih (a + 1) (v / 256) (Memory.wf_write m a _ h), pow_succ', Nat.mod_mul]
    rfl

theorem Memory.readN_congr {m m' : Memory} {a n : Nat} (h : ∀ x, a ≤ x → x < a + n → m.read x = m'.read x) :
    m.readN a n = m'.readN a n := by
  induction n generalizing a with
  | zero => rfl
  | succ n ih =>
    rw [Memory.readN, Memory.readN, h a le_rfl (by omega), ih fun x hlo hhi => h x (by omega) (by omega)]

/-- A store leaves what is read beside it. -/
theorem Memory.readN_writeN_ne (m : Memory) {a b k n : Nat} (v : Nat) (h : a + n ≤ b ∨ b + k ≤ a) :
    (m.writeN b v k).readN a n = m.readN a n :=
  Memory.readN_congr fun x hlo hhi => Memory.read_writeN_ne m b v k x (by omega)

/-! ### The lines of the trays (R142) -/

/-- Words of 64 bits side by side fill no more than their places. -/
theorem wordSum_lt {f : Nat → Nat} (hf : ∀ i, f i < 2 ^ 64) (n : Nat) :
    ((List.range n).map (fun i => f i * 2 ^ (64 * i))).sum < 2 ^ (64 * n) := by
  induction n with
  | zero => exact Nat.zero_lt_one
  | succ n ih =>
    have htop : (f n + 1) * 2 ^ (64 * n) ≤ 2 ^ 64 * 2 ^ (64 * n) := Nat.mul_le_mul_right _ (hf n)
    have hpow : 2 ^ (64 * (n + 1)) = 2 ^ 64 * 2 ^ (64 * n) := by rw [← pow_add, Nat.mul_succ, Nat.add_comm]
    rw [List.range_succ, List.map_append, List.sum_append, List.map_singleton, List.sum_singleton, hpow]
    rw [Nat.add_mul] at htop
    omega

/-- A merged line has 512 bits. -/
theorem mergeWords_lt (old new mask : Nat) : mergeWords old new mask < 2 ^ (64 * 8) := by
  have hword : ∀ i, (if mask.testBit i then bits new (64 * i) 64 else bits old (64 * i) 64) < 2 ^ 64 := fun i => by
    split <;> exact Nat.mod_lt _ (by decide)
  rw [mergeWords, ← List.sum_eq_foldl]
  exact wordSum_lt hword 8

section
variable {s : State} {p k line : Nat}

/-- A stored line is valid, and a line beside it is as valid as before. -/
theorem lineValid_storeLine (v p' k' line' : Nat) : lineValid (storeLine s p k line v) p' k' line'
    = (decide (trayKey p' k' * 1024 + line' = trayKey p k * 1024 + line) || lineValid s p' k' line') := by
  rw [lineValid, lineValid, Bool.eq_iff_iff]
  simp only [storeLine, List.contains_iff_mem, mem_nins, Bool.or_eq_true, decide_eq_true_eq]

@[simp] theorem storeLine_trays (v : Nat) :
    (storeLine s p k line v).trays = s.trays.writeN (trayKey p k * 65536 + line * 64) v 64 := by
  simp only [storeLine]

theorem lineValid_storeLine_same (v : Nat) : lineValid (storeLine s p k line v) p k line = true := by
  simp [lineValid_storeLine]

theorem readLine_storeLine_same {v : Nat} (hwf : s.trays.wf = true) (hv : v < 2 ^ (64 * 8)) :
    readLine (storeLine s p k line v) p k line = v := by
  have hbits : 256 ^ 64 = 2 ^ (64 * 8) := by
    rw [Nat.mul_comm, pow_mul]
    rfl
  rw [readLine, lineValid_storeLine_same, if_pos rfl, storeLine_trays, Memory.readN_writeN_same _ _ _ hwf, hbits,
    Nat.mod_eq_of_lt hv]

/-- Every other line of every tray reads as before. -/
theorem readLine_storeLine_ne (v : Nat) {p' k' line' : Nat} (hk : k < 2) (hk' : k' < 2) (hl : line < 1024)
    (hl' : line' < 1024) (hne : (p', k', line') ≠ (p, k, line)) :
    readLine (storeLine s p k line v) p' k' line' = readLine s p' k' line' := by
  have hplace : trayKey p' k' * 1024 + line' ≠ trayKey p k * 1024 + line := by
    intro he
    simp only [trayKey] at he
    exact hne (by simp only [Prod.mk.injEq]; omega)
  have hmem : (storeLine s p k line v).trays.readN (trayKey p' k' * 65536 + line' * 64) 64
      = s.trays.readN (trayKey p' k' * 65536 + line' * 64) 64 := by
    rw [storeLine_trays, Memory.readN_writeN_ne _ _ (by omega)]
  rw [readLine, readLine, lineValid_storeLine, decide_eq_false hplace, Bool.false_or, hmem]

/-- The lines lie in the trays alone. -/
theorem readLine_congr {t : State} (ht : t.trays = s.trays) (hv : t.trayValid = s.trayValid) (p k line : Nat) :
    readLine t p k line = readLine s p k line := by
  rw [readLine, readLine, lineValid, lineValid, ht, hv]

end

/-! ### Words of the bin port that act at once (R134, R139, R144) -/

/-- The state without the bins' records, the trays and the frame position. -/
def State.besideTrays (s : State) : State := { s with fp := 0, bins := [], trays := [], trayValid := [] }

/-- A state that differs from `s` in the bins' records and the trays alone keeps, once settled, each of these that did
not change and every other part. -/
theorem Frame.of_besideTrays {s u : State} {ps : List Part} (h : u.besideTrays = s.besideTrays)
    (hfp : u.fp % fpSpan = s.fp % fpSpan) (hbins : Part.bins ∉ ps → u.bins = s.bins)
    (htrays : Part.trays ∉ ps → u.trays = s.trays) (hvalid : Part.trayValid ∉ ps → u.trayValid = s.trayValid) :
    Frame s (settle u) ps [] := by
  simp only [State.besideTrays, State.mk.injEq] at h
  refine ⟨by simp [h], fun p hp => ?_, fun f hf => ?_⟩
  · cases p
    case bins => simp [Part.same, hbins hp]
    case trays => simp [Part.same, htrays hp]
    case trayValid => simp [Part.same, hvalid hp]
    case fp => simpa [Part.same, settle] using hfp
    case pins => simp [Part.same, settle, h]
    all_goals simp [Part.same, h]
  · simp only [followers, List.append_nil, List.map_cons, List.map_nil, List.mem_cons, List.not_mem_nil, or_false,
      not_or] at hf
    obtain ⟨halert, harmed⟩ := hf
    rw [settle_get _ _ halert harmed]
    exact State.get_of_flds _ _ (by simp [h]) f

section
variable {s : State} {p : Nat}

/-- A word acts in the present tick in a static bin and from item tick 4 of a scheduled one. -/
theorem atWord_now (h : binKind s p = Kind.static ∨ (s.bin p).start + 3 ≤ s.now) : (atWord s p).now = s.now := by
  unfold atWord
  split
  · rfl
  · next hk =>
    rw [State.atNow_now, Nat.max_eq_left (h.resolve_left hk)]

@[simp] theorem atWord_trays : (atWord s p).trays = s.trays := by
  unfold atWord
  split <;> rfl
@[simp] theorem atWord_trayValid : (atWord s p).trayValid = s.trayValid := by
  unfold atWord
  split <;> rfl

theorem portUse_atWord (h : binKind s p = Kind.static ∨ (s.bin p).start + 3 ≤ s.now) :
    portUse (atWord s p) p = portUse s p := by
  rw [portUse, portUse, atWord_bin, atWord_now h]

/-- What a word has carried counts in the present tick. -/
theorem portUse_at (s : State) (p : Nat) : (portUse s p).at' = s.now := by
  unfold portUse
  split
  · split
    · assumption
    · rfl
  · rfl

variable {mark : PortUse → PortUse}

/-- A word that acts at once changes the bin's record alone. -/
theorem wordMarked_besideTrays (h : binKind s p = Kind.static ∨ (s.bin p).start + 3 ≤ s.now) :
    (wordMarked s p mark).besideTrays = s.besideTrays ∧ (wordMarked s p mark).fp % fpSpan = s.fp % fpSpan := by
  have hnow := atWord_now h
  have hfp : (atWord s p).fp % fpSpan = s.fp % fpSpan := by
    unfold atWord
    split
    · rfl
    · next hk =>
      have hpast : (s.bin p).start + 3 - s.now = 0 := Nat.sub_eq_zero_of_le (h.resolve_left hk)
      simp [hpast, fpAdd]
  refine ⟨?_, hfp⟩
  have hat : (atWord s p).besideTrays = { s.besideTrays with now := (atWord s p).now } := by
    unfold atWord
    split <;> rfl
  exact hat.trans (by rw [hnow]; rfl)

theorem portUse_wordMarked (hmark : ∀ u, (mark u).at' = u.at') :
    portUse (wordMarked s p mark) p = mark (portUse (atWord s p) p) := by
  have hat : (mark (portUse (atWord s p) p)).at' = (wordMarked s p mark).now := (hmark _).trans (portUse_at _ _)
  rw [portUse, wordMarked_bin]
  exact if_pos hat

theorem wordSlot_wordMarked (slot : Nat) : wordSlot (wordMarked s p mark) p slot = wordSlot s p slot := by
  rw [wordSlot, wordSlot, wordMarked_binKind, wordMarked_get]

theorem readLine_wordMarked (p' k line : Nat) : readLine (wordMarked s p mark) p' k line = readLine s p' k line :=
  readLine_congr atWord_trays atWord_trayValid p' k line

theorem wordSlot_lt {slot : Nat} (hs : slot < 2) (ha : s.get (F.BIN_SEQ_STATUS_active_slot p) < 2) :
    wordSlot s p slot < 2 := by
  unfold wordSlot
  split
  · exact hs
  · exact ha

/-! ### Writes and reads (R144, R145) -/

/-- The bin side has stored `v` in a line, whose contents before are kept for a read of the same tick. -/
def lineWritten (s : State) (p k line v : Nat) : State :=
  setBin (storeLine s p k line v) p { (storeLine s p k line v).bin p with
    binWrote := some ⟨s.now, k, line, readLine s p k line, lineValid s p k line⟩, dmaWrote := none }

@[simp] theorem lineWritten_trays (k line v : Nat) : (lineWritten s p k line v).trays = (storeLine s p k line v).trays := by
  simp only [lineWritten, setBin]
@[simp] theorem lineWritten_trayValid (k line v : Nat) :
    (lineWritten s p k line v).trayValid = (storeLine s p k line v).trayValid := by
  simp only [lineWritten, setBin]

theorem readLine_settle_lineWritten (k line v p' k' line' : Nat) :
    readLine (settle (lineWritten s p k line v)) p' k' line' = readLine (storeLine s p k line v) p' k' line' :=
  readLine_congr ((settle_trays _).trans (lineWritten_trays _ _ _))
    ((settle_trayValid _).trans (lineWritten_trayValid _ _ _)) p' k' line'

theorem lineWritten_beside (k line v : Nat) : (lineWritten s p k line v).besideTrays = s.besideTrays
    ∧ (lineWritten s p k line v).fp = s.fp := by
  simp only [lineWritten, setBin, storeLine, State.besideTrays, and_self]

/-- Without a write of the other side in the bin's record, the chosen words of the line are stored. -/
theorem exec_trayWrite_stored {slot line mask data k : Nat} {x : State} (hp : p < 264) (hs : slot < 2)
    (hl : line < 1024) (hm : mask < 256) (hd : data < 2 ^ 512) (hok : wordOk s p = true)
    (hdma : (s.bin p).dmaWrote = none) (hw : (portUse (atWord s p) p).wr = false)
    (hspawn : (portUse (atWord s p) p).spawn = false) (hevent : (portUse (atWord s p) p).event = false)
    (hx : x = wordMarked s p (fun u => { u with wr := true })) (hk : k = wordSlot s p slot) :
    exec (.trayWrite p slot line mask data) s
      = .next (settle (lineWritten x p k line (mergeWords (readLine x p k line) data mask))) := by
  have huse : portUse x p = { portUse (atWord s p) p with wr := true } := hx ▸ portUse_wordMarked fun _ => rfl
  have hnone : (x.bin p).dmaWrote = none := by rw [hx, wordMarked_bin, hdma]
  have hslot : wordSlot x p slot = k := by rw [hx, wordSlot_wordMarked, hk]
  refine exec_next rfl (by simp only [Instr.wf, hp, hs, hl, hm, hd, decide_true, Bool.and_self]) ?_
  rw [onWord_first hok hw, ← hx]
  simp only [huse, hspawn, hevent, hnone, hslot, Bool.or_self, Bool.false_eq_true, if_false, Option.isSome_none, lineWritten]

/-- A read presents the line, as it was before the bin's own write of the tick, 2 tk later. -/
def linePresented (s : State) (p v : Nat) : State :=
  setBin s p { s.bin p with line := v, lines := (s.now + 2, v) :: (s.bin p).lines.take 2 }

theorem lineBefore_wordMarked (h : (atWord s p).now = s.now) (k line : Nat) :
    lineBefore (wordMarked s p mark) p k line = lineBefore s p k line := by
  simp only [lineBefore, wordMarked_bin, wordMarked_now, readLine_wordMarked, h]

theorem exec_trayRead_shown {slot line : Nat} {x : State} (hp : p < 264) (hs : slot < 2) (hl : line < 1024)
    (hok : wordOk s p = true) (hnow : (atWord s p).now = s.now) (hr : (portUse (atWord s p) p).rd = false)
    (hx : x = wordMarked s p (fun u => { u with rd := true })) :
    exec (.trayRead p slot line) s = .next (settle (linePresented x p (lineBefore s p (wordSlot s p slot) line))) := by
  refine exec_next rfl (by simp [Instr.wf, hp, hs, hl]) ?_
  rw [onWord_first hok hr, hx, wordSlot_wordMarked, lineBefore_wordMarked hnow]
  rfl

/-- Settling and the passing of ticks leave what the port shows of the past. -/
theorem lineShown_linePresented (v : Nat) : lineShown ((settle (linePresented s p v)).later 2) p = v := by
  have hbin : ((settle (linePresented s p v)).later 2).bin p = (linePresented s p v).bin p :=
    State.bin_of_bins _ _ ((State.later_bins _ _).trans (settle_bins _)) p
  rw [lineShown, hbin, State.later_now, settle_now, linePresented, State.bin_setBin_same, setBin_now]
  simp

end

/-- Settles O12: the line's place lies apart from every other's, and the word changes the bin's record and the trays
alone. -/
theorem trayWriteRead : Obligations.TrayWriteRead := by
  unfold Obligations.TrayWriteRead
  intro s p slot line hp hs hl hwf hactive hok hdue
  have hnow : (atWord s p).now = s.now := atWord_now hdue
  have hk : wordSlot s p slot < 2 := wordSlot_lt hs hactive
  rw [← portUse_atWord hdue]
  refine ⟨fun mask data hm hd hdma hw hspawn hevent => ?_, fun hr => ?_⟩
  · obtain ⟨hbeside, hfp⟩ := wordMarked_besideTrays (mark := fun u => { u with wr := true }) hdue
    refine ⟨_, exec_trayWrite_stored hp hs hl hm hd hok hdma hw hspawn hevent rfl rfl, ?_⟩
    generalize hx : wordMarked s p (fun u => { u with wr := true }) = x at hbeside hfp
    have hline : ∀ p' k' line', readLine x p' k' line' = readLine s p' k' line' := hx ▸ readLine_wordMarked
    have hwf' : x.trays.wf = true := by rw [← hx]; exact (congrArg Memory.wf atWord_trays).trans hwf
    rw [hline]
    refine ⟨?_, ?_, fun p' k' line' hk' hl' hne => ?_, ?_, ?_⟩
    · rw [readLine_settle_lineWritten, readLine_storeLine_same hwf' (mergeWords_lt _ _ _)]
    · rw [lineValid, settle_trayValid, lineWritten_trayValid]
      exact lineValid_storeLine_same _
    · rw [readLine_settle_lineWritten, readLine_storeLine_ne _ hk hk' hl hl' hne, hline]
    · rw [settle_trays, lineWritten_trays, storeLine_trays]
      exact Memory.wf_writeN _ _ _ _ hwf'
    · obtain ⟨hrest, hpos⟩ := lineWritten_beside (s := x) (p := p) (wordSlot s p slot) line
        (mergeWords (readLine s p (wordSlot s p slot) line) data mask)
      exact Frame.of_besideTrays (hrest.trans hbeside) (by rw [hpos, hfp]) (fun h => absurd (by simp) h)
        (fun h => absurd (by simp) h) fun h => absurd (by simp) h
  · obtain ⟨hbeside, hfp⟩ := wordMarked_besideTrays (mark := fun u => { u with rd := true }) hdue
    refine ⟨_, exec_trayRead_shown hp hs hl hok hnow hr rfl, ?_, lineShown_linePresented _, ?_⟩
    · rw [State.bin_of_bins _ _ (settle_bins _), linePresented, State.bin_setBin_same]
    · exact Frame.of_besideTrays hbeside hfp (fun h => absurd (by simp) h) (fun _ => atWord_trays)
        fun _ => atWord_trayValid

end Sys2Proof.Machine
end

section
/-! The contexts family (O13): the end by DONE of an item whose class lies beyond the 64. -/

namespace Sys2Proof.Machine

/-! ### DONE (R153, R184) -/

/-- DONE within the budget ends the item in its item tick when no hatch command is outstanding. -/
theorem exec_itemDone_clear {s : State} {p tick : Nat} {i : Item} (nj : Nat) (hp : p < 264) (hi : runItem s p = some i)
    (hkind : binKind s p ≠ Kind.static) (hst : s.seqSt p = Seq.select) (h4 : 4 ≤ tick) (htick : itemTick s p ≤ tick)
    (hbudget : tick ≤ (s.bin p).budget) (hout : hatchOut s p = 0) :
    exec (.itemDone p tick nj) s = .next (settle (endTick (s.atNow ((s.bin p).start + tick - 1)) p i nj)) := by
  have hgo : ¬ ((decide (s.seqSt p ≠ Seq.select) || decide ((s.bin p).budget < tick)) = true) := by
    simp [hst, Nat.not_lt.mpr hbudget]
  refine exec_next rfl (by simp [Instr.wf, hp, h4]) ?_
  rw [hi, if_neg hkind]
  dsimp only
  rw [Nat.max_eq_left htick, if_neg hgo]
  exact if_pos hout

/-- An item of class 30,688, more than the 6 bits of a class. -/
def itemBeyondClasses : Item :=
  { id := 9, cls := 30688, origin := 0, reissue := false, excess := false, release := 0, deadline := 100, seq := 0,
    inLen := 0, outLen := 0, inAddr := 0, outAddr := 0, arg := 0, entry := 64, st := .run, bin := 0, slot := 0,
    holdRes := 0, holdSh := 0, parent := none, stepLate := false }

/-- A state in which it has run in bin 0 since tick 0. -/
def runBeyondClasses : State :=
  { State.reset with
    flds := [((F.FAB_BIN_STATUS_kind 0).key, Kind.scheduled), ((F.BIN_SEQ_STATUS_state 0).key, Seq.select)]
    sch := { Sched.reset with items := [itemBeyondClasses] }
    bins := [(0, { State.reset.bin 0 with item := some 9, budget := 60 })] }

/-- The longest latency of that class would lie where bin 0 counts its DONEs. -/
theorem maxLat_beyondClasses : F.SCH_CLASS_MAX_LAT_ticks itemBeyondClasses.cls = F.BIN_DONE_CNT_count 0 := rfl

/-- A DONE in item tick 4, 3 tk after the release, leaves that latency at 3. -/
theorem runBeyondClasses_done : (endTick (runBeyondClasses.atNow 3) 0 itemBeyondClasses 0).get
    (F.SCH_CLASS_MAX_LAT_ticks itemBeyondClasses.cls) = 3 := by decide

/-- Refutes O13: a DONE is said to raise BIN_DONE_CNT by 1. In `runBeyondClasses` the item's class is 30,688, and the
register of its longest latency (`maxLat_beyondClasses`) is the count itself, which goes from 0 to the latency 3. The
statement ranges over every item and has no hypothesis that its class is below 64. -/
theorem not_itemEnds : ¬ Obligations.ItemEnds := by
  unfold Obligations.ItemEnds
  intro h
  obtain ⟨_, hdone, _⟩ := h runBeyondClasses 0 itemBeyondClasses (by decide) (by decide) (by decide) (by decide)
    (by decide) (by decide)
  obtain ⟨t, ht, _, _, _, _, _, hcount, _⟩ := hdone 4 0 (by decide) (by decide) (by decide) (by decide) (by decide)
  have hexec : exec (.itemDone 0 4 0) runBeyondClasses
      = .next (settle (endTick (runBeyondClasses.atNow 3) 0 itemBeyondClasses 0)) :=
    exec_itemDone_clear 0 (by decide) (by decide) (by decide) (by decide) (by decide) (by decide) (by decide) (by decide)
  obtain rfl := Host.Outcome.next.inj (hexec.symm.trans ht)
  rw [settle_get _ _ (by decide) (by decide), ← maxLat_beyondClasses, runBeyondClasses_done] at hcount
  exact absurd hcount (by decide)

end Sys2Proof.Machine
end

section
/-! The contexts family (O14): context select and the ends of items and pauses. -/

namespace Sys2Proof.Machine

section
variable {s u v : State} {p k : Nat} {i : Item}

/-! ### Context select (R133, R143) -/

/-- Context select falls in the tick after the end of the item before at the earliest. -/
def selectAt (s : State) (p : Nat) : State :=
  match (s.bin p).ended with
  | some t => s.atNow (t + 1)
  | none => s

theorem selectAt_flds (s : State) (p : Nat) : (selectAt s p).flds = s.flds := by
  unfold selectAt
  split <;> rfl

/-- The item `i` runs from the present tick in bin `p`, whose slot `k` is ACTIVE: the budget loads and the bin takes the
initial values of the kernel of its class. -/
def itemEntered (s : State) (p k : Nat) (i : Item) : State :=
  askAgain (loadInitial (setSlot (setBin (setItem s { i with st := .run }) p
    { s.bin p with item := some i.id, start := s.now, startFp := s.fp, budget := classC s i.cls, buf := [] }) p k 3) p
    (s.get (F.SCH_CLASS_CFG_kernel i.cls))) p

/-- The registers of the bin show the item that has entered. -/
def itemShown (s : State) (p k : Nat) (i : Item) : List (Fld × Nat) :=
  [(F.BIN_SEQ_STATUS_state p, 1), (F.BIN_SEQ_STATUS_ctx p, s.get (F.SCH_CLASS_CFG_kernel i.cls)),
    (F.FAB_BIN_STATUS_ctx p, s.get (F.SCH_CLASS_CFG_kernel i.cls)), (F.BIN_SEQ_STATUS_active_slot p, k),
    (F.BIN_ITEM_CLASS_class p, i.cls), (F.BIN_ITEM_CLASS_spawns p, 0), (F.BIN_ITEM_SEQ_seq p, i.seq),
    (F.BIN_ITEM_START_LO_fp_lo p, fpPack s.fp), (F.BIN_ITEM_START_HI_fp_hi p, fpPack s.fp / 2 ^ 32)]

/-- With an item bound to its READY slot an idle bin drops it where its latest start has passed, and runs it otherwise. -/
theorem exec_contextSelect_bound (hp : p < 264) (hk : k = if slotSt s p 0 = 2 then 0 else 1) (hready : slotSt s p k = 2)
    (hkind : binKind s p = Kind.scheduled) (hidle : binIdle s p = true) (hrst : (s.bin p).rst = false)
    (hbound : boundItem s p k = some i) (hu : u = selectAt s p) :
    exec (.contextSelect p) s = .next (settle (
      if isDrop u i.cls && fpAfter u.fp (latestStart u i) then countLateDrop (dropItem u i) i
      else repairEnter ((itemEntered u p k i).setAll (itemShown u p k i)) p (u.get (F.SCH_CLASS_CFG_kernel i.cls)))) := by
  have hgo : ¬ ((decide (binKind s p ≠ Kind.scheduled) || !binIdle s p || decide (slotSt s p k ≠ 2)
      || (s.bin p).rst) = true) := by
    simp [hkind, hidle, hready, hrst]
  refine exec_next rfl (decide_eq_true hp) ?_
  rw [← hk]
  refine (if_neg hgo).trans ?_
  rw [hbound, hu]
  rfl

/-! ### Ends of items and pauses (R137, R177, R219) -/

theorem exec_itemEndingComplete_clear (nj : Nat) (hp : p < 264) (hi : runItem s p = some i)
    (hst : s.seqSt p = Seq.ending) (hout : hatchOut s p = 0) (htick : itemTick s p ≤ (s.bin p).budget) :
    exec (.itemEndingComplete p nj) s = .next (settle (endTick s p i nj)) := by
  refine exec_next rfl (decide_eq_true hp) ?_
  rw [hi]
  exact if_pos (by simp [hst, hout, htick])

theorem exec_deadlinePass_drop (hi : findItem s i.id = some i) (hd : isDrop s i.cls = true) (hst : i.st = .run) :
    exec (.deadlinePass i.id) s
      = .next (settle (countLateDrop (killItem (s.atFp (fpAdd i.deadline 1)) i.bin i 3) i)) := by
  refine exec_next rfl rfl ?_
  rw [hi]
  exact if_pos (by simp [hd, hst])

theorem exec_pauseTimerExpiry_ends {t : Nat} (hp : p < 264) (ht : (s.bin p).pause = some t) :
    exec (.pauseTimerExpiry p) s = .next (settle (setBin (s.atNow t) p { s.bin p with pause := none })) := by
  refine exec_next rfl (decide_eq_true hp) ?_
  rw [ht]
  rfl

end

/-- Settles O14: each clause is the rule of its command above; the clock's move to the tick after the item before leaves
the registers. -/
theorem itemEntry : Obligations.ItemEntry := by
  unfold Obligations.ItemEntry
  intro s p hp
  refine ⟨?_, fun i nj hi hst hout htick => exec_itemEndingComplete_clear nj hp hi hst hout htick,
    fun i hi hd hst => exec_deadlinePass_drop hi hd hst, fun t ht => exec_pauseTimerExpiry_ends hp ht⟩
  intro k i u v hk hready hkind hidle hrst hbound hu hv
  have hu' : u = selectAt s p := hu
  have hget : ∀ f, u.get f = s.get f := fun f => hu' ▸ State.get_of_flds _ _ (selectAt_flds s p) f
  have hentered : v = itemEntered u p k i := by
    rw [hv, itemEntered, classC, classC, hget, hget]
  have hexec := exec_contextSelect_bound hp hk hready hkind hidle hrst hbound hu'
  refine ⟨fun hlate => ?_, fun hlate => ?_⟩
  · rw [hexec, hlate, if_pos rfl]
  · rw [hexec, hlate, if_neg Bool.false_ne_true, itemShown, hget, hentered]

end Sys2Proof.Machine
end

section
/-! The scheduler family (O16): the order of a pool's items and the start of its decisions. -/

namespace Sys2Proof.Machine

/-! ### The first of some items (R170) -/

section
variable {s : State}

/-- A conforming deadline item comes before every other, and no other before it. -/
theorem before_of_conforming_ne {a b : Item} (h : conforming s a ≠ conforming s b) :
    before s a b = conforming s a := by
  simp only [before, bne_iff_ne, ne_eq, h, not_false_eq_true, if_true]

theorem firstOf_mem {l : List Item} {i : Item} (h : firstOf s l = some i) : i ∈ l := by
  induction l generalizing i with
  | nil => cases h
  | cons x t ih =>
    unfold firstOf at h
    split at h
    · cases h
      exact List.mem_cons_self
    · next y hy =>
      split at h <;> cases h
      · exact List.mem_cons_of_mem _ (ih hy)
      · exact List.mem_cons_self

theorem exists_firstOf_cons {x : Item} {t : List Item} : ∃ i, firstOf s (x :: t) = some i := by
  unfold firstOf
  split
  · exact ⟨x, rfl⟩
  · split
    · exact ⟨_, rfl⟩
    · exact ⟨x, rfl⟩

/-- Where a conforming deadline item is among them, the first is one. -/
theorem firstOf_conforming {l : List Item} {i y : Item} (h : firstOf s l = some i) (hy : y ∈ l)
    (hc : conforming s y = true) : conforming s i = true := by
  induction l generalizing i with
  | nil => cases hy
  | cons x t ih =>
    unfold firstOf at h
    split at h
    · next hnone =>
      cases h
      cases t with
      | nil => exact List.mem_singleton.mp hy ▸ hc
      | cons a t =>
        obtain ⟨j, hj⟩ := exists_firstOf_cons (s := s) (x := a) (t := t)
        exact absurd (hj.symm.trans hnone) (by simp)
    · next z hz =>
      have hzt : y ∈ t → conforming s z = true := ih hz
      rcases Bool.eq_false_or_eq_true (before s z x) with hb | hb
      · rw [if_pos hb] at h
        cases h
        rcases List.mem_cons.mp hy with rfl | hyt
        · by_contra hi
          exact hi (by rw [← before_of_conforming_ne (fun he => hi (he.trans hc)), hb])
        · exact hzt hyt
      · rw [if_neg (by simp [hb])] at h
        cases h
        rcases List.mem_cons.mp hy with rfl | hyt
        · exact hc
        · by_contra hi
          have hne : conforming s z ≠ conforming s x := fun he => hi (he ▸ hzt hyt)
          rw [before_of_conforming_ne hne, hzt hyt] at hb
          cases hb

end

/-! ### The requests of a pool (R171) -/

section
variable {s u : State} {pool p k : Nat} {i : Item}

/-- The requests of a pool by age. -/
def requestsByAge (s : State) (pool : Nat) : List (Nat × Nat × Nat × Nat) :=
  (poolRequests s pool).foldl (fun l r => reqInsert r l) []

theorem mem_reqInsert {r x : Nat × Nat × Nat × Nat} {l : List (Nat × Nat × Nat × Nat)} (h : x ∈ reqInsert r l) :
    x = r ∨ x ∈ l := by
  induction l with
  | nil => exact .inl (List.mem_singleton.mp h)
  | cons y t ih =>
    unfold reqInsert at h
    split at h
    · exact List.mem_cons.mp h
    · rcases List.mem_cons.mp h with rfl | ht
      · exact .inr List.mem_cons_self
      · exact (ih ht).imp_right (List.mem_cons_of_mem _)

theorem mem_foldl_reqInsert {x : Nat × Nat × Nat × Nat} (rs l : List (Nat × Nat × Nat × Nat))
    (h : x ∈ rs.foldl (fun l r => reqInsert r l) l) : x ∈ rs ∨ x ∈ l := by
  induction rs generalizing l with
  | nil => exact .inr h
  | cons r t ih =>
    rcases ih _ h with ht | hl
    · exact .inl (List.mem_cons_of_mem _ ht)
    · exact (mem_reqInsert hl).imp_left fun (he : x = r) => he ▸ List.mem_cons_self

/-- Only slots that may request a decision do. -/
theorem mayRequest_of_mem_requestsByAge {r : Nat × Nat × Nat × Nat} (h : r ∈ requestsByAge s pool) :
    mayRequest s r.2.2.2 r.2.2.1 = true := by
  have hr : r ∈ poolRequests s pool := (mem_foldl_reqInsert _ _ h).resolve_right List.not_mem_nil
  obtain ⟨l, -, hl⟩ := List.mem_flatMap.mp hr
  obtain ⟨hask, hmay⟩ := List.mem_filter.mp hl
  have hbin : r.2.2.2 = physOf s l := by
    rcases List.mem_pair.mp hask with rfl | rfl <;> rfl
  rw [hbin]
  exact (Bool.and_eq_true_iff.mp hmay).1

/-- The request that is served is one of the requests, and takes the first item that its bin may take. -/
theorem firstRequest_some {l : List (Nat × Nat × Nat × Nat)} (h : firstRequest s pool l = some (p, k, i)) :
    (∃ r ∈ l, r.2.2.2 = p ∧ r.2.2.1 = k) ∧ firstOf s (takable s p pool) = some i := by
  induction l with
  | nil => cases h
  | cons r t ih =>
    unfold firstRequest at h
    split at h
    · next j hj =>
      cases h
      exact ⟨⟨r, List.mem_cons_self, rfl, rfl⟩, hj⟩
    · obtain ⟨⟨x, hx, hpk⟩, hi⟩ := ih h
      exact ⟨⟨x, List.mem_cons_of_mem _ hx, hpk⟩, hi⟩

theorem eligible_of_mem_takable (h : i ∈ takable s p pool) : eligible s i = true := by
  have hall := (List.mem_filter.mp h).2
  simp only [Bool.and_eq_true] at hall
  exact hall.1.1.1.1

/-! ### The start of a decision (R171) -/

/-- The state in which a pool's next decision starts: a tick later where it has started one in the present tick. -/
def decisionTick (s : State) (pool : Nat) : State :=
  if s.sch.decisions.any (fun d => d.at' = s.now && poolOf s d.bin = pool) then s.later 1 else s

@[simp] theorem decisionTick_sch : (decisionTick s pool).sch = s.sch := by
  unfold decisionTick
  split <;> rfl

/-- The decision for slot `k` of bin `p` that takes `i` has started in the present tick. -/
def decisionStarted (s : State) (p k : Nat) (i : Item) : State :=
  { s with sch := { s.sch with decisions := s.sch.decisions ++ [⟨s.now, p, k, i.id⟩] } }

theorem exec_decisionStart_served (hpool : pool < 32) (hu : u = decisionTick s pool)
    (hr : firstRequest u pool (requestsByAge u pool) = some (p, k, i)) :
    exec (.decisionStart pool) s = .next (settle (decisionStarted u p k i)) := by
  subst hu
  unfold decisionTick requestsByAge at hr
  refine exec_next rfl (decide_eq_true hpool) ?_
  dsimp only
  rw [hr]
  rfl

theorem exec_decisionStart_none (hpool : pool < 32) (hu : u = decisionTick s pool)
    (hr : firstRequest u pool (requestsByAge u pool) = none) :
    exec (.decisionStart pool) s = .next (settle u) := by
  subst hu
  unfold decisionTick requestsByAge at hr
  refine exec_next rfl (decide_eq_true hpool) ?_
  dsimp only
  rw [hr]
  rfl

end

/-- Settles O16: where a request is served, the decision is the one of `firstRequest`, which takes the first of the
items in the order of R170. -/
theorem decisionOrder : Obligations.DecisionOrder := by
  unfold Obligations.DecisionOrder
  intro s pool u hpool hu
  have hu' : u = decisionTick s pool := hu
  refine ⟨fun t ht => ?_, fun p k i hr => exec_decisionStart_served hpool hu' hr⟩
  cases hr : firstRequest u pool (requestsByAge u pool) with
  | none => exact .inl (Host.Outcome.next.inj (ht.symm.trans (exec_decisionStart_none hpool hu' hr)))
  | some x =>
    obtain ⟨p, k, i⟩ := x
    obtain rfl := Host.Outcome.next.inj (ht.symm.trans (exec_decisionStart_served hpool hu' hr))
    obtain ⟨⟨r, hmem, rfl, rfl⟩, hfirst⟩ := firstRequest_some hr
    refine .inr ⟨r.2.2.2, r.2.2.1, i, ?_, mayRequest_of_mem_requestsByAge hmem, firstOf_mem hfirst,
      eligible_of_mem_takable (firstOf_mem hfirst), fun y hy hc => firstOf_conforming hfirst hy hc⟩
    rw [settle_sch, decisionStarted, hu', decisionTick_sch]

end Sys2Proof.Machine
end

section
/-! The scheduler family (O18): the sequence window after it has accepted a number, and one whose top exceeds its 32
bits. -/

namespace Sys2Proof.Machine

/-! ### The sequence window (R165) -/

section
variable {s : State} {k h m q : Nat}

/-- The window of class `k` has the top `h` and the map `m`, cut to 1,024 numbers. -/
def windowPut (s : State) (k h m : Nat) : State :=
  (((List.range 3).foldl (fun u i => markDirty u (classLine k i))
    { s with sch := { s.sch with win := aset s.sch.win k (m % 2 ^ 1024) } }).set (F.SCH_CLASS_WIN_TOP_h k) h).set
    (F.SCH_CLASS_STATE_win_empty k) 0

theorem markDirty_sch (s : State) (a : Nat) : (markDirty s a).sch = s.sch := by
  unfold markDirty
  split <;> rfl

theorem winMap_windowPut : winMap (windowPut s k h m) k = m % 2 ^ 1024 := by
  simp only [winMap, windowPut, State.set_sch]
  rw [foldl_view State.sch _ _ _ fun t i _ => markDirty_sch t _, aget_aset_same]
  rfl

theorem windowPut_top : (windowPut s k h m).get (F.SCH_CLASS_WIN_TOP_h k) = h % 2 ^ 32 := by
  have hkey : (F.SCH_CLASS_WIN_TOP_h k).key ≠ (F.SCH_CLASS_STATE_win_empty k).key := by
    simp only [Fld.key, F.SCH_CLASS_WIN_TOP_h, F.SCH_CLASS_STATE_win_empty]
    omega
  rw [windowPut, State.get_set_ne _ _ _ _ hkey, State.get_set_same]
  rfl

theorem windowPut_win_empty : (windowPut s k h m).flag (F.SCH_CLASS_STATE_win_empty k) = false := by
  rw [State.flag, windowPut, State.get_set_same, Nat.zero_mod]
  rfl

/-- Its top is a duplicate where bit 0 of the map is set. -/
theorem winJudge_windowPut_top : winJudge (windowPut s k q m) k q = if m.testBit 0 then .dup else .accept := by
  have hd : (q % 2 ^ 32 + 2 ^ 32 - q) % 2 ^ 32 = 0 := by omega
  rw [winJudge, windowPut_win_empty, windowPut_top, winMap_windowPut, hd]
  simp [bitAt]

/-- A number that is not within the window becomes its top; the map moves up by the distance to it, which is a
subtraction of naturals. -/
theorem winAccept_outside (hne : s.flag (F.SCH_CLASS_STATE_win_empty k) = false)
    (hd : 1024 ≤ (s.get (F.SCH_CLASS_WIN_TOP_h k) + 2 ^ 32 - q) % 2 ^ 32) :
    winAccept s k q = windowPut s k q (if (q + 2 ^ 32 - s.get (F.SCH_CLASS_WIN_TOP_h k)) % 2 ^ 32 < 1024
      then winMap s k * 2 ^ ((q + 2 ^ 32 - s.get (F.SCH_CLASS_WIN_TOP_h k)) % 2 ^ 32) + 1 else 1) := by
  rw [winAccept, hne, if_neg Bool.false_ne_true]
  exact if_neg (Nat.not_lt.mpr hd)

end

/-- Class 0's window with a top of 2^33 + 5000, more than the 32 bits of SCH_CLASS_WIN_TOP, whose number it has
accepted. -/
def windowBeyondTop : State :=
  { State.reset with
    flds := [((F.SCH_CLASS_WIN_TOP_h 0).key, 2 ^ 33 + 5000), ((F.SCH_CLASS_STATE_win_empty 0).key, 0)]
    sch := { Sched.reset with win := [(0, 1)] } }

/-- The number 0 lies 5000 behind that top modulo 2^32, while the distance up to it is 0: the map stays in place, and
the 1 added to it carries out of bit 0. -/
theorem windowBeyondTop_accept : winAccept windowBeyondTop 0 0 = windowPut windowBeyondTop 0 0 2 :=
  winAccept_outside (by decide) (by decide)

/-- Refutes O18: the statement ranges over every value of the window's top, and in `windowBeyondTop` the number 0 that
has just been accepted is accepted again. -/
theorem not_sequenceWindow : ¬ Obligations.SequenceWindow := by
  unfold Obligations.SequenceWindow
  intro h
  obtain ⟨hdup, _⟩ := h windowBeyondTop 0 0 (by decide) (by decide)
  rw [windowBeyondTop_accept, winJudge_windowPut_top] at hdup
  exact absurd hdup (by decide)

end Sys2Proof.Machine
end

section
/-! The scheduler family (O17): binding, fills, drains, spawns and late drops. -/

namespace Sys2Proof.Machine

/-! ### Binding (R171, R172) -/

section
variable {s v : State} {p slot n : Nat} {i : Item}

/-- The fourth tick of decision `d`, for slot `slot` of bin `p`, in which the decision ends. -/
def decisionFourth (s : State) (p slot : Nat) (d : Decision) : State :=
  { s.atNow (d.at' + 3) with sch := { s.sch with
    decisions := s.sch.decisions.filter (fun x => !(x.bin = p && x.slot = slot)) } }

/-- The passing of ticks and the end of a decision leave what a slot's request asks for, and the store. -/
theorem mayRequest_decisionFourth (d : Decision) (q k : Nat) :
    mayRequest (decisionFourth s p slot d) q k = mayRequest s q k := rfl
theorem findItem_decisionFourth (d : Decision) (n : Nat) : findItem (decisionFourth s p slot d) n = findItem s n := rfl
theorem reserveHold_decisionFourth (d : Decision) (k : Nat) :
    reserveHold (decisionFourth s p slot d) k = reserveHold s k := rfl
theorem poolOf_decisionFourth (d : Decision) (q : Nat) : poolOf (decisionFourth s p slot d) q = poolOf s q := rfl

/-- The item of number `n`, or the next candidate in its place, is bound to slot `slot` of bin `p`. -/
def candidateBound (v : State) (p slot n : Nat) : State :=
  if !mayRequest v p slot then v
  else match findItem v n with
    | some i =>
      if i.st = .waiting then
        match reserveHold v i.cls with
        | some h => bindItem v p slot i h
        | none => tryBind p slot (takable v p (poolOf v p)).length
            ((takable v p (poolOf v p)).filter (fun x => x.id != i.id))
            (countRaise v (F.SCH_CLASS_REISSUE_CNT_spawn_wait i.cls) 1020 0x0E 3 i.cls)
      else tryBind p slot (takable v p (poolOf v p)).length (takable v p (poolOf v p)) v
    | none => tryBind p slot (takable v p (poolOf v p)).length (takable v p (poolOf v p)) v

theorem candidateBound_reserved {h : Nat × Nat} (hmay : mayRequest v p slot = true) (hi : findItem v n = some i)
    (hst : i.st = .waiting) (hh : reserveHold v i.cls = some h) :
    candidateBound v p slot n = bindItem v p slot i h := by
  simp [candidateBound, hmay, hi, hst, hh]

theorem candidateBound_waits (hmay : mayRequest v p slot = true) (hi : findItem v n = some i)
    (hst : i.st = .waiting) (hh : reserveHold v i.cls = none) :
    candidateBound v p slot n = tryBind p slot (takable v p (poolOf v p)).length
      ((takable v p (poolOf v p)).filter (fun x => x.id != i.id))
      (countRaise v (F.SCH_CLASS_REISSUE_CNT_spawn_wait i.cls) 1020 0x0E 3 i.cls) := by
  simp [candidateBound, hmay, hi, hst, hh]

theorem exec_decisionBind {d : Decision} (hp : p < 264) (hslot : slot < 2)
    (hd : s.sch.decisions.find? (fun d => d.bin = p && d.slot = slot) = some d) :
    exec (.decisionBind p slot) s = .next (settle (candidateBound (decisionFourth s p slot d) p slot d.item)) := by
  refine exec_next rfl (by simp [Instr.wf, hp, hslot]) ?_
  rw [hd]
  rfl

/-! ### Fills (R173, R174) -/

/-- A fill beat returns: where more are due the fill goes on, and after the last the slot is FREE or READY. -/
theorem exec_fillBeat {f g : Fill} {r : BeatRead × State} {y x : State} {rest : List Fill} (hp : p < 264)
    (hslot : slot < 2) (hf : findFill s p slot = some f) (hr : r = readBeat s f.owner (f.beat + f.done))
    (hy : y = if f.gone then r.2 else if r.1.status = 0 then storeBeat r.2 p slot f.done r.1.data
      else fillFail r.2 f (r.1.status = 2))
    (hx : x = passPut y p .response false r.1.data)
    (hg : g = { f with done := f.done + 1, gone := f.gone || r.1.status != 0 })
    (hrest : rest = x.sch.fills.filter (fun z => !(z.bin = p && z.slot = slot))) :
    exec (.fillBeat p slot) s = .next (settle (if f.done + 1 < f.total then setFills x (rest ++ [g])
      else if g.gone then slotFree (setFills x rest) p slot else setSlot (setFills x rest) p slot 2)) := by
  refine exec_next rfl (by simp [Instr.wf, hp, hslot]) ?_
  rw [hf]
  subst hrest hg hx hy hr
  rfl

/-! ### Drains (R175) -/

/-- A drain beat leaves the slot for the Loft; after the last the slot is FREE. -/
theorem exec_drainBeat {d : Drain} {b : Nat} {r : Bool × State} {u w : State} (hp : p < 264) (hslot : slot < 2)
    (hd : s.sch.drains.find? (fun d => d.bin = p && d.slot = slot && d.sent < d.total) = some d)
    (hb : b = trayBeat s p slot d.sent) (hr : r = writeBeat s d.owner (d.beat + d.sent) b)
    (hu : u = passPut r.2 p .request true b)
    (hw : w = { u with sch := { u.sch with drains := u.sch.drains.map (fun x => if x.item = d.item then
      { d with sent := d.sent + 1, err := d.err || !r.1 } else x) } }) :
    exec (.drainBeat p slot) s = .next (settle (if d.sent + 1 = d.total then slotFree w p slot else w)) := by
  refine exec_next rfl (by simp [Instr.wf, hp, hslot]) ?_
  rw [hd]
  subst hw hu hr hb
  rfl

/-- The drain `d` has left the list. -/
def drainGone (s : State) (d : Drain) : State :=
  { s with sch := { s.sch with drains := s.sch.drains.filter (fun x => x.item != d.item) } }

theorem drainAcked_done {d : Drain} (h : d.err = false) : drainAcked s d = setItems (drainGone s d)
    (s.sch.items.map (fun i => if i.parent = some d.item then { i with parent := none, st := .waiting } else i)) :=
  if_neg (by simp [h])

theorem drainAcked_err {d : Drain} (h : d.err = true) : drainAcked s d = countRaise
    (setItems (drainGone s d) (s.sch.items.filter (fun i => i.parent != some d.item)))
    (F.SCH_CLASS_FAIL_CNT_output_err d.cls) 1020 0x0D 4 (d.cls + d.bin * 64 + d.seq % 65536 * 65536) :=
  if_pos h

theorem exec_drainAckComplete {d : Drain} (hp : p < 264) (hslot : slot < 2) (hd : sentDrain s p slot = some d) :
    exec (.drainAckComplete p slot) s = .next (settle (if d.err || d.total = 0 then drainAcked s d
      else egressArm (drainAcked s d) (d.beat / 2))) := by
  refine exec_next rfl (by simp [Instr.wf, hp, hslot]) ?_
  rw [hd]

/-! ### Spawns (R147, R176) -/

/-- The oldest record `h` of bin `p` is taken in its tick. -/
def recordTaken (s : State) (p : Nat) (h : HandOn) (rest : List HandOn) : State :=
  setBin (s.atNow h.at') p { (s.atNow h.at').bin p with hand := rest }

variable {h : HandOn} {rest : List HandOn} {c : Creation} {r : Nat × State}

/-- In STANDBY and in a handoff a record is discarded. -/
theorem exec_spawnHandOn_stopped (hp : p < 264) (hhand : (s.bin p).hand = h :: rest)
    (hstop : s.mode = Mode.standby ∨ s.twin.handoff = true) :
    exec (.spawnHandOn p) s = .next (settle (recordTaken s p h rest)) := by
  refine exec_next rfl (decide_eq_true hp) ?_
  rw [hhand]
  have hcond : (decide (s.mode = Mode.standby) || s.twin.handoff) = true := by simpa using hstop
  exact if_pos hcond

/-- A record of a class that is not shed is discarded by the checks, or enters the store, in HOLD while its parent
drains. -/
theorem exec_spawnHandOn_checked {hold : Bool} (hp : p < 264) (hhand : (s.bin p).hand = h :: rest)
    (hm : s.mode ≠ Mode.standby) (hh : s.twin.handoff = false) (hc : c = spawnCreation h.record h.release)
    (hr : r = drawSeq (recordTaken s p h rest) c.cls) (hshed : classShed r.2 c.cls = false)
    (hhold : hold = (h.drains && r.2.sch.drains.any (fun d => d.item = h.parent)))
    (hi : i = newItem r.2 c r.1 (!polices r.2 c.cls c.release) h.entry (if hold then .hold else .waiting)
      (if hold then some h.parent else none)) :
    exec (.spawnHandOn p) s = .next (settle (if (createChecks r.2 c).1 ≠ 0 then (createChecks r.2 c).2
      else itemWake (acceptItem r.2 i) i)) := by
  refine exec_next rfl (decide_eq_true hp) ?_
  rw [hhand]
  subst hi hhold hr hc
  have hcond : ¬ (decide (s.mode = Mode.standby) || s.twin.handoff) = true := by simp [hm, hh]
  exact (if_neg hcond).trans (if_neg (Bool.eq_false_iff.mp hshed))

/-! ### Late drops (R177) -/

theorem exec_lateDropLs_drop (hi : findItem s i.id = some i) (hd : isDrop s i.cls = true)
    (hst : i.st = .waiting ∨ i.st = .bound) :
    exec (.lateDropLs i.id) s = .next (settle
      (countLateDrop (dropItem (s.atFp (fpAdd (latestStart s i) 1)) i) i)) := by
  refine exec_next rfl rfl ?_
  rw [hi]
  exact if_pos (by simpa [hd] using hst)

end

/-- Settles O17: each clause is the rule of its command above. -/
theorem bindFillDrain : Obligations.BindFillDrain := by
  unfold Obligations.BindFillDrain
  intro s p slot hp hslot
  refine ⟨?_, ?_, ?_, ?_, ?_, ?_, ?_, fun i hi hd hst => exec_lateDropLs_drop hi hd hst⟩
  · intro d i h hd hmay hi hst hh
    rw [exec_decisionBind hp hslot hd, candidateBound_reserved ((mayRequest_decisionFourth d p slot).trans hmay)
      ((findItem_decisionFourth d _).trans hi) hst ((reserveHold_decisionFourth d _).trans hh)]
    rfl
  · intro d i v hd hmay hi hst hh hv
    have hv' : v = decisionFourth s p slot d := hv
    rw [exec_decisionBind hp hslot hd, candidateBound_waits ((mayRequest_decisionFourth d p slot).trans hmay)
      ((findItem_decisionFourth d _).trans hi) hst ((reserveHold_decisionFourth d _).trans hh),
      poolOf_decisionFourth, ← hv']
  · intro f r y x g rest hf hr hy hx hg hrest
    have hbeat := exec_fillBeat hp hslot hf hr hy hx hg hrest
    exact ⟨fun hmore => by rw [hbeat, if_pos hmore], fun hlast => by rw [hbeat, if_neg (Nat.not_lt.mpr hlast)]⟩
  · intro d b r u hd hb hr hu w hw
    exact exec_drainBeat hp hslot hd hb hr hu hw
  · intro d w hd hw
    have hw' : w = drainGone s d := hw
    have hack := exec_drainAckComplete hp hslot hd
    refine ⟨fun hok htotal => ?_, fun herr => ?_⟩
    · rw [hack, if_neg (by simp [hok, htotal]), drainAcked_done hok, hw']
    · rw [hack, if_pos (by simp [herr]), drainAcked_err herr, hw']
  · rintro h rest v hhand hstop rfl
    exact exec_spawnHandOn_stopped hp hhand hstop
  · rintro h rest c v r hhand hm hh hc rfl hr hshed
    refine ⟨fun hfail => ?_, fun hpass hold x hhold hx => ?_⟩
    · rw [exec_spawnHandOn_checked hp hhand hm hh hc hr hshed rfl rfl, if_pos hfail]
    · rw [exec_spawnHandOn_checked hp hhand hm hh hc hr hshed hhold hx, if_neg (not_not.mpr hpass)]

end Sys2Proof.Machine
end

section
/-! The scheduler family (O19): creations and submissions. -/

namespace Sys2Proof.Machine

/-! ### Counts and numbers leave the scheduler's store (R148, R162) -/

section
variable {s u : State} {c : Creation} {q : Nat}

@[simp] theorem countRaise_sch (s : State) (f : Fld) (a b x y : Nat) : (countRaise s f a b x y).sch = s.sch := by
  unfold countRaise raiseOnce
  split
  · rfl
  · exact raise_sch _ _ _ _ _

theorem drawSeq_sch (s : State) (k : Nat) : (drawSeq s k).2.sch = s.sch := markDirty_sch _ _

/-! ### The checks of a creation (R164) -/

/-- The checks in their order, before any further result `r`. -/
theorem createChecks_order (u : State) (c : Creation) (r : Nat) :
    (if u.flag (F.SCH_CLASS_CFG_defined c.cls) = false ∨ originOk u c.cls c.origin = false then 2
      else if 1024 < c.inLen ∨ 1024 < c.outLen ∨ u.get (F.SCH_CLASS_INPUT_in_units c.cls) < c.inLen then 3
      else if 2 ^ 23 < c.inAddr + c.inLen ∨ 2 ^ 23 < c.outAddr + c.outLen then 4
      else r) = if (createChecks u c).1 = 0 then r else (createChecks u c).1 := by
  simp only [createChecks, Bool.or_eq_true, Bool.not_eq_true', decide_eq_true_eq, or_assoc]
  split
  · rfl
  · split
    · rfl
    · split <;> rfl

theorem createChecks_sch (u : State) (c : Creation) : (createChecks u c).2.sch = u.sch := by
  unfold createChecks
  dsimp only
  split_ifs
  · exact countRaise_sch _ _ _ _ _ _
  · exact countRaise_sch _ _ _ _ _ _
  · exact countRaise_sch _ _ _ _ _ _
  · rfl

/-- A creation's number, its own or the class counter's, and the state in which it is judged. -/
def creationNumber (s : State) (c : Creation) : Nat × State :=
  match c.seq with
  | some q => (q % 2 ^ 32, s)
  | none => drawSeq s c.cls

theorem creationNumber_sch (s : State) (c : Creation) : (creationNumber s c).2.sch = s.sch := by
  unfold creationNumber
  split
  · rfl
  · exact drawSeq_sch s c.cls

/-- What becomes of a creation of number `q` that passes steps 1 to 3. -/
def creationWindow (u : State) (c : Creation) (q : Nat) : Nat × State :=
  match winJudge u c.cls q with
  | .dup => (5, countRaise u (F.SCH_CLASS_DUP_CNT_dup c.cls) 1020 1 2 (c.cls + c.origin * 256 + q % 65536 * 65536))
  | .old => (6, countRaise u (F.SCH_CLASS_DUP_CNT_old c.cls) 1020 2 3 (c.cls + c.origin * 256 + q % 65536 * 65536))
  | .accept => match takeEntry u c.cls (!polices u c.cls c.release) with
    | none => (7, countRaise u (F.SCH_CLASS_REFUSE_CNT_store_full c.cls) 1020 3 4 (c.cls + c.origin * 256))
    | some e => (if !polices u c.cls c.release then 1 else 0,
        itemWake (winAccept (acceptItem u (newItem u c q (!polices u c.cls c.release) e .waiting none)) c.cls q)
          (newItem u c q (!polices u c.cls c.release) e .waiting none))

theorem itemCreate_standby (h : s.mode = Mode.standby) : itemCreate s c = (2, s) := by
  simp [itemCreate, h]

theorem itemCreate_judged (hm : s.mode ≠ Mode.standby) (hh : s.twin.handoff = false)
    (hn : (q, u) = creationNumber s c) :
    itemCreate s c = if classShed u c.cls then (2, u.bump (F.THM_SHED_CNT_count c.cls) 1)
      else if (createChecks u c).1 ≠ 0 then createChecks u c else creationWindow u c q := by
  obtain ⟨rfl, rfl⟩ := Prod.mk.inj hn
  exact if_neg (by simp [hm, hh])

theorem creationWindow_code : (creationWindow u c q).1 = (if winJudge u c.cls q = .dup then 5
    else if winJudge u c.cls q = .old then 6
    else if takeEntry u c.cls (!polices u c.cls c.release) = none then 7
    else if polices u c.cls c.release = true then 0 else 1) := by
  unfold creationWindow
  cases winJudge u c.cls q with
  | dup => rfl
  | old => rfl
  | accept =>
    cases takeEntry u c.cls (!polices u c.cls c.release) with
    | none => rfl
    | some e => cases polices u c.cls c.release <;> rfl

/-- A creation that the window or a full store discards leaves the store. -/
theorem creationWindow_discarded (h : 2 ≤ (creationWindow u c q).1) : (creationWindow u c q).2.sch = u.sch := by
  unfold creationWindow at h ⊢
  cases hw : winJudge u c.cls q with
  | dup => exact countRaise_sch _ _ _ _ _ _
  | old => exact countRaise_sch _ _ _ _ _ _
  | accept =>
    simp only [hw] at h ⊢
    cases he : takeEntry u c.cls (!polices u c.cls c.release) with
    | none => exact countRaise_sch _ _ _ _ _ _
    | some e =>
      simp only [he] at h
      cases hp : polices u c.cls c.release <;> simp [hp] at h

theorem creationWindow_accepted {e : Nat} {x : Item} (hw : winJudge u c.cls q = .accept)
    (he : takeEntry u c.cls (!polices u c.cls c.release) = some e)
    (hx : x = newItem u c q (!polices u c.cls c.release) e .waiting none) :
    (creationWindow u c q).2 = itemWake (winAccept (acceptItem u x) c.cls q) x := by
  rw [creationWindow, hw, hx]
  simp only [he]

/-! ### Submissions (R162, R182) -/

variable {who : Requester} {auto : Bool}

/-- The descriptor in the data registers of requester `who`. -/
def submittedCreation (s : State) (who : Requester) (auto : Bool) : Creation :=
  ⟨bits (subWord s (reqNum who) 3) 0 6, if who = .keeper then 3 else 4,
    if auto then none else some (subWord s (reqNum who) 2), s.fp, bits (subWord s (reqNum who) 3) 10 11,
    bits (subWord s (reqNum who) 3) 21 11, bits (subWord s (reqNum who) 4) 0 23, bits (subWord s (reqNum who) 5) 0 23,
    subWord s (reqNum who) 6 + subWord s (reqNum who) 7 * 2 ^ 32⟩

theorem exec_submitGo_presents (hwho : who ≠ .mgmt) (hmay : mayAsk s who F.SCH_SUBMIT_CMD_go.addr 2 = true)
    (hbusy : s.flag (F.SCH_SUBMIT_STATUS_busy.copy (reqNum who)) = false) :
    exec (.submitGo who auto) s = .next (settle ((itemCreate s (submittedCreation s who auto)).2.set
      (F.SCH_SUBMIT_STATUS_result.copy (reqNum who)) (itemCreate s (submittedCreation s who auto)).1)) := by
  refine exec_next rfl rfl ((asked_may hmay).trans ?_)
  cases who with
  | keeper => exact if_neg (by simpa [reqNum] using hbusy)
  | regPort => exact if_neg (by simpa [reqNum] using hbusy)
  | mgmt => exact absurd rfl hwho

theorem exec_submitGo_busy (hmay : mayAsk s who F.SCH_SUBMIT_CMD_go.addr 2 = true)
    (hbusy : s.flag (F.SCH_SUBMIT_STATUS_busy.copy (reqNum who)) = true) :
    exec (.submitGo who auto) s = .next (settle s) :=
  exec_next rfl rfl ((asked_may hmay).trans (if_pos (by simp [hbusy])))

/-- The management port's go changes nothing, held or not. -/
theorem exec_submitGo_mgmt : exec (.submitGo .mgmt auto) s = .next (settle s) := by
  refine exec_next rfl rfl ?_
  cases hmay : mayAsk s .mgmt F.SCH_SUBMIT_CMD_go.addr 2 with
  | true => exact (asked_may hmay).trans (if_pos rfl)
  | false => exact asked_held hmay (by decide)

theorem exec_submitGo_held (h : keeperUp s = false) : exec (.submitGo .keeper auto) s = .next (settle s) :=
  exec_next rfl rfl (asked_held h (by decide))

end

/-- Settles O19: a go presents `submittedCreation`; a creation passes the checks of `createChecks_order` and comes to
the window, the store and the policing of `creationWindow`. -/
theorem submission : Obligations.Submission := by
  unfold Obligations.Submission
  intro s
  refine ⟨?_, fun who auto _ hmay hbusy => exec_submitGo_busy hmay hbusy, fun _ => exec_submitGo_mgmt,
    fun _ h => exec_submitGo_held h, fun c h => itemCreate_standby h, ?_⟩
  · rintro who auto c hwho hmay hbusy rfl
    exact exec_submitGo_presents hwho hmay hbusy
  · intro c q u hm hh hn
    have hn' : (q, u) = creationNumber s c := hn
    have hsch : u.sch = s.sch := (congrArg (fun r => r.2.sch) hn').trans (creationNumber_sch s c)
    have hjudged := itemCreate_judged hm hh hn'
    refine ⟨fun hshed => by rw [hjudged, if_pos hshed], fun hshed => ?_⟩
    rw [if_neg (by simp [hshed])] at hjudged
    refine ⟨?_, fun hcode => ?_, fun e x hpass hw he hx => ?_⟩
    · rw [createChecks_order, ← creationWindow_code, hjudged, apply_ite Prod.fst, ite_not]
    · have hkept : (itemCreate s c).2.sch = s.sch := by
        rw [hjudged] at hcode ⊢
        split_ifs at hcode ⊢
        · exact (createChecks_sch u c).trans hsch
        · exact (creationWindow_discarded hcode).trans hsch
      rw [hkept]
      exact ⟨rfl, rfl, rfl⟩
    · rw [hjudged, if_neg (not_not.mpr hpass), creationWindow_accepted hw he hx]

end Sys2Proof.Machine
end

section
/-! The admission family (O20): the density test over classes and bins, and the test of spares. -/

namespace Sys2Proof.Machine

/-! ### The density test (R195) -/

section
variable {s : State} {ks js : List Nat} {m n d e : Nat}

theorem densitySum_eq_sum (s : State) (ks : List Nat) : densitySum s ks = (ks.map (densityOf s)).sum := by
  rw [densitySum, List.sum_eq_foldl, List.foldl_map]

theorem densitySum_sublist (h : js.Sublist ks) : densitySum s js ≤ densitySum s ks := by
  rw [densitySum_eq_sum, densitySum_eq_sum]
  exact (h.map _).sum_le_sum fun _ _ => Nat.zero_le _

theorem foldl_max_le_iff {f : Nat → Nat} (ks : List Nat) (a b : Nat) :
    ks.foldl (fun n k => max n (f k)) a ≤ b ↔ a ≤ b ∧ ∀ k ∈ ks, f k ≤ b := by
  induction ks generalizing a with
  | nil => simp
  | cons k ks ih => simp [ih, and_assoc]

theorem densityMax_le_iff {b : Nat} : densityMax s ks ≤ b ↔ ∀ k ∈ ks, densityU s k ≤ b := by
  simp [densityMax, foldl_max_le_iff]

theorem densityMax_sublist (h : js.Sublist ks) : densityMax s js ≤ densityMax s ks :=
  densityMax_le_iff.mpr fun k hk => densityMax_le_iff.mp le_rfl k (h.subset hk)

/-- The first bin counts whole, each further one what the densest item leaves of it. -/
theorem densityLimit_eq (hm : m ≠ 0) (hd : d ≤ uq) : densityLimit m d = uq + (m - 1) * (uq - d) := by
  obtain ⟨k, rfl⟩ := Nat.exists_eq_succ_of_ne_zero hm
  have hle : k * d ≤ k * uq := Nat.mul_le_mul_left k hd
  simp only [densityLimit, hm, if_false, Nat.succ_eq_add_one, Nat.add_sub_cancel, Nat.mul_sub, Nat.add_mul, Nat.one_mul]
  omega

theorem densityLimit_mono (hm : m ≠ 0) (hmn : m ≤ n) (hed : e ≤ d) (hd : d ≤ uq) :
    densityLimit m d ≤ densityLimit n e := by
  rw [densityLimit_eq hm hd, densityLimit_eq (by omega) (hed.trans hd)]
  exact Nat.add_le_add_left (Nat.mul_le_mul (by omega) (by omega)) _

theorem densityOk_iff : densityOk s ks m = true ↔
    ks = [] ∨ m ≠ 0 ∧ densitySum s ks ≤ densityLimit m (densityMax s ks) := by
  simp [densityOk]

/-- Fewer classes and more bins keep the test passed. -/
theorem densityOk_mono (hjs : js.Sublist ks) (hmn : m ≤ n) (hu : ∀ k ∈ ks, densityU s k ≤ uq)
    (hok : densityOk s ks m = true) : densityOk s js n = true := by
  rw [densityOk_iff] at hok ⊢
  rcases hok with rfl | ⟨hm, hsum⟩
  · exact .inl (List.sublist_nil.mp hjs)
  · refine .inr ⟨by omega, ?_⟩
    calc densitySum s js
      _ ≤ densitySum s ks := densitySum_sublist hjs
      _ ≤ densityLimit m (densityMax s ks) := hsum
      _ ≤ densityLimit n (densityMax s js) :=
        densityLimit_mono hm hmn (densityMax_sublist hjs) (densityMax_le_iff.mpr hu)

end

/-! ### The test of spares (R193) -/

section
variable {s : State} {owner : Nat → Nat} {f : AdmFail}

/-- The pools that are marked n_plus_1. -/
def markedPools (s : State) : List Nat := (pools s).filter (fun p => s.flag (F.SCH_POOL_CFG_n_plus_1 p))

/-- What test 4 finds, by its two reasons. -/
def spareFinds (s : State) : List AdmFail :=
  firstFail 8 1 false (fun p => runCount s p < 2) (markedPools s)
    ++ (if freeSpares s < (markedPools s).length then [⟨8, 2, 0xFF, false⟩] else [])

theorem mem_firstFail {code reason : Nat} {c : Bool} {p : Nat → Bool} {l : List Nat} :
    f ∈ firstFail code reason c p l ↔ ∃ k, l.find? p = some k ∧ f = ⟨code, reason, k, c⟩ := by
  simp [firstFail, eq_comm]

theorem code_of_mem_firstFail {code reason : Nat} {c : Bool} {p : Nat → Bool} {l : List Nat}
    (h : f ∈ firstFail code reason c p l) : f.code = code := by
  obtain ⟨k, _, rfl⟩ := mem_firstFail.mp h
  rfl

/-- Of the eight tests only test 4 fails with code 8. -/
theorem mem_admFails_spares : f ∈ admFails s owner ∧ f.code = 8 ↔ f ∈ (spareFinds s).take 1 := by
  constructor
  · rintro ⟨hf, hcode⟩
    have hne : ∀ code, f.code = code → code = 8 := fun code h => h.symm.trans hcode
    simp only [admFails, List.mem_append, or_assoc] at hf
    rcases hf with h | h | h | h | h | h | h | h
    · exact absurd (hne 6 (code_of_mem_firstFail h)) (by decide)
    · exact absurd (hne 7 (code_of_mem_firstFail h)) (by decide)
    · refine absurd (hne 5 ?_) (by decide)
      rcases List.mem_append.mp (List.mem_of_mem_take h) with h | h
      · rw [List.mem_singleton.mp (List.mem_ite_nil_right.mp h).2]
      · exact code_of_mem_firstFail h
    · exact h
    · refine absurd (hne 2 ?_) (by decide)
      rcases List.mem_append.mp (List.mem_of_mem_take h) with h | h <;> exact code_of_mem_firstFail h
    · exact absurd (hne 1 (code_of_mem_firstFail h)) (by decide)
    · exact absurd (hne 3 (code_of_mem_firstFail h)) (by decide)
    · refine absurd (hne 4 ?_) (by decide)
      have h := List.mem_of_mem_take h
      simp only [List.mem_append, List.mem_ite_nil_right, List.mem_singleton] at h
      rcases h with ((h | h) | h) | h <;> rw [h.2]
  · intro h
    refine ⟨?_, ?_⟩
    · simp only [admFails, List.mem_append]
      exact .inl (.inl (.inl (.inl (.inr h))))
    · rcases List.mem_append.mp (List.mem_of_mem_take h) with h | h
      · exact code_of_mem_firstFail h
      · rw [List.mem_singleton.mp (List.mem_ite_nil_right.mp h).2]

/-- A marked pool without 2 usable bins is reported before the spares are counted. -/
theorem spareFinds_short (h : ∃ p ∈ markedPools s, runCount s p < 2) :
    ∃ p, (spareFinds s).take 1 = [⟨8, 1, p, false⟩] := by
  obtain ⟨p, hp⟩ : ∃ p, (markedPools s).find? (fun p => runCount s p < 2) = some p := by
    simpa [← Option.isSome_iff_exists] using h
  exact ⟨p, by simp only [spareFinds, firstFail, hp]; rfl⟩

theorem spareFinds_enough (h : ¬ ∃ p ∈ markedPools s, runCount s p < 2) :
    (spareFinds s).take 1 = if freeSpares s < (markedPools s).length then [⟨8, 2, 0xFF, false⟩] else [] := by
  have hp : (markedPools s).find? (fun p => runCount s p < 2) = none := by
    simpa using h
  simp only [spareFinds, firstFail, hp]
  split <;> rfl

theorem admFails_spares_iff : (∃ f ∈ admFails s owner, f.code = 8) ↔
    (∃ p ∈ markedPools s, runCount s p < 2) ∨ freeSpares s < (markedPools s).length := by
  have hiff : (∃ f ∈ admFails s owner, f.code = 8) ↔ (spareFinds s).take 1 ≠ [] := by
    constructor
    · rintro ⟨f, hf⟩
      exact List.ne_nil_of_mem (mem_admFails_spares.mp hf)
    · intro h
      obtain ⟨f, hf⟩ := List.exists_mem_of_ne_nil _ h
      exact ⟨f, mem_admFails_spares.mpr hf⟩
  rw [hiff]
  by_cases hshort : ∃ p ∈ markedPools s, runCount s p < 2
  · obtain ⟨p, hp⟩ := spareFinds_short hshort
    simp only [hp, hshort, true_or, ne_eq, List.cons_ne_nil, not_false_eq_true]
  · simp only [spareFinds_enough hshort, hshort, false_or]
    split <;> simp [*]

theorem admFails_spares_reason (hf : f ∈ admFails s owner) (hcode : f.code = 8) :
    f.reason = if ∃ p ∈ markedPools s, runCount s p < 2 then 1 else 2 := by
  have h := mem_admFails_spares.mp ⟨hf, hcode⟩
  by_cases hshort : ∃ p ∈ markedPools s, runCount s p < 2
  · obtain ⟨p, hp⟩ := spareFinds_short hshort
    rw [hp, List.mem_singleton] at h
    rw [h, if_pos hshort]
  · rw [spareFinds_enough hshort, List.mem_ite_nil_right, List.mem_singleton] at h
    rw [h.2, if_neg hshort]

/-- The places for spares are the last four of each column of 132 bins. -/
theorem freeSpares_le (h : ∀ p, p < 264 → s.get (F.FAB_BIN_STATUS_kind p) = Kind.spare → 128 ≤ p % 132) :
    freeSpares s ≤ 8 := by
  have hplaces : ((List.range 264).filter (fun p => decide (128 ≤ p % 132))).length = 8 := by decide
  rw [← hplaces, freeSpares, ← List.countP_eq_length_filter, ← List.countP_eq_length_filter]
  refine List.countP_mono_left fun p hp hs => ?_
  simp only [Bool.and_eq_true, decide_eq_true_eq] at hs ⊢
  exact h p (List.mem_range.mp hp) hs.1

end

/-- Settles O20: test 4 is the only one with code 8 and finds what `spareFinds` finds; the density test is monotone in
the bins and antitone in the classes. -/
theorem densityKeeps : Obligations.DensityKeeps := by
  unfold Obligations.DensityKeeps
  refine ⟨?_, fun s ks js m n hjs hmn hu hok => densityOk_mono hjs hmn hu hok⟩
  rintro s owner marked free hmarked (rfl : free = freeSpares s)
  obtain rfl : marked = markedPools s := by
    simp [hmarked, markedPools, pools, List.filter_filter, Bool.and_comm]
  refine ⟨admFails_spares_iff, fun f hf hcode => admFails_spares_reason hf hcode, fun hplaces hmany => ?_⟩
  exact admFails_spares_iff.mpr (.inr ((freeSpares_le hplaces).trans_lt hmany))

end Sys2Proof.Machine
end

section
/-! The admission family (O25): the commands of the thermal manager and the cap. -/

namespace Sys2Proof.Machine

section
variable {s : State}

/-! ### Thresholds (R200, R217) -/

/-- The thresholds are within the grade's defaults and in order. -/
def threshOrder (s : State) (a b c : Int) : Prop :=
  a ≤ Rst.warn ∧ b ≤ Rst.throttle ∧ c ≤ Rst.crit ∧ a ≤ b ∧ b < c ∧ c < toInt 8 (s.get F.THM_THRESH_shut)

theorem threshWrite_wf {a b c : Int} (ha : -128 ≤ a ∧ a < 128) (hb : -128 ≤ b ∧ b < 128) (hc : -128 ≤ c ∧ c < 128) :
    (Instr.threshWrite a b c).wf = true := by
  simp [Instr.wf, ha, hb, hc]

theorem exec_threshWrite {a b c : Int} (hw : (Instr.threshWrite a b c).wf = true) (h : threshOrder s a b c) :
    exec (.threshWrite a b c) s = .next (settle (if s.adm.given = true ∧ c ≤ s.adm.tj then admRefuse (runCheck s) 4 2 0
      else (runCheck s).setAll
        [(F.THM_THRESH_warn, ofInt 8 a), (F.THM_THRESH_throttle, ofInt 8 b), (F.THM_THRESH_crit, ofInt 8 c)])) := by
  obtain ⟨hwarn, hthr, hcrit, hab, hbc, hshut⟩ := h
  refine exec_next rfl hw ?_
  rw [if_neg (by simp; omega)]
  simp only [Bool.and_eq_true, decide_eq_true_eq]

theorem exec_threshWrite_refused {a b c : Int} (hw : (Instr.threshWrite a b c).wf = true) (h : ¬ threshOrder s a b c) :
    exec (.threshWrite a b c) s = .next (settle (raise s 1018 0x32 3 0x20)) := by
  refine exec_next rfl hw (if_pos ?_)
  simp only [threshOrder] at h
  simp
  omega

theorem admRefuse_eq (s : State) (code reason place : Nat) :
    admRefuse s code reason place = raise s 1019 code 3 (place + reason * 256 + 2 * 4096) := by
  simp [admRefuse, admEvent, raise, raiseCrit, ofBool]

/-! ### Headroom (R218) -/

/-- The registers of the worked example. -/
theorem headroom_example (hlevel : s.get F.THM_STATUS_level ≤ 1) (hload : s.get F.CFG_STATUS_load_state = 6)
    (hthr : s.get F.THM_THRESH_throttle = 105) (ht : s.get F.THM_HEAD_CFG_step_t = 2)
    (hp : s.get F.THM_HEAD_CFG_step_p = 20) (hcap : s.get F.THM_CAP_cap = 1600)
    (hmeas : s.get F.THM_POWER_p_meas = 120000000) :
    headroom s = min (min 7 (max 0 ((1680 - tHot s) / 32)).toNat) 7 := by
  have hthresh : thresh s 2 = 1680 := by
    rw [thresh, if_pos hload, threshSet]
    simp [hthr, toInt]
  unfold headroom
  extract_lets l hT hP st sp iT
  have hiT : iT = min 7 (max 0 ((1680 - tHot s) / 32)).toNat := by
    simp only [iT, l, hT, st, hthresh, ht]
    rw [if_neg (by omega)]
    rfl
  have hpower : (max 0 (hP / sp)).toNat = 16 := by
    simp only [hP, sp, hcap, hmeas, hp]
    decide
  rw [if_neg (by omega), hiT, hpower]
  rfl

/-! ### Slowing the partner (R222, R223) -/

theorem exec_pfcRefresh (h : s.flag F.THM_STATUS_pfc_on = true) : exec .pfcRefresh s = .next (settle (pfcSend
    (s.atNow (pfcTick s + usToTk (max 1 (s.get F.THM_PFC_CFG_refresh_us)))) (s.get F.THM_PFC_QUANTA_quanta))) :=
  exec_next rfl rfl (if_pos h)

theorem exec_pfcGraceExpiry (h : s.flag F.THM_STATUS_pfc_on = true) :
    exec .pfcGraceExpiry s = .next (settle ((s.atNow (s.thm.pfcStart
      + usToTk (s.get F.THM_PFC_CFG_grace_us))).set F.THM_STATUS_enforce 1)) :=
  exec_next rfl rfl (if_pos h)

theorem atNow_flds (s : State) (t : Nat) : (s.atNow t).flds = s.flds := rfl
theorem atNow_thm (s : State) (t : Nat) : (s.atNow t).thm = s.thm := rfl

/-! ### Recalibration (R213) -/

theorem execRecalStart_doze (h : s.mode = Mode.doze) :
    execRecalStart s = checked .recalStart { s.atNow (s.modes.since + usToTk 50000) with thm := { s.thm with
      averaging := (List.range 4).filter (fun d => (s.get F.THM_RECAL_pending).testBit d), avg := [] } } := by
  unfold execRecalStart
  rw [if_pos h]
  simp only [setThm]
  rw [atNow_thm]
  simp only [bitAt]

theorem execRecalComplete_averaged {d : Nat} {u : State} (h : s.mode = Mode.doze) (ha : d ∈ s.thm.averaging)
    (hu : u = recalDie (s.atNow (s.modes.since + usToTk 60000)) d) :
    execRecalComplete d s = checked (.recalComplete d) { u with thm := { u.thm with
      averaging := u.thm.averaging.filter (· != d)
      avg := u.thm.avg.filter (fun x => !(dieSensors d).contains x.1) } } := by
  unfold execRecalComplete
  rw [if_pos (by simp [h, ha]), ← hu]
  simp only [setThm]

theorem satInt_of_mem {d : Int} (hlo : -128 ≤ d) (hhi : d ≤ 127) : satInt 8 d = ofInt 8 d := by
  rw [satInt, min_eq_right (by omega), max_eq_right (by omega)]

/-- A whole mean within 7.9 °C becomes the sensor's offset. -/
theorem recalSensor_whole {n k : Nat} {d : Int} (h : aget s.thm.avg n = some (d * k, k)) (hk : 0 < k)
    (hlo : -126 ≤ d) (hhi : d ≤ 126) :
    recalSensor s n = s.useFree.set (F.THM_SENSOR_offset n) (ofInt 8 d) := by
  have hk0 : (k : Int) ≠ 0 := by omega
  have hsmall : (d * k).natAbs * 10 ≤ 1264 * k := by
    have habs : d.natAbs ≤ 126 := by omega
    have := Nat.mul_le_mul_right k habs
    rw [Int.natAbs_mul, Int.natAbs_natCast]
    omega
  simp only [recalSensor, h, Int.mul_emod_left, if_true, hsmall, Int.mul_ediv_cancel d hk0, Int.add_zero,
    satInt_of_mem (show -128 ≤ d by omega) (show d ≤ 127 by omega)]

/-! ### The life record (R459) -/

theorem execThmLife_eq {u : State} (hu : u = s.atNow (s.thm.lifeAt + dayTk)) :
    execThmLife s = checked .thmLife (raiseLed { u with thm := { u.thm with lifeAt := u.now } } false
      ((List.range 5).map (fun b => s.get (F.SPR_LIFE_hours b))) 1018 0x16 5
      (satNat 3 ((u.now - s.thm.lifeAt) / dayTk))) := by
  have hlife : u.thm.lifeAt = s.thm.lifeAt := by rw [hu, atNow_thm]
  have hours : ∀ b, u.get (F.SPR_LIFE_hours b) = s.get (F.SPR_LIFE_hours b) :=
    fun b => State.get_of_flds s u (by rw [hu, atNow_flds]) _
  unfold execThmLife
  rw [← hu]
  simp only [setThm, hlife, ← hours]

/-! ### The cap (R200) -/

theorem exec_capWrite {cap : Nat} (hw : cap < 2048) {u : State} (hu : capWrite s cap = u) :
    exec (.capWrite cap) s = .next (settle u) :=
  exec_next rfl (by simpa [Instr.wf] using hw) hu

theorem capWrite_refused {cap r : Nat} (hr : capReason s cap = r) (h0 : r ≠ 0) :
    capWrite s cap = raise (runCheck s) 1019 4 3 (r * 2 ^ 8 + 2 * 2 ^ 12) := by
  unfold capWrite
  rw [hr]
  dsimp only
  rw [if_pos h0, admRefuse_eq, Nat.zero_add]
  rfl

theorem capWrite_set {cap : Nat} (hr : capReason s cap = 0) : capWrite s cap =
    { (runCheck s).setAll [(F.THM_CAP_cap, cap), (F.ADM_CAP_cap, cap)] with adm := { s.adm with cap := cap } } := by
  unfold capWrite
  rw [hr]
  rfl

theorem capReason_fits {cap : Nat} (hlo : 600 ≤ cap) (hhi : cap ≤ 1750)
    (h : s.get F.THM_CAP_cap ≤ cap ∨ pTotal s ≤ powerLimit cap) : capReason s cap = 0 := by
  unfold capReason
  rw [if_neg (by simp; omega), if_neg (by simp; omega)]

theorem capReason_range {cap : Nat} (h : cap < 600 ∨ 1750 < cap) : capReason s cap = 4 := by
  unfold capReason
  rw [if_pos (by simpa using h)]

theorem capReason_low {cap : Nat} (hlo : 600 ≤ cap) (hhi : cap ≤ 1750) (h : cap < s.get F.THM_CAP_cap)
    (hfit : powerLimit cap < pTotal s) : capReason s cap = 3 := by
  unfold capReason
  rw [if_neg (by simp; omega), if_pos (by simp [h, hfit])]

end

/-- Settles O25: each clause is the rule of its command above. -/
theorem thermalCommands : Obligations.ThermalCommands := by
  unfold Obligations.ThermalCommands
  intro s
  refine ⟨?_, ?_, ?_, ?_, fun h => ⟨exec_pfcRefresh h, exec_pfcGraceExpiry h⟩,
    fun h => exec_next (execRecalStart_doze h) rfl rfl,
    fun d u hd hm ha hu => exec_next (execRecalComplete_averaged hm ha hu) (by simpa [Instr.wf] using hd) rfl,
    fun n d k _ h hk hlo hhi => recalSensor_whole h hk hlo hhi,
    fun u hu => exec_next (execThmLife_eq hu) rfl rfl, fun cap hcap => ⟨?_, ?_, ?_⟩⟩
  · intro a b c ha hab hbc hwarn hthr hcrit hshut htj hc
    rw [exec_threshWrite (threshWrite_wf (by omega) (by omega) (by omega)) ⟨hwarn, hthr, hcrit, hab, hbc, hshut⟩,
      if_neg fun h => absurd (htj h.1) (by omega)]
  · intro a b c ha ha' hb hb' hc hc' hbad
    exact exec_threshWrite_refused (threshWrite_wf ⟨ha, ha'⟩ ⟨hb, hb'⟩ ⟨hc, hc'⟩) (by simp only [threshOrder]; omega)
  · intro a b c ha hab hbc hwarn hthr hcrit hshut hc hgiven htj
    rw [exec_threshWrite (threshWrite_wf (by omega) (by omega) (by omega)) ⟨hwarn, hthr, hcrit, hab, hbc, hshut⟩,
      if_pos ⟨hgiven, htj⟩]
    rfl
  · intro hlevel hload hthr ht hp hcap hmeas
    have h := headroom_example hlevel hload hthr ht hp hcap hmeas
    exact ⟨fun hhot => by rw [h, hhot]; decide, fun hhot => by rw [h, hhot]; decide⟩
  · exact fun hlo hhi hfit => exec_capWrite hcap (capWrite_set (capReason_fits hlo hhi hfit))
  · exact fun hrange => exec_capWrite hcap (capWrite_refused (capReason_range hrange) (by decide))
  · exact fun hlo hhi hlow hfit => exec_capWrite hcap (capWrite_refused (capReason_low hlo hhi hlow hfit) (by decide))

end Sys2Proof.Machine
end

section
/-! The admission family (O39): a refused handover seen at a bank number beyond the 1,024 banks. -/

namespace Sys2Proof.Machine

/-! ### Refused handovers (R310, R476) -/

/-- The event unit's queue is full, so that the next record is discarded and EV_CNT.lost counts it. -/
def queueFull : State :=
  { State.reset with ev := { State.reset.ev with inq := List.replicate 512 ⟨0, 0, 0, 0, 0, 0⟩ } }

/-- The number whose place in the row of LFT_BANK_OWN would be that of EV_CNT. -/
def bankAtLost : Nat := (F.EV_CNT_lost.addr - (F.LFT_BANK_OWN_owner 0).addr) / 4

/-- A handover of bank 0 to an owner that does not exist. -/
def handoverNoOwner : Handover := ⟨false, 0, 700, false, false, 0⟩

theorem handoverNoOwner_reason : handoverReason queueFull handoverNoOwner = 1 := by decide

/-- LFT_HANDOVER_REFUSED finds the queue full: EV_CNT.lost goes from 0, which no field map lists, to 1. -/
theorem handoverRefused_bankAtLost : queueFull.bankOwner bankAtLost = 338 ∧
    (handoverRefused queueFull handoverNoOwner (handoverReason queueFull handoverNoOwner)).bankOwner bankAtLost = 1 := by
  rw [handoverNoOwner_reason]
  exact ⟨by decide, by decide +kernel⟩

/-- Refutes O39: a refused handover is said to leave the owner of every bank number as it was. The numbers from 1,024 on
name no bank, and the place of `bankAtLost` is that of EV_CNT.lost, which the refusal's event steps in `queueFull`. -/
theorem not_handovers : ¬ Obligations.Handovers := by
  unfold Obligations.Handovers
  intro h
  obtain ⟨_, _, _, _, hrefused, _⟩ := h queueFull
  obtain ⟨hbefore, hafter⟩ := handoverRefused_bankAtLost
  have hkept := hrefused handoverNoOwner (handoverReason queueFull handoverNoOwner) bankAtLost
  rw [hbefore, hafter] at hkept
  exact absurd hkept (by decide)

end Sys2Proof.Machine
end

section
/-! The admission family (O42): the end of a load whose stream declares twin operation with a metadata group beyond the
32 groups. -/

namespace Sys2Proof.Machine

@[simp] theorem setTw_get (s : State) (x : Twin) (f : Fld) : (setTw s x).get f = s.get f := rfl
@[simp] theorem setCfg_get (s : State) (x : Cfg) (f : Fld) : (setCfg s x).get f = s.get f := rfl
@[simp] theorem setSec_get (s : State) (x : Sec) (f : Fld) : (setSec s x).get f = s.get f := rfl
@[simp] theorem setLoad_get (s : State) (r : Option LoadRun) (f : Fld) : (setLoad s r).get f = s.get f := rfl

/-- A register of the twin's configuration and status outside what an entry to SAFE writes. -/
structure Fld.TwinKept (f : Fld) : Prop where
  safeFree : f.SafeFree
  lo : 0x500000 * 32 ≤ f.key
  hi : f.key < 0x500020 * 32

section
variable {f : Fld} (hf : f.TwinKept)
include hf

theorem Fld.TwinKept.ne_of_key {g : Fld} (h : g.key < 0x500000 * 32 ∨ 0x500020 * 32 ≤ g.key) : f.key ≠ g.key := by
  have := hf.lo
  have := hf.hi
  omega

theorem State.get_set_twinKept (s : State) {g : Fld} (v : Nat) (h : g.key < 0x500000 * 32 ∨ 0x500020 * 32 ≤ g.key) :
    (s.set g v).get f = s.get f := s.get_set_ne g f v (hf.ne_of_key h)

theorem State.get_setAll_twinKept (s : State) (l : List (Fld × Nat))
    (h : ∀ x ∈ l, x.1.key < 0x500000 * 32 ∨ 0x500020 * 32 ≤ x.1.key) : (s.setAll l).get f = s.get f :=
  s.get_setAll_ne l f fun x hx => hf.ne_of_key (h x hx)

theorem raise_get_twinKept (s : State) (a b c d : Nat) : (raise s a b c d).get f = s.get f :=
  raise_get_safeFree hf.safeFree s a b c d

/-! ### What the end of a load leaves (R86, R92, R181, R202, R351) -/

theorem setMuxSrc_get_twinKept (s : State) (m src : Nat) : (setMuxSrc s m src).get f = s.get f := by
  unfold setMuxSrc
  split
  · rename_i hm
    refine s.get_set_twinKept hf _ (.inl ?_)
    split_ifs <;> simp only [Fld.key, F.CLK_RC_STATUS_rc1_src, F.CLK_RC_STATUS_rc2_src, F.CLK_RC_STATUS_rc3_src] <;> omega
  · rfl

theorem clocksSet_get_twinKept (s : State) (hheld : s.clk.held = []) : (clocksSet s).get f = s.get f := by
  unfold clocksSet
  extract_lets clk s1 s2 s3
  have h1 : s1.get f = s.get f := by simp only [s1, hheld, List.foldl_nil]; rfl
  have h2 : s2.get f = s1.get f := foldl_view (fun t : State => t.get f) _ _ s1 fun t k _ =>
    foldl_view (fun t : State => t.get f) _ _ t fun u i _ => setMuxSrc_get_twinKept hf u _ _
  have h3 : s3.get f = s2.get f := foldl_view (fun t : State => t.get f) _ _ s2 fun t k _ =>
    (setMuxSrc_get_twinKept hf _ _ _).trans (setMuxSrc_get_twinKept hf t _ _)
  refine (foldl_view (fun t : State => t.get f) _ _ s3 fun t g _ => ?_).trans (h3.trans (h2.trans h1))
  exact setMuxSrc_get_twinKept hf t _ _

theorem setDegraded_get_twinKept (s : State) (b : Nat) (on : Bool) : (setDegraded s b on).get f = s.get f := by
  unfold setDegraded
  extract_lets c c' s1 s2
  have h1 : s1.get f = s.get f := s.get_set_twinKept hf _ (by decide)
  have h2 : s2.get f = s.get f :=
    (raise_get_twinKept hf _ _ _ _ _).trans ((s1.get_set_twinKept hf _ (by decide)).trans h1)
  split
  · split
    · exact (declareFault_get hf.safeFree _ _).trans h2
    · exact h2
  · split
    · exact (raise_get_twinKept hf _ _ _ _ _).trans ((s1.get_set_twinKept hf _ (by decide)).trans h1)
    · exact h1

theorem coverageCheck_get_twinKept (s : State) {p : Nat} (hp : p < 32) : (coverageCheck s p).get f = s.get f := by
  unfold coverageCheck
  extract_lets m ks ok was s1
  have h1 : s1.get f = s.get f := s.get_setAll_twinKept hf _ fun x hx => by
    simp only [List.mem_cons, List.not_mem_nil, or_false] at hx
    rcases hx with rfl | rfl | rfl <;>
      simp only [Fld.key, F.ADM_POOL_BINS_usable, F.ADM_POOL_BINS_covered, F.ADM_POOL_DLIMIT_limit] <;> omega
  split
  · exact (raise_get_twinKept hf _ _ _ _ _).trans h1
  · split
    · exact (raise_get_twinKept hf _ _ _ _ _).trans h1
    · exact h1

theorem coverageAll_get_twinKept (s : State) : (coverageAll s).get f = s.get f := by
  unfold coverageAll
  refine (setDegraded_get_twinKept hf _ _ _).trans (foldl_view (fun t : State => t.get f) _ _ s fun t p hp => ?_)
  have hp := List.mem_range.mp hp
  split
  · exact coverageCheck_get_twinKept hf t hp
  · refine t.get_setAll_twinKept hf _ fun x hx => ?_
    simp only [List.mem_cons, List.not_mem_nil, or_false] at hx
    rcases hx with rfl | rfl <;> simp only [Fld.key, F.ADM_POOL_BINS_usable, F.ADM_POOL_BINS_covered] <;> omega

theorem poolStart_get_twinKept (s : State) : (poolStart s).get f = s.get f := by
  unfold poolStart
  refine (coverageAll_get_twinKept hf _).trans ((State.get_set_twinKept hf _ _ (by decide)).trans ?_)
  refine foldl_view (fun t : State => t.get f) _ _ s fun t p hp => t.get_set_twinKept hf _ (.inl ?_)
  have hp := List.mem_range.mp (List.mem_of_mem_filter hp)
  simp only [Fld.key, F.SCH_POOL_STATUS_usable]
  omega

theorem staticStart_get_twinKept (s : State) : (staticStart s).get f = s.get f := by
  unfold staticStart
  refine (foldl_view (fun t : State => t.get f) _ _ _ fun t p _ => closeGate_get hf.safeFree t p).trans ?_
  refine foldl_view (fun t : State => t.get f) _ _ s fun t p hp => ?_
  have hp := List.mem_range.mp (List.mem_of_mem_filter hp)
  refine ((State.get_set_twinKept hf _ _ (.inl ?_)).trans (State.get_set_twinKept hf t _ (.inl ?_)) :
    ((t.set (F.FAB_BIN_STATUS_ctx p) _).set (F.BIN_SEQ_STATUS_ctx p) _).get f = t.get f)
  · simp only [Fld.key, F.BIN_SEQ_STATUS_ctx]
    omega
  · simp only [Fld.key, F.FAB_BIN_STATUS_ctx]
    omega

theorem latStart_get_twinKept (s : State) : (latStart s).get f = s.get f :=
  foldl_view (fun t : State => t.get f) _ _ s fun t l hl => t.get_setAll_twinKept hf _ fun x hx => by
    have hl := List.mem_range.mp hl
    simp only [List.mem_cons, List.not_mem_nil, or_false] at hx
    rcases hx with rfl | rfl <;> simp only [Fld.key, F.LN_LAT_rx_base, F.LN_LAT_tx_base] <;> omega

theorem measureCfg_get_twinKept (s : State) : (measureCfg s).get f = s.get f := by
  unfold measureCfg
  extract_lets h
  refine s.get_setAll_twinKept hf _ fun x hx => ?_
  obtain ⟨i, _, rfl⟩ := List.mem_map.mp hx
  simp only [Fld.key, F.SEC_MEAS_CFG_hash]
  omega

theorem streamInForce_get_twinKept (s : State) (h : Header) : (streamInForce s h).get f = s.get f := by
  unfold streamInForce
  extract_lets s1 cfg s2
  have h1 : s1.get f = s.get f := s.get_setAll_twinKept hf _ fun x hx => by
    rcases List.mem_append.mp hx with hx | hx
    · simp only [List.mem_cons, List.not_mem_nil, or_false] at hx
      rcases hx with rfl | rfl <;> simp only [Fld.key, F.CFG_STREAM_frames, F.CFG_STREAM_VER_version] <;> omega
    · obtain ⟨i, _, rfl⟩ := List.mem_map.mp hx
      simp only [Fld.key, F.CFG_ROOT_root]
      omega
  clear_value s1
  exact (measureCfg_get_twinKept hf _).trans ((setTw_get s2 _ f).trans ((setCfg_get s1 _ f).trans h1))

theorem armTrg_get_twinKept (s : State) (i n : Nat) : (armTrg s i n).get f = s.get f := by
  unfold armTrg
  extract_lets e
  split
  · rfl
  · split
    · rfl
    · exact raise_get_twinKept hf _ _ _ _ _

theorem arbQueue_get_twinKept (s : State) (h : Header) : (arbQueue s h).get f = s.get f := by
  unfold arbQueue
  extract_lets fw st l s1
  split
  · rfl
  · unfold fuseDeferral
    split
    · rfl
    · exact raise_get_twinKept hf _ _ _ _ _

theorem closeDebug_get_twinKept (s : State) (cause : Nat) : (closeDebug s cause).get f = s.get f := by
  unfold closeDebug
  split
  · refine (raise_get_twinKept hf _ _ _ _ _).trans (State.get_setAll_twinKept hf s _ fun x hx => ?_)
    simp only [List.mem_cons, List.not_mem_nil, or_false] at hx
    rcases hx with rfl | rfl <;> exact .inr (by decide)
  · rfl

theorem gatesFollow_get_twinKept (s : State) : (gatesFollow s).get f = s.get f := by
  refine foldl_view (fun t : State => t.get f) _ _ s fun t g _ => ?_
  unfold gateFollow askClose
  split
  · exact openGate_get hf.safeFree t g
  · split
    · rfl
    · split
      · exact closeGate_get hf.safeFree t g
      · rfl

end

/-- Where the stream names no owner but the loader and no clock is held, the load ends with the run mode entered from a
state whose twin registers are those before, and with pairing where the twin is declared. -/
theorem leaveLoad_twin (s : State) (r : LoadRun) (h : Header) (howners : s.cfg.owners = []) (hheld : s.clk.held = []) :
    ∃ v : State, (∀ f : Fld, f.TwinKept → v.get f = s.get f) ∧
      ((runMode v).flag F.TW_CFG_enable = true → ∃ x, leaveLoad s r h = pairStart (setTw (runMode v) x)) := by
  unfold leaveLoad
  extract_lets slot us s1 s2 s3 s4 s5 s6 s7 s8 sec s10 s11 pins s12 v w twin tm
  refine ⟨v, fun f hf => ?_, fun he => ⟨_, if_pos he⟩⟩
  have h1 : s1 = s := by
    have hloader : ∀ g, streamOwner s g = 338 := fun g => by simp [streamOwner, howners]
    exact List.foldl_fixed' (fun g => if_pos (hloader g)) _
  have h2 : s2.get f = s.get f := by
    refine (latStart_get_twinKept hf _).trans ((staticStart_get_twinKept hf _).trans ((poolStart_get_twinKept hf _).trans
      ((clocksSet_get_twinKept hf (restLevels s1) ?_).trans ?_)))
    · rw [h1]
      exact hheld
    · rw [h1]
      rfl
  clear_value s2
  have h3 : s3.get f = s.get f := (streamInForce_get_twinKept hf s2 h).trans h2
  clear_value s3
  have h4 : s4.get f = s.get f := by
    refine (s3.get_setAll_twinKept hf _ fun x hx => ?_).trans h3
    simp only [List.mem_cons, List.not_mem_nil, or_false] at hx
    rcases hx with rfl | rfl | rfl <;>
      simp only [Fld.key, F.ADM_RESULT_in_force, F.CFG_STATUS_slot, F.CFG_LOAD_US_us] <;> omega
  clear_value s4
  have h5 : s5.get f = s.get f := (setLoad_get _ _ f).trans ((s4.get_set_twinKept hf 6 (.inr (by decide))).trans h4)
  clear_value s5
  have h6 : s6.get f = s.get f := by
    unfold s6
    split
    · exact (foldl_view (fun t : State => t.get f) _ _ s5 fun t i _ => armTrg_get_twinKept hf t i _).trans h5
    · exact h5
  clear_value s6
  have h7 : s7.get f = s.get f :=
    (arbQueue_get_twinKept hf _ h).trans ((s6.get_set_twinKept hf _ (.inl (by decide))).trans h6)
  clear_value s7
  have h8 : s8.get f = s.get f := by
    unfold s8
    split
    · exact (closeDebug_get_twinKept hf s7 2).trans h7
    · exact h7
  clear_value s8
  have h10 : s10.get f = s.get f := (setSec_get s8 _ f).trans h8
  clear_value s10
  have h11 : s11.get f = s.get f := by
    unfold s11
    split
    · exact (raise_get_twinKept hf s10 _ _ _ _).trans h10
    · exact h10
  clear_value s11
  exact (raise_get_twinKept hf s12 _ _ _ _).trans h11

/-- Where the twin is declared, the run mode is STANDBY, with the mirror's banks and the lanes after the gates. -/
theorem runMode_twin (v : State) (he : v.flag F.TW_CFG_enable = true) :
    ∃ u : State, runMode v = lanesStart (ownTwin u) ∧ ∀ f : Fld, f.TwinKept → u.get f = v.get f := by
  unfold runMode
  rw [if_pos he]
  refine ⟨_, rfl, fun f hf => (gatesFollow_get_twinKept hf _).trans ((setMode_get hf.safeFree _ _).trans
    ((State.get_set_twinKept hf _ _ (.inl (by decide))).trans (setTw_get v _ f)))⟩

/-! ### The owners of the mirror's banks (R309, R371) -/

/-- A register that holds another value than its own reset value shows it to every register at its place. -/
theorem State.get_of_key (s : State) {f g : Fld} (hkey : f.key = g.key) (h : s.get g ≠ g.reset) : s.get f = s.get g := by
  unfold State.get fread at *
  rw [hkey]
  cases hv : aget s.flds g.key with
  | none => simp [hv] at h
  | some x => rfl

theorem setOwners_get (s : State) {f : Fld} {banks : List Nat} (o : Nat)
    (h : ∀ b ∈ banks, f.key ≠ (F.LFT_BANK_OWN_owner b).key) : (setOwners s banks o).get f = s.get f :=
  foldl_view (fun t : State => t.get f) _ banks s fun t b hb => t.get_set_ne _ f o (h b hb)

theorem setOwners_bankOwner {b o : Nat} {banks : List Nat} (s : State) (hb : b ∈ banks) (ho : o < 2 ^ 10) :
    (setOwners s banks o).bankOwner b = o := by
  induction banks generalizing s with
  | nil => exact absurd hb List.not_mem_nil
  | cons x l ih =>
    by_cases hl : b ∈ l
    · exact ih (s.set (F.LFT_BANK_OWN_owner x) o) hl
    · obtain rfl : b = x := (List.mem_cons.mp hb).resolve_right hl
      refine (setOwners_get (banks := l) (s.set (F.LFT_BANK_OWN_owner b) o) o fun c hc hkey => ?_).trans
        ((State.get_set_same s _ o).trans (Nat.mod_eq_of_lt ho))
      simp only [Fld.key, F.LFT_BANK_OWN_owner] at hkey
      exact hl ((show b = c by omega) ▸ hc)

theorem groupOwner_get (s : State) {f : Fld} (g : Nat) (howner : f.key ≠ (F.LFT_GRP_OWN_owner g).key)
    (hmixed : f.key ≠ (F.LFT_GRP_OWN_mixed g).key) : (groupOwner s g).get f = s.get f :=
  (State.get_set_ne _ _ _ _ hmixed).trans (State.get_set_ne _ _ _ _ howner)

/-- The banks that the mirror takes: those of the mirrored groups and of the metadata groups. -/
def twinBanks (s : State) : List Nat := mirrorBanks s ++ banksOf (metaGroups s)

/-- Beside the owners of its groups, the mirror's taking of its banks writes what the banks' owners write. -/
theorem ownTwin_get (s : State) {f : Fld} (howner : ∀ g, f.key ≠ (F.LFT_GRP_OWN_owner g).key)
    (hmixed : ∀ g, f.key ≠ (F.LFT_GRP_OWN_mixed g).key) :
    ∃ x, (ownTwin s).get f = (setOwners (setTw s x) (twinBanks s) 337).get f := by
  unfold ownTwin
  extract_lets bs os tw s1
  exact ⟨_, foldl_view (fun t : State => t.get f) _ _ s1 fun t g _ => groupOwner_get t g (howner g) (hmixed g)⟩

theorem lanesStart_get {f : Fld} (hf : f.SafeFree) (s : State) : (lanesStart s).get f = s.get f := by
  refine foldl_view (fun t : State => t.get f) _ _ s fun t l _ => ?_
  split
  · exact laneState_get hf t l _
  · rfl

/-- Without the sideband, pairing stays in its first step. -/
theorem pairStart_get (s : State) {f : Fld} (hside : s.flag F.TW_STATUS_sideband_ok = false)
    (hstep : f.key ≠ F.TW_STATUS_pair_step.key) (hstate : f.key ≠ F.TW_STATUS_state.key) :
    (pairStart s).get f = s.get f := by
  unfold pairStart
  extract_lets tw s1 s2 s3
  have hkept : ∀ g : Fld, g.key ≠ F.TW_STATUS_pair_step.key → g.key ≠ F.TW_STATUS_state.key → s3.get g = s.get g :=
    fun g h1 h2 => (s2.get_set_ne _ g _ h2).trans ((setTw_get _ _ g).trans ((s1.get_set_ne _ g _ h1).trans (setTw_get s _ g)))
  have hside3 : s3.flag F.TW_STATUS_sideband_ok = false :=
    (State.flag_of_get (hkept _ (by decide) (by decide))).trans hside
  rw [pairStep1, if_neg (by simp [hside3])]
  exact hkept f hstep hstate

/-! ### A metadata group beyond the 32 -/

/-- The group number whose first bank's place in the row of LFT_BANK_OWN would be that of CFG_STATUS. -/
def groupAtStatus : Nat := (F.CFG_STATUS_load_state.addr - (F.LFT_BANK_OWN_owner 0).addr) / 128

/-- The stream declares twin operation, and TW_META.meta0, of 5 bits, holds `groupAtStatus`. -/
def metaBeyondGroups : State := { State.reset with flds := [(F.TW_CFG_enable.key, 1),
  (F.TW_META_meta0.key, groupAtStatus), (F.TW_META_meta_count.key, 1)] }

/-- The registers of the twin that decide the end of its load. -/
def twinRegs : List Fld := [F.TW_CFG_enable, F.TW_META_meta0, F.TW_META_meta_count, F.TW_STATUS_sideband_ok]

theorem twinRegs_key {f : Fld} (h : f ∈ twinRegs) :
    f.key = 0x500000 * 32 ∨ f.key = 0x50000c * 32 ∨ f.key = 0x50000c * 32 + 10 ∨ f.key = 0x500010 * 32 + 6 := by
  simp only [twinRegs, List.mem_cons, List.not_mem_nil, or_false] at h
  rcases h with rfl | rfl | rfl | rfl <;> decide

theorem Fld.twinKept_of_mem {f : Fld} (h : f ∈ twinRegs) : f.TwinKept := by
  have hkey := twinRegs_key h
  refine ⟨⟨Fld.quiet_of_key (by omega) (by omega) (by omega), fun g hg => ?_, fun i => ?_, fun i => ?_, fun i => ?_,
    fun i => ?_, fun i g hg => ?_, fun i g hg => ?_⟩, by omega, by omega⟩
  · have hg : g.key < 0x500000 * 32 := by
      simp only [List.mem_cons, List.not_mem_nil, or_false] at hg
      rcases hg with rfl | rfl | rfl | rfl | rfl | rfl <;> decide
    omega
  · simp only [Fld.key, F.CLK_GATE_EN_open] at hkey ⊢
    omega
  · simp only [Fld.key, F.BIN_SEQ_STATUS_state] at hkey ⊢
    omega
  · simp only [Fld.key, F.LFT_GRP_STATUS_gated] at hkey ⊢
    omega
  · simp only [Fld.key, F.LN_GRP_STATUS_up] at hkey ⊢
    omega
  · simp only [List.mem_cons, List.not_mem_nil, or_false] at hg
    rcases hg with rfl | rfl | rfl | rfl <;> simp only [Fld.key, F.LN_STATUS_state, F.LN_STATUS_link_up,
      F.LN_LINKDOWN_CNT_count, F.LN_LINKDOWN_CNT_last_cause] at hkey ⊢ <;> omega
  · simp only [List.mem_cons, List.not_mem_nil, or_false] at hg
    rcases hg with rfl | rfl | rfl | rfl <;> simp only [Fld.key, F.LFT_DMA_STATUS_busy, F.LFT_DMA_STATUS_halted,
      F.LFT_DMA_STATUS_cause, F.LFT_DMA_FAIL_ADDR_addr] at hkey ⊢ <;> omega

theorem metaGroups_beyond {u : State} (hu : ∀ f ∈ twinRegs, u.get f = metaBeyondGroups.get f) :
    metaGroups u = [groupAtStatus] := by
  have h0 : u.get F.TW_META_meta0 = groupAtStatus := (hu _ (by simp [twinRegs])).trans (by decide)
  have hn : u.get F.TW_META_meta_count = 1 := (hu _ (by simp [twinRegs])).trans (by decide)
  simp [metaGroups, h0, hn]

/-- The banks taken are banks of the device and those of `groupAtStatus`. -/
theorem twinBanks_beyond {u : State} (hu : metaGroups u = [groupAtStatus]) {b : Nat} (hb : b ∈ twinBanks u) :
    b < 1024 ∨ 32 * groupAtStatus ≤ b := by
  simp only [twinBanks, mirrorBanks, mirrorGroups, banksOf, hu, List.mem_append, List.mem_flatMap, List.mem_map,
    List.mem_filter, List.mem_range, List.mem_singleton] at hb
  rcases hb with ⟨g, ⟨hg, _⟩, k, hk, rfl⟩ | ⟨g, rfl, k, hk, rfl⟩ <;> omega

/-- The twin's registers lie apart from the owners of those banks and groups. -/
theorem ownTwin_get_twinRegs {u : State} (hu : metaGroups u = [groupAtStatus]) {f : Fld} (hf : f ∈ twinRegs) :
    (ownTwin u).get f = u.get f := by
  have hkey := twinRegs_key hf
  obtain ⟨x, hx⟩ := ownTwin_get u (f := f)
    (fun g => by simp only [Fld.key, F.LFT_GRP_OWN_owner] at hkey ⊢; omega)
    (fun g => by simp only [Fld.key, F.LFT_GRP_OWN_mixed] at hkey ⊢; omega)
  rw [hx, setOwners_get, setTw_get]
  intro b hb
  have hb := twinBanks_beyond hu hb
  have hgroup : groupAtStatus = 0x5fe0 := by decide
  simp only [Fld.key, F.LFT_BANK_OWN_owner] at hkey ⊢
  omega

/-- The load ends with 337, the twin mirror, where CFG_STATUS.load_state should hold 6. -/
theorem leaveLoad_metaBeyondGroups (r : LoadRun) (h : Header) :
    (leaveLoad metaBeyondGroups r h).get F.CFG_STATUS_load_state = 337 := by
  obtain ⟨v, hv, hleave⟩ := leaveLoad_twin metaBeyondGroups r h rfl rfl
  have hvreg : ∀ f ∈ twinRegs, v.get f = metaBeyondGroups.get f := fun f hf => hv f (Fld.twinKept_of_mem hf)
  obtain ⟨u, hu, hkept⟩ := runMode_twin v ((State.flag_of_get (hvreg _ (by simp [twinRegs]))).trans (by decide))
  have hureg : ∀ f ∈ twinRegs, u.get f = metaBeyondGroups.get f := fun f hf =>
    (hkept f (Fld.twinKept_of_mem hf)).trans (hvreg f hf)
  have hmeta := metaGroups_beyond hureg
  have hrun : ∀ f ∈ twinRegs, (runMode v).flag f = metaBeyondGroups.flag f := fun f hf => State.flag_of_get <| by
    rw [hu, lanesStart_get (Fld.twinKept_of_mem hf).safeFree, ownTwin_get_twinRegs hmeta hf, hureg f hf]
  obtain ⟨x, hx⟩ := hleave ((hrun _ (by simp [twinRegs])).trans (by decide))
  have hside : (setTw (runMode v) x).flag F.TW_STATUS_sideband_ok = false := (hrun _ (by simp [twinRegs])).trans (by decide)
  rw [hx, pairStart_get _ hside (by decide) (by decide), setTw_get, hu, lanesStart_get (Fld.safeFree_of_addr (.inl rfl) rfl)]
  obtain ⟨y, hy⟩ := ownTwin_get u (f := F.CFG_STATUS_load_state)
    (fun g => by simp only [Fld.key, F.CFG_STATUS_load_state, F.LFT_GRP_OWN_owner]; omega)
    (fun g => by simp only [Fld.key, F.CFG_STATUS_load_state, F.LFT_GRP_OWN_mixed]; omega)
  have hbank : (setOwners (setTw u y) (twinBanks u) 337).bankOwner (32 * groupAtStatus) = 337 := by
    refine setOwners_bankOwner _ (List.mem_append_right _ ?_) (by decide)
    simp [banksOf, hmeta]
  rw [hy, State.get_of_key _ (g := F.LFT_BANK_OWN_owner (32 * groupAtStatus)) (by decide)]
  · exact hbank
  · rw [← State.bankOwner, hbank]
    decide

/-- Refutes O42: every load is said to end with CFG_STATUS.load_state 6. In `metaBeyondGroups` TW_META names a metadata
group beyond the 32, and the place of its first bank's owner, which the twin mirror takes, is that of CFG_STATUS. -/
theorem not_loadEnds : ¬ Obligations.LoadEnds := by
  unfold Obligations.LoadEnds
  intro h
  obtain ⟨_, _, _, _, hend⟩ := h metaBeyondGroups ⟨[], []⟩ (by decide)
  obtain ⟨_, _, hstate, _⟩ := hend ⟨none, false, 0, 1, 0, [], 0, false, 0, []⟩ ⟨[]⟩
  rw [leaveLoad_metaBeyondGroups] at hstate
  exact absurd hstate (by decide)

end Sys2Proof.Machine
end

section
/-! The power and thermal family (O21): the thermal level below critical. -/

namespace Sys2Proof.Machine

/-! ### Events with a ledger entry (R475, R476, R440) -/

theorem raiseLed_get (s : State) (f : Fld) (crit : Bool) (extra : List Nat) (a b c d : Nat) (hf : f.key ∉ evKeys) :
    (raiseLed s crit extra a b c d).get f = s.get f := raiseLed_blind (EvBlind.get f hf) s crit extra a b c d

/-- Raising an event takes no record out of the event unit's queue. -/
theorem raiseLed_countP_le {p : EvRec → Bool} (hp : ∀ (r : EvRec) n, p { r with seq := n } = p r) (s : State)
    (crit : Bool) (extra : List Nat) (a b c d : Nat) :
    s.ev.inq.countP p ≤ (raiseLed s crit extra a b c d).ev.inq.countP p := by
  unfold raiseLed
  extract_lets r crit' r' s'
  split
  · split
    · exact ledEnqueue_countP_le hp s _
    · exact le_rfl
  · split
    · exact (evIn_countP_le hp s r).trans (ledEnqueue_countP_le hp s' _)
    · exact evIn_countP_le hp s r

theorem raiseLed_records_le (s : State) (crit : Bool) (extra : List Nat) (a b c d a' b' c' d' : Nat) :
    s.records a' b' c' d' ≤ (raiseLed s crit extra a b c d).records a' b' c' d' :=
  raiseLed_countP_le (p := EvRec.says a' b' c' d') (fun _ _ => rfl) s crit extra a b c d

/-- A minor event outside WARM brings its record and no more. -/
theorem raise_minor_evRoom {s : State} {n : Nat} (a b c d : Nat) (hc : c < 5) (h : s.evRoom (n + 1)) :
    (raise s a b c d).evRoom n := by
  obtain ⟨hw, hroom⟩ := h
  have hraise : raise s a b c d = evIn s ⟨s.fpStamp, a, b, c, 0, d % 2 ^ 32⟩ := by
    have h7 : c ≠ 7 := by omega
    have h5 : ¬ 5 ≤ c := by omega
    simp [raise, raiseCrit, raiseLed, hw, h7, h5]
  have hin := evIn_countP (p := fun _ => true) (fun _ _ => rfl) (s := s) ⟨s.fpStamp, a, b, c, 0, d % 2 ^ 32⟩ (by omega)
  rw [List.countP_true, if_pos rfl, ← hraise] at hin
  exact ⟨(raise_warm s a b c d).trans hw, by omega⟩

/-! ### The level (R216) -/

section
variable {s : State}

/-- The level events write no register that the thermal manager reads. -/
theorem preshut_get (s : State) (f : Fld) (hf : f.key ∉ evKeys) : (preshut s).get f = s.get f := by
  unfold preshut
  split
  · rfl
  · rw [raiseLed_get _ _ _ _ _ _ _ _ hf]
    rfl

theorem preshut_records_le (s : State) (a b c d : Nat) : s.records a b c d ≤ (preshut s).records a b c d := by
  unfold preshut
  split
  · exact le_rfl
  · exact raiseLed_records_le (setThm s { s.thm with preshutAt := some s.now, preshutDue := true }) _ _ _ _ _ _ _ _ _ _

/-- A rise leaves the level at the threshold reached. -/
theorem riseTo_level {n : Nat} (h : s.get F.THM_STATUS_level < n) (hn : n ≤ 2) :
    (riseTo s n).get F.THM_STATUS_level = n := by
  have hkey : F.THM_STATUS_level.key ∉ evKeys := by decide
  unfold riseTo
  extract_lets l s1 s2
  have h1 : s1.get F.THM_STATUS_level = n := by
    simp only [s1, l, if_pos h, State.get_set_same]
    exact Nat.mod_eq_of_lt (by simp [F.THM_STATUS_level]; omega)
  have h2 : s2.get F.THM_STATUS_level = n := by
    unfold s2
    split
    · rw [raise_get _ _ _ _ _ _ hkey, h1]
    · exact h1
  split
  · rw [preshut_get _ _ hkey, raise_get _ _ _ _ _ _ hkey, h2]
  · exact h2

theorem hotData_of_get {t : State} (hhot : t.get F.THM_HOT_t_hot = s.get F.THM_HOT_t_hot)
    (hdie : t.get F.THM_HOT_die = s.get F.THM_HOT_die) : hotData t = hotData s := by
  rw [hotData, hotData, hhot, hdie]

/-- A rise from normal to throttle reports both thresholds. -/
theorem riseTo_two_reports (hroom : s.evRoom 4) (hlevel : s.get F.THM_STATUS_level = 0) :
    reports s (riseTo s 2) 1018 1 4 (hotData s) ∧ reports s (riseTo s 2) 1018 2 5 (hotData s) := by
  let s1 := s.set F.THM_STATUS_level 2
  let s2 := raise s1 1018 1 4 (hotData s1)
  have hrise : riseTo s 2 = preshut (raise s2 1018 2 5 (hotData s2)) := by
    simp [riseTo, hlevel, s2, s1]
  have h1 : hotData s1 = hotData s :=
    hotData_of_get (State.get_set_ne _ _ _ _ (by decide)) (State.get_set_ne _ _ _ _ (by decide))
  have h2 : hotData s2 = hotData s :=
    (hotData_of_get (raise_get _ _ _ _ _ _ (by decide)) (raise_get _ _ _ _ _ _ (by decide))).trans h1
  have hroom1 : s1.evRoom 4 := hroom
  have hroom2 : s2.evRoom 3 := raise_minor_evRoom _ _ _ _ (by decide) hroom1
  have hwarn : reports s s2 1018 1 4 (hotData s) := by
    rw [← h1]
    exact raise_reports (s := s1) _ _ _ _ ⟨hroom1.1, by have := hroom1.2; omega⟩
  have hthrottle : reports s2 (raise s2 1018 2 5 (hotData s2)) 1018 2 5 (hotData s) := by
    rw [h2]
    exact raise_reports _ _ _ _ ⟨hroom2.1, by have := hroom2.2; omega⟩
  rw [hrise]
  exact ⟨hwarn.trans_le ((raiseLed_records_le _ _ _ _ _ _ _ _ _ _ _).trans (preshut_records_le _ _ _ _ _)),
    (Nat.lt_of_le_of_lt (raiseLed_records_le s1 _ _ _ _ _ _ _ _ _ _) hthrottle).trans_le (preshut_records_le _ _ _ _ _)⟩

theorem reached_le_two (s : State) (t : Int) : reached s t ≤ 2 := by
  unfold reached
  split
  · exact le_rfl
  · split <;> decide

/-- Below critical the level rises to the threshold reached. -/
theorem levelFollow_rise (hlevel : s.get F.THM_STATUS_level ≤ 2) (h : s.get F.THM_STATUS_level < reached s (tHot s)) :
    levelFollow s = riseTo s (reached s (tHot s)) := by
  unfold levelFollow
  dsimp only
  rw [if_neg (by omega), if_pos h]

/-- Where no higher threshold is reached the level stays, or falls with THM_LEVEL_CLEAR. -/
theorem levelFollow_fall {n : Nat} (hlevel : s.get F.THM_STATUS_level ≤ 2)
    (h : reached s (tHot s) ≤ s.get F.THM_STATUS_level) (hn : fallFrom s (tHot s) (s.get F.THM_STATUS_level) = n) :
    levelFollow s =
      if n < s.get F.THM_STATUS_level then raise (s.set F.THM_STATUS_level n) 1018 5 3 n else s := by
  unfold levelFollow
  dsimp only
  rw [if_neg (by omega), if_neg (by omega), hn]

theorem fallFrom_le (s : State) (t : Int) (n : Nat) : fallFrom s t n ≤ n := by
  induction n with
  | zero => exact le_rfl
  | succ n ih =>
    unfold fallFrom
    split
    · omega
    · exact le_rfl

theorem fallen_level {n : Nat} (hn : n ≤ 2) :
    (raise (s.set F.THM_STATUS_level n) 1018 5 3 n).get F.THM_STATUS_level = n := by
  rw [raise_get _ _ _ _ _ _ (by decide), State.get_set_same]
  exact Nat.mod_eq_of_lt (by simp [F.THM_STATUS_level]; omega)

/-- The level after a sample is what is reached, or what hysteresis leaves of the level before. -/
theorem levelFollow_level (hlevel : s.get F.THM_STATUS_level ≤ 2) : (levelFollow s).get F.THM_STATUS_level =
    if s.get F.THM_STATUS_level < reached s (tHot s) then reached s (tHot s)
    else fallFrom s (tHot s) (s.get F.THM_STATUS_level) := by
  have hle := fallFrom_le s (tHot s) (s.get F.THM_STATUS_level)
  split
  · next h => rw [levelFollow_rise hlevel h, riseTo_level h (reached_le_two _ _)]
  · next h =>
    rw [levelFollow_fall hlevel (Nat.le_of_not_lt h) rfl]
    split
    · exact fallen_level (by omega)
    · omega

theorem hyst_nonneg (s : State) : 0 ≤ hyst s := by
  unfold hyst
  omega

/-- A fall is reported with the level it ends at. -/
theorem levelFollow_fall_reports (hroom : s.evRoom 1) (hlevel : s.get F.THM_STATUS_level ≤ 2)
    (h : (levelFollow s).get F.THM_STATUS_level < s.get F.THM_STATUS_level) :
    reports s (levelFollow s) 1018 5 3 ((levelFollow s).get F.THM_STATUS_level) := by
  have hlow : reached s (tHot s) ≤ s.get F.THM_STATUS_level := by
    by_contra hup
    rw [levelFollow_level hlevel, if_pos (by omega)] at h
    omega
  have hn : fallFrom s (tHot s) (s.get F.THM_STATUS_level) = (levelFollow s).get F.THM_STATUS_level := by
    rw [levelFollow_level hlevel, if_neg (by omega)]
  have hfall := levelFollow_fall hlevel hlow hn
  rw [if_pos h] at hfall
  generalize (levelFollow s).get F.THM_STATUS_level = n at hfall ⊢
  rw [hfall]
  exact raise_reports (s := s.set F.THM_STATUS_level n) _ _ _ _ hroom

end

/-- Settles O21: the level is what is reached, or what hysteresis leaves of the level before, and the events are those
of the rise and of the fall. -/
theorem thermalLevels : Obligations.ThermalLevels := by
  unfold Obligations.ThermalLevels
  intro s hlevel horder
  refine ⟨?_, fun hroom h0 hhot => ?_, fun hroom hfall => levelFollow_fall_reports hroom hlevel hfall⟩
  · have hhyst := hyst_nonneg s
    rw [levelFollow_level hlevel]
    generalize s.get F.THM_STATUS_level = l at hlevel
    unfold reached
    obtain rfl | rfl | rfl : l = 0 ∨ l = 1 ∨ l = 2 := by omega
    all_goals
      simp only [fallFrom, Nat.zero_add, Nat.reduceAdd, Nat.reduceEqDiff, true_and, false_and, or_false]
      split_ifs <;> omega
  · have hreached : reached s (tHot s) = 2 := if_pos hhot
    rw [levelFollow_rise hlevel (by omega), hreached]
    exact riseTo_two_reports hroom h0

end Sys2Proof.Machine
end

section
/-! The power and thermal family (O23, O24): what gates, lanes and bins leave of the thermal record, and the hardware
shutdown. -/

namespace Sys2Proof.Machine

/-! ### What gates, lanes and bins leave (R94, R95, R97, R152, R257) -/

/-- From `s` to `t` the thermal record, the entries that are shed and THERM_N stay, and a twin heartbeat that is stopped
is not begun again. -/
structure KeepsThermal (s t : State) : Prop where
  thm : t.thm = s.thm
  shedThm : t.shedThm = s.shedThm
  shedCov : t.shedCov = s.shedCov
  thermN : t.pins.thermN = s.pins.thermN
  heartbeat : s.pins.twHbOut = false → t.pins.twHbOut = false

namespace KeepsThermal

theorem refl (s : State) : KeepsThermal s s := ⟨rfl, rfl, rfl, rfl, id⟩

variable {s t u : State}

theorem trans (h : KeepsThermal s t) (h' : KeepsThermal t u) : KeepsThermal s u :=
  ⟨h'.thm.trans h.thm, h'.shedThm.trans h.shedThm, h'.shedCov.trans h.shedCov, h'.thermN.trans h.thermN,
    fun hb => h'.heartbeat (h.heartbeat hb)⟩

theorem foldl {β : Type} (f : State → β → State) (l : List β) (s : State) (h : ∀ t, ∀ x ∈ l, KeepsThermal t (f t x)) :
    KeepsThermal s (l.foldl f s) := by
  induction l generalizing s with
  | nil => exact refl s
  | cons x l ih =>
    exact (h s x List.mem_cons_self).trans (ih _ fun t y hy => h t y (List.mem_cons_of_mem x hy))

/-- Of a choice of two continuations. -/
theorem ite {c : Prop} [Decidable c] {v : State} (h : c → KeepsThermal s u) (h' : ¬ c → KeepsThermal s v) :
    KeepsThermal s (if c then u else v) := by
  split
  · next hc => exact h hc
  · next hc => exact h' hc

/-- Register writes touch none of it. -/
theorem set (f : Fld) (v : Nat) (h : KeepsThermal s t) : KeepsThermal s (t.set f v) := h.trans ⟨rfl, rfl, rfl, rfl, id⟩

theorem setAll (l : List (Fld × Nat)) (h : KeepsThermal s t) : KeepsThermal s (t.setAll l) :=
  h.trans (foldl _ l t fun u x _ => (refl u).set x.1 x.2)

theorem raise (a b c d : Nat) (h : KeepsThermal s t) : KeepsThermal s (raise t a b c d) :=
  h.trans ⟨by simp, by simp, by simp, by simp, by simp⟩

theorem setBin (p : Nat) (b : BinRun) (h : KeepsThermal s t) : KeepsThermal s (setBin t p b) :=
  h.trans ⟨rfl, rfl, rfl, rfl, id⟩

end KeepsThermal

open KeepsThermal

/-! The twin and the time base. -/

theorem declareFault_keepsThermal (s : State) (row : Nat) : KeepsThermal s (declareFault s row) := by
  unfold declareFault
  refine KeepsThermal.ite (fun _ => ?_) fun _ => refl s
  refine KeepsThermal.raise _ _ _ _ (KeepsThermal.trans ?_ (foldl _ _ _ fun _ _ _ => ⟨rfl, rfl, rfl, rfl, id⟩))
  exact ⟨rfl, rfl, rfl, rfl, fun _ => rfl⟩

theorem markDirty_keepsThermal (s : State) (a : Nat) : KeepsThermal s (markDirty s a) :=
  KeepsThermal.ite (fun _ => refl s) fun _ => ⟨rfl, rfl, rfl, rfl, id⟩

theorem setTb_keepsThermal (s : State) (n : Nat) : KeepsThermal s (setTb s n) := by
  unfold setTb
  extract_lets o _ _ s1 s2
  have h2 : KeepsThermal s s2 := KeepsThermal.raise _ _ _ _ <|
    KeepsThermal.trans (KeepsThermal.set (t := s1) _ _ ⟨rfl, rfl, rfl, rfl, id⟩) (markDirty_keepsThermal _ _)
  exact KeepsThermal.ite (fun _ => refl s) fun _ =>
    KeepsThermal.ite (fun _ => h2.trans (declareFault_keepsThermal s2 4)) fun _ => h2

theorem refLost_syncE_keepsThermal (s : State) (reason : Nat) : KeepsThermal s (refLost s 3 reason) := by
  unfold refLost
  extract_lets s1 s2 _ s4 s5 s6
  have h6 : KeepsThermal s s6 := by
    have he : s6 = s2 := by simp [s6, s5, s4]
    rw [he]
    exact KeepsThermal.set _ _ (KeepsThermal.raise _ _ _ _ (KeepsThermal.set _ _ (refl s)))
  exact KeepsThermal.ite (fun _ => refl s) fun _ =>
    h6.trans (KeepsThermal.ite (fun _ => setTb_keepsThermal s6 _) fun _ => refl s6)

/-! Lanes and gates. -/

theorem laneState_keepsThermal (s : State) (l st : Nat) : KeepsThermal s (laneState s l st) := ⟨rfl, rfl, rfl, rfl, id⟩

theorem laneLeave_keepsThermal (s : State) (l cause st : Nat) : KeepsThermal s (laneLeave s l cause st) := by
  unfold laneLeave
  extract_lets was s1 _ s2 g s3 s4 s5 s6
  have h2 : KeepsThermal s s2 := ⟨rfl, rfl, rfl, rfl, id⟩
  have h6 : KeepsThermal s s6 :=
    KeepsThermal.ite (fun _ => KeepsThermal.raise _ _ _ _ (h2.trans ⟨rfl, rfl, rfl, rfl, id⟩)) fun _ => h2
  exact KeepsThermal.ite (fun _ => h6.trans (refLost_syncE_keepsThermal s6 6)) fun _ => h6

theorem groupLanesOff_keepsThermal (s : State) (g : Nat) : KeepsThermal s (groupLanesOff s g) :=
  foldl _ _ s fun t l _ => KeepsThermal.ite (fun _ => laneLeave_keepsThermal t l _ _) fun _ => refl t

theorem groupLanesOn_keepsThermal (s : State) (g : Nat) : KeepsThermal s (groupLanesOn s g) :=
  foldl _ _ s fun t l _ => KeepsThermal.ite (fun _ => laneState_keepsThermal t l _) fun _ => refl t

theorem binAwake_keepsThermal (s : State) (p : Nat) : KeepsThermal s (binAwake s p) :=
  KeepsThermal.ite (fun _ => refl s) fun _ => KeepsThermal.ite (fun _ => refl s) fun _ =>
    KeepsThermal.ite (fun _ => refl s) fun _ => ⟨rfl, rfl, rfl, rfl, id⟩

theorem closeGate_keepsThermal (s : State) (g : Nat) : KeepsThermal s (closeGate s g) := by
  unfold closeGate
  extract_lets _ s1 s2
  have h2 : KeepsThermal s s2 := ⟨rfl, rfl, rfl, rfl, id⟩
  exact KeepsThermal.ite (fun _ => h2.set _ _) fun _ =>
    KeepsThermal.ite (fun _ => h2.trans (groupLanesOff_keepsThermal s2 _)) fun _ =>
      KeepsThermal.ite (fun _ => h2.set _ _) fun _ => h2

theorem openGate_keepsThermal (s : State) (g : Nat) : KeepsThermal s (openGate s g) := by
  unfold openGate
  extract_lets _ s1 s2
  have h2 : KeepsThermal s s2 := ⟨rfl, rfl, rfl, rfl, id⟩
  exact KeepsThermal.ite (fun _ => ⟨rfl, rfl, rfl, rfl, id⟩) fun _ =>
    KeepsThermal.ite (fun _ => h2.trans (binAwake_keepsThermal s2 g)) fun _ =>
      KeepsThermal.ite (fun _ => h2.trans (groupLanesOn_keepsThermal s2 _)) fun _ =>
        KeepsThermal.ite (fun _ => h2.set _ _) fun _ => h2

theorem askClose_keepsThermal (s : State) (g : Nat) : KeepsThermal s (askClose s g) :=
  KeepsThermal.ite (fun _ => refl s) fun _ =>
    KeepsThermal.ite (fun _ => closeGate_keepsThermal s g) fun _ => ⟨rfl, rfl, rfl, rfl, id⟩

theorem gateFollow_keepsThermal (s : State) (g : Nat) : KeepsThermal s (gateFollow s g) :=
  KeepsThermal.ite (fun _ => openGate_keepsThermal s g) fun _ => askClose_keepsThermal s g

theorem dmaHalt_keepsThermal (s : State) (c cause a : Nat) : KeepsThermal s (dmaHalt s c cause a) :=
  KeepsThermal.raise _ _ _ _ (KeepsThermal.setAll _ ⟨rfl, rfl, rfl, rfl, id⟩)

theorem terminateAll_keepsThermal (s : State) (g : Nat) : KeepsThermal s (terminateAll s g) := by
  unfold terminateAll
  split
  · extract_lets h s1
    have h1 : KeepsThermal s s1 := foldl _ _ s fun _ _ _ => ⟨rfl, rfl, rfl, rfl, id⟩
    exact h1.trans (foldl _ _ s1 fun _ _ _ => ⟨rfl, rfl, rfl, rfl, id⟩)
  · exact KeepsThermal.ite (fun _ => foldl _ _ s fun t d _ => dmaHalt_keepsThermal t _ _ _) fun _ => refl s

theorem gatesForce_keepsThermal (s : State) : KeepsThermal s (gatesForce s) :=
  foldl _ _ s fun t g _ => KeepsThermal.ite (fun _ => openGate_keepsThermal t g) fun _ =>
    KeepsThermal.ite (fun _ => (terminateAll_keepsThermal t g).trans (closeGate_keepsThermal _ g)) fun _ => refl t

/-! Bins and their items. -/

theorem gateRecheck_keepsThermal (s : State) (p : Nat) : KeepsThermal s (gateRecheck s p) :=
  KeepsThermal.ite (fun _ => closeGate_keepsThermal s p) fun _ => refl s

theorem slotFree_keepsThermal (s : State) (p k : Nat) : KeepsThermal s (slotFree s p k) := by
  refine KeepsThermal.trans ?_ (gateRecheck_keepsThermal _ p)
  exact ⟨rfl, rfl, rfl, rfl, id⟩

theorem unbind_keepsThermal (s : State) (i : Item) : KeepsThermal s (unbind s i) :=
  KeepsThermal.trans (t := setItem s { i with st := .waiting, holdRes := 0, holdSh := 0 }) ⟨rfl, rfl, rfl, rfl, id⟩ <|
    KeepsThermal.ite (fun _ => slotFree_keepsThermal _ _ _) fun _ => ⟨rfl, rfl, rfl, rfl, id⟩

theorem unbindAll_keepsThermal (s : State) (p : Nat) : KeepsThermal s (unbindAll s p) :=
  foldl _ _ s fun t i _ => unbind_keepsThermal t i

theorem toggleGen_keepsThermal (s : State) (p : Nat) : KeepsThermal s (toggleGen s p) := ⟨rfl, rfl, rfl, rfl, id⟩

theorem countRaise_keepsThermal (s : State) (f : Fld) (a b c d : Nat) : KeepsThermal s (countRaise s f a b c d) :=
  KeepsThermal.ite (fun _ => ⟨rfl, rfl, rfl, rfl, id⟩) fun _ => KeepsThermal.raise _ _ _ _ ⟨rfl, rfl, rfl, rfl, id⟩

theorem dropItemEntry_keepsThermal (s : State) (n : Nat) : KeepsThermal s (dropItemEntry s n) := ⟨rfl, rfl, rfl, rfl, id⟩

theorem reissue_keepsThermal (s : State) (i : Item) : KeepsThermal s (reissue s i) :=
  KeepsThermal.ite
    (fun _ => KeepsThermal.trans (dropItemEntry_keepsThermal s i.id) (countRaise_keepsThermal _ _ _ _ _ _))
    fun _ => KeepsThermal.trans (t := setItem s { i with st := .waiting, reissue := true, holdRes := 0, holdSh := 0 })
      ⟨rfl, rfl, rfl, rfl, id⟩ (countRaise_keepsThermal _ _ _ _ _ _)

theorem loadPause_keepsThermal (s : State) (p : Nat) (i : Item) : KeepsThermal s (loadPause s p i) :=
  KeepsThermal.ite (fun _ => refl s) fun _ => ⟨rfl, rfl, rfl, rfl, id⟩

theorem addRunTk_keepsThermal (s : State) (p n : Nat) : KeepsThermal s (addRunTk s p n) :=
  ((refl s).set (F.BIN_RUN_TK_LO_ticks_lo p) _).set (F.BIN_RUN_TK_HI_ticks_hi p) _

theorem killItem_keepsThermal (s : State) (p : Nat) (i : Item) (reason : Nat) :
    KeepsThermal s (killItem s p i reason) := by
  unfold killItem
  extract_lets b s1 s2 s3 b' s4 s5 s6 s7 s8
  have h2 : KeepsThermal s s2 := KeepsThermal.setAll _ ((addRunTk_keepsThermal s p _).set _ _)
  have h3 : KeepsThermal s s3 := h2.raise _ _ _ _
  have h6 : KeepsThermal s3 s6 := (((refl s3).setBin _ _).trans (toggleGen_keepsThermal s4 p)).set _ _
  have h7 : KeepsThermal s6 s7 := loadPause_keepsThermal _ _ _
  have h8 : KeepsThermal s s8 := ((h3.trans h6).trans h7).trans (slotFree_keepsThermal _ _ _)
  exact KeepsThermal.ite (fun _ => h8.trans (reissue_keepsThermal _ _)) fun _ => h8.trans (dropItemEntry_keepsThermal s8 i.id)

theorem killRun_keepsThermal (s : State) (p : Nat) : KeepsThermal s (killRun s p) := by
  unfold killRun
  split
  · exact killItem_keepsThermal s p _ 2
  · exact refl s

theorem binResetQuiet_keepsThermal (s : State) (p : Nat) : KeepsThermal s (binResetQuiet s p) := by
  obtain ⟨c, hc⟩ := binResetQuiet_eq s p
  have hcleared : KeepsThermal s (binResetCleared s p) := by
    unfold binResetCleared
    extract_lets s1 s2
    have h2 : KeepsThermal s s2 := KeepsThermal.setAll _ <|
      KeepsThermal.trans (t := s1) ⟨rfl, rfl, rfl, rfl, id⟩ <|
        KeepsThermal.ite (fun _ => killRun_keepsThermal s1 p) fun _ => toggleGen_keepsThermal s1 p
    exact KeepsThermal.ite (fun _ => h2.set _ _) fun _ => h2
  rw [hc]
  exact KeepsThermal.setBin _ _ (hcleared.setBin _ _)

theorem shelvesOff_keepsThermal (s : State) : KeepsThermal s (shelvesOff s) := by
  unfold shelvesOff
  extract_lets s1 _ s2
  have h1 : KeepsThermal s s1 := foldl _ _ s fun t p _ => binResetQuiet_keepsThermal t p
  clear_value s1
  refine (h1.trans (u := s2) ⟨rfl, rfl, rfl, rfl, id⟩).trans (foldl _ _ s2 fun t p _ => ?_)
  refine KeepsThermal.trans ?_ (closeGate_keepsThermal _ p)
  exact ⟨rfl, rfl, rfl, rfl, id⟩

theorem shelvesCut_keepsThermal (s : State) : KeepsThermal s (shelvesCut s) :=
  (foldl _ _ s fun t p _ => (binResetQuiet_keepsThermal t p).trans (unbindAll_keepsThermal _ p)).trans
    (shelvesOff_keepsThermal _)

theorem groupOff_keepsThermal (s : State) (g : Nat) : KeepsThermal s (groupOff s g) := ⟨rfl, rfl, rfl, rfl, id⟩

/-! ### The hardware shutdown (R228, R229) -/

theorem State.mode_of_holds {s t : State} {m : Holds} (h : t.holds = m) (hm : m.mode = s.mode) : t.mode = s.mode :=
  (congrArg Holds.mode h).trans hm

theorem binResetQuiet_mode (s : State) {p : Nat} (hp : p < 264) : (binResetQuiet s p).mode = s.mode :=
  State.mode_of_holds (binResetQuiet_holds s p hp) rfl

theorem unbindAll_mode (s : State) {p : Nat} (hp : p < 264) : (unbindAll s p).mode = s.mode :=
  State.mode_of_holds (unbindAll_holds s p hp) rfl

theorem setSlot_mode (s : State) (p k st : Nat) : (setSlot s p k st).mode = s.mode :=
  State.mode_of_holds (setSlot_holds s p k st) rfl

theorem closeGate_mode (s : State) {p : Nat} (hp : p < 264) : (closeGate s p).mode = s.mode :=
  State.mode_of_holds (closeGate_holds s p hp) rfl

theorem lt_of_mem_staticBins {s : State} {p : Nat} (hp : p ∈ staticBins s) : p < 264 :=
  List.mem_range.1 (List.mem_filter.1 hp).1

/-- Shelf logic is switched off without a change of the mode. -/
theorem shelvesOff_mode (s : State) : (shelvesOff s).mode = s.mode := by
  have h1 : ((staticBins s).foldl binResetQuiet s).mode = s.mode :=
    foldl_view State.mode binResetQuiet (staticBins s) s fun t p hp => binResetQuiet_mode t (lt_of_mem_staticBins hp)
  have hrange : ∀ p ∈ List.range 264, p < 264 := fun p hp => List.mem_range.1 hp
  unfold shelvesOff
  generalize List.range 264 = bins at hrange
  generalize (staticBins s).foldl binResetQuiet s = s1 at h1
  extract_lets _ _ s2
  refine (foldl_view State.mode _ bins s2 fun t p hp => ?_).trans h1
  exact (closeGate_mode _ (hrange p hp)).trans ((setSlot_mode _ p 1 0).trans (setSlot_mode t p 0 0))

/-- The power of the shelves goes without a change of the mode. -/
theorem shelvesCut_mode (s : State) : (shelvesCut s).mode = s.mode := by
  refine (shelvesOff_mode _).trans (foldl_view State.mode _ _ s fun t p hp => ?_)
  exact (unbindAll_mode _ (List.mem_range.1 hp)).trans (binResetQuiet_mode t (List.mem_range.1 hp))

theorem State.mode_of_safeView {t : State} {v : SafeView} (h : t.safeView = v) : t.mode = v.mode :=
  congrArg SafeView.mode h

theorem toSafe_mode (s : State) (thermal : Bool) : (toSafe s thermal).mode = Mode.safe :=
  State.mode_of_safeView (toSafe_safeView s thermal)

theorem settle_mode (s : State) : (settle s).mode = s.mode := settle_get s _ (by decide) (by decide)

theorem settle_thermal (s : State) :
    (settle s).pins.twHbOut = s.pins.twHbOut ∧ (settle s).pins.thermN = s.pins.thermN := by
  simp [settle]

theorem groupOff_mode (s : State) (g : Nat) : (groupOff s g).mode = s.mode :=
  s.get_set_ne (F.LFT_GRP_STATUS_power g) F.RST_MODE_mode 0 (Fld.key_ne_mode _ (Nat.lt_add_right _ (by decide))).symm

/-- An entry to SAFE by heat stops the heartbeat, asserts THERM_N and leaves the latched record. -/
theorem enterSafe_thermal (s : State) : (enterSafe s true).pins.twHbOut = false ∧ (enterSafe s true).pins.thermN = false
    ∧ (enterSafe s true).thm.latch = s.thm.latch := by
  unfold enterSafe setMode
  extract_lets s1 _ s2 _ s3 t
  split
  · exact ⟨rfl, Bool.and_false _, rfl⟩
  · rw [raise_pins, raise_thm]
    exact ⟨rfl, Bool.and_false _, rfl⟩

section
variable (s : State) (temp : Int) (die region sensor path : Nat)

theorem shutdown_mode : (shutdown s temp die region sensor path).mode = Mode.safe := by
  unfold shutdown
  extract_lets s1 _ s2 s3
  have h2 : s2.mode = Mode.safe := toSafe_mode _ true
  clear_value s2
  have h3 : s3.mode = s2.mode :=
    (foldl_view State.mode groupOff (List.range 32) (shelvesCut s2) fun t g _ => groupOff_mode t g).trans
      (shelvesCut_mode s2)
  clear_value s3
  exact (foldl_view State.mode groupLanesOff (List.range 16) s3 fun t g _ =>
    State.mode_of_safeView (groupLanesOff_safeView t g)).trans (h3.trans h2)

theorem shutdown_thermal : (shutdown s temp die region sensor path).pins.twHbOut = false
    ∧ (shutdown s temp die region sensor path).pins.thermN = false
    ∧ (shutdown s temp die region sensor path).thm.latch = (latchTrip s temp die region sensor path).thm.latch := by
  unfold shutdown
  generalize latchTrip s temp die region sensor path = s1
  extract_lets _ _ s2 s3
  obtain ⟨hheart, hpin, hlatch⟩ := enterSafe_thermal { s1 with cfg := { s1.cfg with load := none } }
  have h2 : KeepsThermal (enterSafe { s1 with cfg := { s1.cfg with load := none } } true) s2 :=
    gatesForce_keepsThermal _
  clear_value s2
  have h3 : KeepsThermal s2 s3 := (shelvesCut_keepsThermal s2).trans <|
    foldl groupOff (List.range 32) (shelvesCut s2) fun t g _ => groupOff_keepsThermal t g
  clear_value s3
  have hkept := (h2.trans h3).trans <|
    foldl groupLanesOff (List.range 16) s3 fun t g _ => groupLanesOff_keepsThermal t g
  exact ⟨hkept.heartbeat hheart, hkept.thermN.trans hpin, (congrArg Thermal.latch hkept.thm).trans hlatch⟩

end

/-- The comparator of a valid sensor trips at the corrected threshold. -/
theorem exec_trip {s : State} {n : Nat} {temp u : Int} (hn : n < 160) (hlo : -32768 ≤ temp) (hhi : temp < 32768)
    (hu : u = temp + toInt 8 (s.get (F.THM_SENSOR_offset n))) :
    exec (.shutdownComparatorTrip n temp) s = .next (settle (if sensorValid s n = true ∧ thresh s 4 ≤ u
      then shutdown s u (sensorDie n) (sensorRegion n) n 0 else s)) := by
  refine exec_next rfl (by simp [Instr.wf, hn, hlo, hhi]) ?_
  rw [← hu]
  simp only [Bool.and_eq_true, decide_eq_true_eq]

/-- A further trip is counted in the latched record. -/
theorem latchTrip_again {s : State} (hv : latchValid s = true) (temp : Int) (die region sensor path : Nat) :
    (latchTrip s temp die region sensor path).thm.latch = [s.thm.latch.getD 0 0, s.thm.latch.getD 1 0,
      s.thm.latch.getD 2 0, s.thm.latch.getD 3 0 / 256 * 256 + min 255 (s.thm.latch.getD 3 0 % 256 + 1)] := by
  unfold latchTrip
  rw [if_pos hv]
  rfl

/-- Settles O23: a trip is the shutdown above where its sensor is valid and hot, and nothing elsewhere. -/
theorem thermalShutdown : Obligations.ThermalShutdown := by
  unfold Obligations.ThermalShutdown
  intro s n temp hn hlo hhi
  refine ⟨fun u hu => ⟨fun hvalid hhot => ?_, fun hcold => ?_⟩, fun hvalid hlen => ?_⟩
  · have hexec := exec_trip (s := s) hn hlo hhi hu
    rw [if_pos ⟨hvalid, hhot⟩] at hexec
    obtain ⟨hheart, hpin, hlatch⟩ := shutdown_thermal s u (sensorDie n) (sensorRegion n) n 0
    have hmode := shutdown_mode s u (sensorDie n) (sensorRegion n) n 0
    generalize shutdown s u (sensorDie n) (sensorRegion n) n 0 = t at hexec hheart hpin hlatch hmode
    obtain ⟨hheart', hpin'⟩ := settle_thermal t
    refine ⟨_, hexec, (settle_mode t).trans hmode, hpin'.trans hpin, ?_, hheart'.trans hheart, ?_⟩
    · simp [settle_outputsSafe, safeOutputs, hmode]
    · rw [settle_thm, hlatch]
  · have hcase : ¬ (sensorValid s n = true ∧ thresh s 4 ≤ u) := by
      rcases hcold with h | h <;> simp [h]
    rw [exec_trip hn hlo hhi hu, if_neg hcase]
  · obtain ⟨a, b, c, d, hl⟩ : ∃ a b c d, s.thm.latch = [a, b, c, d] := List.length_eq_four.1 hlen
    rw [latchTrip_again hvalid]
    simp [hl]

end Sys2Proof.Machine
end

section
/-! The power and thermal family (O24): shedding and restoring. -/

namespace Sys2Proof.Machine

/-! ### The wait for a step (R225, R227, R458) -/

section
variable (s : State) (last : Option Nat)

/-- The wait moves the clock alone. -/
theorem stepDue_later : stepDue s last = s ∨ ∃ d, stepDue s last = s.later d := by
  cases last with
  | none => exact .inl rfl
  | some t => exact .inr ⟨_, State.atNow_eq _ _⟩

@[simp] theorem stepDue_get (f : Fld) : (stepDue s last).get f = s.get f := by
  obtain h | ⟨d, h⟩ := stepDue_later s last
  · rw [h]
  · rw [h, State.get_of_flds _ _ (State.later_flds s d)]

@[simp] theorem stepDue_flag (f : Fld) : (stepDue s last).flag f = s.flag f := by
  simp [State.flag]

@[simp] theorem stepDue_thm : (stepDue s last).thm = s.thm := by
  obtain h | ⟨d, h⟩ := stepDue_later s last <;> rw [h]
  exact State.later_thm s d

@[simp] theorem stepDue_shedThm : (stepDue s last).shedThm = s.shedThm := by
  obtain h | ⟨d, h⟩ := stepDue_later s last <;> rw [h]
  exact State.later_shedThm s d

@[simp] theorem stepDue_tHot : tHot (stepDue s last) = tHot s := by
  simp [tHot]

@[simp] theorem stepDue_overCap : overCap (stepDue s last) = overCap s := by
  simp [overCap]

@[simp] theorem stepDue_shedList : shedList (stepDue s last) = shedList s := by
  simp [shedList]

end

/-! ### Shedding (R225, R226) -/

section
variable {s : State}

/-- A cause of the critical level persists. -/
def causeLasts (s : State) : Prop :=
  s.flag F.THM_STATUS_deg_thm = true ∧ s.thm.shedAt - 16 < tHot s ∨
    s.flag F.THM_STATUS_deg_cap = true ∧ overCap s = true

/-- At the critical level a shed step sheds the next entry while a cause persists and no restoring has begun. -/
theorem execShedStep_critical {u v : State} (hlevel : s.get F.THM_STATUS_level = 3)
    (hu : u = stepDue s s.thm.stepAt) (hshed : s.thm.restoring = false ∧ causeLasts s → shedNext u = v)
    (hnone : ¬ (s.thm.restoring = false ∧ causeLasts s) → u = v) : exec .shedStep s = .next (settle v) := by
  refine exec_next rfl rfl ?_
  rw [if_pos hlevel, ← hu]
  by_cases h : s.thm.restoring = false ∧ causeLasts s
  · refine (if_pos ?_).trans (hshed h)
    simpa [hu, hlevel, causeLasts] using h
  · refine (if_neg ?_).trans (hnone h)
    simpa [hu, hlevel, causeLasts] using h

theorem shedNext_some {u : State} {i : Nat} (hu : u = stepDue s s.thm.stepAt)
    (hi : (shedList s).find? (fun j => !s.shedThm.contains j) = some i) :
    shedNext u = shedEntry { u with thm := { u.thm with shedAt := tHot s, stepAt := some u.now } } i false := by
  have hfind : (shedList u).find? (fun j => !u.shedThm.contains j) = some i := by simpa [hu] using hi
  have hhot : tHot u = tHot s := by simp [hu]
  simp only [shedNext, hfind, hhot, setThm]

/-! ### Restoring (R227) -/

/-- The restore of an entry takes it, and no other, from those shed for the critical level. -/
theorem restoreEntry_shedThm (s : State) (i : Nat) : (restoreEntry s i false).shedThm = ndel s.shedThm i := by
  unfold restoreEntry
  extract_lets s1 s2
  have h2 : s2.shedThm = ndel s.shedThm i := raise_shedThm _ _ _ _ _
  split
  · exact (gateFollow_keepsThermal s2 _).shedThm.trans h2
  · exact h2

/-! ### The registers of the entries (R225, R235) -/

/-- The fields of the list's 16 entries. -/
structure Fld.ShedEntry (f : Fld) : Prop where
  lo : 0x30100 * 32 ≤ f.key
  hi : f.key < 0x30140 * 32
  notGate : f.key % 32 ≠ 4

theorem Fld.shedEntry_kind {i : Nat} (hi : i < 16) : (F.THM_SHE_kind i).ShedEntry := by
  constructor <;> simp only [Fld.key, F.THM_SHE_kind] <;> omega

theorem Fld.shedEntry_id {i : Nat} (hi : i < 16) : (F.THM_SHE_id i).ShedEntry := by
  constructor <;> simp only [Fld.key, F.THM_SHE_id] <;> omega

section
variable {f : Fld} (hf : f.ShedEntry)
include hf

theorem Fld.ShedEntry.ne_above {g : Fld} (h : 0x30140 ≤ g.addr) : f.key ≠ g.key := by
  have := hf.hi
  simp only [Fld.key] at this ⊢
  omega

theorem Fld.ShedEntry.safeFree : f.SafeFree := by
  have hlo := hf.lo
  have hhi := hf.hi
  refine ⟨Fld.quiet_of_key (by omega) (by omega) (by omega), fun g hg => ?_, fun i => ?_,
    fun i => hf.ne_above (Nat.le_add_right_of_le (by decide)), fun i => hf.ne_above (Nat.le_add_right_of_le (by decide)),
    fun i => hf.ne_above (Nat.le_add_right_of_le (by decide)), fun i g hg => hf.ne_above ?_, fun i g hg => hf.ne_above ?_⟩
  · have hbelow : g.key < 0x30100 * 32 := by
      simp only [List.mem_cons, List.not_mem_nil, or_false] at hg
      rcases hg with rfl | rfl | rfl | rfl | rfl | rfl <;> decide
    omega
  · have hgate : (F.CLK_GATE_EN_open i).key % 32 = 4 := by
      simp only [Fld.key, F.CLK_GATE_EN_open]
      omega
    exact fun he => hf.notGate (he ▸ hgate)
  all_goals
    simp only [List.mem_cons, List.not_mem_nil, or_false] at hg
    rcases hg with rfl | rfl | rfl | rfl <;> exact Nat.le_add_right_of_le (by decide)

/-- The event of an entry and the count of shed entries leave them. -/
theorem shedSteps_raise_get (s : State) (a b c d : Nat) : (raise (shedSteps s) a b c d).get f = s.get f := by
  have := hf.lo
  refine (raise_get_safeFree hf.safeFree _ _ _ _ _).trans (State.get_set_ne _ _ _ _ ?_)
  simp only [Fld.key, F.THM_STATUS_shed_steps] at this ⊢
  omega

theorem setSlot_get_shedEntry (s : State) (p k st : Nat) : (setSlot s p k st).get f = s.get f := by
  unfold setSlot
  split <;> exact State.get_set_ne _ _ _ _ (hf.ne_above (Nat.le_add_right_of_le (by decide)))

theorem slotFree_get_shedEntry (s : State) (p k : Nat) : (slotFree s p k).get f = s.get f := by
  have hrecheck : ∀ t : State, (gateRecheck t p).get f = t.get f := fun t => by
    unfold gateRecheck
    split
    · exact closeGate_get hf.safeFree t p
    · rfl
  exact (hrecheck _).trans (setSlot_get_shedEntry hf _ p k 0)

theorem dropItem_get_shedEntry (s : State) (i : Item) : (dropItem s i).get f = s.get f := by
  unfold dropItem unslot
  dsimp only
  split
  · split
    · exact slotFree_get_shedEntry hf _ _ _
    · rfl
  · rfl

theorem shedClass_get_shedEntry (s : State) (k : Nat) : (shedClass s k).get f = s.get f :=
  foldl_view (fun t : State => t.get f) _ _ s fun t i _ =>
    (State.get_set_ne _ _ _ _ (hf.ne_above (Nat.le_add_right_of_le (by decide)))).trans (dropItem_get_shedEntry hf t i)

end

/-! ### Classes that are shed (R226) -/

theorem dropItem_keepsThermal (s : State) (i : Item) : KeepsThermal s (dropItem s i) := by
  have h := dropItemEntry_keepsThermal s i.id
  unfold dropItem unslot
  dsimp only
  split
  · split
    · exact h.trans (slotFree_keepsThermal _ _ _)
    · exact h.trans ⟨rfl, rfl, rfl, rfl, fun hb => hb⟩
  · exact h

theorem shedClass_keepsThermal (s : State) (k : Nat) : KeepsThermal s (shedClass s k) :=
  KeepsThermal.foldl _ _ s fun t i _ => (dropItem_keepsThermal t i).set _ _

/-- A class that a shed entry names is shed. -/
theorem classShed_of_mem {i k : Nat} (hi : i ∈ s.shedThm ++ s.shedCov) (hkind : s.get (F.THM_SHE_kind i) = 1)
    (hid : s.get (F.THM_SHE_id i) = k) : classShed s k = true := by
  have hnames : shedNames s (s.shedThm ++ s.shedCov) k = true := List.any_eq_true.2 ⟨i, hi, by simp [hkind, hid]⟩
  simp [classShed, hnames]

theorem shedEntry_classShed {i : Nat} (cov : Bool) (hi : i < 16) (hkind : s.get (F.THM_SHE_kind i) = 1) :
    classShed (shedEntry s i cov) (s.get (F.THM_SHE_id i)) = true := by
  unfold shedEntry
  extract_lets id already s1 s2
  have hmem1 : i ∈ s1.shedThm ++ s1.shedCov := by
    unfold s1
    cases cov <;> simp
  have hget1 : ∀ f : Fld, s1.get f = s.get f := fun f => by
    unfold s1
    cases cov <;> rfl
  have hget2 : ∀ f : Fld, f.ShedEntry → s2.get f = s.get f := fun f hf =>
    (shedSteps_raise_get hf s1 _ _ _ _).trans (hget1 f)
  have hmem2 : i ∈ s2.shedThm ++ s2.shedCov := by
    rw [raise_shedThm, raise_shedCov]
    exact hmem1
  have hkind2 : s2.get (F.THM_SHE_kind i) = 1 := (hget2 _ (Fld.shedEntry_kind hi)).trans hkind
  have hid2 := hget2 _ (Fld.shedEntry_id hi)
  split
  · exact classShed_of_mem hmem2 hkind2 hid2
  · have hkept := shedClass_keepsThermal s2 id
    refine classShed_of_mem ?_ ((shedClass_get_shedEntry (Fld.shedEntry_kind hi) s2 id).trans hkind2)
      ((shedClass_get_shedEntry (Fld.shedEntry_id hi) s2 id).trans hid2)
    rwa [hkept.shedThm, hkept.shedCov]

/-- The restore of an entry that names a class is its event and the count of shed entries. -/
theorem restoreEntry_class {i : Nat} (hi : i < 16) (hkind : s.get (F.THM_SHE_kind i) = 1) :
    ∃ d, restoreEntry s i false = raise (shedSteps { s with shedThm := ndel s.shedThm i }) 1018 7 3 d := by
  refine ⟨_, if_neg ?_⟩
  have hkind' : ({ s with shedThm := ndel s.shedThm i } : State).get (F.THM_SHE_kind i) = 1 := hkind
  simp only [Bool.false_eq_true, if_false]
  rw [shedSteps_raise_get (Fld.shedEntry_kind hi), hkind']
  simp

/-- A class is shed as long as an entry that is shed for coverage names it. -/
theorem restoreEntry_classShed {i : Nat} (hi : i < 16) (hkind : s.get (F.THM_SHE_kind i) = 1) (hcov : i ∈ s.shedCov) :
    classShed (restoreEntry s i false) (s.get (F.THM_SHE_id i)) = true := by
  obtain ⟨d, hd⟩ := restoreEntry_class hi hkind
  rw [hd]
  refine classShed_of_mem (List.mem_append_right _ ?_) ((shedSteps_raise_get (Fld.shedEntry_kind hi) _ _ _ _ _).trans hkind)
    (shedSteps_raise_get (Fld.shedEntry_id hi) _ _ _ _ _)
  rw [raise_shedCov]
  exact hcov

/-- Once the restore condition has held, a restore step restores the last entry, and with it may end the level. -/
theorem execRestoreStep_held {u v w : State} (hlevel : s.get F.THM_STATUS_level = 3) (hok : 1001 ≤ s.thm.restoreOk)
    (hu : u = if s.thm.restoring = true then stepDue s s.thm.stepAt else s)
    (hv : v = { u with thm := { u.thm with restoring := true, stepAt := some u.now } })
    (hw : (match s.shedThm.getLast? with
      | none => leaveCritical v
      | some i => if (restoreEntry v i false).shedThm = [] then leaveCritical (restoreEntry v i false)
        else restoreEntry v i false) = w) : exec .restoreStep s = .next (settle w) := by
  have hlast : v.shedThm = s.shedThm := by
    rw [hv, hu]
    split <;> simp
  refine exec_next rfl rfl ?_
  rw [if_pos (by simp [hlevel, hok]), ← hu]
  simp only [setThm, ← hv, hlast]
  exact hw

theorem restoreEntry_last {u v : State} (i : Nat)
    (hu : u = if s.thm.restoring = true then stepDue s s.thm.stepAt else s)
    (hv : v = { u with thm := { u.thm with restoring := true, stepAt := some u.now } }) :
    (restoreEntry v i false).shedThm = ndel s.shedThm i := by
  rw [restoreEntry_shedThm, hv, hu]
  split <;> simp

end

/-- Settles O24: each clause is the rule of its step above. -/
theorem shedding : Obligations.Shedding := by
  unfold Obligations.Shedding
  intro s
  refine ⟨fun u hlevel hu => ⟨fun i hres hcause hi => ?_, fun hno => ?_⟩,
    fun u v hlevel hok hu hv => ⟨fun i hi => ?_, fun hempty => ?_⟩,
    fun p u hp hu => ⟨fun hcov => ?_, fun i hdef hcov hi => ?_⟩,
    fun p i u v hp hu hv hi => ⟨fun hdense => ?_, fun hdense => ?_⟩,
    fun i cov hi hkind => shedEntry_classShed cov hi hkind,
    fun c q hq hmode hhand hshed => ?_, fun i hi hkind hcov => restoreEntry_classShed hi hkind hcov⟩
  · exact execShedStep_critical hlevel hu (fun _ => shedNext_some hu hi) fun h => absurd ⟨hres, hcause⟩ h
  · refine execShedStep_critical hlevel hu (fun ⟨hres, hcause⟩ => absurd hno ?_) fun _ => rfl
    rcases hcause with ⟨hdeg, hhot⟩ | ⟨hdeg, hcap⟩
    · simp [hres, hdeg, hhot]
    · simp [hres, hdeg, hcap]
  · refine execRestoreStep_held hlevel hok hu hv ?_
    rw [hi]
    simp only [restoreEntry_last i hu hv]
  · refine execRestoreStep_held hlevel hok hu hv ?_
    rw [hempty]
    rfl
  · refine exec_next rfl (by simpa [Instr.wf] using hp) (if_pos ?_)
    rcases hcov with h | h <;> simp [h]
  · refine exec_next rfl (by simpa [Instr.wf] using hp) ((if_neg (by simp [hdef, hcov])).trans ?_)
    rw [hi, hu]
    rfl
  · refine exec_next rfl (by simpa [Instr.wf] using hp) ?_
    rw [hi, hu]
    exact if_pos (hv ▸ hdense)
  · refine exec_next rfl (by simpa [Instr.wf] using hp) ?_
    rw [hi]
    exact if_neg (by simp [← hv, hdense])
  · simp [itemCreate, hq, hmode, hhand, hshed]

end Sys2Proof.Machine
end

section
/-! The power and thermal family (O30): frames, eCPRI messages and pauses on a fronthaul port. -/

namespace Sys2Proof.Machine

/-! ### A frame's checks (R223, R267, R268, R296) -/

section
variable {s u t : State} {l e a : Nat} {f : EthFrame}

/-- What a frame brings that passes the checks of its port, by its content. -/
def ethFrameTaken (s : State) (l a : Nat) (f : EthFrame) : State :=
  match f.body with
  | .ptp kind domain twoStep time selects => ptpMessageRx s l kind domain twoStep time selects a f.frac
  | .esmc ql =>
    if (portLanes s l).contains (s.get F.TB_SYNCE_CFG_lane) || l = s.get F.TB_SYNCE_CFG_lane then esmcRx s ql else s
  | .other => s.bump (F.FH_LANE_CNT1_other l) 1
  | .ecpri m =>
    if s.mode = Mode.standby then s.bump (F.FH_ENG_CNT1_gated (laneEngine s l)) 1 else ecpriRx s l f.length a f.frac m

theorem atFp_clk (s : State) (n : Nat) : (s.atFp n).clk = s.clk := by
  unfold State.atFp
  split
  · exact State.later_clk _ _
  · rfl

theorem atFp_flag (s : State) (n : Nat) (f : Fld) : (s.atFp n).flag f = s.flag f := by
  simp [State.flag]

theorem atFp_mode (s : State) (n : Nat) : (s.atFp n).mode = s.mode := atFp_get s n _

theorem atFp_lane (s : State) (n l : Nat) : (s.atFp n).lane l = s.lane l := atFp_get s n _

theorem atFp_engOpen (s : State) (n e : Nat) : engOpen (s.atFp n) e = engOpen s e := by
  simp [engOpen, gateOpen, atFp_flag, atFp_clk]

theorem atFp_laneEngine (s : State) (n l : Nat) : laneEngine (s.atFp n) l = laneEngine s l := atFp_get s n _

theorem atFp_portLanes (s : State) (n l : Nat) : portLanes (s.atFp n) l = portLanes s l := by
  simp [portLanes]

/-- A frame that the engine of lane `l`'s port holds, on an Ethernet port of lowest lane `e` that is no sink, in a mode
in which the engines run: `u` is the state in its tick and `a` its arrival. -/
structure FrameAt (s u : State) (l e a : Nat) (f : EthFrame) : Prop where
  wf : (Instr.ethFrameRx l f).wf = true
  port : e = lowLane s l
  held : u = s.atFp f.held
  arrival : a = rxBallOf u l f.elastic f.held
  sink : s.flag (F.LN_CFG_sink e) = false
  ethernet : isEthernet s e = true
  load : s.mode ≠ Mode.load
  safe : s.mode ≠ Mode.safe

/-- The checks of a frame in their order. -/
theorem exec_ethFrameRx (h : FrameAt s u l e a f)
    (ht : (if !f.fcsOk || s.lane e ≠ Ln.up then u.bump (F.FH_LANE_CNT0_fcs e) 1
      else if s.flag F.THM_STATUS_enforce && s.flag (F.THM_PFC_LANE_pfc_en e) && !isTime f.body
        && bitAt (s.get (F.THM_PFC_LANE_be_prio e)) f.prio then pfcDrop u e
      else if !engOpen s (laneEngine s e) then u.bump (F.FH_ENG_CNT1_gated (laneEngine s e)) 1
      else if s.get (F.FH_LANE_CFG_max_frame e) < f.length then oversize u e (frameFlow u e f)
      else if 2 ≤ f.tags then u.bump (F.FH_LANE_CNT1_other e) 1
      else ethFrameTaken u e a f) = t) :
    exec (.ethFrameRx l f) s = .next (settle t) := by
  obtain ⟨hwf, rfl, rfl, rfl, hsink, heth, hload, hsafe⟩ := h
  refine exec_next rfl hwf ?_
  rw [← ht]
  unfold ethFrameRx ethFrameTaken
  dsimp only
  rw [if_neg (by simp [hsink, heth, hload, hsafe])]
  simp only [atFp_flag, atFp_lane, atFp_get, atFp_engOpen, atFp_laneEngine] <;> rfl

/-- A frame that its FCS, its lane and PFC let through meets the gate of the engine, then its length. -/
theorem exec_ethFrameRx_passed (h : FrameAt s u l e a f) (hfcs : f.fcsOk = true) (hup : s.lane e = 9)
    (hpfc : s.flag F.THM_STATUS_enforce = false ∨ s.flag (F.THM_PFC_LANE_pfc_en e) = false ∨ isTime f.body = true ∨
      (s.get (F.THM_PFC_LANE_be_prio e)).testBit f.prio = false)
    (ht : (if !engOpen s (laneEngine s e) then u.bump (F.FH_ENG_CNT1_gated (laneEngine s e)) 1
      else if s.get (F.FH_LANE_CFG_max_frame e) < f.length then oversize u e (frameFlow u e f)
      else if 2 ≤ f.tags then u.bump (F.FH_LANE_CNT1_other e) 1
      else ethFrameTaken u e a f) = t) :
    exec (.ethFrameRx l f) s = .next (settle t) := by
  refine exec_ethFrameRx h ?_
  rw [if_neg (by simp [hfcs, hup, Ln.up]), if_neg ?_]
  · exact ht
  · rcases hpfc with h | h | h | h <;> simp [bitAt, h]

/-- A frame that passes every check is taken by its content. -/
theorem exec_ethFrameRx_taken (h : FrameAt s u l e a f) (hfcs : f.fcsOk = true) (hup : s.lane e = 9)
    (hpfc : s.flag F.THM_STATUS_enforce = false ∨ s.flag (F.THM_PFC_LANE_pfc_en e) = false ∨ isTime f.body = true ∨
      (s.get (F.THM_PFC_LANE_be_prio e)).testBit f.prio = false)
    (hopen : engOpen s (laneEngine s e) = true) (hlen : f.length ≤ s.get (F.FH_LANE_CFG_max_frame e))
    (ht : (if 2 ≤ f.tags then u.bump (F.FH_LANE_CNT1_other e) 1 else ethFrameTaken u e a f) = t) :
    exec (.ethFrameRx l f) s = .next (settle t) := by
  refine exec_ethFrameRx_passed h hfcs hup hpfc ?_
  rw [if_neg (by simp [hopen]), if_neg (Nat.not_lt.mpr hlen)]
  exact ht

end

/-! ### eCPRI messages (R269, R270, R278 to R280) -/

section
variable {v : State} {e len b fr : Nat} {m : Ecpri}

/-- A message of a known flow that runs, from the match of its sections on. -/
def ecpriTimed (s : State) (l len a : Nat) (m : Ecpri) (f n frn sym : Nat) : State :=
  match secsMatch s f sym m.secs with
  | .inr 0 => oversize s l (some f)
  | .inr r => malformed s l (some f) r
  | .inl secs =>
    let w := symWindow s f n frn sym
    if fpAfter a w.2 then fhWindow s f true
    else if fpAfter w.1 a then
      earlyHold s f n frn sym len (m.seq % 256) (w.1 - a ≤ s.get (F.FH_ENG_CFG_hold_max_tk (laneEngine s l))) secs
    else
      let c := seqCheck s f (m.seq % 256)
      if !c.1 then c.2
      else if flowF c.2 f 13 9 1 = 1 then c.2
      else step8 c.2 f n frn sym secs false

/-- A one-way delay message is answered where it is a request, and counted where it is not. -/
theorem ecpriRx_delay (hrev : m.revision = 1) (hconcat : m.concat = false) (hsize : m.sizeOk = true)
    (htype : m.msgType = 5) : ecpriRx v e len b fr m =
      if m.action = 0 then { v with fh := { v.fh with owdReply := some (owdAnswer v e b fr m.meas) } }
      else v.bump (F.FH_LANE_CNT1_other e) 1 := by
  unfold ecpriRx
  dsimp only
  rw [if_pos (by simp [hrev, hconcat, hsize, htype])]
  rfl

/-- Any other message is malformed where its header is, for that reason. -/
theorem ecpriRx_malformed {r : Nat} (hno : ¬ (m.revision = 1 ∧ m.concat = false ∧ m.sizeOk = true ∧ m.msgType = 5))
    (hr : headReason v m (findFlow v e m.eaxc) = r) (h0 : r ≠ 0) :
    ecpriRx v e len b fr m = malformed v e (faultFlow v (findFlow v e m.eaxc)) r := by
  unfold ecpriRx
  dsimp only
  rw [hr, if_neg (by simpa [and_assoc] using hno), if_pos h0]

theorem ecpriRx_unknown (htype : m.msgType ≠ 5) (hr : headReason v m (findFlow v e m.eaxc) = 0)
    (hfl : faultFlow v (findFlow v e m.eaxc) = none) : ecpriRx v e len b fr m = unknownFlow v e m.eaxc := by
  unfold ecpriRx
  dsimp only
  rw [hr, if_neg (by simp [htype]), if_neg (by decide), hfl]

/-- The checks of a message of a flow in their order. -/
theorem ecpriRx_flow {g k y r n : Nat} (htype : m.msgType ≠ 5) (hr : headReason v m (findFlow v e m.eaxc) = 0)
    (hfl : faultFlow v (findFlow v e m.eaxc) = some g) (hk : k = flowNum v g)
    (hy : y = (m.subframe * numSlots v k + m.slot) * numPerSlot v k + m.symbol)
    (hframe : r = (frameOf b m.frame % 2 ^ 40).toNat) (hn : n = r * numSym v k + y) : ecpriRx v e len b fr m =
      if numSlots v k ≤ m.slot || numPerSlot v k ≤ m.symbol || numSym v k ≤ y then malformed v e (some g) 6
      else if compBad v g m then malformed v e (some g) 9
      else if !flowOn v g || (flowF v g 0 2 1 = 1) != (m.msgType = 2) then unknownFlow (flowFetch v g) e m.eaxc
      else if !v.flag F.TB_STATUS_fp_valid then v.bump (F.FH_LANE_CNT2_notime e) 1
      else if flowF v g 13 9 1 = 1 then flowCount v g 9 1
      else ecpriTimed v e len b m g n r y := by
  have hspan : (frameSpan : Int) = 2 ^ 40 := by norm_num [frameSpan]
  subst hk hy hframe hn
  unfold ecpriRx ecpriTimed
  dsimp only
  rw [hr, if_neg (by simp [htype]), if_neg (by decide), hfl, hspan] <;> rfl

theorem ecpriTimed_bad {g n r y why : Nat} (h : secsMatch v g y m.secs = .inr why) : ecpriTimed v e len b m g n r y =
    if why = 0 then oversize v e (some g) else malformed v e (some g) why := by
  unfold ecpriTimed
  rw [h]
  cases why with
  | zero => exact (if_pos rfl).symm
  | succ why => exact (if_neg (Nat.succ_ne_zero why)).symm

theorem ecpriTimed_window {g n r y o z : Nat} {secs : List (Nat × EcpriSec)} (h : secsMatch v g y m.secs = .inl secs)
    (ho : o = (symWindow v g n r y).1) (hz : z = (symWindow v g n r y).2) : ecpriTimed v e len b m g n r y =
      if z < b then fhWindow v g true
      else if b < o then earlyHold v g n r y len (m.seq % 256)
        (decide (o - b ≤ v.get (F.FH_ENG_CFG_hold_max_tk (laneEngine v e)))) secs
      else if (seqCheck v g (m.seq % 256)).1 = false ∨ flowF (seqCheck v g (m.seq % 256)).2 g 13 9 1 = 1
        then (seqCheck v g (m.seq % 256)).2 else step8 (seqCheck v g (m.seq % 256)).2 g n r y secs false := by
  subst ho hz
  unfold ecpriTimed
  rw [h]
  simp only [fpAfter, decide_eq_true_eq]
  cases hc : (seqCheck v g (m.seq % 256)).1 <;> simp

end

/-! ### Pauses (R286) -/

section
variable {s t : State} {l e us used cap : Nat} {p : PauseRun}

/-- A pause frame on a port that is up, by what is left of the second's allowance. -/
theorem exec_pauseFrameRx (hl : l < 128) (he : e = lowLane s l) (hsink : s.flag (F.LN_CFG_sink e) = false)
    (heth : isEthernet s e = true) (hup : s.lane e = 9) (hp : p = pauseOf s e)
    (hused : used = p.used - (p.until'.map (fun t => t - s.now)).getD 0)
    (hcap : cap = usToTk (s.get (F.FH_LANE_CFG_pause_max_us e)))
    (ht : (if cap ≤ used then
        if p.raised then setPause (s.bump (F.FH_LANE_CNT2_pause_ignored e) 1) e p
        else raise (setPause (s.bump (F.FH_LANE_CNT2_pause_ignored e) 1) e { p with raised := true })
          (laneSrc e) 0x0B 4 (satNat 32 us)
      else
        let n := pauseGrant (usToTk us) (cap - used) cap (secTk - s.fp % secTk)
        setPause s e { p with used := used + n, until' := if n = 0 then none else some (s.now + n) }) = t) :
    exec (.pauseFrameRx l us) s = .next (settle t) := by
  subst he hp hused hcap ht
  refine exec_next rfl (by simpa [Instr.wf] using hl) ?_
  dsimp only
  rw [if_neg (by simp [hsink, heth, hup, Ln.up])]

theorem exec_pauseTimeExpiry {n : Nat} (hl : l < 128) (hn : (pauseOf s l).until' = some n) : exec (.pauseTimeExpiry l) s =
    .next (settle (setPause (s.atNow n) l { pauseOf (s.atNow n) l with until' := none })) := by
  refine exec_next rfl (by simpa [Instr.wf] using hl) ?_
  rw [hn]

end

/-- Settles O30: the checks of a frame, of a message and of a pause stand above in their order; each clause picks the
first that fails. -/
theorem fronthaulFrames : Obligations.FronthaulFrames := by
  unfold Obligations.FronthaulFrames
  intro s l f e u a hl hok he hu ha hsink heth hload hsafe
  have hat : FrameAt s u l e a f := ⟨by simp [Instr.wf, hl, hok], he, hu, ha, hsink, heth, hload, hsafe⟩
  refine ⟨fun hbad => ?_, fun hfcs hup => ⟨fun henf hen htime hprio => ?_, fun hpfc => ⟨fun hshut => ?_,
    fun hopen hlong => ?_, fun hopen hlen => ⟨fun hother => ?_, fun kind domain twoStep time selects htags hbody => ?_,
    fun ql htags hbody => ?_, fun m htags hbody => ?_⟩⟩⟩, ?_, ?_, fun n hn => exec_pauseTimeExpiry hl hn⟩
  · refine exec_ethFrameRx hat (if_pos ?_)
    rcases hbad with h | h <;> simp [h, Ln.up]
  · refine exec_ethFrameRx hat ((if_neg ?_).trans (if_pos ?_))
    · simp [hfcs, hup, Ln.up]
    · simp [henf, hen, htime, bitAt, hprio]
  · exact exec_ethFrameRx_passed hat hfcs hup hpfc (if_pos (by simp [hshut]))
  · exact exec_ethFrameRx_passed hat hfcs hup hpfc ((if_neg (by simp [hopen])).trans (if_pos hlong))
  · refine exec_ethFrameRx_taken hat hfcs hup hpfc hopen hlen ?_
    rcases hother with htags | hbody
    · exact if_pos htags
    · simp [ethFrameTaken, hbody]
  · refine exec_ethFrameRx_taken hat hfcs hup hpfc hopen hlen ((if_neg (by omega)).trans ?_)
    simp [ethFrameTaken, hbody]
  · refine exec_ethFrameRx_taken hat hfcs hup hpfc hopen hlen ((if_neg (by omega)).trans ?_)
    simp [ethFrameTaken, hbody, hu, atFp_portLanes]
  · refine exec_ethFrameRx_taken hat hfcs hup hpfc hopen hlen ((if_neg (by omega)).trans ?_)
    simp [ethFrameTaken, hbody, hu, atFp_mode, atFp_laneEngine]
  · intro v m len b fr named fl hnamed hfl
    subst hnamed hfl
    refine ⟨fun hrev hconcat hsize htype => ecpriRx_delay hrev hconcat hsize htype, fun hhead => ?_,
      fun hrev hconcat hsize => ?_, fun hrev hconcat hsize htype hr => ?_, fun htype hr hnone => ecpriRx_unknown htype hr hnone,
      fun g k y r n htype hr hflow hk hy hframe hn => ?_⟩
    · refine ecpriRx_malformed ?_ ?_ (by decide)
      · rcases hhead with h | h <;> simp [h]
      · rcases hhead with h | h <;> simp [headReason, h]
    · exact ecpriRx_malformed (by simp [hsize]) (by simp [headReason, hrev, hconcat, hsize]) (by decide)
    · exact ecpriRx_malformed (by simp [htype]) rfl hr
    · rw [ecpriRx_flow htype hr hflow hk hy hframe hn, hflow]
      refine ⟨fun hbad => if_pos (by simpa [or_assoc] using hbad), fun hslot hsymbol hsym => ?_⟩
      rw [if_neg (by simp; omega)]
      refine ⟨fun hcomp => if_pos hcomp, fun hcomp hoff => ?_, fun hcomp hon hkind => ?_⟩
      · rw [if_neg (by simp [hcomp])]
        refine if_pos ?_
        rcases hoff with h | h
        · simp [h]
        · simp only [Bool.or_eq_true, bne_iff_ne, ne_eq, decide_eq_decide]
          exact .inr h
      · rw [if_neg (by simp [hcomp]), if_neg (by simp [hon, hkind])]
        refine ⟨fun hfp => if_pos (by simp [hfp]), fun hfp hquar => ?_, fun why hfp hquar hsecs => ?_,
          fun secs o z hfp hquar hsecs ho hz => ?_⟩
        · rw [if_neg (by simp [hfp]), if_pos hquar]
        · rw [if_neg (by simp [hfp]), if_neg hquar, ecpriTimed_bad hsecs]
        · rw [if_neg (by simp [hfp]), if_neg hquar, ecpriTimed_window hsecs ho hz]
          refine ⟨fun hlate => if_pos hlate, fun hearly hz => ?_, fun hopn hclose => ?_⟩
          · rw [if_neg (by omega), if_pos hearly]
          · rw [if_neg (by omega), if_neg (by omega)]
  · intro hup us p used cap hp hused hcap
    refine ⟨fun n hleft hn => ?_, fun hspent hraised => ?_, fun hspent hraised => ?_⟩
    · refine exec_pauseFrameRx hl he hsink heth hup hp hused hcap ?_
      rw [if_neg (by omega), ← hn]
    · refine exec_pauseFrameRx hl he hsink heth hup hp hused hcap ?_
      rw [if_pos hspent, if_neg (by simp [hraised])]
      rfl
    · refine exec_pauseFrameRx hl he hsink heth hup hp hused hcap ?_
      rw [if_pos hspent, if_pos hraised]

end Sys2Proof.Machine
end

section
/-! The power and thermal family (O22): a sample above the cap while an item's class lies beyond the 64. -/

namespace Sys2Proof.Machine

/-! ### A stack at 0 °C (R207, R208, R219, R224) -/

/-- A bound item of class 71,648. -/
def boundBeyondClasses : Item :=
  { id := 9, cls := 71648, origin := 0, reissue := false, excess := false, release := 0, deadline := 100, seq := 0
    inLen := 0, outLen := 0, inAddr := 0, outAddr := 0, arg := 0, entry := 64, st := .bound, bin := 0, slot := 0
    holdRes := 0, holdSh := 0, parent := none, stepLate := false }

/-- The mode of that class would lie where LED_STATUS shows the ledger window. -/
theorem mode_boundBeyondClasses : F.SCH_CLASS_CFG_mode boundBeyondClasses.cls = F.LED_STATUS_window := rfl

/-- The registers with which the critical level goes on for both causes, in a slow-down episode, under a cap of
160 W. -/
def criticalRegs : List (Fld × Nat) :=
  [(F.THM_STATUS_level, 3), (F.THM_STATUS_suspect, 0), (F.THM_STATUS_pfc_on, 1), (F.THM_STATUS_deg_thm, 1),
    (F.THM_STATUS_deg_cap, 1), (F.THM_STATUS_model_weak, 0), (F.THM_CAP_cap, 1600)]

/-- A stack at the critical level whose 160 sensors work and read 0 °C, with that item bound: `w` says whether the
ledger window holds, `p` is P_meas, and no die's excess has been seen more than `k` times in a row. No hold after a POR
is on. -/
structure ColdCritical (w p k : Nat) (s : State) : Prop where
  regs : ∀ x ∈ criticalRegs, s.get x.1 = x.2
  sensors : ∀ n, n < 160 → s.get (F.THM_SENSOR_failed n) = 0 ∧ s.get (F.THM_SENSOR_temp n) = 0
    ∧ s.get (F.THM_SENSOR_offset n) = 0
  window : s.get F.LED_STATUS_window = w
  power : s.get F.THM_POWER_p_meas = p
  items : s.sch.items = [boundBeyondClasses]
  restoring : s.thm.restoring = false
  excess : ∀ d, (aget s.thm.excess d).getD 0 ≤ k
  held : s.modes.thermalHold = false

/-- A register that the sample may write: none of those above. -/
structure Fld.Idle (f : Fld) : Prop where
  regs : ∀ x ∈ criticalRegs, x.1.key ≠ f.key
  window : F.LED_STATUS_window.key ≠ f.key
  power : F.THM_POWER_p_meas.key ≠ f.key
  sensors : f.key < 0x31000 * 32 ∨ 0x31280 * 32 ≤ f.key ∨ f.key % 32 = 16 ∨ f.key % 32 = 18

theorem Fld.idle_of_key {f : Fld} (hlo : 0x30001 * 32 ≤ f.key) (hhi : f.key < 0x900000 * 32)
    (hcap : f.key ≠ F.THM_CAP_cap.key) (hpow : f.key ≠ F.THM_POWER_p_meas.key)
    (hs : f.key < 0x31000 * 32 ∨ 0x31280 * 32 ≤ f.key ∨ f.key % 32 = 16 ∨ f.key % 32 = 18) : f.Idle where
  regs x hx := by
    have hkeys : ∀ x ∈ criticalRegs, x.1.key < 0x30001 * 32 ∨ x.1.key = F.THM_CAP_cap.key := by decide
    have := hkeys x hx
    omega
  window := by
    have : F.LED_STATUS_window.key = 0x900000 * 32 + 1 := rfl
    omega
  power := hpow.symm
  sensors := hs

namespace ColdCritical

variable {w p k : Nat} {s t : State} {f : Fld}

theorem get (h : ColdCritical w p k s) {x : Fld × Nat} (hx : x ∈ criticalRegs) : s.get x.1 = x.2 := h.regs x hx

theorem set (hf : f.Idle) (v : Nat) (h : ColdCritical w p k s) : ColdCritical w p k (s.set f v) where
  regs x hx := (s.get_set_ne _ _ _ (hf.regs x hx)).trans (h.regs x hx)
  sensors n hn := by
    have hs := hf.sensors
    obtain ⟨hfail, htemp, hoff⟩ := h.sensors n hn
    rw [s.get_set_ne, s.get_set_ne, s.get_set_ne]
    · exact ⟨hfail, htemp, hoff⟩
    all_goals
      generalize f.key = q at hs
      simp only [Fld.key, F.THM_SENSOR_failed, F.THM_SENSOR_temp, F.THM_SENSOR_offset]
      omega
  window := (s.get_set_ne _ _ _ hf.window).trans h.window
  power := (s.get_set_ne _ _ _ hf.power).trans h.power
  items := h.items
  restoring := h.restoring
  excess := h.excess
  held := h.held

theorem setAll (l : List (Fld × Nat)) (hl : ∀ x ∈ l, x.1.Idle) (h : ColdCritical w p k s) :
    ColdCritical w p k (s.setAll l) := by
  induction l generalizing s with
  | nil => exact h
  | cons x l ih => exact ih (fun y hy => hl y (List.mem_cons_of_mem x hy)) (h.set (hl x List.mem_cons_self) x.2)

theorem foldl {β : Type} {g : State → β → State} {l : List β}
    (hg : ∀ t, ∀ x ∈ l, ColdCritical w p k t → ColdCritical w p k (g t x)) (h : ColdCritical w p k s) :
    ColdCritical w p k (l.foldl g s) := by
  induction l generalizing s with
  | nil => exact h
  | cons x l ih =>
    exact ih (fun t y hy => hg t y (List.mem_cons_of_mem x hy)) (hg s x List.mem_cons_self h)

/-- Of the other parts only the items and two fields of the thermal record count. -/
theorem of_parts (hflds : t.flds = s.flds) (hsch : t.sch = s.sch) (hres : t.thm.restoring = s.thm.restoring)
    (hex : t.thm.excess = s.thm.excess)
    (hmodes : t.modes = s.modes) (h : ColdCritical w p k s) : ColdCritical w p k t where
  regs x hx := (State.get_of_flds s t hflds _).trans (h.regs x hx)
  sensors n hn := by
    simp only [State.get_of_flds s t hflds]
    exact h.sensors n hn
  window := (State.get_of_flds s t hflds _).trans h.window
  power := (State.get_of_flds s t hflds _).trans h.power
  items := (congrArg Sched.items hsch).trans h.items
  restoring := hres.trans h.restoring
  excess d := hex ▸ h.excess d
  held := (congrArg Modes.thermalHold hmodes).trans h.held

/-- What changes only the event unit, the ledger and their registers leaves the stack so. -/
theorem of_blind (ht : ∀ {α : Type} (v : State → α), EvBlind v → v t = v s) (h : ColdCritical w p k s) :
    ColdCritical w p k t where
  regs x hx := by
    have hk : x.1.key ∉ evKeys := by
      have : ∀ x ∈ criticalRegs, x.1.key ∉ evKeys := by decide
      exact this x hx
    exact (ht (fun s => s.get x.1) (EvBlind.get _ hk)).trans (h.regs x hx)
  sensors n hn := by
    have hget : ∀ f : Fld, 0x31000 * 32 ≤ f.key → f.key < 0x31280 * 32 → t.get f = s.get f := fun f hlo hhi =>
      ht (fun s => s.get f) (EvBlind.get f (Fld.quiet_of_key (by omega) (by omega) (by omega)).1)
    obtain ⟨hfail, htemp, hoff⟩ := h.sensors n hn
    rw [hget, hget, hget]
    · exact ⟨hfail, htemp, hoff⟩
    all_goals
      simp only [Fld.key, F.THM_SENSOR_failed, F.THM_SENSOR_temp, F.THM_SENSOR_offset]
      omega
  window := (ht (fun s => s.get _) (EvBlind.get _ (by decide))).trans h.window
  power := (ht (fun s => s.get _) (EvBlind.get _ (by decide))).trans h.power
  items := (ht (fun s => s.sch.items) ⟨fun _ _ _ _ => rfl, fun _ _ => rfl, fun _ _ => rfl⟩).trans h.items
  restoring := (ht (fun s => s.thm.restoring) ⟨fun _ _ _ _ => rfl, fun _ _ => rfl, fun _ _ => rfl⟩).trans h.restoring
  excess d := by
    have hex : t.thm = s.thm := ht (fun s => s.thm) ⟨fun _ _ _ _ => rfl, fun _ _ => rfl, fun _ _ => rfl⟩
    rw [hex]
    exact h.excess d
  held := (ht (fun s => s.modes.thermalHold) ⟨fun _ _ _ _ => rfl, fun _ _ => rfl, fun _ _ => rfl⟩).trans h.held

theorem raise (a b c d : Nat) (h : ColdCritical w p k s) : ColdCritical w p k (raise s a b c d) :=
  h.of_blind fun _ hv => raise_blind hv _ _ _ _ _

theorem setParts (x : Thermal) (hres : x.restoring = s.thm.restoring) (hex : x.excess = s.thm.excess)
    (h : ColdCritical w p k s) : ColdCritical w p k (setThm s x) :=
  h.of_parts (s := s) rfl rfl hres hex rfl

/-! ### The readings and their regions -/

/-- A reading of 0 °C is stored as it is. -/
theorem setTemp {n : Nat} (hn : n < 160) (h : ColdCritical w p k s) :
    ColdCritical w p k (s.set (F.THM_SENSOR_temp n) 0) where
  regs x hx := by
    have hkeys : ∀ x ∈ criticalRegs, x.1.key < 0x31000 * 32 := by decide
    have hkey := hkeys x hx
    refine (s.get_set_ne _ _ _ fun he => ?_).trans (h.regs x hx)
    rw [he] at hkey
    simp only [Fld.key, F.THM_SENSOR_temp] at hkey
    omega
  sensors m hm := by
    obtain ⟨hfail, htemp, hoff⟩ := h.sensors m hm
    refine ⟨?_, ?_, ?_⟩
    · rwa [s.get_set_ne _ _ _ (by simp only [Fld.key, F.THM_SENSOR_failed, F.THM_SENSOR_temp]; omega)]
    · by_cases he : m = n
      · rw [he, State.get_set_same, Nat.zero_mod]
      · rwa [s.get_set_ne _ _ _ (by simp only [Fld.key, F.THM_SENSOR_temp]; omega)]
    · rwa [s.get_set_ne _ _ _ (by simp only [Fld.key, F.THM_SENSOR_offset, F.THM_SENSOR_temp]; omega)]
  window := (s.get_set_ne _ _ _ (by simp only [Fld.key, F.LED_STATUS_window, F.THM_SENSOR_temp]; omega)).trans h.window
  power := (s.get_set_ne _ _ _ (by simp only [Fld.key, F.THM_POWER_p_meas, F.THM_SENSOR_temp]; omega)).trans h.power
  items := h.items
  restoring := h.restoring
  excess := h.excess
  held := h.held

theorem idle_sensorValid {n : Nat} (hn : n < 160) : (F.THM_SENSOR_valid n).Idle := by
  apply Fld.idle_of_key <;>
    simp only [Fld.key, F.THM_SENSOR_valid, F.THM_CAP_cap, F.THM_POWER_p_meas] <;> omega

theorem idle_sensorDisagree {n : Nat} (hn : n < 160) : (F.THM_SENSOR_disagree n).Idle := by
  apply Fld.idle_of_key <;>
    simp only [Fld.key, F.THM_SENSOR_disagree, F.THM_CAP_cap, F.THM_POWER_p_meas] <;> omega

theorem sensorTemp_eq (h : ColdCritical w p k s) {n : Nat} (hn : n < 160) : sensorTemp s n = 0 := by
  rw [sensorTemp, (h.sensors n hn).2.1]
  rfl

theorem sensorFailed_eq (h : ColdCritical w p k s) {n : Nat} (hn : n < 160) : sensorFailed s n = false := by
  rw [sensorFailed, State.flag, (h.sensors n hn).1]
  rfl

theorem takeReading {n : Nat} (hn : n < 160) (h : ColdCritical w p k s) :
    ColdCritical w p k (takeReading s n (some 0)) := by
  have hread : Machine.takeReading s n (some 0) = ((setThm s { s.thm with invalid := tally s.thm.invalid n false }).set
      (F.THM_SENSOR_temp n) 0).set (F.THM_SENSOR_valid n) 1 := by
    have hoff : (setThm s { s.thm with invalid := tally s.thm.invalid n false }).get (F.THM_SENSOR_offset n) = 0 :=
      (h.sensors n hn).2.2
    unfold Machine.takeReading
    rw [if_neg (by rw [h.sensorFailed_eq hn]; decide)]
    simp [hoff, toInt, satInt, show ofInt 16 0 = 0 from rfl]
  rw [hread]
  exact ((h.setParts { s.thm with invalid := tally s.thm.invalid n false } rfl rfl).setTemp hn).set
    (idle_sensorValid hn) 1

/-- Two sensors that read the same do not disagree. -/
theorem pairCheck {j : Nat} (hj : j < 80) (h : ColdCritical w p k s) : ColdCritical w p k (pairCheck s j) := by
  have hdiff : (sensorTemp s (2 * j) - sensorTemp s (2 * j + 1)).natAbs = 0 := by
    rw [h.sensorTemp_eq (by omega), h.sensorTemp_eq (by omega)]
    rfl
  unfold Machine.pairCheck
  extract_lets a _ diff lim s1
  split
  · exact h.setParts _ rfl rfl
  · rw [if_neg (by simp only [diff, a, hdiff, Nat.not_lt_zero, not_false_eq_true])]
    have h1 : ColdCritical w p k s1 := h.of_parts (s := s) rfl rfl rfl rfl rfl
    exact (h1.set (idle_sensorDisagree (n := 2 * j) (by omega)) 0).set
      (idle_sensorDisagree (n := 2 * j + 1) (by omega)) 0

theorem pairTemp_eq (h : ColdCritical w p k s) {j : Nat} (hj : j < 80) : pairTemp s j = some 0 := by
  have h0 : 2 * j < 160 := by omega
  have h1 : 2 * j + 1 < 160 := by omega
  unfold pairTemp
  by_cases v0 : sensorValid s (2 * j) = true <;> by_cases v1 : sensorValid s (2 * j + 1) = true <;>
    simp [v0, v1, h.sensorFailed_eq h0, h.sensorFailed_eq h1, h.sensorTemp_eq h0, h.sensorTemp_eq h1]

theorem regionMeas_eq (h : ColdCritical w p k s) (d : Nat) {r : Nat} (hr : r < 16) : regionMeas s d r = some 0 := by
  have hpairs : ∀ j ∈ regionPairs d r, j < 80 := by
    unfold regionPairs
    split
    · simp; omega
    · split
      · simp; omega
      · split <;> simp <;> omega
  rw [regionMeas, List.filterMap_congr (g := fun _ => some 0) fun j hj => h.pairTemp_eq (hpairs j hj)]
  unfold regionPairs
  split_ifs <;> rfl

theorem dieSuspect_eq (h : ColdCritical w p k s) (d : Nat) : dieSuspect s d = false := by
  rw [dieSuspect, h.get (x := (F.THM_STATUS_suspect, 0)) (by decide)]
  simp [bitAt]

theorem usesEst_eq (h : ColdCritical w p k s) (d : Nat) {r : Nat} (hr : r < 16) : usesEst s d r = false := by
  rw [usesEst, h.dieSuspect_eq, h.regionMeas_eq d hr]
  rfl

theorem regionTemp_eq (h : ColdCritical w p k s) (d : Nat) {r : Nat} (hr : r < 16) : regionTemp s d r = 0 := by
  rw [regionTemp, if_neg (by rw [h.dieSuspect_eq]; decide), h.regionMeas_eq d hr]
  rfl

theorem dieTemp_eq (h : ColdCritical w p k s) (d : Nat) : dieTemp s d = 0 := by
  have hfold : ∀ l : List Nat, (∀ r ∈ l, r < 16) → l.foldl (fun m r => max m (regionTemp s d r)) 0 = 0 := by
    intro l hl
    induction l with
    | nil => rfl
    | cons r l ih =>
      rw [List.foldl_cons, h.regionTemp_eq d (hl r List.mem_cons_self)]
      exact ih fun i hi => hl i (List.mem_cons_of_mem r hi)
  rw [dieTemp, h.regionTemp_eq d (by decide)]
  exact hfold _ fun r hr => List.mem_range.mp hr

/-! ### Estimates, suspicion and the registers of the dies -/

theorem idle_est {i : Nat} (hi : i < 64) : (F.THM_EST_est i).Idle := by
  apply Fld.idle_of_key <;> simp only [Fld.key, F.THM_EST_est, F.THM_CAP_cap, F.THM_POWER_p_meas] <;> omega

theorem lagPower (x : ThermSample) (h : ColdCritical w p k s) : ColdCritical w p k (lagPower s x) :=
  h.of_parts (s := s) rfl rfl rfl rfl rfl

theorem recalSample (h : ColdCritical w p k s) : ColdCritical w p k (recalSample s) :=
  h.of_parts (s := s) rfl rfl rfl rfl rfl

theorem mono {k' : Nat} (hk : k ≤ k') (h : ColdCritical w p k s) : ColdCritical w p k' s :=
  { h with excess := fun d => (h.excess d).trans hk }

theorem tally_le {l : List (Nat × Nat)} (hl : ∀ d, (aget l d).getD 0 ≤ k) (d : Nat) (on : Bool) (d' : Nat) :
    (aget (tally l d on) d').getD 0 ≤ k + 1 := by
  by_cases hd : d' = d
  · subst hd
    unfold tally
    split
    · rw [aget_aset_same]
      exact Nat.succ_le_succ (hl d')
    · rw [aget_adel_same]
      exact Nat.zero_le _
  · have hsame : aget (tally l d on) d' = aget l d' := by
      unfold tally
      split
      · exact aget_aset_ne _ _ _ _ hd
      · exact aget_adel_ne _ _ _ hd
    rw [hsame]
    exact (hl d').trans (Nat.le_succ k)

/-- Too few excesses in a row make no die suspect. -/
theorem suspectCheck (hk : k < 100) (d : Nat) (h : ColdCritical w p k s) :
    ColdCritical w p (k + 1) (suspectCheck s d) := by
  unfold Machine.suspectCheck
  split
  · exact h.mono (Nat.le_succ k)
  · extract_lets e high _ s1
    have h1 : ColdCritical w p (k + 1) s1 := { h with excess := tally_le h.excess d high }
    have hfew := h1.excess d
    rw [if_neg (by simp only [Bool.and_eq_true, decide_eq_true_eq]; omega)]
    exact h1

theorem trustCheck_eq (h : ColdCritical w p k s) (d : Nat) : trustCheck s d = s := by
  rw [trustCheck, if_pos (by rw [h.dieSuspect_eq]; rfl)]

theorem suspected (hk : k < 100) (d : Nat) (h : ColdCritical w p k s) :
    ColdCritical w p (k + 1) (trustCheck (Machine.suspectCheck s d) d) := by
  have hs := h.suspectCheck hk d
  rwa [hs.trustCheck_eq d]

theorem weakCheck_eq (h : ColdCritical w p k s) : weakCheck s = s := by
  have hsus : s.get F.THM_STATUS_suspect = 0 := h.get (x := (F.THM_STATUS_suspect, 0)) (by decide)
  have hweak : s.flag F.THM_STATUS_model_weak = false := by
    rw [State.flag, h.get (x := (F.THM_STATUS_model_weak, 0)) (by decide)]
    rfl
  simp [weakCheck, hsus, hweak, popCount, ofBool]

theorem idle_hot : ∀ f ∈ [F.THM_HOT_t_hot, F.THM_HOT_die, F.THM_HOT_region], f.Idle := by
  intro f hf
  simp only [List.mem_cons, List.not_mem_nil, or_false] at hf
  rcases hf with rfl | rfl | rfl <;> exact ⟨by decide, by decide, by decide, by decide⟩

theorem dieRegs {d : Nat} (hd : d < 4) (h : ColdCritical w p k s) : ColdCritical w p k (dieRegs s d) := by
  have hest : (F.THM_DIE_est d).Idle := by
    apply Fld.idle_of_key <;> simp only [Fld.key, F.THM_DIE_est, F.THM_CAP_cap, F.THM_POWER_p_meas] <;> omega
  have hmeas : (F.THM_DIE_meas d).Idle := by
    apply Fld.idle_of_key <;> simp only [Fld.key, F.THM_DIE_meas, F.THM_CAP_cap, F.THM_POWER_p_meas] <;> omega
  unfold Machine.dieRegs
  extract_lets s1
  split
  · exact (h.set hest _).set hmeas _
  · exact ((h.set hest _).set hmeas s1.free).of_parts (s := s1.set (F.THM_DIE_meas d) s1.free) rfl rfl rfl rfl rfl

/-! ### Power, level and pauses -/

/-- The register of P_meas takes another value. -/
theorem setPower {v : Nat} (hv : v < 2 ^ 32) (h : ColdCritical w p k s) :
    ColdCritical w v k (s.set F.THM_POWER_p_meas v) where
  regs x hx := by
    have hkeys : ∀ x ∈ criticalRegs, x.1.key ≠ F.THM_POWER_p_meas.key := by decide
    exact (s.get_set_ne _ _ _ (hkeys x hx)).trans (h.regs x hx)
  sensors n hn := by
    rw [s.get_set_ne, s.get_set_ne, s.get_set_ne]
    · exact h.sensors n hn
    all_goals
      simp only [Fld.key, F.THM_SENSOR_failed, F.THM_SENSOR_temp, F.THM_SENSOR_offset, F.THM_POWER_p_meas]
      omega
  window := (s.get_set_ne _ _ _ (by decide)).trans h.window
  power := (State.get_set_same _ _ _).trans (Nat.mod_eq_of_lt hv)
  items := h.items
  restoring := h.restoring
  excess := h.excess
  held := h.held

/-- A window in which the Cellar's hard logic used more than a joule. -/
theorem takeEnergy {n : Nat} (hn : 2 ^ 30 ≤ n) (h : ColdCritical w p k s) :
    ColdCritical w (2 ^ 32 - 1) k (takeEnergy s [(500, n)]) := by
  have idle : ∀ f ∈ [F.THM_POWER_LANE_uw, F.THM_POWER_CEL_uw, F.THM_POWER_SHA_uw, F.THM_POWER_SHB_uw,
      F.THM_POWER_LOFT_uw, F.THM_POWER_IO_uw, F.THM_POWER_PEAK_uw], f.Idle := by
    intro f hf
    simp only [List.mem_cons, List.not_mem_nil, or_false] at hf
    rcases hf with rfl | rfl | rfl | rfl | rfl | rfl | rfl <;>
      exact ⟨by decide, by decide, by decide, by decide⟩
  unfold Machine.takeEnergy
  extract_lets e s1 _ s2 w' p' s3
  have hsum : energySum e 0 501 = n := Nat.zero_add n
  have hp : p' = 2 ^ 32 - 1 := by
    simp only [p', w', hsum, satNat]
    omega
  have h1 : ColdCritical w p k s1 := h
  clear_value s1 e p' w'
  have h2 : ColdCritical w p k s2 := h1.of_parts (s := s1) rfl rfl rfl rfl rfl
  have h3 : ColdCritical w p' k (s2.set F.THM_POWER_p_meas p') := h2.setPower (by rw [hp]; norm_num)
  rw [← hp]
  exact (h3.setAll _ fun x hx => idle _ (List.mem_append_left [_] (List.mem_map_of_mem hx))).set (idle _ (by simp)) _

/-- With the window not held, the item counts as conforming. -/
theorem powerKill_eq (h : ColdCritical 0 p k s) : powerKill s = s := by
  have hdead : isDeadline s boundBeyondClasses.cls = true := by
    rw [isDeadline, mode_boundBeyondClasses, State.flag, h.window]
    rfl
  have hconf : conforming s boundBeyondClasses = true := by
    rw [conforming, hdead]
    rfl
  simp [powerKill, h.items, hconf]

theorem overCap_eq (h : ColdCritical w (2 ^ 32 - 1) k s) : overCap s = true := by
  rw [overCap, h.power, h.get (x := (F.THM_CAP_cap, 1600)) (by decide)]
  decide

theorem level (h : ColdCritical w p k s) : s.get F.THM_STATUS_level = 3 :=
  h.get (x := (F.THM_STATUS_level, 3)) (by decide)

theorem idle_capExceeded : F.THM_CAP_EXC_CNT_samples.Idle := ⟨by decide, by decide, by decide, by decide⟩

theorem levelFollow_eq (h : ColdCritical w p k s) : levelFollow s = s := by
  unfold levelFollow
  extract_lets t l
  exact if_pos h.level

/-- Both causes of the critical level are known already. -/
theorem criticalFollow (h : ColdCritical w p k s) : ColdCritical w p k (criticalFollow s) := by
  unfold Machine.criticalFollow
  extract_lets hot pow crit good _ s1 s2
  have h1 : ColdCritical w p k s1 := h.of_parts (s := s) rfl rfl rfl rfl rfl
  have hcrit : crit := h.level
  have hthm : s1.flag F.THM_STATUS_deg_thm = true := by
    rw [State.flag, h1.get (x := (F.THM_STATUS_deg_thm, 1)) (by decide)]
    rfl
  have hcap : s1.flag F.THM_STATUS_deg_cap = true := by
    rw [State.flag, h1.get (x := (F.THM_STATUS_deg_cap, 1)) (by decide)]
    rfl
  have h2 : s2 = s1 := if_neg (by simp [hthm])
  rw [if_neg (by simp [hcrit]), if_neg (by rw [h1.restoring]; decide), h2, if_neg (by simp [hcap])]
  exact h1

theorem cutPauses (h : ColdCritical w p k s) : ColdCritical w p k (cutPauses s) :=
  h.of_parts (s := s) rfl rfl rfl rfl rfl

theorem headroom_eq (h : ColdCritical w p k s) : headroom s = 0 := by
  unfold headroom
  extract_lets l
  exact if_pos h.level

theorem idle_index : F.THM_STATUS_index.Idle := ⟨by decide, by decide, by decide, by decide⟩

/-- The slow-down episode goes on at index 0. -/
theorem pfcFollow_eq (h : ColdCritical w p k s) (hi : s.get F.THM_STATUS_index = 0) : pfcFollow s = s := by
  have hon : s.flag F.THM_STATUS_pfc_on = true := by
    rw [State.flag, h.get (x := (F.THM_STATUS_pfc_on, 1)) (by decide)]
    rfl
  simp [pfcFollow, hi, hon]

/-! ### The windows and the end of the sample -/

/-- The register of the ledger window takes another value. -/
theorem setWindow {v : Nat} (hv : v < 2) (h : ColdCritical w p k s) :
    ColdCritical v p k (s.set F.LED_STATUS_window v) where
  regs x hx := by
    have hkeys : ∀ x ∈ criticalRegs, x.1.key ≠ F.LED_STATUS_window.key := by decide
    exact (s.get_set_ne _ _ _ (hkeys x hx)).trans (h.regs x hx)
  sensors n hn := by
    rw [s.get_set_ne, s.get_set_ne, s.get_set_ne]
    · exact h.sensors n hn
    all_goals
      simp only [Fld.key, F.THM_SENSOR_failed, F.THM_SENSOR_temp, F.THM_SENSOR_offset, F.LED_STATUS_window]
      omega
  window := (State.get_set_same _ _ _).trans (Nat.mod_eq_of_lt hv)
  power := (s.get_set_ne _ _ _ (by decide)).trans h.power
  items := h.items
  restoring := h.restoring
  excess := h.excess
  held := h.held

theorem fuseDeferral (h : ColdCritical w p k s) : ColdCritical w p k (fuseDeferral s) := by
  unfold Machine.fuseDeferral
  split
  · exact h
  · have h1 : ColdCritical w p k { s with thm := { s.thm with fuseDeferred := true } } :=
      h.of_parts (s := s) rfl rfl rfl rfl rfl
    exact h1.raise _ _ _ _

theorem idle_torn : F.LED_TORN_CNT_torn.Idle := ⟨by decide, by decide, by decide, by decide⟩

theorem ledScan (h : ColdCritical w p k s) : ColdCritical w p k (ledScan s) := by
  have hled : ∀ l, ColdCritical w p k { s with led := l } := fun l => h.of_parts (s := s) rfl rfl rfl rfl rfl
  unfold Machine.ledScan
  split
  · exact h
  · extract_lets n e _ s1 crit _ s2
    have h2 : ColdCritical w p k s2 := by
      simp only [s2]
      split
      · exact (hled _).of_parts (s := s1) rfl rfl rfl rfl rfl
      · exact hled _
    split
    · exact h2
    · exact (h2.set idle_torn _).raise _ _ _ _

theorem writeRecord (h : ColdCritical w p k s) : ColdCritical w p k (writeRecord s) := by
  have h1 : ColdCritical w p k (setThm s { s.thm with latchDue := false }) := h.of_parts (s := s) rfl rfl rfl rfl rfl
  unfold Machine.writeRecord
  split_ifs
  · exact h
  · exact h1
  · exact h1.of_blind fun _ hv => raiseLed_blind hv _ _ _ _ _ _ _

/-- At 0 °C the ledger window holds. -/
theorem windows (h : ColdCritical w p k s) : ColdCritical 1 p k (windows s) := by
  unfold Machine.windows
  extract_lets c b led chg en s1 _ s2 _ s3 _ s4
  have hled : led = true := by
    simp only [led, c, h.dieTemp_eq 0]
    rfl
  have idle : ∀ f ∈ [F.THM_WINDOW_fuse_ok, F.THM_WINDOW_charge_ok, F.THM_WINDOW_charging, F.THM_WINDOW_ledger_ok],
      f.Idle := by
    intro f hf
    simp only [List.mem_cons, List.not_mem_nil, or_false] at hf
    rcases hf with rfl | rfl | rfl | rfl <;> exact ⟨by decide, by decide, by decide, by decide⟩
  have h1 : ColdCritical 1 p k s1 := by
    have hset := (h.set (idle F.THM_WINDOW_ledger_ok (by simp)) (ofBool led)).setWindow (v := 1) (by decide)
    simp only [s1, State.setAll_cons, State.setAll_nil, hled] at hset ⊢
    exact ((hset.set (idle _ (by simp)) _).set (idle _ (by simp)) _).set (idle _ (by simp)) _
  clear_value s1 c chg en
  have h2 : ColdCritical 1 p k s2 := by
    simp only [s2]
    split_ifs
    · exact (h1.setParts { s1.thm with chargeDeferred := true } rfl rfl).raise _ _ _ _
    · exact h1.setParts { s1.thm with chargeDeferred := false } rfl rfl
    · exact h1
  clear_value s2
  have h3 : ColdCritical 1 p k s3 := by
    simp only [s3]
    split_ifs
    · exact h2.setParts { s2.thm with fuseDeferred := false } rfl rfl
    · exact h2.fuseDeferral
    · exact h2
  clear_value s3
  have h4 : ColdCritical 1 p k s4 := h3.of_parts (s := s3) rfl rfl rfl rfl rfl
  rw [if_pos hled]
  exact h4.ledScan.writeRecord.of_blind fun _ hv => ledKick_blind hv _

theorem modelShutdown_eq (h : ColdCritical w p k s) : modelShutdown s = s := by
  have hnone : (List.range 64).find? (fun i => usesEst s (i / 16) (i % 16)
      && thresh s 4 ≤ regionTemp s (i / 16) (i % 16)) = none := by
    rw [List.find?_eq_none]
    intro i _
    rw [h.usesEst_eq _ (Nat.mod_lt i (by decide))]
    exact Bool.false_ne_true
  rw [modelShutdown, hnone]

theorem lifeBand_lt (t : Int) : lifeBand t < 5 := by
  unfold lifeBand
  split_ifs <;> decide

theorem lifeCount (h : ColdCritical w p k s) : ColdCritical w p k (lifeCount s) := by
  have idle : ∀ b, b < 5 → (F.SPR_LIFE_hours b).Idle := by
    intro b hb
    apply Fld.idle_of_key <;> simp only [Fld.key, F.SPR_LIFE_hours, F.THM_CAP_cap, F.THM_POWER_p_meas] <;> omega
  unfold Machine.lifeCount
  extract_lets b n _ s1
  have h1 : ColdCritical w p k s1 := h.of_parts (s := s) rfl rfl rfl rfl rfl
  exact h1.set (idle b (lifeBand_lt _)) _

/-- Such a stack stays so over a sample of 0 °C readings in which its hard logic used a joule or more, but that
the ledger window then holds. -/
theorem thermalSample {n : Nat} (hn : 2 ^ 30 ≤ n) (h : ColdCritical 0 p 0 s) :
    ColdCritical 1 (2 ^ 32 - 1) 4 (thermalSample s ⟨List.replicate 160 (some 0), List.replicate 16 0, [(500, n)]⟩) := by
  unfold Machine.thermalSample
  extract_lets s1 s2 s3 s4 s5 s6 s7 hot s8 s9 high _ s10 s11 s12 s13 s14
  have h1 : ColdCritical 0 p 0 s1 := h.foldl fun t i hi ht => by
    have hi' := List.mem_range.mp hi
    rw [List.getD_replicate _ hi']
    exact ht.takeReading hi'
  clear_value s1
  have h2 : ColdCritical 0 p 0 s2 :=
    (h1.foldl fun t j hj ht => ht.pairCheck (List.mem_range.mp hj)).lagPower _
  clear_value s2
  have h3 : ColdCritical 0 p 0 s3 := h2.setAll _ fun x hx => by
    obtain ⟨i, hi, rfl⟩ := List.mem_map.mp hx
    exact idle_est (List.mem_range.mp hi)
  clear_value s3
  have h4 : ColdCritical 0 p 0 s4 := h3.recalSample
  clear_value s4
  have h5 : ColdCritical 0 p 4 s5 :=
    (((h4.suspected (by decide) 0).suspected (by decide) 1).suspected (by decide) 2).suspected (by decide) 3
  clear_value s5
  have h6 : ColdCritical 0 p 4 s6 := by
    rw [show s6 = s5 from h5.weakCheck_eq]
    exact h5
  clear_value s6
  have h7 : ColdCritical 0 p 4 s7 := h6.foldl fun t d hd ht => ht.dieRegs (List.mem_range.mp hd)
  clear_value s7
  have h8 : ColdCritical 0 p 4 s8 := h7.setAll _ fun x hx => idle_hot _ (List.mem_map_of_mem hx)
  clear_value s8
  have h9 : ColdCritical 0 (2 ^ 32 - 1) 4 s9 := h8.takeEnergy hn
  clear_value s9
  have h10 : ColdCritical 0 (2 ^ 32 - 1) 4 s10 := h9.setParts _ rfl rfl
  clear_value s10
  have h11 : ColdCritical 0 (2 ^ 32 - 1) 4 s11 := by
    have hbump : ColdCritical 0 (2 ^ 32 - 1) 4 (s10.bump F.THM_CAP_EXC_CNT_samples 1) := h10.set idle_capExceeded _
    simp only [s11, high, h9.overCap_eq, if_true, hbump.powerKill_eq]
    exact hbump
  clear_value s11
  have h12 : ColdCritical 0 (2 ^ 32 - 1) 4 s12 := by
    simp only [s12, h11.levelFollow_eq]
    exact h11.criticalFollow
  clear_value s12
  have h13 : ColdCritical 0 (2 ^ 32 - 1) 4 s13 := (h12.set idle_index _).cutPauses
  have hindex : s13.get F.THM_STATUS_index = 0 := by
    rw [State.get_of_flds (s12.set F.THM_STATUS_index (headroom s12)) s13 rfl, h12.headroom_eq, State.get_set_same]
    rfl
  clear_value s13
  have h14 : s14 = s13 := h13.pfcFollow_eq hindex
  rw [h14, h13.windows.modelShutdown_eq]
  exact h13.windows.lifeCount

end ColdCritical

/-- A stack at the critical level, in whose registers nothing else differs from a reset. -/
def coldCritical : State :=
  { State.reset with
    flds := [(F.THM_STATUS_level.key, 3), (F.THM_STATUS_pfc_on.key, 1), (F.THM_STATUS_deg_thm.key, 1),
      (F.THM_STATUS_deg_cap.key, 1)]
    sch := { Sched.reset with items := [boundBeyondClasses] } }

/-- Its registers from the sensors on read their reset values. -/
theorem coldCritical_get {f : Fld} (hf : 0x31000 * 32 ≤ f.key) : coldCritical.get f = f.reset := by
  have hnone : aget coldCritical.flds f.key = none := by
    refine aget_none _ _ fun q hq he => ?_
    have hkeys : ∀ q ∈ coldCritical.flds, q.1 < 0x31000 * 32 := by decide
    have := hkeys q hq
    omega
  rw [State.get, fread, hnone]
  rfl

theorem coldCritical_holds : ColdCritical 0 0 0 coldCritical where
  regs := by decide
  sensors n _ := by
    rw [coldCritical_get, coldCritical_get, coldCritical_get]
    · exact ⟨rfl, rfl, rfl⟩
    all_goals
      simp only [Fld.key, F.THM_SENSOR_failed, F.THM_SENSOR_temp, F.THM_SENSOR_offset]
      omega
  window := rfl
  power := rfl
  items := rfl
  restoring := rfl
  excess _ := le_rfl
  held := rfl

/-- Where no thermal hold is on, a sample does what R209 has it do and no more. -/
theorem exec_thermalSample {s : State} {x : ThermSample} (hr : x.readings.length = 160) (hp : x.power.length = 16)
    (hheld : (thermalSample s x).modes.thermalHold = false) :
    exec (.thermalSample x) s = .next (settle (thermalSample s x)) :=
  exec_next rfl (by simp [Instr.wf, hr, hp]) (if_neg (by simp [hheld]))

/-- With the window held, the item does not conform. -/
theorem ColdCritical.not_conforming {p k : Nat} {s : State} (h : ColdCritical 1 p k s) :
    conforming (settle s) boundBeyondClasses = false := by
  rw [conforming, isDeadline, mode_boundBeyondClasses, State.flag, settle_get _ _ (by decide) (by decide), h.window]
  rfl

theorem ColdCritical.settle_overCap {w k : Nat} {s : State} (h : ColdCritical w (2 ^ 32 - 1) k s) :
    overCap (settle s) = true := by
  rw [overCap, settle_get _ _ (by decide) (by decide), settle_get _ _ (by decide) (by decide)]
  exact h.overCap_eq

/-- Refutes O22: a class beyond the 64 has its mode where LED_STATUS shows the ledger window, so that an item of such a
class, which conforms while the window does not hold, is left bound by POWER_EXCESS_KILL and is best-effort once the
same sample opens the window. -/
theorem not_thermalSample : ¬ Obligations.ThermalSample := by
  unfold Obligations.ThermalSample
  intro hall
  have hcold := coldCritical_holds.thermalSample (n := 2 ^ 30) le_rfl
  obtain ⟨t, hexec, -, -, hover⟩ :=
    (hall coldCritical).1 ⟨List.replicate 160 (some 0), List.replicate 16 0, [(500, 2 ^ 30)]⟩ List.length_replicate List.length_replicate
  rw [exec_thermalSample List.length_replicate List.length_replicate hcold.held] at hexec
  generalize thermalSample coldCritical _ = u at hcold hexec
  cases hexec
  have hbound : boundBeyondClasses ∈ (settle u).sch.items := by
    rw [settle_sch, hcold.items]
    exact List.mem_singleton_self _
  have hconf := hover hcold.settle_overCap _ hbound rfl
  rw [hcold.not_conforming] at hconf
  exact Bool.false_ne_true hconf

end Sys2Proof.Machine
end

section
/-! The serial-lanes family (O26 to O28): the registers and records of the lanes, and what keeps them. -/

namespace Sys2Proof.Machine

/-! ### The registers of the lanes and their groups -/

/-- A register of a lane or of a lane group. -/
structure Fld.Serial (f : Fld) : Prop where
  above : 0x100000 * 32 ≤ f.key
  below : f.key < 0x130000 * 32

theorem Fld.Serial.quiet {f : Fld} (h : f.Serial) : f.quiet := by
  obtain ⟨habove, hbelow⟩ := h
  exact Fld.quiet_of_key (by omega) (by omega) (by omega)

/-- A register that every lane has, in its own block of 1,024 bytes. -/
structure LaneReg (f : Nat → Fld) : Prop where
  key : ∀ l, (f l).key = (f 0).key + 32768 * l
  above : 0x100000 * 32 ≤ (f 0).key
  below : (f 0).key < 0x100400 * 32

theorem LaneReg.of {a lo w r : Nat} (h : 0x100000 ≤ a ∧ a < 0x100400 ∧ lo < 32) :
    LaneReg (fun l => ⟨a + 1024 * l, lo, w, r⟩) := by
  obtain ⟨habove, hbelow, hlo⟩ := h
  refine ⟨fun l => ?_, ?_, ?_⟩ <;> simp only [Fld.key] <;> omega

namespace LaneReg

variable {f g : Nat → Fld} {x y : Nat}

/-- Registers of two lanes differ, and so do two registers of a lane. -/
theorem key_ne (hf : LaneReg f) (hg : LaneReg g) (h : x ≠ y ∨ (f 0).key ≠ (g 0).key) : (f x).key ≠ (g y).key := by
  obtain ⟨hfk, hfa, hfb⟩ := hf
  obtain ⟨hgk, hga, hgb⟩ := hg
  rw [hfk x, hgk y]
  omega

/-- The lanes' blocks lie below those of the lane groups. -/
theorem lt_group (hf : LaneReg f) (hx : x < 128) : (f x).key < 0x120000 * 32 := by
  obtain ⟨hfk, hfa, hfb⟩ := hf
  rw [hfk x]
  omega

theorem ne_group (hf : LaneReg f) (hx : x < 128) {g : Fld} (hg : 0x120000 * 32 ≤ g.key) : (f x).key ≠ g.key :=
  Nat.ne_of_lt (Nat.lt_of_lt_of_le (hf.lt_group hx) hg)

theorem serial (hf : LaneReg f) (hx : x < 128) : (f x).Serial := by
  refine ⟨?_, Nat.lt_trans (hf.lt_group hx) (by decide)⟩
  rw [hf.key x]
  exact Nat.le_add_right_of_le hf.above

/-- A lane's register keeps its value when another of the lane or one of another lane is written. -/
theorem get_set (hf : LaneReg f) (hg : LaneReg g) (s : State) (v : Nat) (h : x ≠ y ∨ (f 0).key ≠ (g 0).key) :
    (s.set (g y) v).get (f x) = s.get (f x) := s.get_set_ne _ _ _ (hf.key_ne hg h)

end LaneReg

/-- A register of a lane group. -/
theorem Fld.Serial.of_group {a i lo w r : Nat} (hi : i < 16) (h : 0x120000 ≤ a ∧ a < 0x120040 ∧ lo < 32) :
    Fld.Serial ⟨a + 64 * i, lo, w, r⟩ := by
  obtain ⟨habove, hbelow, hlo⟩ := h
  constructor <;> simp only [Fld.key] <;> omega

theorem groupUp_above (i : Nat) : 0x120000 * 32 ≤ (F.LN_GRP_STATUS_up i).key := by
  simp only [Fld.key, F.LN_GRP_STATUS_up]
  omega

theorem settle_get_laneReg {f : Nat → Fld} {l : Nat} (s : State) (hf : LaneReg f) (hl : l < 128) :
    (settle s).get (f l) = s.get (f l) := settle_get_quiet (hf.serial hl).quiet

theorem settle_lane (s : State) {l : Nat} (hl : l < 128) : (settle s).lane l = s.lane l :=
  settle_get_laneReg (f := F.LN_STATUS_state) s (.of (by decide)) hl

/-! ### The records of the lanes -/

@[simp] theorem setLaneRun_get (s : State) (l : Nat) (r : LaneRun) (f : Fld) : (setLaneRun s l r).get f = s.get f := rfl

@[simp] theorem setLaneRun_laneRun_same (s : State) (l : Nat) (r : LaneRun) : (setLaneRun s l r).laneRun l = r := by
  simp [State.laneRun, setLaneRun, aget_aset_same]

theorem setLaneRun_laneRun_ne (s : State) {l x : Nat} (r : LaneRun) (h : x ≠ l) :
    (setLaneRun s l r).laneRun x = s.laneRun x := by
  simp [State.laneRun, setLaneRun, aget_aset_ne _ _ _ _ h]

@[simp] theorem State.set_laneRun (s : State) (f : Fld) (v l : Nat) : (s.set f v).laneRun l = s.laneRun l := rfl
@[simp] theorem State.bump_laneRun (s : State) (f : Fld) (n l : Nat) : (s.bump f n).laneRun l = s.laneRun l := rfl

theorem State.laneRun_of_lanes {s t : State} (h : t.lanes.lanes = s.lanes.lanes) (l : Nat) :
    t.laneRun l = s.laneRun l := by
  simp [State.laneRun, h]

/-! ### What leaves the lanes as they are -/

/-- From `s` to `t` the registers of the lanes and their groups and the lanes' records stay. -/
structure KeepsSerial (s t : State) : Prop where
  regs : ∀ f : Fld, f.Serial → t.get f = s.get f
  runs : t.lanes.lanes = s.lanes.lanes

namespace KeepsSerial

theorem refl (s : State) : KeepsSerial s s := ⟨fun _ _ => rfl, rfl⟩

variable {s t u : State}

theorem trans (h : KeepsSerial s t) (h' : KeepsSerial t u) : KeepsSerial s u :=
  ⟨fun f hf => (h'.regs f hf).trans (h.regs f hf), h'.runs.trans h.runs⟩

theorem foldl {β : Type} (f : State → β → State) (l : List β) (s : State) (h : ∀ t x, KeepsSerial t (f t x)) :
    KeepsSerial s (l.foldl f s) := by
  induction l generalizing s with
  | nil => exact refl s
  | cons x l ih => exact (h s x).trans (ih _)

/-- Of a choice of two continuations. -/
theorem ite {c : Prop} [Decidable c] {v : State} (h : KeepsSerial s u) (h' : KeepsSerial s v) :
    KeepsSerial s (if c then u else v) := by
  split
  · exact h
  · exact h'

/-- A write of a register outside the lanes' blocks. -/
theorem set (f : Fld) (v : Nat) (hf : f.key < 0x100000 * 32 ∨ 0x130000 * 32 ≤ f.key) (h : KeepsSerial s t) :
    KeepsSerial s (t.set f v) :=
  h.trans ⟨fun g hg => t.get_set_ne f g v (by obtain ⟨ha, hb⟩ := hg; omega), rfl⟩

theorem raise (a b c d : Nat) (h : KeepsSerial s t) : KeepsSerial s (raise t a b c d) :=
  h.trans ⟨fun _ hg => raise_get_quiet a b c d hg.quiet, by rw [raise_lanes]⟩

theorem laneReg (h : KeepsSerial s t) {f : Nat → Fld} (hf : LaneReg f) {l : Nat} (hl : l < 128) :
    t.get (f l) = s.get (f l) := h.regs _ (hf.serial hl)

theorem lane (h : KeepsSerial s t) {l : Nat} (hl : l < 128) : t.lane l = s.lane l :=
  h.laneReg (f := F.LN_STATUS_state) (.of (by decide)) hl

theorem laneRun (h : KeepsSerial s t) (l : Nat) : t.laneRun l = s.laneRun l := State.laneRun_of_lanes h.runs l

end KeepsSerial

open KeepsSerial

/-! The twin, the time base, and health. -/

theorem declareFault_keepsSerial (s : State) (row : Nat) : KeepsSerial s (declareFault s row) := by
  unfold declareFault
  extract_lets _ _ s1
  have h1 : KeepsSerial s s1 := ⟨fun _ _ => rfl, rfl⟩
  exact KeepsSerial.ite (.raise _ _ _ _ (h1.trans (foldl (twPut _) _ _ fun _ _ => ⟨fun _ _ => rfl, rfl⟩))) (refl s)

theorem markDirty_keepsSerial (s : State) (a : Nat) : KeepsSerial s (markDirty s a) :=
  KeepsSerial.ite (refl s) ⟨fun _ _ => rfl, rfl⟩

theorem setTb_keepsSerial (s : State) (n : Nat) : KeepsSerial s (setTb s n) := by
  unfold setTb
  extract_lets o _ _ s1 s2
  have h1 : KeepsSerial s s1 := ⟨fun _ _ => rfl, rfl⟩
  have h2 : KeepsSerial s s2 := .raise _ _ _ _ ((h1.set _ _ (by decide)).trans (markDirty_keepsSerial _ _))
  exact KeepsSerial.ite (refl s) (KeepsSerial.ite (h2.trans (declareFault_keepsSerial s2 4)) h2)

/-- The loss of synchronous Ethernet. -/
theorem refLost_syncE_keepsSerial (s : State) (reason : Nat) : KeepsSerial s (refLost s 3 reason) := by
  unfold refLost
  extract_lets s1 s2 _ s4 s5 s6
  have h6 : KeepsSerial s s6 := by
    have he : s6 = s2 := by simp [s6, s5, s4]
    rw [he]
    exact (KeepsSerial.raise _ _ _ _ ((refl s).set _ _ (by decide))).set _ _ (by decide)
  exact KeepsSerial.ite (refl s) (h6.trans (KeepsSerial.ite (setTb_keepsSerial s6 _) (refl s6)))

theorem setDegraded_keepsSerial (s : State) (b : Nat) (on : Bool) : KeepsSerial s (setDegraded s b on) := by
  unfold setDegraded
  extract_lets c c' s1 s2
  have h1 : KeepsSerial s s1 := (refl s).set _ _ (by decide)
  have h2 : KeepsSerial s s2 := (h1.set _ _ (by decide)).raise _ _ _ _
  exact KeepsSerial.ite (KeepsSerial.ite (h2.trans (declareFault_keepsSerial s2 3)) h2)
    (KeepsSerial.ite ((h1.set _ _ (by decide)).raise _ _ _ _) h1)

theorem vcoWorn_keepsSerial (s : State) (g c : Nat) : KeepsSerial s (vcoWorn s g c) := by
  unfold vcoWorn
  extract_lets _ s1
  have h1 : KeepsSerial s s1 := ⟨fun _ _ => rfl, rfl⟩
  exact KeepsSerial.ite (refl s) (KeepsSerial.ite
    (((h1.set _ _ (by decide)).raise _ _ _ _).trans (setDegraded_keepsSerial _ 5 true)) h1)

/-! Pairing that a lane's link-up lets go on (R372), and the wake by it (R401, R402). -/

theorem twSend_keepsSerial (s : State) (b : TwinBody) : KeepsSerial s (twSend s b) := by
  unfold twSend
  split
  · exact refl s
  · exact ⟨fun _ _ => rfl, rfl⟩

theorem pairStep_keepsSerial (s : State) (k : Nat) : KeepsSerial s (pairStep s k) :=
  ((refl s).set F.TW_STATUS_pair_step k (by decide)).trans ⟨fun _ _ => rfl, rfl⟩

theorem pairFail_keepsSerial (s : State) (reason : Nat) : KeepsSerial s (pairFail s reason) := by
  have h1 : KeepsSerial s (Machine.raise s 1000 0x01 5 (s.get F.TW_STATUS_pair_step + reason * 16)) :=
    (refl s).raise _ _ _ _
  have h2 : ∀ x, KeepsSerial s (setTw _ x) := fun x => h1.trans ⟨fun _ _ => rfl, rfl⟩
  exact ((h2 _).set _ _ (by decide)).set _ _ (by decide)

theorem helloJudge_keepsSerial (s : State) : KeepsSerial s (helloJudge s) := by
  unfold helloJudge
  split
  · exact KeepsSerial.ite (refl s) (KeepsSerial.ite (((refl s).raise _ _ _ _).trans (pairFail_keepsSerial _ _))
      ((pairStep_keepsSerial s 3).trans (twSend_keepsSerial _ _)))
  · exact refl s

theorem pairStep1_keepsSerial (s : State) : KeepsSerial s (pairStep1 s) :=
  KeepsSerial.ite (((pairStep_keepsSerial s 2).trans (twSend_keepsSerial _ _)).trans (helloJudge_keepsSerial _)) (refl s)

theorem groupWake_keepsSerial (s : State) (g : Nat) : KeepsSerial s (groupWake s g) := by
  refine KeepsSerial.ite ((refl s).set _ _ (.inr ?_)) (refl s)
  simp only [Fld.key, F.LFT_GRP_STATUS_power]
  omega

theorem dormantWake_keepsSerial (s : State) (cause : Nat) : KeepsSerial s (dormantWake s cause) := by
  unfold dormantWake
  extract_lets s1 _ s2
  have h1 : KeepsSerial s s1 := (KeepsSerial.refl s).set _ _ (by decide)
  have h2 : KeepsSerial s s2 := h1.trans ⟨fun _ _ => rfl, rfl⟩
  exact KeepsSerial.ite (KeepsSerial.refl s) (h2.trans (foldl groupWake _ s2 groupWake_keepsSerial))

/-- A lane that comes UP wakes the device from DORMANT alone. -/
theorem wake_laneUp_keepsSerial (s : State) : KeepsSerial s (wake s 4) := by
  unfold wake
  rw [if_neg (c := (decide (s.mode = Mode.doze) && decide (4 ≤ 3)) = true) (by simp)]
  exact KeepsSerial.ite (KeepsSerial.ite (refl s) ⟨fun _ _ => rfl, rfl⟩)
    (KeepsSerial.ite (dormantWake_keepsSerial s 4) (refl s))

end Sys2Proof.Machine
end

section
/-! The serial-lanes family (O26 to O28): a lane takes a state, and leaves it (R254, R257). -/

namespace Sys2Proof.Machine

open KeepsSerial

/-! ### Folds over lanes -/

/-- In a fold over entries of different keys, a view that only the step of one entry changes is changed by that step. -/
theorem foldl_at {α β κ : Type} (v : State → α) (f : State → β → State) (k : β → κ) {l : List β} {x : β} (hx : x ∈ l)
    (hl : (l.map k).Nodup) (h : ∀ t, ∀ y ∈ l, k y ≠ k x → v (f t y) = v t) (s : State) :
    ∃ t, v t = v s ∧ v (l.foldl f s) = v (f t x) := by
  induction l generalizing s with
  | nil => exact absurd hx List.not_mem_nil
  | cons y l ih =>
    rw [List.map_cons, List.nodup_cons] at hl
    obtain ⟨hy, hl⟩ := hl
    have hrest : ∀ t, ∀ z ∈ l, k z ≠ k x → v (f t z) = v t := fun t z hz => h t z (List.mem_cons_of_mem y hz)
    rcases List.mem_cons.mp hx with rfl | hx
    · refine ⟨s, rfl, foldl_view v f l (f s x) fun t z hz => hrest t z hz fun he => ?_⟩
      exact hy (he ▸ List.mem_map_of_mem hz)
    · obtain ⟨t, ht, hv⟩ := ih hx hl hrest (f s y)
      refine ⟨t, ht.trans (h s y List.mem_cons_self fun he => ?_), hv⟩
      exact hy (he ▸ List.mem_map_of_mem hx)

theorem portLanes_nodup (s : State) (l : Nat) : (portLanes s l).Nodup := by
  unfold portLanes
  dsimp only
  split
  · exact List.nodup_range.map fun _ _ h => Nat.add_left_cancel h
  · exact List.nodup_singleton l

theorem mem_groupLanes {g x : Nat} (h : x / 8 = g) : x ∈ groupLanes g := by
  refine List.mem_map.mpr ⟨x % 8, List.mem_range.mpr (Nat.mod_lt _ (by decide)), ?_⟩
  omega

theorem div_of_mem_groupLanes {g x : Nat} (h : x ∈ groupLanes g) : x / 8 = g := by
  obtain ⟨k, hk, rfl⟩ := List.mem_map.mp h
  have := List.mem_range.mp hk
  omega

theorem groupLanes_nodup (g : Nat) : (groupLanes g).Nodup :=
  List.nodup_range.map fun _ _ h => Nat.add_left_cancel h

/-! ### A lane takes a state -/

section
variable {s : State} {f : Nat → Fld} {l x st cause : Nat}

theorem laneState_lane (h : st < 16) : (laneState s l st).lane l = st := by
  have hset : (laneState s l st).lane l = st % 2 ^ 4 := s.get_set_same (F.LN_STATUS_state l) st
  omega

theorem laneState_get_reg {f : Fld} (h : f.key ≠ (F.LN_STATUS_state l).key) : (laneState s l st).get f = s.get f :=
  s.get_set_ne _ _ _ h

theorem laneState_get_laneReg (hf : LaneReg f) (h : x ≠ l ∨ (f 0).key ≠ (F.LN_STATUS_state 0).key) :
    (laneState s l st).get (f x) = s.get (f x) := hf.get_set (.of (by decide)) s st h

theorem laneState_lane_ne (h : x ≠ l) : (laneState s l st).lane x = s.lane x :=
  laneState_get_laneReg (f := F.LN_STATUS_state) (.of (by decide)) (.inl h)

theorem laneState_laneRun : (laneState s l st).laneRun l = { s.laneRun l with since := s.now } :=
  setLaneRun_laneRun_same _ _ _

/-! ### A lane leaves its state -/

/-- Lane `l` has left its state for `st`. -/
def laneStood (s : State) (l st : Nat) : State :=
  setLaneRun (laneState s l st) l { (laneState s l st).laneRun l with failed := false, rxQ := [] }

/-- Its link goes down with it, is counted and reported. -/
def linkDown (s : State) (l cause : Nat) : State :=
  let s := s.set (F.LN_STATUS_link_up l) 0
  let s := s.set (F.LN_GRP_STATUS_up (l / 8)) (putBit (s.get (F.LN_GRP_STATUS_up (l / 8))) (l % 8) false)
  raise ((s.bump (F.LN_LINKDOWN_CNT_count l) 1).set (F.LN_LINKDOWN_CNT_last_cause l) cause) (4 * l) 2 4 cause

/-- A lane leaves its state, with its link where it was UP; what synchronous Ethernet then loses is no lane's. -/
theorem laneLeave_keepsSerial (s : State) (l cause st : Nat) : KeepsSerial
    (if s.lane l = Ln.up then linkDown (laneStood s l st) l cause else laneStood s l st) (laneLeave s l cause st) :=
  KeepsSerial.ite (refLost_syncE_keepsSerial _ 6) (refl _)

/-- The registers that a link writes as it goes down. -/
def downRegs (l : Nat) : List Fld := [F.LN_STATUS_link_up l, F.LN_GRP_STATUS_up (l / 8), F.LN_LINKDOWN_CNT_count l,
  F.LN_LINKDOWN_CNT_last_cause l]

theorem linkDown_get_reg {f : Fld} (hf : f.Serial) (h : ∀ g ∈ downRegs l, f.key ≠ g.key) :
    (linkDown s l cause).get f = s.get f := by
  simp only [downRegs, List.forall_mem_cons] at h
  obtain ⟨hup, hgroup, hcount, hcause, -⟩ := h
  unfold linkDown
  rw [raise_get_quiet _ _ _ _ hf.quiet, State.get_set_ne _ _ _ _ hcause, State.bump, State.get_set_ne _ _ _ _ hcount,
    State.get_set_ne _ _ _ _ hgroup, State.get_set_ne _ _ _ _ hup]

theorem laneLeave_get_reg {f : Fld} (hf : f.Serial) (hstate : f.key ≠ (F.LN_STATUS_state l).key)
    (hdown : ∀ g ∈ downRegs l, f.key ≠ g.key) : (laneLeave s l cause st).get f = s.get f := by
  have hstood : (laneStood s l st).get f = s.get f := laneState_get_reg hstate
  rw [(laneLeave_keepsSerial s l cause st).regs f hf]
  split
  · rw [linkDown_get_reg hf hdown, hstood]
  · exact hstood

/-- The keys of those that are the lane's own, in the block of lane 0. -/
def downKeys : List Nat :=
  [F.LN_STATUS_link_up, F.LN_LINKDOWN_CNT_count, F.LN_LINKDOWN_CNT_last_cause].map (fun g => (g 0).key)

theorem LaneReg.ne_downRegs (hf : LaneReg f) (hx : x < 128) (h : x ≠ l ∨ (f 0).key ∉ downKeys) :
    ∀ g ∈ downRegs l, (f x).key ≠ g.key := by
  have hne : ∀ {g : Nat → Fld}, LaneReg g → (g 0).key ∈ downKeys → (f x).key ≠ (g l).key := fun hg hmem =>
    hf.key_ne hg (h.imp_right fun hn he => hn (he ▸ hmem))
  simp only [downRegs, List.forall_mem_cons]
  exact ⟨hne (g := F.LN_STATUS_link_up) (.of (by decide)) (by decide), hf.ne_group hx (groupUp_above _),
    hne (g := F.LN_LINKDOWN_CNT_count) (.of (by decide)) (by decide),
    hne (g := F.LN_LINKDOWN_CNT_last_cause) (.of (by decide)) (by decide), by simp⟩

theorem laneLeave_get_laneReg (hf : LaneReg f) (hx : x < 128)
    (h : x ≠ l ∨ (f 0).key ∉ (F.LN_STATUS_state 0).key :: downKeys) :
    (laneLeave s l cause st).get (f x) = s.get (f x) := by
  refine laneLeave_get_reg (hf.serial hx) (hf.key_ne (.of (by decide)) ?_) (hf.ne_downRegs hx ?_)
  · exact h.imp_right fun hn he => hn (he ▸ List.mem_cons_self)
  · exact h.imp_right fun hn hmem => hn (List.mem_cons_of_mem _ hmem)

theorem laneLeave_lane_ne (hx : x < 128) (h : x ≠ l) : (laneLeave s l cause st).lane x = s.lane x :=
  laneLeave_get_laneReg (f := F.LN_STATUS_state) (.of (by decide)) hx (.inl h)

theorem laneLeave_lane (hl : l < 128) (h : st < 16) : (laneLeave s l cause st).lane l = st := by
  have hstood : (laneStood s l st).lane l = st := laneState_lane h
  rw [(laneLeave_keepsSerial s l cause st).lane hl]
  split
  · have hstate : LaneReg F.LN_STATUS_state := .of (by decide)
    exact (linkDown_get_reg (hstate.serial hl) (hstate.ne_downRegs hl (.inr (by decide)))).trans hstood
  · exact hstood

theorem linkDown_link (hl : l < 128) : (linkDown s l cause).get (F.LN_STATUS_link_up l) = 0 ∧
    (linkDown s l cause).get (F.LN_LINKDOWN_CNT_count l) = min (s.get (F.LN_LINKDOWN_CNT_count l) + 1) 65535 ∧
    (linkDown s l cause).get (F.LN_LINKDOWN_CNT_last_cause l) = cause % 16 := by
  have hlink : LaneReg F.LN_STATUS_link_up := .of (by decide)
  have hcount : LaneReg F.LN_LINKDOWN_CNT_count := .of (by decide)
  have hcause : LaneReg F.LN_LINKDOWN_CNT_last_cause := .of (by decide)
  unfold linkDown
  refine ⟨?_, ?_, ?_⟩
  · rw [raise_get_quiet _ _ _ _ (hlink.serial hl).quiet, hlink.get_set hcause _ _ (.inr (by decide)), State.bump,
      hlink.get_set hcount _ _ (.inr (by decide)), State.get_set_ne _ _ _ _ (hlink.ne_group hl (groupUp_above _)),
      State.get_set_same]
    rfl
  · rw [raise_get_quiet _ _ _ _ (hcount.serial hl).quiet, hcount.get_set hcause _ _ (.inr (by decide)),
      State.get_bump_same, State.get_set_ne _ _ _ _ (hcount.ne_group hl (groupUp_above _)),
      hcount.get_set hlink _ _ (.inr (by decide))]
    rfl
  · rw [raise_get_quiet _ _ _ _ (hcause.serial hl).quiet, State.get_set_same]
    rfl

/-- The link of a lane that was UP is down, counted and its cause kept. -/
theorem laneLeave_link (hl : l < 128) (hc : cause < 16) (hup : s.lane l = Ln.up) :
    (laneLeave s l cause st).get (F.LN_STATUS_link_up l) = 0 ∧
    (laneLeave s l cause st).get (F.LN_LINKDOWN_CNT_count l) = min (s.get (F.LN_LINKDOWN_CNT_count l) + 1) 65535 ∧
    (laneLeave s l cause st).get (F.LN_LINKDOWN_CNT_last_cause l) = cause := by
  have hcount : LaneReg F.LN_LINKDOWN_CNT_count := .of (by decide)
  have hleave := laneLeave_keepsSerial s l cause st
  rw [if_pos hup] at hleave
  obtain ⟨hl1, hl2, hl3⟩ := linkDown_link (s := laneStood s l st) (cause := cause) hl
  refine ⟨(hleave.laneReg (f := F.LN_STATUS_link_up) (.of (by decide)) hl).trans hl1,
    (hleave.laneReg hcount hl).trans (hl2.trans ?_),
    (hleave.laneReg (f := F.LN_LINKDOWN_CNT_last_cause) (.of (by decide)) hl).trans
      (hl3.trans (Nat.mod_eq_of_lt hc))⟩
  rw [show (laneStood s l st).get (F.LN_LINKDOWN_CNT_count l) = s.get (F.LN_LINKDOWN_CNT_count l) from
    laneState_get_laneReg hcount (.inr (by decide))]

/-! ### The other lanes of its port wait -/

/-- The port's other lanes write none of the lane's registers as they leave. -/
theorem portWait_get_laneReg (hf : LaneReg f) (hl : l < 128) : (portWait s l cause).get (f l) = s.get (f l) := by
  refine foldl_view (fun t : State => t.get (f l)) _ _ s fun t x hx => laneLeave_get_laneReg hf hl (.inl ?_)
  have hne := (List.mem_filter.mp hx).2
  rw [Bool.and_eq_true, bne_iff_ne] at hne
  exact hne.1.symm

/-- Lane `l` leaves its state and its port waits. -/
theorem leaveWait_get_laneReg (hf : LaneReg f) (hl : l < 128) (h : (f 0).key ∉ (F.LN_STATUS_state 0).key :: downKeys) :
    (portWait (laneLeave s l cause st) l cause).get (f l) = s.get (f l) :=
  (portWait_get_laneReg hf hl).trans (laneLeave_get_laneReg hf hl (.inr h))

theorem leaveWait_lane (hl : l < 128) (h : st < 16) : (portWait (laneLeave s l cause st) l cause).lane l = st :=
  (portWait_get_laneReg (f := F.LN_STATUS_state) (.of (by decide)) hl).trans (laneLeave_lane hl h)

end

end Sys2Proof.Machine
end

section
/-! The serial-lanes family (O27): lanes leave UP, and the loops and PRBS. -/

namespace Sys2Proof.Machine

open KeepsSerial

section
variable {s : State} {l x g cause loop gen chk st : Nat} {drive : Bool}

/-! ### The loss of a link (R257) -/

theorem exec_laneLinkLoss_one (hl : l < 128) (h1 : 1 ≤ cause) (h4 : cause ≤ 4) (hup : s.lane l = Ln.up) :
    exec (.laneLinkLoss l cause) s = .next (settle (portWait (laneLeave s l cause (lossRestart cause)) l cause)) := by
  refine exec_next rfl (by simp [Instr.wf]; omega) ?_
  have h5 : cause ≠ 5 ∧ cause ≠ 6 ∧ ¬ 5 ≤ cause := by omega
  rw [if_neg (not_not.mpr hup), if_neg (by simp [h5]), if_neg h5.2.2]

/-- Marker loss takes every lane of its 100G port, and a loss of alignment every lane of its link. -/
theorem exec_laneLinkLoss_port (hl : l < 128) (hup : s.lane l = Ln.up)
    (h : cause = 5 ∧ is100G s l = true ∨ cause = 6 ∧ isJesd s l = true) : exec (.laneLinkLoss l cause) s =
      .next (settle ((portLanes s l).foldl (fun t x => laneLeave t x cause (lossRestart cause)) s)) := by
  refine exec_next rfl (by simp [Instr.wf]; omega) ?_
  rw [if_neg (not_not.mpr hup), if_neg ?_, if_pos (by omega)]
  rcases h with ⟨rfl, h⟩ | ⟨rfl, h⟩ <;> simp [h]

theorem exec_laneLinkLoss_down (hl : l < 128) (h1 : 1 ≤ cause) (h6 : cause ≤ 6) (hdown : s.lane l ≠ Ln.up) :
    exec (.laneLinkLoss l cause) s = .next (settle s) :=
  exec_next rfl (by simp [Instr.wf]; omega) (if_pos hdown)

/-- Every lane of the port restarts at its state. -/
theorem portLeave_lane (hx : x ∈ portLanes s l) (hlt : x < 128) (hst : st < 16) :
    (settle ((portLanes s l).foldl (fun t y => laneLeave t y cause st) s)).lane x = st := by
  obtain ⟨t, -, ht⟩ := foldl_at (fun t : State => t.lane x) (fun t y => laneLeave t y cause st) id hx
    (by rw [List.map_id]; exact portLanes_nodup s l) (fun t y _ hne => laneLeave_lane_ne hlt (Ne.symm hne)) s
  rw [settle_lane _ hlt]
  exact ht.trans (laneLeave_lane hlt hst)

/-! ### The group PLL unlocks (R257, R448) -/

/-- A worn VCO that is replaced writes no register of the lanes but its group's. -/
theorem vcoPassage_get {f : Fld} (hf : f.Serial) (hvco : f.key ≠ (F.LN_GRP_STATUS_vco g).key) :
    (vcoPassage s g).get f = s.get f := by
  obtain ⟨habove, hbelow⟩ := id hf
  have hcount : ∀ h : Fld, h.key < 0x100000 * 32 ∨ 0x130000 * 32 ≤ h.key → f.key ≠ h.key := fun h hh => by omega
  unfold vcoPassage
  split
  · rfl
  · dsimp only
    split
    · rfl
    · split
      · rfl
      · rw [raiseCrit_get _ _ _ _ _ _ _ hf.quiet.1, State.bump, State.get_set_ne _ _ _ _ (hcount _ (by decide)), State.bump,
          State.get_set_ne _ _ _ _ (hcount _ (by decide)), State.get_set_ne _ _ _ _ hvco]
        rfl

theorem vcoPassage_lane (hx : x < 128) : (vcoPassage s g).lane x = s.lane x := by
  have hstate : LaneReg F.LN_STATUS_state := .of (by decide)
  refine vcoPassage_get (hstate.serial hx) (hstate.ne_group hx ?_)
  simp only [Fld.key, F.LN_GRP_STATUS_vco]
  omega

/-- The lanes of group `g` that may run go to IDLE. -/
def groupIdle (s : State) (g : Nat) : State :=
  (groupLanes g).foldl (fun t l => if laneEnabled t l && t.lane l ≠ Ln.off then laneLeave t l 7 Ln.idle else t) s

theorem groupIdle_lane (hx : x < 128) (hg : x / 8 = g) (hen : laneEnabled s x = true) (hoff : s.lane x ≠ 10) :
    (groupIdle s g).lane x = 1 := by
  have henable : LaneReg F.LN_CTRL_enable := .of (by decide)
  have hproto : LaneReg F.LN_CFG_proto := .of (by decide)
  have hkeep : ∀ t : State, ∀ y ∈ groupLanes g, id y ≠ id x →
      (fun t : State => (t.lane x, laneEnabled t x))
        (if laneEnabled t y && t.lane y ≠ Ln.off then laneLeave t y 7 Ln.idle else t) = (t.lane x, laneEnabled t x) := by
    intro t y _ hne
    have hxy : x ≠ y := Ne.symm hne
    split
    · simp only [laneEnabled, State.flag, laneLeave_lane_ne hx hxy, laneLeave_get_laneReg henable hx (.inl hxy),
        laneLeave_get_laneReg hproto hx (.inl hxy)]
    · rfl
  obtain ⟨t, ht, hv⟩ := foldl_at (fun t : State => (t.lane x, laneEnabled t x)) _ id (mem_groupLanes hg)
    (by rw [List.map_id]; exact groupLanes_nodup g) hkeep s
  obtain ⟨hlane, henabled⟩ := Prod.mk.inj ht
  refine (Prod.mk.inj hv).1.trans ?_
  rw [if_pos (by simp [henabled, hen, hlane, hoff, Ln.off])]
  exact laneLeave_lane hx (by decide)

theorem groupIdle_get (hg : g < 16) : (groupIdle s g).get (F.LN_GRP_STATUS_pll_lock g) = s.get (F.LN_GRP_STATUS_pll_lock g) := by
  refine foldl_view (fun t : State => t.get (F.LN_GRP_STATUS_pll_lock g)) _ _ s fun t y hy => ?_
  have hy8 := div_of_mem_groupLanes hy
  have hlane : ∀ f : Nat → Fld, LaneReg f → (F.LN_GRP_STATUS_pll_lock g).key ≠ (f y).key := fun f hf =>
    (hf.ne_group (by omega) (by simp only [Fld.key, F.LN_GRP_STATUS_pll_lock]; omega)).symm
  split
  · refine laneLeave_get_reg (.of_group hg (by decide)) (hlane F.LN_STATUS_state (.of (by decide))) ?_
    simp only [downRegs, List.forall_mem_cons]
    refine ⟨hlane _ (.of (by decide)), ?_, hlane _ (.of (by decide)), hlane _ (.of (by decide)), by simp⟩
    simp only [Fld.key, F.LN_GRP_STATUS_pll_lock, F.LN_GRP_STATUS_up]
    omega
  · rfl

/-- The state in which the group's PLL has lost its lock, its lanes have left for IDLE, and its VCO is judged. -/
def pllUnlocked (s : State) (g : Nat) : State :=
  let s := (s.set (F.LN_GRP_STATUS_pll_lock g) 0).bump (F.LN_GRP_UNLOCK_CNT_count g) 1
  groupIdle (raise s (32 * g) 7 5 (s.get (F.LN_GRP_STATUS_vco g))) g

/-- The unlock joins those of the last day, and too many of them show the VCO worn. -/
def unlockKept (s : State) (g : Nat) : State :=
  let recent := (((aget s.lanes.unlocks g).getD []).filter (fun t => s.now < t + dayTk)) ++ [s.now]
  let s := { s with lanes := { s.lanes with unlocks := aset s.lanes.unlocks g recent } }
  if max 1 (s.get F.SPR_CFG2_vco_unlocks) ≤ recent.length then vcoWorn s g 2 else s

theorem unlockKept_keepsSerial (s : State) (g : Nat) : KeepsSerial s (unlockKept s g) := by
  unfold unlockKept
  extract_lets recent _ s1
  have h1 : KeepsSerial s s1 := ⟨fun _ _ => rfl, rfl⟩
  exact KeepsSerial.ite (h1.trans (vcoWorn_keepsSerial s1 g 2)) h1

theorem exec_groupPllUnlock (hg : g < 16) (h : s.flag (F.LN_GRP_STATUS_pll_lock g) = true) :
    exec (.groupPllUnlock g) s = .next (settle (vcoPassage (unlockKept (pllUnlocked s g) g) g)) := by
  refine exec_next rfl (by simpa [Instr.wf] using hg) ?_
  rw [if_neg (by simp [h])]
  extract_lets s1 s2 s3 recent _ s4 s5
  have h3 : s3 = pllUnlocked s g := rfl
  rw [← h3]
  clear_value s3
  rfl

theorem settle_groupPllUnlock {t : State} (hg : g < 16)
    (ht : t = settle (vcoPassage (unlockKept (pllUnlocked s g) g) g)) : t.flag (F.LN_GRP_STATUS_pll_lock g) = false ∧
      ∀ x, x < 128 → x / 8 = g → laneEnabled s x = true → s.lane x ≠ 10 → t.lane x = 1 := by
  subst ht
  have hlock : (F.LN_GRP_STATUS_pll_lock g).Serial := .of_group hg (by decide)
  have hne : ∀ h : Fld, h.key = (F.LN_GRP_STATUS_vco g).key ∨ h.key = (F.LN_GRP_UNLOCK_CNT_count g).key →
      (F.LN_GRP_STATUS_pll_lock g).key ≠ h.key := fun h hh => by
    simp only [Fld.key, F.LN_GRP_STATUS_pll_lock, F.LN_GRP_STATUS_vco, F.LN_GRP_UNLOCK_CNT_count] at hh ⊢
    omega
  refine ⟨State.flag_of_get (s := (s.set (F.LN_GRP_STATUS_pll_lock g) 0)) ?_ |>.trans ?_, ?_⟩
  · rw [settle_get_quiet hlock.quiet, vcoPassage_get hlock (hne _ (.inl rfl)), (unlockKept_keepsSerial _ g).regs _ hlock,
      pllUnlocked, groupIdle_get hg, raise_get_quiet _ _ _ _ hlock.quiet, State.bump, State.get_set_ne _ _ _ _ (hne _ (.inr rfl))]
  · simp [State.flag]
  · intro x hx hxg hen hoff
    have hlane : ∀ (f : Nat → Fld) (u : State) v, LaneReg f → ((u.set (F.LN_GRP_STATUS_pll_lock g) v).bump
        (F.LN_GRP_UNLOCK_CNT_count g) 1).get (f x) = u.get (f x) := fun f u v hf => by
      rw [State.bump, State.get_set_ne, State.get_set_ne]
      all_goals
        refine hf.ne_group hx ?_
        simp only [Fld.key, F.LN_GRP_STATUS_pll_lock, F.LN_GRP_UNLOCK_CNT_count]
        omega
    have hkeep : ∀ f : Nat → Fld, LaneReg f → ∀ d, (raise ((s.set (F.LN_GRP_STATUS_pll_lock g) 0).bump
        (F.LN_GRP_UNLOCK_CNT_count g) 1) (32 * g) 7 5 d).get (f x) = s.get (f x) := fun f hf d =>
      (raise_get_quiet _ _ _ _ (hf.serial hx).quiet).trans (hlane f s 0 hf)
    rw [settle_lane _ hx, vcoPassage_lane hx, (unlockKept_keepsSerial _ g).lane hx]
    refine groupIdle_lane hx hxg ?_ ?_
    · rw [← hen]
      simp only [laneEnabled, State.flag, hkeep F.LN_CTRL_enable (.of (by decide)), hkeep F.LN_CFG_proto (.of (by decide))]
    · rwa [State.lane, hkeep F.LN_STATUS_state (.of (by decide))]

/-! ### Control writes (R257) -/

theorem exec_laneEnableWrite_off (hl : l < 128) : exec (.laneEnableWrite l false) s =
    .next (settle (portWait ((laneLeave s l 8 Ln.disabled).set (F.LN_CTRL_enable l) 0) l 8)) :=
  exec_next rfl (by simpa [Instr.wf] using hl) rfl

theorem laneStart_set : laneStart (s.set (F.LN_CTRL_enable l) 1) l =
    if s.flag (F.CLK_GATE_EN_open (264 + l / 8)) = false ∨ s.flag (F.LN_GRP_STATUS_held (l / 8)) = true then 10
    else if s.flag (F.LN_GRP_STATUS_pll_lock (l / 8)) = true then 2 else 1 := by
  have hkeep : ∀ f ∈ [F.CLK_GATE_EN_open (264 + l / 8), F.LN_GRP_STATUS_held (l / 8), F.LN_GRP_STATUS_pll_lock (l / 8)],
      (s.set (F.LN_CTRL_enable l) 1).flag f = s.flag f := fun f hf => State.flag_of_get <| s.get_set_ne _ _ _ <| by
    simp only [List.mem_cons, List.not_mem_nil, or_false] at hf
    rcases hf with rfl | rfl | rfl <;> simp only [Fld.key, F.LN_CTRL_enable, F.CLK_GATE_EN_open, F.LN_GRP_STATUS_held,
      F.LN_GRP_STATUS_pll_lock] <;> omega
  unfold laneStart
  simp only [hkeep _ (.head _), hkeep _ (.tail _ (.head _)), hkeep _ (.tail _ (.tail _ (.head _)))]
  simp only [Bool.or_eq_true, Bool.not_eq_true']
  rfl

theorem exec_laneEnableWrite_on (hl : l < 128) (hdis : s.lane l = 0) (hproto : s.get (F.LN_CFG_proto l) ≠ 0) :
    exec (.laneEnableWrite l true) s = .next (settle (laneState (s.set (F.LN_CTRL_enable l) 1) l
      (laneStart (s.set (F.LN_CTRL_enable l) 1) l))) := by
  have hkeep : ∀ f : Nat → Fld, LaneReg f → (f 0).key ≠ (F.LN_CTRL_enable 0).key →
      (s.set (F.LN_CTRL_enable l) 1).get (f l) = s.get (f l) := fun f hf hne => hf.get_set (.of (by decide)) s 1 (.inr hne)
  refine exec_next rfl (by simpa [Instr.wf] using hl) ?_
  unfold laneEnable
  dsimp only
  rw [if_neg (by decide), if_pos ?_]
  · rfl
  rw [Bool.and_eq_true, decide_eq_true_eq, laneEnabled, State.lane, State.flag, State.get_set_same,
    hkeep F.LN_STATUS_state (.of (by decide)) (by decide), hkeep F.LN_CFG_proto (.of (by decide)) (by decide)]
  exact ⟨hdis, by simpa [F.LN_CTRL_enable] using hproto⟩

theorem exec_laneRestart (hl : l < 128) : exec (.laneRestart l) s = .next (settle (laneRestart s l)) :=
  exec_next rfl (by simpa [Instr.wf] using hl) rfl

theorem laneRuns_iff : laneRuns s l = true ↔ 2 ≤ s.lane l ∧ s.lane l ≤ 9 := by
  simp [laneRuns]

/-- A lane that runs starts again at `st`, and any other stays where it is. -/
theorem restart_lane (hl : l < 128) (hst : st < 16) :
    (if laneRuns s l then portWait (laneLeave s l cause st) l cause else s).lane l =
      if 2 ≤ s.lane l ∧ s.lane l ≤ 9 then st else s.lane l := by
  simp only [laneRuns_iff]
  split
  · exact leaveWait_lane hl hst
  · rfl

theorem laneRestart_lane (hl : l < 128) :
    (laneRestart s l).lane l = if 2 ≤ s.lane l ∧ s.lane l ≤ 9 then 2 else s.lane l := restart_lane hl (by decide)

/-! ### The loops and PRBS (R259 to R261) -/

theorem loopRestart_lane (hl : l < 128) (hst : st < 16) :
    (loopRestart s l st).lane l = if 2 ≤ s.lane l ∧ s.lane l ≤ 9 then st else s.lane l := restart_lane hl hst

theorem loopRestart_get {f : Nat → Fld} (hf : LaneReg f) (hl : l < 128)
    (h : (f 0).key ∉ (F.LN_STATUS_state 0).key :: downKeys) : (loopRestart s l st).get (f l) = s.get (f l) := by
  unfold loopRestart
  split
  · exact leaveWait_get_laneReg hf hl h
  · rfl

theorem loopEvent_get {f : Nat → Fld} (hf : LaneReg f) (hl : l < 128) : (loopEvent s l).get (f l) = s.get (f l) :=
  raise_get_quiet _ _ _ _ (hf.serial hl).quiet

/-- What a new loop does to the receiver. -/
def loopMoved (s : State) (l loop : Nat) : State :=
  if loop = 0 then loopRestart s l Ln.sigDetect
  else if loop = 1 then loopRestart s l Ln.cdrLock
  else if loop = 2 then loopRestart s l Ln.blockLock else s

theorem loopMoved_get {f : Nat → Fld} (hf : LaneReg f) (hl : l < 128)
    (h : (f 0).key ∉ (F.LN_STATUS_state 0).key :: downKeys) : (loopMoved s l loop).get (f l) = s.get (f l) := by
  unfold loopMoved
  split
  · exact loopRestart_get hf hl h
  · split
    · exact loopRestart_get hf hl h
    · split
      · exact loopRestart_get hf hl h
      · rfl

theorem loopMoved_lane (hl : l < 128) (hloop : loop < 4) : (loopMoved s l loop).lane l =
    if loop = 3 ∨ s.lane l < 2 ∨ 9 < s.lane l then s.lane l
    else if loop = 0 then 2 else if loop = 1 then 4 else 6 := by
  have hrun : ∀ st, st < 16 → (loopRestart s l st).lane l = if s.lane l < 2 ∨ 9 < s.lane l then s.lane l else st := by
    intro st hst
    rw [loopRestart_lane hl hst]
    by_cases h : 2 ≤ s.lane l ∧ s.lane l ≤ 9
    · rw [if_pos h, if_neg (by omega)]
    · rw [if_neg h, if_pos (by omega)]
  have hcases : loop = 0 ∨ loop = 1 ∨ loop = 2 ∨ loop = 3 := by omega
  rcases hcases with rfl | rfl | rfl | rfl
  · simpa [loopMoved, Ln.sigDetect] using hrun 2 (by decide)
  · simpa [loopMoved, Ln.cdrLock] using hrun 4 (by decide)
  · simpa [loopMoved, Ln.blockLock] using hrun 6 (by decide)
  · rfl

theorem exec_loopSelect (hl : l < 128) (hloop : loop < 4) :
    exec (.loopSelect l loop drive) s = .next (settle (loopSelect s l loop drive)) :=
  exec_next rfl (by simp [Instr.wf, hl, hloop]) rfl

theorem loopSelect_refused (h0 : loop ≠ 0) (h : loopRefusal s l ≠ 0) :
    loopSelect s l loop drive = raise s (4 * l) 0x31 3 (loopRefusal s l) := if_pos (by simp [h0, h])

/-- The lane with its loop set, before the receiver follows. -/
def loopSet (s : State) (l loop : Nat) (drive : Bool) : State :=
  ((s.set (F.LN_CTRL_loop_tx_drive l) (ofBool drive)).set (F.LN_CTRL_loop l) loop).set (F.LN_STATUS_loop_active l)
    (ofBool (loop != 0))

theorem loopSelect_taken (h : loop = 0 ∨ loopRefusal s l = 0) : loopSelect s l loop drive =
    if loop = s.get (F.LN_CTRL_loop l) then s.set (F.LN_CTRL_loop_tx_drive l) (ofBool drive)
    else loopEvent (loopMoved (loopSet s l loop drive) l loop) l :=
  if_neg (by rcases h with h | h <;> simp [h])

theorem loopSet_regs (hloop : loop < 4) : (loopSet s l loop drive).get (F.LN_CTRL_loop l) = loop ∧
    (loopSet s l loop drive).get (F.LN_CTRL_loop_tx_drive l) = ofBool drive ∧ (loopSet s l loop drive).lane l = s.lane l := by
  have hdrive : LaneReg F.LN_CTRL_loop_tx_drive := .of (by decide)
  have hreg : LaneReg F.LN_CTRL_loop := .of (by decide)
  have hact : LaneReg F.LN_STATUS_loop_active := .of (by decide)
  have hstate : LaneReg F.LN_STATUS_state := .of (by decide)
  unfold loopSet
  refine ⟨?_, ?_, ?_⟩
  · rw [hreg.get_set hact _ _ (.inr (by decide)), State.get_set_same]
    exact Nat.mod_eq_of_lt hloop
  · rw [hdrive.get_set hact _ _ (.inr (by decide)), hdrive.get_set hreg _ _ (.inr (by decide)), State.get_set_same]
    cases drive <;> rfl
  · rw [State.lane, hstate.get_set hact _ _ (.inr (by decide)), hstate.get_set hreg _ _ (.inr (by decide)),
      hstate.get_set hdrive _ _ (.inr (by decide))]
    rfl

theorem settle_loopSelect {t : State} (hl : l < 128) (hloop : loop < 4) (h : loop = 0 ∨ loopRefusal s l = 0)
    (ht : t = settle (loopSelect s l loop drive)) : t.get (F.LN_CTRL_loop l) = loop ∧
      t.flag (F.LN_CTRL_loop_tx_drive l) = drive ∧
      t.lane l = (if loop = s.get (F.LN_CTRL_loop l) ∨ loop = 3 ∨ s.lane l < 2 ∨ 9 < s.lane l then s.lane l
        else if loop = 0 then 2 else if loop = 1 then 4 else 6) := by
  subst ht
  have hdrive : LaneReg F.LN_CTRL_loop_tx_drive := .of (by decide)
  have hreg : LaneReg F.LN_CTRL_loop := .of (by decide)
  have hstate : LaneReg F.LN_STATUS_state := .of (by decide)
  rw [State.flag, settle_get_laneReg _ hreg hl, settle_get_laneReg _ hdrive hl, settle_lane _ hl, loopSelect_taken h]
  split
  · next hold =>
    rw [if_pos (.inl hold), hreg.get_set hdrive _ _ (.inr (by decide)), State.get_set_same]
    exact ⟨hold.symm, by cases drive <;> rfl, hstate.get_set hdrive _ _ (.inr (by decide))⟩
  · next hnew =>
    obtain ⟨hr, hd, hs⟩ := loopSet_regs (s := s) (l := l) (drive := drive) hloop
    rw [loopEvent_get hreg hl, loopEvent_get hdrive hl, loopMoved_get hreg hl (by decide),
      loopMoved_get hdrive hl (by decide), hr, hd, State.lane, loopEvent_get hstate hl]
    refine ⟨rfl, by cases drive <;> rfl, (loopMoved_lane hl hloop).trans ?_⟩
    simp only [hs, hnew, false_or]

theorem exec_prbsGenSelect (hl : l < 128) (hgen : gen < 4) :
    exec (.prbsGenSelect l gen) s = .next (settle (prbsGen s l gen)) := exec_next rfl (by simp [Instr.wf, hl, hgen]) rfl

theorem prbsGen_refused (h0 : gen ≠ 0) (h : loopRefusal s l ≠ 0) :
    prbsGen s l gen = raise s (4 * l) 0x31 3 (loopRefusal s l) := if_pos (by simp [h0, h])

theorem prbsGen_taken (h : gen = 0 ∨ loopRefusal s l = 0) (hnew : gen ≠ s.get (F.LN_CTRL_prbs_gen l)) :
    prbsGen s l gen = loopEvent (if gen = 0 || s.get (F.LN_CTRL_prbs_gen l) = 0
      then loopRestart (s.set (F.LN_CTRL_prbs_gen l) gen) l Ln.blockLock else s.set (F.LN_CTRL_prbs_gen l) gen) l := by
  unfold prbsGen
  dsimp only
  rw [if_neg (by rcases h with h | h <;> simp [h]), if_neg hnew]

theorem settle_prbsGen {t : State} (hl : l < 128) (hgen : gen < 4) (h : gen = 0 ∨ loopRefusal s l = 0)
    (ht : t = settle (prbsGen s l gen)) : t.get (F.LN_CTRL_prbs_gen l) = gen ∧
      t.lane l = (if gen ≠ s.get (F.LN_CTRL_prbs_gen l) ∧ (gen = 0 ∨ s.get (F.LN_CTRL_prbs_gen l) = 0) ∧
        2 ≤ s.lane l ∧ s.lane l ≤ 9 then 6 else s.lane l) := by
  subst ht
  have hreg : LaneReg F.LN_CTRL_prbs_gen := .of (by decide)
  have hstate : LaneReg F.LN_STATUS_state := .of (by decide)
  have hsame : (s.set (F.LN_CTRL_prbs_gen l) gen).get (F.LN_CTRL_prbs_gen l) = gen :=
    (State.get_set_same _ _ _).trans (Nat.mod_eq_of_lt hgen)
  have hlane : (s.set (F.LN_CTRL_prbs_gen l) gen).lane l = s.lane l := hstate.get_set hreg s gen (.inr (by decide))
  rw [settle_get_laneReg _ hreg hl, settle_lane _ hl]
  by_cases hnew : gen = s.get (F.LN_CTRL_prbs_gen l)
  · have hsame : prbsGen s l gen = s := by
      unfold prbsGen
      dsimp only
      rw [if_neg (by rcases h with h | h <;> simp [h]), if_pos hnew]
    rw [hsame, if_neg fun hc => hc.1 hnew]
    exact ⟨hnew.symm, rfl⟩
  · rw [prbsGen_taken h hnew, loopEvent_get hreg hl, State.lane, loopEvent_get hstate hl]
    by_cases hrestart : gen = 0 ∨ s.get (F.LN_CTRL_prbs_gen l) = 0
    · rw [if_pos (by simpa using hrestart), loopRestart_get hreg hl (by decide)]
      refine ⟨hsame, (loopRestart_lane hl (by decide)).trans ?_⟩
      simp only [hlane, hnew, hrestart, ne_eq, not_false_eq_true, true_and]
      rfl
    · rw [if_neg (by simpa using hrestart), if_neg fun hc => hrestart hc.2.1]
      exact ⟨hsame, hlane⟩

theorem exec_prbsChkSelect (hl : l < 128) (hchk : chk < 4) :
    exec (.prbsChkSelect l chk) s = .next (settle (prbsChk s l chk)) := exec_next rfl (by simp [Instr.wf, hl, hchk]) rfl

theorem settle_prbsChk {t : State} (hl : l < 128) (hchk : chk < 4) (ht : t = settle (prbsChk s l chk)) :
    t.get (F.LN_CTRL_prbs_chk l) = chk ∧ (chk ≠ s.get (F.LN_CTRL_prbs_chk l) →
      t.flag (F.LN_STATUS_prbs_locked l) = false ∧ (t.laneRun l).prbsRun = 0) := by
  subst ht
  have hreg : LaneReg F.LN_CTRL_prbs_chk := .of (by decide)
  have hlock : LaneReg F.LN_STATUS_prbs_locked := .of (by decide)
  rw [State.flag, settle_get_laneReg _ hreg hl, settle_get_laneReg _ hlock hl,
    State.laneRun_of_lanes (congrArg Lanes.lanes (settle_lanes _)), prbsChk]
  split
  · next hold => exact ⟨hold.symm, fun hne => absurd hold hne⟩
  · refine ⟨?_, fun _ => ⟨?_, by rw [setLaneRun_laneRun_same]⟩⟩
    · rw [setLaneRun_get, hreg.get_set hlock _ _ (.inr (by decide)), State.get_set_same]
      exact Nat.mod_eq_of_lt hchk
    · rw [setLaneRun_get, State.get_set_same]
      rfl

end

/-- Settles O27: each command's lane, by the cause, the control write or the loop that moves it. -/
theorem laneLoss : Obligations.LaneLoss := by
  unfold Obligations.LaneLoss
  intro s l hl hport
  have hlink : LaneReg F.LN_STATUS_link_up := .of (by decide)
  have hcount : LaneReg F.LN_LINKDOWN_CNT_count := .of (by decide)
  have hcause : LaneReg F.LN_LINKDOWN_CNT_last_cause := .of (by decide)
  have henable : LaneReg F.LN_CTRL_enable := .of (by decide)
  refine ⟨?_, ?_, ?_, ?_, ?_, ?_, ?_, ?_, ?_, ?_, ?_, ?_⟩
  · intro cause h1 h4 hup
    refine ⟨_, exec_laneLinkLoss_one hl h1 h4 hup, ?_⟩
    obtain ⟨hdown, hcnt, hlast⟩ := laneLeave_link (st := lossRestart cause) hl (show cause < 16 by omega) hup
    have hrestart : lossRestart cause = if cause = 1 then 2 else if cause = 2 then 4 else 6 := by
      simp only [lossRestart, h4, if_true]
      rfl
    rw [settle_lane _ hl, State.flag, settle_get_laneReg _ hlink hl, settle_get_laneReg _ hcount hl,
      settle_get_laneReg _ hcause hl, portWait_get_laneReg hlink hl, portWait_get_laneReg hcount hl,
      portWait_get_laneReg hcause hl, hdown, hcnt, hlast, ← hrestart]
    refine ⟨leaveWait_lane hl ?_, rfl, rfl, rfl⟩
    rw [hrestart]
    split <;> [decide; (split <;> decide)]
  · intro hup h100
    exact ⟨_, exec_laneLinkLoss_port hl hup (.inl ⟨rfl, h100⟩), fun x hx => portLeave_lane hx (hport x hx) (by decide)⟩
  · intro hup hjesd
    exact ⟨_, exec_laneLinkLoss_port hl hup (.inr ⟨rfl, hjesd⟩), fun x hx => portLeave_lane hx (hport x hx) (by decide)⟩
  · intro g hg hlock
    exact ⟨_, exec_groupPllUnlock hg hlock, settle_groupPllUnlock hg rfl⟩
  · refine ⟨_, exec_laneEnableWrite_off hl, ?_, ?_⟩
    · have hstate : LaneReg F.LN_STATUS_state := .of (by decide)
      rw [settle_lane _ hl, State.lane, portWait_get_laneReg hstate hl, hstate.get_set henable _ _ (.inr (by decide))]
      exact laneLeave_lane hl (by decide)
    · rw [State.flag, settle_get_laneReg _ henable hl, portWait_get_laneReg henable hl, State.get_set_same]
      rfl
  · intro hdis hproto
    rw [exec_laneEnableWrite_on hl hdis hproto, laneStart_set]
  · exact ⟨_, exec_laneRestart hl, (settle_lane _ hl).trans (laneRestart_lane hl)⟩
  · exact fun cause h1 h6 hdown => exec_laneLinkLoss_down hl h1 h6 hdown
  · exact fun loop drive hloop h => ⟨_, exec_loopSelect hl hloop, settle_loopSelect hl hloop h rfl⟩
  · intro loop drive hloop h0 h
    rw [exec_loopSelect hl hloop, exec_prbsGenSelect hl hloop, loopSelect_refused h0 h, prbsGen_refused h0 h]
    exact ⟨rfl, rfl⟩
  · exact fun gen hgen h => ⟨_, exec_prbsGenSelect hl hgen, settle_prbsGen hl hgen h rfl⟩
  · exact fun chk hchk => ⟨_, exec_prbsChkSelect hl hchk, settle_prbsChk hl hchk rfl⟩

end Sys2Proof.Machine
end

section
/-! The serial-lanes family (O26): a lane's steps from SIG_DETECT to DESKEW, and their failures (R250 to R256). -/

namespace Sys2Proof.Machine

section
variable {s : State} {l x st : Nat}

/-- A step's command on a lane that is in the step. -/
theorem exec_step {c : Instr} {u v : State} (h : exec c s = checked c (if !inStep s l st then s else u))
    (hw : c.wf = true) (hs : inStep s l st = true) (hu : u = v) : exec c s = .next (settle v) :=
  exec_next h hw ((if_neg (by simp [hs])).trans hu)

theorem lane_of_inStep (h : inStep s l st = true) : s.lane l = st := by
  rw [inStep, Bool.and_eq_true, decide_eq_true_eq] at h
  exact h.1

/-! ### From SIG_DETECT to BLOCK_LOCK (R252 to R255) -/

theorem exec_signalDetect (hl : l < 128) (hs : inStep s l Ln.sigDetect = true) : exec (.signalDetect l) s =
    .next (settle (if s.flag (F.LN_CFG_eq_lock l) then (laneState s l 4).set (F.LN_STATUS_cand l) 0
      else laneState s l 3)) := exec_step rfl (by simpa [Instr.wf] using hl) hs rfl

theorem exec_cdrLock (hl : l < 128) (hs : inStep s l Ln.cdrLock = true) : exec (.cdrLock l) s =
    .next (settle (if s.flag (F.LN_CFG_pol_auto l) then laneState s l 5 else laneState s l 6)) :=
  exec_step rfl (by simpa [Instr.wf] using hl) hs rfl

theorem exec_polarityDetect {inverted : Bool} {u : State} (hl : l < 128) (hs : inStep s l Ln.polarity = true)
    (hu : u = (laneState s l 6).set (F.LN_STATUS_rx_inverted l) (ofBool inverted)) : exec (.polarityDetect l inverted) s =
    .next (settle (if inverted then raise u (4 * l) 4 2 0 else u)) := by
  subst hu
  exact exec_step rfl (by simpa [Instr.wf] using hl) hs rfl

theorem exec_blockLock (hl : l < 128) (hs : inStep s l Ln.blockLock = true) :
    exec (.blockLock l) s = .next (settle (laneState s l (if is100G s l then 7 else 8))) :=
  exec_step rfl (by simpa [Instr.wf] using hl) hs rfl

/-! ### The trial (R251, R253, R254) -/

/-- The kept candidate has the highest FoM, and the lower index of equal ones. -/
theorem argMax_spec {fs : List Nat} (h : fs ≠ []) (i n : Nat) : ∃ k, (argMax fs i n).1 = i + k ∧ k < fs.length ∧
    (argMax fs i n).2 = fs.getD k 0 ∧ (∀ f ∈ fs, f ≤ (argMax fs i n).2) ∧
    ∀ j, j < k → fs.getD j 0 < (argMax fs i n).2 := by
  induction fs generalizing i with
  | nil => exact absurd rfl h
  | cons x t ih =>
    cases t with
    | nil => exact ⟨0, rfl, Nat.one_pos, rfl, by simp [argMax], fun j hj => absurd hj (Nat.not_lt_zero j)⟩
    | cons y t =>
      obtain ⟨k, hindex, hlt, hval, hmax, hfirst⟩ := ih (by simp) (i + 1)
      have hstep : argMax (x :: y :: t) i n =
          if (argMax (y :: t) (i + 1) n).2 ≤ x then (i, x) else argMax (y :: t) (i + 1) n := rfl
      rw [hstep]
      split
      · next hle =>
        refine ⟨0, rfl, by simp, rfl, fun f hf => ?_, fun j hj => absurd hj (Nat.not_lt_zero j)⟩
        rcases List.mem_cons.mp hf with rfl | hf
        · exact le_rfl
        · exact (hmax f hf).trans hle
      · next hgt =>
        refine ⟨k + 1, by omega, by simpa using hlt, hval, fun f hf => ?_, fun j hj => ?_⟩
        · rcases List.mem_cons.mp hf with rfl | hf
          · omega
          · exact hmax f hf
        · cases j with
          | zero => simpa using hgt
          | succ j => exact hfirst j (by omega)

theorem argMax_zero {fs : List Nat} (h : ∀ f ∈ fs, f = 0) (i n : Nat) : (argMax fs i n).2 = 0 := by
  rcases fs with _ | ⟨x, t⟩
  · rfl
  · obtain ⟨k, -, hlt, hval, -⟩ := argMax_spec (List.cons_ne_nil x t) i n
    rw [hval, List.getD_eq_getElem _ _ hlt]
    exact h _ (List.getElem_mem hlt)

theorem fomOf_lt (h : Nat) : fomOf s l h < 256 := Nat.lt_succ_of_le (Nat.min_le_left _ _)

/-- The FoMs of a trial in the word that reports them. -/
def fomWord (fs : List Nat) : Nat :=
  fs.getD 0 0 + fs.getD 1 0 * 2 ^ 8 + fs.getD 2 0 * 2 ^ 16 + fs.getD 3 0 * 2 ^ 24

theorem exec_eqTrialComplete_shut {eyes fs : List Nat} (hl : l < 128) (hs : inStep s l Ln.eqSelect = true)
    (hlen : eyes.length ≤ 4) (hfs : fs = (eyes.take (candCount s l)).map (fomOf s l)) (h : ∀ f ∈ fs, f = 0) :
    exec (.eqTrialComplete l eyes) s =
      .next (settle (raise (s.set (F.LN_FOM_SEL_foms l) (fomWord fs)) (4 * l + 1) 0x11 1 (fomWord fs))) := by
  subst hfs
  exact exec_step rfl (by simp [Instr.wf, hl, hlen]) hs (if_pos (argMax_zero h 0 0))

/-- The registers of a lane whose trial has kept candidate `k` of FoM `f`. -/
def eqKept (s : State) (l w k f : Nat) : State :=
  laneState (s.setAll [(F.LN_FOM_SEL_foms l, w), (F.LN_STATUS_cand l, k), (F.LN_STATUS_fom l, f),
    (F.LN_STATUS_fom_low l, ofBool (f < s.get (F.LN_FOM_CFG_floor l)))]) l Ln.cdrLock

theorem exec_eqTrialComplete_kept {eyes fs : List Nat} {r : Nat × Nat} (hl : l < 128)
    (hs : inStep s l Ln.eqSelect = true) (hlen : eyes.length ≤ 4)
    (hfs : fs = (eyes.take (candCount s l)).map (fomOf s l)) (hr : r = argMax fs 0 0) (h : r.2 ≠ 0) :
    ∃ t, exec (.eqTrialComplete l eyes) s = .next t ∧
      ∀ f : Fld, f.Serial → t.get f = (eqKept s l (fomWord fs) r.1 r.2).get f := by
  subst hfs hr
  refine ⟨_, exec_step rfl (by simp [Instr.wf, hl, hlen]) hs (if_neg h), fun f hf => ?_⟩
  rw [settle_get_quiet hf.quiet]
  extract_lets floor s1 s2 s3 s4
  have h4 : s4.get f = s2.get f := rfl
  have h2 : s2.get f = (toStep s1 l Ln.cdrLock).get f := raise_get_quiet _ _ _ _ hf.quiet
  split
  · exact (raise_get_quiet _ _ _ _ hf.quiet).trans (h4.trans h2)
  · exact h4.trans h2

theorem eqKept_regs {w k f : Nat} (hk : k < 4) (hf : f < 256) : (eqKept s l w k f).lane l = 4 ∧
    (eqKept s l w k f).get (F.LN_STATUS_cand l) = k ∧ (eqKept s l w k f).get (F.LN_STATUS_fom l) = f := by
  have hcand : LaneReg F.LN_STATUS_cand := .of (by decide)
  have hfom : LaneReg F.LN_STATUS_fom := .of (by decide)
  have hlow : LaneReg F.LN_STATUS_fom_low := .of (by decide)
  refine ⟨laneState_lane (by decide), ?_, ?_⟩
  · rw [eqKept, laneState_get_laneReg hcand (.inr (by decide))]
    simp only [State.setAll_cons, State.setAll_nil]
    rw [hcand.get_set hlow _ _ (.inr (by decide)), hcand.get_set hfom _ _ (.inr (by decide)), State.get_set_same]
    exact Nat.mod_eq_of_lt hk
  · rw [eqKept, laneState_get_laneReg hfom (.inr (by decide))]
    simp only [State.setAll_cons, State.setAll_nil]
    rw [hfom.get_set hlow _ _ (.inr (by decide)), State.get_set_same]
    exact Nat.mod_eq_of_lt hf

/-- A trial in which a candidate opens an eye keeps the first with the highest FoM. -/
theorem eqTrialComplete_keeps {eyes fs : List Nat} (hl : l < 128) (hs : inStep s l Ln.eqSelect = true)
    (hlen : eyes.length ≤ 4) (hfs : fs = (eyes.take (candCount s l)).map (fomOf s l)) (hopen : ∃ f ∈ fs, 0 < f) :
    ∃ t, exec (.eqTrialComplete l eyes) s = .next t ∧ t.lane l = 4 ∧ t.get (F.LN_STATUS_cand l) < fs.length ∧
      t.get (F.LN_STATUS_fom l) = fs.getD (t.get (F.LN_STATUS_cand l)) 0 ∧
      (∀ f ∈ fs, f ≤ t.get (F.LN_STATUS_fom l)) ∧
      ∀ j, j < t.get (F.LN_STATUS_cand l) → fs.getD j 0 < t.get (F.LN_STATUS_fom l) := by
  obtain ⟨f, hf, hpos⟩ := hopen
  obtain ⟨k, hindex, hlt, hval, hmax, hfirst⟩ := argMax_spec (List.ne_nil_of_mem hf) 0 0
  rw [Nat.zero_add] at hindex
  have hle := hmax f hf
  have hlen4 : fs.length ≤ 4 := by
    rw [hfs, List.length_map, List.length_take]
    omega
  have hbyte : (argMax fs 0 0).2 < 256 := by
    have hmem := List.getElem_mem hlt
    rw [← List.getD_eq_getElem _ 0 hlt, ← hval, hfs, List.mem_map] at hmem
    obtain ⟨e, -, he⟩ := hmem
    rw [hfs, ← he]
    exact fomOf_lt e
  obtain ⟨t, hexec, hregs⟩ := exec_eqTrialComplete_kept hl hs hlen hfs rfl (by omega)
  obtain ⟨hlane, hcand, hfom⟩ := eqKept_regs (s := s) (l := l) (w := fomWord fs) (k := k) (by omega) hbyte
  rw [hindex] at hregs
  have hcand' := (hregs _ (LaneReg.serial (f := F.LN_STATUS_cand) (.of (by decide)) hl)).trans hcand
  have hfom' := (hregs _ (LaneReg.serial (f := F.LN_STATUS_fom) (.of (by decide)) hl)).trans hfom
  refine ⟨t, hexec, (hregs _ (LaneReg.serial (f := F.LN_STATUS_state) (.of (by decide)) hl)).trans hlane, ?_⟩
  rw [hcand', hfom']
  exact ⟨hlt, hval, hmax, hfirst⟩

/-! ### Steps that fail (R254) -/

/-- One lane's step fails. -/
def laneFail (s : State) (l : Nat) : State :=
  let t := (s.bump (F.LN_BRINGUP_FAIL_CNT_count l) 1).set (F.LN_BRINGUP_FAIL_CNT_last_step l) (s.lane l)
  raise (setLaneRun t l { t.laneRun l with failed := true, since := t.now }) (4 * l) 3 3 (s.lane l)

theorem laneFail_laneRun (s : State) (l x : Nat) :
    (laneFail s l).laneRun x = if x = l then { s.laneRun l with failed := true, since := s.now } else s.laneRun x := by
  unfold laneFail
  extract_lets t
  rw [State.laneRun_of_lanes (congrArg Lanes.lanes (raise_lanes _ _ _ _ _))]
  split
  · next h => exact h ▸ setLaneRun_laneRun_same _ _ _
  · next h => exact setLaneRun_laneRun_ne _ _ h

theorem stepFail_failed {ls : List Nat} (hx : x ∈ ls) (hls : ls.Nodup) : ((stepFail s ls).laneRun x).failed = true := by
  obtain ⟨t, -, ht⟩ := foldl_at (fun t : State => (t.laneRun x).failed) laneFail id hx (by rwa [List.map_id])
    (fun t y _ hne => by rw [laneFail_laneRun, if_neg (show x ≠ y from Ne.symm hne)]) s
  refine Eq.trans ht ?_
  rw [laneFail_laneRun, if_pos rfl]

theorem exec_bringupStepTimeout (hl : l < 128) (h3 : 3 ≤ st) (h8 : st ≤ 8) (hs : inStep s l st = true) :
    exec (.bringupStepTimeout l) s = .next (settle (stepFail
      (s.atNow ((s.laneRun l).since + usToTk (1000 * stepLimit s l st)))
      (if 7 ≤ st then (portLanes s l).filter (fun x => inStep s x st) else [l]))) := by
  obtain rfl := lane_of_inStep hs
  refine exec_next rfl (by simpa [Instr.wf] using hl) ?_
  dsimp only
  rw [if_pos (by simp [h3, h8, hs])]
  rfl

theorem bringupRetry_restarts (hl : l < 128) (h : (s.laneRun l).failed = true) :
    ∃ t, exec (.bringupRetry l) s = .next t ∧ t.lane l = 2 ∧ (t.laneRun l).failed = false := by
  refine ⟨_, exec_next rfl (by simpa [Instr.wf] using hl) (if_pos h), ?_, ?_⟩
  · rw [settle_lane _ hl]
    exact laneState_lane (by decide)
  · rw [State.laneRun_of_lanes (congrArg Lanes.lanes (settle_lanes _))]
    dsimp only
    rw [toStep, laneState_laneRun, setLaneRun_laneRun_same]

/-! ### The lane order (R256) -/

theorem distinct_iff_nodup {ps : List Nat} : distinct ps = true ↔ ps.Nodup := by
  induction ps with
  | nil => simp [distinct]
  | cons p ps ih => simp [distinct, ih]

/-- Lane `x.1` of the port that begins at lane `a` is found at position `x.2`. -/
def lanePlaced (a : Nat) (s : State) (x : Nat × Nat) : State :=
  let t := (toStep s x.1 Ln.deskew).set (F.LN_STATUS_pos x.1) x.2
  if x.2 ≠ x.1 - a then raise t (4 * x.1) 5 2 (x.2 + (x.1 - a) * 16) else t

theorem exec_laneOrderDetect {pos : List Nat} (hl : l < 128) (hlen : pos.length ≤ 8) (h100 : is100G s l = true)
    (hs : ∀ x ∈ portLanes s l, inStep s x Ln.laneOrder = true) : exec (.laneOrderDetect l pos) s = .next (settle
      (if pos.length = (portLanes s l).length ∧ pos.Nodup ∧ ∀ p ∈ pos, p < (portLanes s l).length
        then ((portLanes s l).zip pos).foldl (lanePlaced ((portLanes s l).getD 0 0)) s else stepFail s (portLanes s l))) := by
  refine exec_next rfl (by simp [Instr.wf, hl, hlen]) ?_
  have hbad : (decide (pos.length ≠ (portLanes s l).length) || !distinct pos
      || pos.any (fun p => (portLanes s l).length ≤ p)) = true ↔
      ¬ (pos.length = (portLanes s l).length ∧ pos.Nodup ∧ ∀ p ∈ pos, p < (portLanes s l).length) := by
    rw [← distinct_iff_nodup]
    cases distinct pos <;> simp [imp_iff_not_or]
  dsimp only
  rw [if_neg (by simpa [h100] using hs)]
  by_cases h : pos.length = (portLanes s l).length ∧ pos.Nodup ∧ ∀ p ∈ pos, p < (portLanes s l).length
  · rw [if_pos h, if_neg fun hc => hbad.mp hc h]
    rfl
  · rw [if_neg h, if_pos (hbad.mpr h)]

theorem lanePlaced_get {f : Nat → Fld} {a : Nat} {y : Nat × Nat} (hf : LaneReg f) (hx : x < 128)
    (h : x ≠ y.1 ∨ (f 0).key ≠ (F.LN_STATUS_pos 0).key ∧ (f 0).key ≠ (F.LN_STATUS_state 0).key) :
    (lanePlaced a s y).get (f x) = s.get (f x) := by
  have hset : ((toStep s y.1 Ln.deskew).set (F.LN_STATUS_pos y.1) y.2).get (f x) = s.get (f x) :=
    (hf.get_set (.of (by decide)) _ _ (h.imp_right And.left)).trans (laneState_get_laneReg hf (h.imp_right And.right))
  unfold lanePlaced
  dsimp only
  split
  · exact (raise_get_quiet _ _ _ _ (hf.serial hx).quiet).trans hset
  · exact hset

theorem lanePlaced_regs {a : Nat} {y : Nat × Nat} (hx : y.1 < 128) (hp : y.2 < 8) :
    (lanePlaced a s y).lane y.1 = 8 ∧ (lanePlaced a s y).get (F.LN_STATUS_pos y.1) = y.2 := by
  have hstate : LaneReg F.LN_STATUS_state := .of (by decide)
  have hpos : LaneReg F.LN_STATUS_pos := .of (by decide)
  have hset : ((toStep s y.1 Ln.deskew).set (F.LN_STATUS_pos y.1) y.2).get (F.LN_STATUS_state y.1) = 8 :=
    (hstate.get_set hpos _ _ (.inr (by decide))).trans (laneState_lane (by decide))
  have hsetpos : ((toStep s y.1 Ln.deskew).set (F.LN_STATUS_pos y.1) y.2).get (F.LN_STATUS_pos y.1) = y.2 :=
    (State.get_set_same _ _ _).trans (Nat.mod_eq_of_lt hp)
  unfold lanePlaced State.lane
  dsimp only
  split
  · rw [raise_get_quiet _ _ _ _ (hstate.serial hx).quiet, raise_get_quiet _ _ _ _ (hpos.serial hx).quiet]
    exact ⟨hset, hsetpos⟩
  · exact ⟨hset, hsetpos⟩

/-- Each lane of the port goes on to DESKEW at its position. -/
theorem portPlaced_regs {a : Nat} {ls pos : List Nat} {y : Nat × Nat} (hls : ls.Nodup) (hlen : ls.length ≤ pos.length)
    (hy : y ∈ ls.zip pos) (hx : y.1 < 128) (hp : y.2 < 8) : (settle ((ls.zip pos).foldl (lanePlaced a) s)).lane y.1 = 8 ∧
      (settle ((ls.zip pos).foldl (lanePlaced a) s)).get (F.LN_STATUS_pos y.1) = y.2 := by
  have hstate : LaneReg F.LN_STATUS_state := .of (by decide)
  have hpos : LaneReg F.LN_STATUS_pos := .of (by decide)
  obtain ⟨t, -, ht⟩ := foldl_at (fun t : State => (t.lane y.1, t.get (F.LN_STATUS_pos y.1))) (lanePlaced a) Prod.fst hy
    (by rwa [List.map_fst_zip hlen])
    (fun t z _ hne => Prod.ext (lanePlaced_get hstate hx (.inl (Ne.symm hne))) (lanePlaced_get hpos hx (.inl (Ne.symm hne)))) s
  obtain ⟨hlane, hplace⟩ := Prod.mk.inj ht
  obtain ⟨hlane', hplace'⟩ := lanePlaced_regs (s := t) (a := a) hx hp
  rw [settle_lane _ hx, settle_get_laneReg _ hpos hx]
  exact ⟨hlane.trans hlane', hplace.trans hplace'⟩

end

end Sys2Proof.Machine
end

section
/-! The serial-lanes family (O26): a port's lanes come UP, and the group PLL locks (R254, R258, R372, R401). -/

namespace Sys2Proof.Machine

open KeepsSerial

section
variable {s : State} {l x g : Nat}

/-! ### A lane comes UP (R254, R401) -/

/-- The lane is UP, before it wakes the device. -/
def laneRaised (s : State) (l : Nat) : State :=
  let s := (toStep s l Ln.up).set (F.LN_STATUS_link_up l) 1
  let s := s.set (F.LN_GRP_STATUS_up (l / 8)) (putBit (s.get (F.LN_GRP_STATUS_up (l / 8))) (l % 8) true)
  raise s (4 * l) 1 2 (s.get (F.LN_STATUS_fom l) + s.get (F.LN_STATUS_cand l) * 256)

theorem laneUp_eq (s : State) (l : Nat) : laneUp s l =
    if (laneRaised s l).flag F.RST_WAKE_CFG_lane_up && dormantSoon (laneRaised s l) && wakeGroup (laneRaised s l) (l / 8)
      then wake (laneRaised s l) 4 else laneRaised s l := rfl

theorem laneUp_keepsSerial : KeepsSerial (laneRaised s l) (laneUp s l) := by
  rw [laneUp_eq]
  exact KeepsSerial.ite (wake_laneUp_keepsSerial _) (refl _)

theorem laneUp_regs (hl : l < 128) : (laneUp s l).lane l = 9 ∧ (laneUp s l).get (F.LN_STATUS_link_up l) = 1 := by
  have hstate : LaneReg F.LN_STATUS_state := .of (by decide)
  have hlink : LaneReg F.LN_STATUS_link_up := .of (by decide)
  rw [State.lane, laneUp_keepsSerial.laneReg hstate hl, laneUp_keepsSerial.laneReg hlink hl]
  unfold laneRaised
  constructor
  · rw [raise_get_quiet _ _ _ _ (hstate.serial hl).quiet, State.get_set_ne _ _ _ _ (hstate.ne_group hl (groupUp_above _)),
      hstate.get_set hlink _ _ (.inr (by decide))]
    exact laneState_lane (by decide)
  · rw [raise_get_quiet _ _ _ _ (hlink.serial hl).quiet, State.get_set_ne _ _ _ _ (hlink.ne_group hl (groupUp_above _)),
      State.get_set_same]
    rfl

/-- The registers of another lane stay. -/
theorem laneUp_get_ne {f : Nat → Fld} (hf : LaneReg f) (hx : x < 128) (h : x ≠ l) :
    (laneUp s l).get (f x) = s.get (f x) := by
  rw [laneUp_keepsSerial.laneReg hf hx]
  unfold laneRaised
  rw [raise_get_quiet _ _ _ _ (hf.serial hx).quiet, State.get_set_ne _ _ _ _ (hf.ne_group hx (groupUp_above _)),
    hf.get_set (g := F.LN_STATUS_link_up) (.of (by decide)) _ _ (.inl h)]
  exact laneState_get_laneReg hf (.inl h)

/-- Registers below the lanes' blocks that no event writes stay until the wake. -/
theorem laneRaised_get {f : Fld} (hf : f.key < 0x100000 * 32) (hev : f.key ∉ evKeys) :
    (laneRaised s l).get f = s.get f := by
  have hne : ∀ {g : Nat → Fld}, LaneReg g → f.key ≠ (g l).key := fun hg => by
    have habove := hg.above
    rw [hg.key l]
    omega
  have hgroup := groupUp_above (l / 8)
  unfold laneRaised
  rw [raise_get _ _ _ _ _ _ hev, State.get_set_ne _ _ _ _ (by omega),
    State.get_set_ne _ _ _ _ (hne (g := F.LN_STATUS_link_up) (.of (by decide)))]
  exact laneState_get_reg (hne (g := F.LN_STATUS_state) (.of (by decide)))

theorem laneRaised_modes : (laneRaised s l).modes = s.modes := raise_modes _ _ _ _ _
theorem laneRaised_now : (laneRaised s l).now = s.now := raise_now _ _ _ _ _

theorem groupWake_waking : (groupWake s g).modes.waking = s.modes.waking := by
  unfold groupWake
  dsimp only
  split <;> rfl

theorem dormantWake_waking {cause : Nat} (h : s.modes.waking = none) :
    (dormantWake s cause).modes.waking = some (cause, s.now) := by
  unfold dormantWake
  extract_lets s1 _ s2
  have hfold : ((List.range 32).foldl groupWake s2).modes.waking = s2.modes.waking :=
    foldl_view (fun t : State => t.modes.waking) groupWake (List.range 32) s2 fun t g _ => groupWake_waking
  rw [if_neg (by simp [h])]
  exact hfold

/-- A lane of a wake group that comes UP in DORMANT begins its end (R401). -/
theorem laneUp_waking (hl : l < 128) (hmode : s.mode = Mode.dormant) (hent : s.flag F.RST_MODE_entering = false)
    (hcfg : s.flag F.RST_WAKE_CFG_lane_up = true) (hgroup : wakeGroup s (l / 8) = true)
    (hwaking : s.modes.waking = none) : (laneUp s l).modes.waking = some (4, s.now) := by
  have hflag : ∀ f : Fld, f.key < 0x100000 * 32 → f.key ∉ evKeys → (laneRaised s l).flag f = s.flag f := fun f hf hev =>
    State.flag_of_get (laneRaised_get hf hev)
  have hmode' : (laneRaised s l).mode = Mode.dormant := (laneRaised_get (by decide) (by decide)).trans hmode
  have hgroup' : wakeGroup (laneRaised s l) (l / 8) = true := by
    refine (hflag _ ?_ fun hmem => ?_).trans hgroup
    · simp only [Fld.key, F.CLK_GATE_EN_deep_en]
      omega
    · simp only [evKeys, List.mem_cons, List.not_mem_nil, or_false, Fld.key, F.CLK_GATE_EN_deep_en, F.EV_WR_next_seq,
        F.EV_CNT_lost, F.RST_EV_LOST_count, F.LED_STATUS_queued_crit, F.LED_STATUS_queued_info, F.LED_LOST_lost] at hmem
      omega
  rw [laneUp_eq, if_pos (by simp [hflag _ (show F.RST_WAKE_CFG_lane_up.key < _ by decide) (by decide), hcfg, dormantSoon,
    hmode', hgroup']), wake, hflag _ (by decide) (by decide), hent, hmode', if_neg (by decide), if_neg (by decide),
    if_pos (by decide), dormantWake_waking (by rw [laneRaised_modes, hwaking]), laneRaised_now]

theorem helloJudge_modes (s : State) : (helloJudge s).modes = s.modes := by
  unfold helloJudge
  split
  · split
    · rfl
    · split
      · exact (raise_modes _ _ _ _ _).trans (raise_modes _ _ _ _ _)
      · unfold twSend
        split <;> rfl
  · rfl

theorem pairStep1_modes (s : State) : (pairStep1 s).modes = s.modes := by
  unfold pairStep1
  split
  · rw [helloJudge_modes]
    unfold twSend
    split <;> rfl
  · rfl

/-! ### DESKEW (R246, R254, R256) -/

/-- The port's lanes with their measured skew. -/
def skewed (s : State) (ls : List Nat) (skew : Nat) : State := s.setAll (ls.map (fun x => (F.LN_SKEW_skew_tk x, skew)))

/-- A lane's elastic buffer is centred and it comes UP. -/
def laneAligned (s : State) (l : Nat) : State :=
  laneUp (setLaneRun s l { s.laneRun l with fill := 8, blkNo := 0, sets := [] }) l

theorem skewed_skewMax (ls : List Nat) (skew : Nat) :
    skewMax (skewed s ls skew) l = max 16 (s.get (F.LN_FOM_CFG_skew_max_tk l)) := by
  refine congrArg (max 16) (State.get_setAll_ne _ _ _ fun y hy => ?_)
  obtain ⟨x, -, rfl⟩ := List.mem_map.mp hy
  exact LaneReg.key_ne (f := F.LN_FOM_CFG_skew_max_tk) (g := F.LN_SKEW_skew_tk) (.of (by decide)) (.of (by decide))
    (.inr (by decide))

theorem exec_deskew {skew : Nat} {ls : List Nat} (hl : l < 128) (hskew : skew < 512) (hls : ls = portLanes s l)
    (hs : ∀ x ∈ ls, inStep s x Ln.deskew = true) : exec (.deskew l skew) s = .next (settle
      (if 1 < ls.length ∧ max 16 (s.get (F.LN_FOM_CFG_skew_max_tk l)) < skew
        then stepFail (ls.foldl (fun t x => raise t (4 * x) 6 4 skew) (skewed s ls skew)) ls
        else pairStep1 (ls.foldl laneAligned (skewed s ls skew)))) := by
  subst hls
  refine exec_next rfl (by simp [Instr.wf, hl, hskew]) ?_
  rw [← skewed_skewMax (portLanes s l) skew]
  refine (if_neg (by simpa using hs)).trans ?_
  simp only [Bool.and_eq_true, decide_eq_true_eq]
  rfl

theorem portAligned_regs {ls : List Nat} {u : State} (hls : ls.Nodup) (hx : x ∈ ls) (hlt : x < 128) :
    (settle (pairStep1 (ls.foldl laneAligned u))).lane x = 9 ∧
      (settle (pairStep1 (ls.foldl laneAligned u))).flag (F.LN_STATUS_link_up x) = true := by
  have hstate : LaneReg F.LN_STATUS_state := .of (by decide)
  have hlink : LaneReg F.LN_STATUS_link_up := .of (by decide)
  obtain ⟨t, -, ht⟩ := foldl_at (fun t : State => (t.lane x, t.get (F.LN_STATUS_link_up x))) laneAligned id hx
    (by rwa [List.map_id])
    (fun t z _ hne => Prod.ext (laneUp_get_ne hstate hlt (Ne.symm hne)) (laneUp_get_ne hlink hlt (Ne.symm hne))) u
  obtain ⟨hlane, hup⟩ := Prod.mk.inj ht
  obtain ⟨hlane', hup'⟩ := laneUp_regs (s := setLaneRun t x { t.laneRun x with fill := 8, blkNo := 0, sets := [] }) hlt
  rw [settle_lane _ hlt, (pairStep1_keepsSerial _).lane hlt, State.flag, settle_get_laneReg _ hlink hlt,
    (pairStep1_keepsSerial _).laneReg hlink hlt]
  exact ⟨hlane.trans hlane', by rw [hup]; exact bne_iff_ne.mpr (hup'.trans_ne Nat.one_ne_zero)⟩

/-- A wake group's lane that is its own port wakes the device as it comes UP. -/
theorem alignedAlone_waking {skew : Nat} (hl : l < 128) (hmode : s.mode = Mode.dormant)
    (hent : s.flag F.RST_MODE_entering = false) (hcfg : s.flag F.RST_WAKE_CFG_lane_up = true)
    (hgroup : wakeGroup s (l / 8) = true) (hwaking : s.modes.waking = none) :
    (settle (pairStep1 ([l].foldl laneAligned (skewed s [l] skew)))).modes.waking = some (4, s.now) := by
  have hlow : ∀ f : Fld, f.key < 0x100000 * 32 → (skewed s [l] skew).get f = s.get f := fun f hf => s.get_set_ne _ _ _ <| by
    simp only [Fld.key, F.LN_SKEW_skew_tk] at hf ⊢
    omega
  have hflag : ∀ f : Fld, f.key < 0x100000 * 32 → (skewed s [l] skew).flag f = s.flag f := fun f hf =>
    State.flag_of_get (hlow f hf)
  rw [settle_modes, pairStep1_modes]
  refine laneUp_waking hl ((hlow _ (by decide)).trans hmode) ((hflag _ (by decide)).trans hent)
    ((hflag _ (by decide)).trans hcfg) ((hflag _ ?_).trans hgroup) hwaking
  simp only [Fld.key, F.CLK_GATE_EN_deep_en]
  omega

/-! ### The group PLL locks (R254, R258, R448) -/

/-- The group's PLL has locked, and its VCO is judged. -/
def pllLocked (s : State) (g : Nat) (outside : Bool) : State :=
  let s := { s with lanes := { s.lanes with lockAt := aset s.lanes.lockAt g (s.now, s.fp) } }
  let s := (vcoPassage s g).set (F.LN_GRP_STATUS_pll_lock g) 1
  if outside then vcoWorn s g 1 else s

/-- A lane that waits for the PLL in IDLE goes on. -/
def laneAwaits (s : State) (l : Nat) : State := if s.lane l = Ln.idle then toStep s l Ln.sigDetect else s

theorem exec_groupPllLock {out : Bool} (hg : g < 16) (hheld : s.flag (F.LN_GRP_STATUS_held g) = false)
    (hrst : g ∉ s.modes.lgrpRst) :
    exec (.groupPllLock g out) s = .next (settle ((groupLanes g).foldl laneAwaits (pllLocked s g out))) := by
  refine exec_next rfl (by simpa [Instr.wf] using hg) ?_
  rw [if_neg (by simp [hheld, hrst])]
  rfl

theorem exec_groupPllLock_held {out : Bool} (hg : g < 16)
    (h : s.flag (F.LN_GRP_STATUS_held g) = true ∨ g ∈ s.modes.lgrpRst) :
    exec (.groupPllLock g out) s = .next (settle s) :=
  exec_next rfl (by simpa [Instr.wf] using hg) (if_pos (by simpa using h))

theorem pllLocked_lane {out : Bool} (hx : x < 128) : (pllLocked s g out).lane x = s.lane x := by
  have hset : ∀ u : State, (u.set (F.LN_GRP_STATUS_pll_lock g) 1).lane x = u.lane x := fun u => u.get_set_ne _ _ _ <|
    LaneReg.ne_group (f := F.LN_STATUS_state) (.of (by decide)) hx (by simp only [Fld.key, F.LN_GRP_STATUS_pll_lock]; omega)
  unfold pllLocked
  extract_lets _ s1 s2
  have h2 : s2.lane x = s.lane x := (hset _).trans (vcoPassage_lane (s := s1) hx)
  split
  · exact ((vcoWorn_keepsSerial s2 g 1).lane hx).trans h2
  · exact h2

theorem pllLocked_lock {out : Bool} (hg : g < 16) : (pllLocked s g out).get (F.LN_GRP_STATUS_pll_lock g) = 1 := by
  unfold pllLocked
  extract_lets _ s1 s2
  have h2 : s2.get (F.LN_GRP_STATUS_pll_lock g) = 1 := State.get_set_same _ _ _
  split
  · exact ((vcoWorn_keepsSerial s2 g 1).regs _ (.of_group hg (by decide))).trans h2
  · exact h2

theorem laneAwaits_lock (hl : l < 128) :
    (laneAwaits s l).get (F.LN_GRP_STATUS_pll_lock g) = s.get (F.LN_GRP_STATUS_pll_lock g) := by
  unfold laneAwaits
  split
  · refine laneState_get_reg (LaneReg.ne_group (f := F.LN_STATUS_state) (.of (by decide)) hl ?_).symm
    simp only [Fld.key, F.LN_GRP_STATUS_pll_lock]
    omega
  · rfl

theorem laneAwaits_lane : (laneAwaits s l).lane l = if s.lane l = 1 then 2 else s.lane l := by
  unfold laneAwaits
  split
  · next h => exact (laneState_lane (by decide)).trans (if_pos h).symm
  · next h => exact (if_neg h).symm

theorem laneAwaits_lane_ne (h : x ≠ l) : (laneAwaits s l).lane x = s.lane x := by
  unfold laneAwaits
  split
  · exact laneState_lane_ne h
  · rfl

theorem settle_groupPllLock {t : State} {out : Bool} (hg : g < 16)
    (ht : t = settle ((groupLanes g).foldl laneAwaits (pllLocked s g out))) :
    t.flag (F.LN_GRP_STATUS_pll_lock g) = true ∧
      ∀ x, x < 128 → x / 8 = g → t.lane x = if s.lane x = 1 then 2 else s.lane x := by
  subst ht
  have hlock : (F.LN_GRP_STATUS_pll_lock g).Serial := .of_group hg (by decide)
  refine ⟨bne_iff_ne.mpr ?_, fun x hx hxg => ?_⟩
  · rw [settle_get_quiet hlock.quiet, foldl_view (fun t : State => t.get (F.LN_GRP_STATUS_pll_lock g)) laneAwaits _ _
      fun t y hy => laneAwaits_lock (by have := div_of_mem_groupLanes hy; omega), pllLocked_lock hg]
    decide
  · obtain ⟨t, hlane, ht⟩ := foldl_at (fun t : State => t.lane x) laneAwaits id (mem_groupLanes hxg)
      (by rw [List.map_id]; exact groupLanes_nodup g) (fun t y _ hne => laneAwaits_lane_ne (Ne.symm hne)) (pllLocked s g out)
    rw [settle_lane _ hx, ht, laneAwaits_lane, hlane, pllLocked_lane hx]

end

/-- Settles O26: each command's next state, by the step that the lane is in. -/
theorem laneBringUp : Obligations.LaneBringUp := by
  unfold Obligations.LaneBringUp
  intro s l hl
  refine ⟨?_, ?_, ?_, ?_, ?_, ?_, ?_, ?_, ?_, ?_, ?_, ?_, ?_⟩
  · intro hs hlock
    rw [exec_signalDetect hl hs, if_neg (by simp [hlock])]
  · intro hs hlock
    rw [exec_signalDetect hl hs, if_pos hlock]
  · exact fun eyes foms hs hlen hfoms hopen => eqTrialComplete_keeps hl hs hlen hfoms hopen
  · rintro eyes foms v hs hlen hfoms hshut rfl
    exact exec_eqTrialComplete_shut hl hs hlen hfoms hshut
  · intro hs hauto
    rw [exec_cdrLock hl hs, if_pos hauto]
  · intro hs hauto
    rw [exec_cdrLock hl hs, if_neg (by simp [hauto])]
  · exact fun hs => ⟨exec_polarityDetect hl hs rfl, exec_polarityDetect hl hs rfl⟩
  · exact fun hs => exec_blockLock hl hs
  · intro pos h100 hs hlen
    have hexec := exec_laneOrderDetect hl hlen h100 fun x hx => (hs x hx).2
    refine ⟨fun ⟨hn, hd, hp⟩ => ?_, fun hbad => ?_⟩
    · rw [if_pos ⟨hn, hd, fun p h => hn ▸ hp p h⟩] at hexec
      refine ⟨_, hexec, fun x hx => ?_⟩
      obtain ⟨hlane, hpos⟩ := List.of_mem_zip hx
      exact portPlaced_regs (portLanes_nodup s l) hn.ge hx (hs _ hlane).1 ((hp _ hpos).trans_le hlen)
    · rw [hexec, if_neg]
      rintro ⟨hn, hd, hp⟩
      rcases hbad with h | h | ⟨p, hmem, hge⟩
      · exact h hn
      · exact h hd
      · exact absurd (hp p hmem) (by omega)
  · intro skew hs hskew
    have hexec := exec_deskew hl hskew rfl fun x hx => (hs x hx).2
    refine ⟨fun hfit _ => ?_, fun hport hmode hent hcfg hgroup hwaking => ?_, fun hlen hexceeds => ?_⟩
    · rw [if_neg (by omega)] at hexec
      exact ⟨_, hexec, fun x hx => portAligned_regs (portLanes_nodup s l) hx (hs x hx).1⟩
    · rw [hport, if_neg (by simp)] at hexec
      exact ⟨_, hexec, alignedAlone_waking hl hmode hent hcfg hgroup hwaking⟩
    · rw [if_pos ⟨hlen, hexceeds⟩] at hexec
      refine ⟨_, hexec, fun x hx => ?_⟩
      rw [State.laneRun_of_lanes (congrArg Lanes.lanes (settle_lanes _))]
      exact stepFail_failed hx (portLanes_nodup s l)
  · exact fun st h3 h8 hs => exec_bringupStepTimeout hl h3 h8 hs
  · exact bringupRetry_restarts hl
  · exact fun g out hg => ⟨fun hheld hrst => ⟨_, exec_groupPllLock hg hheld hrst, settle_groupPllLock hg rfl⟩,
      fun h => exec_groupPllLock_held hg h⟩

end Sys2Proof.Machine
end

section
/-! The serial-lanes family (O28): the blocks a lane receives (R241, R243 to R248, R255, R259, R260). -/

namespace Sys2Proof.Machine

open KeepsSerial

theorem KeepsSerial.raiseOnce {s t : State} (f : Fld) (a b c d : Nat) (h : KeepsSerial s t) :
    KeepsSerial s (raiseOnce t f a b c d) :=
  h.trans (KeepsSerial.ite (refl t) (.raise _ _ _ _ ⟨fun _ _ => rfl, rfl⟩))

section
variable {s u t : State} {f : Nat → Fld} {l lat wait n : Nat} {b c : RxBlock}

theorem settle_laneRun (s : State) (l : Nat) : (settle s).laneRun l = s.laneRun l :=
  State.laneRun_of_lanes (congrArg Lanes.lanes (settle_lanes s)) l

/-- A lane's register after a counter of the lane has stepped. -/
theorem LaneReg.get_bump {g : Nat → Fld} (hf : LaneReg f) (hg : LaneReg g) (s : State) (k : Nat)
    (h : (f 0).key ≠ (g 0).key) : (s.bump (g l) k).get (f l) = s.get (f l) := hf.get_set hg s _ (.inr h)

/-! ### The receiver takes a block (R241, R248, R255, R259) -/

/-- A block that the lane does not loop is as received, with the polarity set right. -/
theorem rxWord_unlooped {v : Nat} (hv : v = b.payload % 2 ^ 64 + b.header % 4 * 2 ^ 64)
    (hloop : s.get (F.LN_CTRL_loop l) = 0 ∨ s.get (F.LN_CTRL_loop l) = 3) :
    rxWord s l b = if rxInverts s l = true then 2 ^ 66 - 1 - v else v := by
  have hlt : v < 2 ^ 66 := by omega
  have hword : rxWord s l b = invert66 (rxInverts s l) v := by
    subst hv
    unfold rxWord
    rcases hloop with h | h <;> rw [h] <;> rfl
  rw [hword, invert66, Nat.mod_eq_of_lt hlt]

/-- The descrambler of a scrambler's state gives back what was sent, and follows it. -/
theorem descramble_scramble (n st v : Nat) : descramble n st (scramble n st v).2 = ((scramble n st v).1, v % 2 ^ n) := by
  induction n generalizing st v with
  | zero => simp [descramble, scramble, Nat.mod_one]
  | succ n ih =>
    have hstep : ∀ k o r : Nat, o < 2 → (o + 2 * r) % 2 = o ∧ (o + 2 * r) / 2 = r ∧
        (o = (v % 2 + k) % 2 → (o + k) % 2 = v % 2) := fun k o r ho => ⟨by omega, by omega, fun h => by omega⟩
    simp only [scramble, descramble]
    generalize hk : bits st 38 1 = k1
    generalize hk' : bits st 57 1 = k2
    obtain ⟨hmod, hdiv, hback⟩ := hstep (k1 + k2) ((v % 2 + k1 + k2) % 2)
      (scramble n ((2 * st + (v % 2 + k1 + k2) % 2) % 2 ^ 58) (v / 2)).2 (Nat.mod_lt _ (by decide))
    rw [hmod, hdiv, ih]
    refine Prod.ext rfl ?_
    have hbit : ((v % 2 + k1 + k2) % 2 + k1 + k2) % 2 = v % 2 := by
      rw [Nat.add_assoc _ k1 k2]
      exact hback (by rw [Nat.add_assoc])
    have hpow : v % 2 ^ (n + 1) = v % 2 + 2 * (v / 2 % 2 ^ n) := by
      rw [Nat.pow_succ', Nat.mod_mul]
    exact (congrArg (· + 2 * (v / 2 % 2 ^ n)) hbit).trans hpow.symm

/-- The registers that a received block may count in. -/
def takeRegs (l : Nat) : List Fld :=
  [F.LN_PRBS_ERR_CNT_count l, F.LN_STATUS_prbs_locked l, F.LN_HDR_ERR_CNT_count l, F.LN_FEC_CORR_CNT_count l,
    F.LN_FEC_UNCORR_CNT_count l, F.LN_CRC_ERR_CNT_count l, F.LN_STATUS_remote_fault l]

theorem prbsCount_get {f : Fld} (w : Nat) (hf : ∀ g ∈ takeRegs l, f.key ≠ g.key) :
    (prbsCount s l w).get f = s.get f := by
  simp only [takeRegs, List.forall_mem_cons] at hf
  obtain ⟨herr, hlock, -⟩ := hf
  unfold prbsCount
  split
  · rfl
  · exact (State.get_set_ne _ _ _ _ hlock).trans (State.get_set_ne _ _ _ _ herr)

theorem prbsCount_lastRx (w : Nat) : ((prbsCount s l w).laneRun l).lastRx = (s.laneRun l).lastRx := by
  unfold prbsCount
  split
  · rfl
  · extract_lets r n x
    rw [State.set_laneRun, State.bump_laneRun, setLaneRun_laneRun_same]

/-- The state after a block is taken differs from that after the PRBS checker in the descrambler alone. -/
theorem rxTake_state : ∃ d, (rxTake s l b).2 = setLaneRun (prbsCount s l (rxWord s l b)) l
    { (prbsCount s l (rxWord s l b)).laneRun l with descr := d } := by
  unfold rxTake
  extract_lets w s1 x looped
  exact ⟨x.1, rfl⟩

/-- What a view sees that neither these registers nor events of a counted kind touch. -/
theorem blockCounts_view {α : Type} (v : State → α) (hset : ∀ t x, ∀ g ∈ takeRegs l, v (State.set t g x) = v t)
    (honce : ∀ t k a b c d, v (raiseOnce t k a b c d) = v t) : v (blockCounts s l b) = v s := by
  unfold blockCounts
  extract_lets s1 s2 t3 s3 t4 s4
  have h1 : v s1 = v s := by
    unfold s1
    split
    · exact hset s _ (F.LN_HDR_ERR_CNT_count l) (by simp [takeRegs])
    · rfl
  have h2 : v s2 = v s1 := hset s1 _ (F.LN_FEC_CORR_CNT_count l) (by simp [takeRegs])
  have h3 : v s3 = v s2 := by
    unfold s3
    split
    · rfl
    · exact (honce t3 _ _ _ _ _).trans (hset s2 _ (F.LN_FEC_UNCORR_CNT_count l) (by simp [takeRegs]))
  have h4 : v s4 = v s3 := by
    unfold s4
    split
    · exact (honce t4 _ _ _ _ _).trans (hset s3 _ (F.LN_CRC_ERR_CNT_count l) (by simp [takeRegs]))
    · rfl
  have h : v s4 = v s := h4.trans (h3.trans (h2.trans h1))
  split
  · exact ((hset s4 _ (F.LN_STATUS_remote_fault l) (by simp [takeRegs]))).trans h
  · exact h

/-- The block is taken and counted. -/
def blockTaken (s : State) (l : Nat) (b : RxBlock) : State := blockCounts (rxTake s l b).2 l (rxTake s l b).1

theorem blockTaken_get {f : Fld} (hf : f.Serial) (hne : ∀ g ∈ takeRegs l, f.key ≠ g.key) :
    (blockTaken s l b).get f = s.get f := by
  obtain ⟨d, hd⟩ := rxTake_state (s := s) (l := l) (b := b)
  have hview := fun u c => blockCounts_view (s := u) (l := l) (b := c) (fun t : State => t.get f)
    (fun t x g hg => t.get_set_ne g f x (hne g hg)) fun t k a b c d => ((refl t).raiseOnce k a b c d).regs f hf
  rw [blockTaken, hview, hd, setLaneRun_get, prbsCount_get _ hne]

/-- The keys of those registers in the block of lane 0. -/
def takeKeys : List Nat := [F.LN_PRBS_ERR_CNT_count, F.LN_STATUS_prbs_locked, F.LN_HDR_ERR_CNT_count,
  F.LN_FEC_CORR_CNT_count, F.LN_FEC_UNCORR_CNT_count, F.LN_CRC_ERR_CNT_count, F.LN_STATUS_remote_fault].map
    (fun g => (g 0).key)

theorem blockTaken_get_laneReg (hf : LaneReg f) (hl : l < 128) (h : (f 0).key ∉ takeKeys) :
    (blockTaken s l b).get (f l) = s.get (f l) := by
  have hne : ∀ {g : Nat → Fld}, LaneReg g → (g 0).key ∈ takeKeys → (f l).key ≠ (g l).key := fun hg hmem =>
    hf.key_ne hg (.inr fun he => h (he ▸ hmem))
  refine blockTaken_get (hf.serial hl) ?_
  simp only [takeRegs, List.forall_mem_cons]
  exact ⟨hne (g := F.LN_PRBS_ERR_CNT_count) (.of (by decide)) (by decide),
    hne (g := F.LN_STATUS_prbs_locked) (.of (by decide)) (by decide),
    hne (g := F.LN_HDR_ERR_CNT_count) (.of (by decide)) (by decide),
    hne (g := F.LN_FEC_CORR_CNT_count) (.of (by decide)) (by decide),
    hne (g := F.LN_FEC_UNCORR_CNT_count) (.of (by decide)) (by decide),
    hne (g := F.LN_CRC_ERR_CNT_count) (.of (by decide)) (by decide),
    hne (g := F.LN_STATUS_remote_fault) (.of (by decide)) (by decide), by simp⟩

theorem blockTaken_lastRx : ((blockTaken s l b).laneRun l).lastRx = (s.laneRun l).lastRx := by
  obtain ⟨d, hd⟩ := rxTake_state (s := s) (l := l) (b := b)
  have hview := fun u c => blockCounts_view (s := u) (l := l) (b := c) (fun t : State => t.laneRun l)
    (fun _ _ _ _ => rfl) fun t k a b c d => ((refl t).raiseOnce k a b c d).laneRun l
  rw [blockTaken, hview, hd, setLaneRun_laneRun_same, prbsCount_lastRx]

end

end Sys2Proof.Machine
end

section
/-! The serial-lanes family (O28): delivery, and the elastic buffer of free mode (R243 to R246). -/

namespace Sys2Proof.Machine

open KeepsSerial

section
variable {s u t : State} {f : Nat → Fld} {l lat wait n base : Nat} {b c : RxBlock}

/-! ### Delivery (R243, R246) -/

theorem setKeep_flds : (setKeep s l).flds = s.flds := by
  unfold setKeep
  split <;> rfl

/-- Of the lane's record only the ticks of its sets may change. -/
theorem setKeep_laneRun : ∃ sets, (setKeep s l).laneRun l = { s.laneRun l with sets := sets } := by
  unfold setKeep
  split
  · exact ⟨_, rfl⟩
  · by_cases h : lowLane s l = l
    · rw [h, setLaneRun_laneRun_same]
      exact ⟨_, rfl⟩
    · exact ⟨_, setLaneRun_laneRun_ne _ _ (Ne.symm h)⟩

theorem deliver_get_laneReg (hf : LaneReg f) (h : (f 0).key ≠ (F.LN_LAT_rx_last 0).key) :
    (deliver s l b lat wait).get (f l) = s.get (f l) :=
  (hf.get_set (.of (by decide)) (setKeep s l) _ (.inr h)).trans (State.get_of_flds s _ setKeep_flds _)

theorem deliver_fill : ((deliver s l b lat wait).laneRun l).fill = (s.laneRun l).fill := by
  obtain ⟨sets, hsets⟩ := setKeep_laneRun (s := s) (l := l)
  unfold deliver
  extract_lets v at' s1 r
  have hr : r.fill = (s.laneRun l).fill := by
    unfold r s1
    rw [hsets]
  rw [setLaneRun_laneRun_same]
  exact hr

/-- On a lane that is its own port the block's latency counts from its own tick. -/
theorem deliver_alone (h : portLanes s l = [l]) (hlat : lat < 1024) :
    ((deliver s l b lat 0).laneRun l).lastRx = some (rxBundle s l b lat) ∧
    (s.now + lat, rxBundle s l b lat) ∈ ((deliver s l b lat 0).laneRun l).rxQ ∧
    (deliver s l b lat 0).get (F.LN_LAT_rx_last l) = lat := by
  have htick : setTick s l = s.now := if_pos (by simp [h])
  unfold deliver
  extract_lets v at' s1 r
  rw [setLaneRun_laneRun_same, setLaneRun_get, State.get_set_same]
  refine ⟨rfl, List.mem_append_right _ ?_, Nat.mod_eq_of_lt hlat⟩
  rw [List.mem_singleton, ← htick]
  rfl

/-- A block that the lane receives while it is UP. -/
theorem exec_laneBlockRx {x : RxBlock} (hl : l < 128) (hb : b.header < 4 ∧ b.taken ≤ 16 ∧ b.residence < 512)
    (hup : s.lane l = Ln.up) (hx : x = (rxTake s l b).1) (hu : u = blockTaken s l b)
    (hbase : base = s.get (F.LN_LAT_rx_base l)) : exec (.laneBlockRx l b) s = .next (settle
      (if s.flag (F.LN_GRP_CFG_mode (l / 8)) then elasticTake u l x (base + b.residence) else deliver u l x base 0)) := by
  have hbase' : u.get (F.LN_LAT_rx_base l) = base := by
    rw [hu, hbase]
    exact blockTaken_get_laneReg (f := F.LN_LAT_rx_base) (.of (by decide)) hl (by decide)
  have hfree : freeMode u l = s.flag (F.LN_GRP_CFG_mode (l / 8)) := by
    rw [hu]
    refine State.flag_of_get (blockTaken_get (.of_group (by omega) (by decide)) fun g hg => ?_)
    have hlt : ∀ f : Nat → Fld, LaneReg f → (F.LN_GRP_CFG_mode (l / 8)).key ≠ (f l).key := fun f hf =>
      (hf.ne_group hl (by simp only [Fld.key, F.LN_GRP_CFG_mode]; omega)).symm
    simp only [takeRegs, List.mem_cons, List.not_mem_nil, or_false] at hg
    rcases hg with rfl | rfl | rfl | rfl | rfl | rfl | rfl
    all_goals exact hlt _ (.of (by decide))
  subst hx hu
  refine exec_next rfl (by simp [Instr.wf, hl, hb]) ?_
  have hruns : laneRuns s l = true := laneRuns_iff.mpr (by rw [hup]; decide)
  rw [hruns, hup, if_neg (by decide)]
  exact (if_neg (by decide)).trans (by rw [← hfree, ← hbase']; rfl)

/-! ### The elastic buffer (R244, R245) -/

/-- Lane `l`'s buffer holds `k` blocks. -/
def filled (s : State) (l k : Nat) : State := setLaneRun s l { s.laneRun l with fill := k }

theorem elasticTake_drops (hn : n = (u.laneRun l).fill - b.taken) (h12 : 12 < n) (h : deletable u l b = true) :
    elasticTake u l b lat = filled (u.bump (F.LN_RM_DEL_CNT_count l) 1) l n := by
  subst hn
  exact if_pos (by simp [h12, h])

theorem elasticTake_overflows (hn : n = (u.laneRun l).fill - b.taken) (h16 : 16 ≤ n) (h : deletable u l b = false) :
    elasticTake u l b lat = filled (raiseOnce (u.bump (F.LN_EB_ERR_CNT_ovf l) 1) (F.LN_EB_ERR_CNT_ovf l)
      (4 * l + 2) 0x20 3 0) l n := by
  subst hn
  exact (if_neg (by simp [h])).trans (if_pos h16)

theorem elasticTake_underflows (hn : n = (u.laneRun l).fill - b.taken) (h0 : n = 0) :
    ∃ c w, elasticTake u l b lat = deliver (deliver (filled (raiseOnce (u.bump (F.LN_EB_ERR_CNT_unf l) 1)
      (F.LN_EB_ERR_CNT_unf l) (4 * l + 2) 0x20 3 1) l 1) l c lat 0) l b lat w := by
  subst hn
  refine ⟨_, _, (if_neg ?_).trans ((if_neg (by omega)).trans (if_pos h0))⟩
  simp [h0]

theorem elasticTake_inserts (hn : n = (u.laneRun l).fill - b.taken) (h0 : 0 < n) (h4 : n < 4)
    (h : deletable u l b = true) : ∃ w, elasticTake u l b lat =
      deliver (deliver (filled (u.bump (F.LN_RM_INS_CNT_count l) 1) l (n + 2)) l b lat 0) l b lat w := by
  subst hn
  refine ⟨_, (if_neg ?_).trans ((if_neg (by omega)).trans ((if_neg (by omega)).trans (if_pos (by simp [h4, h]))))⟩
  rw [Bool.and_eq_true, decide_eq_true_eq]
  omega

theorem elasticTake_passes (hn : n = (u.laneRun l).fill - b.taken) (h0 : 0 < n) (h16 : n < 16)
    (h : deletable u l b = false ∨ 4 ≤ n ∧ n ≤ 12) :
    elasticTake u l b lat = deliver (filled u l (n + 1)) l b lat 0 := by
  subst hn
  refine (if_neg ?_).trans ((if_neg (by omega)).trans ((if_neg (by omega)).trans (if_neg ?_))) <;>
  · rw [Bool.and_eq_true, decide_eq_true_eq]
    rintro ⟨hlt, hdel⟩
    rcases h with h | h
    · exact absurd hdel (by simp [h])
    · omega

@[simp] theorem filled_laneRun (s : State) (l k : Nat) : (filled s l k).laneRun l = { s.laneRun l with fill := k } :=
  setLaneRun_laneRun_same _ _ _

@[simp] theorem filled_get (s : State) (l k : Nat) (f : Fld) : (filled s l k).get f = s.get f := rfl

theorem raiseOnce_laneReg (hf : LaneReg f) (hl : l < 128) (k : Fld) (x y z w : Nat) :
    (raiseOnce s k x y z w).get (f l) = s.get (f l) := ((refl s).raiseOnce k x y z w).laneReg hf hl

theorem raiseOnce_laneRun (k : Fld) (x y z w : Nat) : (raiseOnce s k x y z w).laneRun l = s.laneRun l :=
  ((refl s).raiseOnce k x y z w).laneRun l

/-! The lane's buffer and counter after each branch that counts. -/

theorem settle_filled_laneRun (k : Nat) :
    (settle (filled u l k)).laneRun l = { u.laneRun l with fill := k } := by
  rw [settle_laneRun, filled_laneRun]

theorem settle_filled_get (hf : LaneReg f) (hl : l < 128) (k : Nat) :
    (settle (filled u l k)).get (f l) = u.get (f l) := by
  rw [settle_get_laneReg _ hf hl, filled_get]

/-- Two blocks delivered leave the fill and the lane's counter. -/
theorem settle_delivered {lat' w w' k : Nat} (hf : LaneReg f) (h : (f 0).key ≠ (F.LN_LAT_rx_last 0).key) (hl : l < 128) :
    ((settle (deliver (deliver (filled u l k) l c lat w) l b lat' w')).laneRun l).fill = k ∧
    (settle (deliver (deliver (filled u l k) l c lat w) l b lat' w')).get (f l) = u.get (f l) := by
  constructor
  · rw [settle_laneRun, deliver_fill, deliver_fill, filled_laneRun]
  · rw [settle_get_laneReg _ hf hl, deliver_get_laneReg hf h, deliver_get_laneReg hf h, filled_get]

theorem settle_drops (hl : l < 128) (hn : n = (u.laneRun l).fill - b.taken) (h12 : 12 < n)
    (h : deletable u l b = true) :
    ((settle (elasticTake u l b lat)).laneRun l).lastRx = (u.laneRun l).lastRx ∧
    ((settle (elasticTake u l b lat)).laneRun l).fill = n ∧
    (settle (elasticTake u l b lat)).get (F.LN_RM_DEL_CNT_count l) =
      min (u.get (F.LN_RM_DEL_CNT_count l) + 1) (2 ^ 32 - 1) := by
  rw [elasticTake_drops hn h12 h, settle_filled_laneRun, State.bump_laneRun]
  refine ⟨rfl, rfl, ?_⟩
  rw [settle_filled_get (f := F.LN_RM_DEL_CNT_count) (.of (by decide)) hl, State.get_bump_same]
  rfl

theorem settle_overflows (hl : l < 128) (hn : n = (u.laneRun l).fill - b.taken) (h16 : 16 ≤ n)
    (h : deletable u l b = false) :
    ((settle (elasticTake u l b lat)).laneRun l).lastRx = (u.laneRun l).lastRx ∧
    ((settle (elasticTake u l b lat)).laneRun l).fill = n ∧
    (settle (elasticTake u l b lat)).get (F.LN_EB_ERR_CNT_ovf l) = min (u.get (F.LN_EB_ERR_CNT_ovf l) + 1) 65535 := by
  have hreg : LaneReg F.LN_EB_ERR_CNT_ovf := .of (by decide)
  rw [elasticTake_overflows hn h16 h, settle_filled_laneRun, raiseOnce_laneRun, State.bump_laneRun]
  refine ⟨rfl, rfl, ?_⟩
  rw [settle_filled_get hreg hl, raiseOnce_laneReg hreg hl, State.get_bump_same]
  rfl

theorem settle_underflows (hl : l < 128) (hn : n = (u.laneRun l).fill - b.taken) (h0 : n = 0) :
    ((settle (elasticTake u l b lat)).laneRun l).fill = 1 ∧
    (settle (elasticTake u l b lat)).get (F.LN_EB_ERR_CNT_unf l) = min (u.get (F.LN_EB_ERR_CNT_unf l) + 1) 65535 := by
  have hreg : LaneReg F.LN_EB_ERR_CNT_unf := .of (by decide)
  obtain ⟨c, w, hc⟩ := elasticTake_underflows (lat := lat) hn h0
  obtain ⟨hfill, hget⟩ := settle_delivered hreg (by decide) hl
  rw [hc]
  refine ⟨hfill, hget.trans ?_⟩
  rw [raiseOnce_laneReg hreg hl, State.get_bump_same]
  rfl

theorem settle_inserts (hl : l < 128) (hn : n = (u.laneRun l).fill - b.taken) (h0 : 0 < n) (h4 : n < 4)
    (h : deletable u l b = true) :
    ((settle (elasticTake u l b lat)).laneRun l).fill = n + 2 ∧
    (settle (elasticTake u l b lat)).get (F.LN_RM_INS_CNT_count l) =
      min (u.get (F.LN_RM_INS_CNT_count l) + 1) (2 ^ 32 - 1) := by
  obtain ⟨w, hw⟩ := elasticTake_inserts (lat := lat) hn h0 h4 h
  obtain ⟨hfill, hget⟩ := settle_delivered (f := F.LN_RM_INS_CNT_count) (.of (by decide)) (by decide) hl
  rw [hw]
  refine ⟨hfill, hget.trans ?_⟩
  rw [State.get_bump_same]
  rfl

end

end Sys2Proof.Machine
end

section
/-! The serial-lanes family (O28): the blocks a lane sends, and the figure of merit (R241, R246, R249, R251, R253). -/

namespace Sys2Proof.Machine

open KeepsSerial

section
variable {s u : State} {l lat ball bundle residence fom eye v : Nat} {frame : Bool} {r : LaneRun}

/-! ### The latency bases (R246) -/

/-- A bin-sink lane that is its own port, neither 100G nor JESD204C. -/
theorem latBase_sink (hport : portLanes s l = [l]) (hsink : s.flag (F.LN_CFG_sink l) = true)
    (hjesd : isJesd s l = false) :
    latBase s l = (36 + (fecTerms s l).1, 30 + (fecTerms s l).2) := by
  simp [latBase, hport, hsink, hjesd]

theorem fecTerms_single (h100 : is100G s l = false) : fecTerms s l =
    if s.get (F.LN_CFG_fec l) = 0 then (0, 0) else if s.get (F.LN_CFG_fec l) = 1 then (232, 24) else (128, 16) := by
  simp [fecTerms, h100]

/-! ### What a lane sends (R249, R255, R259, R385) -/

/-- The block of an underrun: an error inside an Ethernet frame and an idle block between two, zeros on JESD204C, and
the fill block on any other lane. -/
def underrunKind (s : State) (l : Nat) : Nat :=
  if isEthernet s l then (if (s.laneRun l).frameOpen then 2 else 1) else if isJesd s l then 4 else 3

theorem underrunKind_idle : underrunKind s l = 1 ↔ isEthernet s l = true ∧ (s.laneRun l).frameOpen = false := by
  unfold underrunKind
  cases isEthernet s l <;> cases (s.laneRun l).frameOpen <;> cases isJesd s l <;> simp

/-- A bin-sink lane sends an underrun block, which is counted but for idle between frames and in STANDBY. -/
def underrunSent (s : State) (l ball : Nat) (r : LaneRun) : State :=
  let v := underrunBlock s l (underrunKind s l)
  let t := setLaneRun s l (sendBlock s l v ball { r with lastTx := some v })
  if s.mode = Mode.standby ∨ underrunKind s l = 1 then t
  else
    let t := t.bump (F.LN_TX_UNDERRUN_CNT_count l) 1
    raiseOnce t (F.LN_TX_UNDERRUN_CNT_count l) (4 * l + 2) 0x21 3 (t.get (F.LN_TX_UNDERRUN_CNT_count l))

theorem exec_laneTxTake {x : TxTake} (hl : l < 128) (hx : bundle < 2 ^ 96 ∧ x.residence < 512) (h2 : 2 ≤ s.lane l)
    (h9 : s.lane l ≤ 9) (hloop : s.get (F.LN_CTRL_loop l) ≠ 3)
    (hlat : lat = s.get (F.LN_LAT_tx_base l) + (if freeMode s l then x.residence else 0)) (hball : ball = fpAdd s.fp lat)
    (hr : r = { s.laneRun l with takeAt := some (s.now, lat), ballAt := s.now + lat }) (hv : v = txBundle s l) :
    exec (.laneTxTake l bundle x) s = .next (settle (
      if s.flag (F.LN_CFG_sink l) = false then setLaneRun s l
        (sendBlock s l (engineBlock s l bundle) ball { r with lastTx := some (engineBlock s l bundle) })
      else if v.testBit 66 = true ∧ s.mode ≠ Mode.standby then setLaneRun s l
        (sendBlock s l (v % 2 ^ 66) ball { r with lastTx := some (v % 2 ^ 66), frameOpen := x.frame })
      else underrunSent s l ball r)) := by
  subst hlat hball hr hv
  refine exec_next rfl (by simpa [Instr.wf, hl, hx.2] using hx.1) ?_
  rw [if_neg (by simp [laneRuns_iff.mpr ⟨h2, h9⟩, hloop])]
  extract_lets lat r standby ball
  by_cases hsink : s.flag (F.LN_CFG_sink l) = false
  · rw [if_pos hsink, if_pos (by simp [hsink])]
  · rw [if_neg hsink, if_neg (by simpa using hsink)]
    by_cases hvalid : (txBundle s l).testBit 66 = true ∧ s.mode ≠ Mode.standby
    · rw [if_pos hvalid, if_pos (by simpa [bitAt, standby] using hvalid)]
    · rw [if_neg hvalid, if_neg (by simpa [bitAt, standby] using hvalid)]
      unfold underrunSent underrunKind
      simp only [standby, Bool.or_eq_true, decide_eq_true_eq]
      rfl

theorem underrunSent_laneRun {k : Nat} (hk : k = underrunBlock s l (underrunKind s l)) :
    (underrunSent s l ball r).laneRun l = sendBlock s l k ball { r with lastTx := some k } := by
  subst hk
  unfold underrunSent
  extract_lets v t t1
  have ht : t.laneRun l = sendBlock s l v ball { r with lastTx := some v } := setLaneRun_laneRun_same _ _ _
  split
  · exact ht
  · exact raiseOnce_laneRun _ _ _ _ _ |>.trans ht

theorem underrunSent_count (hl : l < 128) : (underrunSent s l ball r).get (F.LN_TX_UNDERRUN_CNT_count l) =
    if s.mode = Mode.standby ∨ underrunKind s l = 1 then s.get (F.LN_TX_UNDERRUN_CNT_count l)
    else min (s.get (F.LN_TX_UNDERRUN_CNT_count l) + 1) (2 ^ 32 - 1) := by
  unfold underrunSent
  extract_lets v t t1
  split
  · rfl
  · rw [raiseOnce_laneReg (f := F.LN_TX_UNDERRUN_CNT_count) (.of (by decide)) hl, State.get_bump_same]
    rfl

/-! ### The figure of merit (R251, R253) -/

/-- A window's FoM is recorded. -/
def fomKept (s : State) (l fom : Nat) : State :=
  let t := s.setAll [(F.LN_STATUS_fom l, fom), (F.LN_STATUS_fom_low l, ofBool (fom < s.get (F.LN_FOM_CFG_floor l))),
    (F.LN_FOM_MIN_fom l, min fom (s.get (F.LN_FOM_MIN_fom l)))]
  let acc := (aget t.spr.fomSum l).getD (0, 0)
  { t with spr := { t.spr with fomSum := aset t.spr.fomSum l (acc.1 + fom, acc.2 + 1) } }

/-- A lane whose FoM has fallen below the floor reports it once, until it has risen by 8 above it. -/
def fomJudged (u : State) (l fom floor : Nat) : State :=
  if fom < floor ∧ (u.laneRun l).lowArmed = true then
    raise (setLaneRun u l { u.laneRun l with lowArmed := false }) (4 * l + 1) 0x10 4
      (fom + u.get (F.LN_STATUS_cand l) * 256 + 1024)
  else if floor + 8 ≤ fom then setLaneRun u l { u.laneRun l with lowArmed := true } else u

theorem exec_fomWindow (hl : l < 128) (hfom : fom = fomOf s l eye) (hup : s.lane l = Ln.up) : exec (.fomWindow l eye) s =
    .next (settle (fomJudged (fomKept s l fom) l fom (s.get (F.LN_FOM_CFG_floor l)))) := by
  subst hfom
  refine exec_next rfl (by simpa [Instr.wf] using hl) ((if_neg (not_not.mpr hup)).trans ?_)
  unfold fomJudged
  simp only [Bool.and_eq_true, decide_eq_true_eq]
  rfl

theorem fomJudged_get {f : Nat → Fld} {floor : Nat} (hf : LaneReg f) (hl : l < 128) :
    (fomJudged u l fom floor).get (f l) = u.get (f l) := by
  unfold fomJudged
  split
  · exact raise_get_quiet _ _ _ _ (hf.serial hl).quiet
  · split <;> rfl

theorem fomKept_regs (hfom : fom < 256) : (fomKept s l fom).get (F.LN_STATUS_fom l) = fom ∧
    (fomKept s l fom).get (F.LN_FOM_MIN_fom l) = min fom (s.get (F.LN_FOM_MIN_fom l)) ∧
    (fomKept s l fom).get (F.LN_STATUS_cand l) = s.get (F.LN_STATUS_cand l) := by
  have hreg : LaneReg F.LN_STATUS_fom := .of (by decide)
  have hlow : LaneReg F.LN_STATUS_fom_low := .of (by decide)
  have hmin : LaneReg F.LN_FOM_MIN_fom := .of (by decide)
  have hcand : LaneReg F.LN_STATUS_cand := .of (by decide)
  have hflds : ∀ f, (fomKept s l fom).get f = (((s.set (F.LN_STATUS_fom l) fom).set (F.LN_STATUS_fom_low l)
      (ofBool (fom < s.get (F.LN_FOM_CFG_floor l)))).set (F.LN_FOM_MIN_fom l) (min fom (s.get (F.LN_FOM_MIN_fom l)))).get f :=
    fun _ => rfl
  refine ⟨?_, ?_, ?_⟩ <;> rw [hflds]
  · rw [hreg.get_set hmin _ _ (.inr (by decide)), hreg.get_set hlow _ _ (.inr (by decide)), State.get_set_same]
    exact Nat.mod_eq_of_lt hfom
  · rw [State.get_set_same]
    exact Nat.mod_eq_of_lt (lt_of_le_of_lt (Nat.min_le_left _ _) hfom)
  · rw [hcand.get_set hmin _ _ (.inr (by decide)), hcand.get_set hlow _ _ (.inr (by decide)),
      hcand.get_set hreg _ _ (.inr (by decide))]

theorem fomJudged_low {floor data : Nat} (hlow : fom < floor) (harmed : (s.laneRun l).lowArmed = true)
    (hroom : s.evRoom 1) (hd : data = fom + (fomKept s l fom).get (F.LN_STATUS_cand l) * 256 + 1024) :
    reports s (settle (fomJudged (fomKept s l fom) l fom floor)) (4 * l + 1) 0x10 4 data ∧
      ((settle (fomJudged (fomKept s l fom) l fom floor)).laneRun l).lowArmed = false := by
  subst hd
  have hrun : (fomKept s l fom).laneRun l = s.laneRun l := rfl
  rw [settle_laneRun, reports, settle_records, fomJudged, hrun, if_pos ⟨hlow, harmed⟩]
  constructor
  · exact raise_reports (s := setLaneRun (fomKept s l fom) l _) _ _ _ _ hroom
  · rw [State.laneRun_of_lanes (congrArg Lanes.lanes (raise_lanes _ _ _ _ _)), setLaneRun_laneRun_same]

end

/-- Settles O28: a block received by the branches of the elastic buffer, a block sent by its source, and the window of
the FoM. -/
theorem laneBlocks : Obligations.LaneBlocks := by
  unfold Obligations.LaneBlocks
  intro s l hl
  refine ⟨?_, ?_, ?_, ?_, ?_, ?_, ?_⟩
  · rintro b x u n base hh ht hres hup rfl hu hn hbase
    have hexec := exec_laneBlockRx hl ⟨hh, ht, hres⟩ hup rfl hu hbase
    have hreg : ∀ {f : Nat → Fld}, LaneReg f → (f 0).key ∉ takeKeys → u.get (f l) = s.get (f l) := fun hf hk =>
      hu ▸ blockTaken_get_laneReg hf hl hk
    have hlast : (u.laneRun l).lastRx = (s.laneRun l).lastRx := hu ▸ blockTaken_lastRx
    refine ⟨fun hlocked => by rw [hexec, if_neg (by simp [hlocked])], fun hfree => ?_⟩
    rw [if_pos hfree] at hexec
    have hnx : n = (u.laneRun l).fill - (rxTake s l b).1.taken := hn
    refine ⟨fun h12 hdel => ?_, fun h16 hdel => ?_, fun h0 => ?_, fun h0 h4 hdel => ?_, fun h0 h16 hpass => ?_⟩
    · rw [← hlast, ← hreg (f := F.LN_RM_DEL_CNT_count) (.of (by decide)) (by decide)]
      exact ⟨_, hexec, settle_drops hl hnx h12 hdel⟩
    · rw [← hlast, ← hreg (f := F.LN_EB_ERR_CNT_ovf) (.of (by decide)) (by decide)]
      exact ⟨_, hexec, settle_overflows hl hnx h16 hdel⟩
    · rw [← hreg (f := F.LN_EB_ERR_CNT_unf) (.of (by decide)) (by decide)]
      exact ⟨_, hexec, settle_underflows hl hnx h0⟩
    · rw [← hreg (f := F.LN_RM_INS_CNT_count) (.of (by decide)) (by decide)]
      exact ⟨_, hexec, settle_inserts hl hnx h0 h4 hdel⟩
    · rw [hexec, elasticTake_passes hnx h0 h16 hpass]
      rfl
  · exact fun b lat hport hlat => deliver_alone hport hlat
  · exact fun b v hv hloop => rxWord_unlooped hv hloop
  · exact fun n st v => descramble_scramble n st v
  · intro hport hsink h100 hjesd
    rw [latBase_sink hport hsink hjesd, fecTerms_single h100]
    exact ⟨fun h => by rw [h]; rfl, fun h => by rw [h]; rfl, fun h => by rw [h]; rfl⟩
  · intro bundle frame residence v lat ball r hb hres h2 h9 hloop hv hlat hball hr
    have hexec := exec_laneTxTake (x := ⟨frame, residence⟩) hl ⟨hb, hres⟩ h2 h9 hloop hlat hball hr hv
    refine ⟨fun hsink => ?_, fun hsink hmode hvalid => ?_, fun k hsink hno hk => ?_⟩
    · rw [hexec, if_pos hsink]
    · rw [hexec, if_neg (by simp [hsink]), if_pos ⟨hvalid, hmode⟩]
    · rw [if_neg (by simp [hsink]), if_neg (by rcases hno with h | h <;> simp [h])] at hexec
      refine ⟨_, hexec, (settle_laneRun _ _).trans (underrunSent_laneRun hk), ?_⟩
      rw [settle_get_laneReg (f := F.LN_TX_UNDERRUN_CNT_count) _ (.of (by decide)) hl, underrunSent_count hl]
      simp only [underrunKind_idle]
  · intro eye fom hfom hup
    have hlt : fom < 256 := hfom ▸ fomOf_lt eye
    obtain ⟨hkept, hmin, hcand⟩ := fomKept_regs (s := s) (l := l) hlt
    have hreg : LaneReg F.LN_STATUS_fom := .of (by decide)
    have hminreg : LaneReg F.LN_FOM_MIN_fom := .of (by decide)
    refine ⟨_, exec_fomWindow hl hfom hup, ?_, ?_, fun hroom hlow harmed => ?_⟩
    · rw [settle_get_laneReg _ hreg hl, fomJudged_get hreg hl, hkept]
    · rw [settle_get_laneReg _ hminreg hl, fomJudged_get hminreg hl, hmin]
    · exact fomJudged_low hlow harmed hroom (by rw [hcand]; rfl)

end Sys2Proof.Machine
end

section
/-! The fronthaul family (O29): block floating point. -/

namespace Sys2Proof.Machine

/-! ### Rounding half to even (R287) -/

section
variable {a x y M : Int} {b : Nat}

/-- `x` is nearest to a / b, and even where two integers are. -/
def IsHalfEven (a x : Int) (b : Nat) : Prop :=
  2 * (a - x * b).natAbs ≤ b ∧ (2 * (a - x * b).natAbs = b → x % 2 = 0)

theorem roundHalfEven_isHalfEven (a : Int) (hb : 0 < b) : IsHalfEven a (roundHalfEven a b) b := by
  have hdiv : a = a / b * b + a % b := by rw [mul_comm]; exact (Int.mul_ediv_add_emod a b).symm
  have hlo : 0 ≤ a % b := Int.emod_nonneg _ (by omega)
  have hhi : a % b < b := Int.emod_lt_of_pos _ (by omega)
  unfold IsHalfEven roundHalfEven
  generalize a / (b : Int) = q at hdiv ⊢
  generalize a % (b : Int) = r at hdiv hlo hhi ⊢
  have hdown : a - q * b = r := by rw [hdiv]; ring
  have hup : a - (q + 1) * b = r - b := by rw [hdiv]; ring
  dsimp only
  split_ifs
  · rw [hdown]; omega
  · rw [hup]; omega
  · rw [hdown]; omega
  · rw [hup]; omega

/-- The smaller of two such integers would lie one below the other, and both would be even. -/
theorem IsHalfEven.not_lt (hx : IsHalfEven a x b) (hy : IsHalfEven a y b) (hb : 0 < b) : ¬ x < y := by
  obtain ⟨hx, hxe⟩ := hx
  obtain ⟨hy, hye⟩ := hy
  intro h
  have hsub : (a - x * b) - (a - y * b) = (y - x) * b := by ring
  generalize a - x * b = u at *
  generalize a - y * b = v at *
  rcases Int.lt_or_eq_of_le (Int.add_one_le_of_lt h) with h2 | h1
  · have hfar : 2 * (b : Int) ≤ (y - x) * b := Int.mul_le_mul_of_nonneg_right (by omega) (by omega)
    omega
  · rw [← h1, show (x + 1 - x) * (b : Int) = b by ring] at hsub
    omega

theorem IsHalfEven.unique (hx : IsHalfEven a x b) (hy : IsHalfEven a y b) (hb : 0 < b) : x = y :=
  le_antisymm (Int.not_lt.mp (hy.not_lt hx hb)) (Int.not_lt.mp (hx.not_lt hy hb))

theorem roundHalfEven_eq (hb : 0 < b) (h : IsHalfEven a x b) : roundHalfEven a b = x :=
  (roundHalfEven_isHalfEven a hb).unique h hb

@[simp] theorem roundHalfEven_one (a : Int) : roundHalfEven a 1 = a :=
  roundHalfEven_eq (by decide) (by simp [IsHalfEven])

/-- A value whose half-way point is rounded up, since `M` is odd, rounds to at most `M` below that point alone. -/
theorem roundHalfEven_le_iff (hb : 0 < b) (hM : M % 2 = 1) : roundHalfEven a b ≤ M ↔ 2 * a < (2 * M + 1) * b := by
  obtain ⟨hx, hxe⟩ := roundHalfEven_isHalfEven a hb
  generalize roundHalfEven a b = x at *
  have hmid : (2 * M + 1) * (b : Int) = 2 * (M * b) + b := by ring
  rw [hmid]
  rcases lt_trichotomy x M with h | h | h
  · have hle : (x + 1) * (b : Int) ≤ M * b := Int.mul_le_mul_of_nonneg_right h (by omega)
    have hadd : (x + 1) * (b : Int) = x * b + b := by ring
    omega
  · subst h
    omega
  · have hle : (M + 1) * (b : Int) ≤ x * b := Int.mul_le_mul_of_nonneg_right h (by omega)
    have hadd : (M + 1) * (b : Int) = M * b + b := by ring
    omega

theorem roundHalfEven_neg (hb : 0 < b) : roundHalfEven (-a) b = -roundHalfEven a b := by
  refine roundHalfEven_eq hb ?_
  obtain ⟨hx, hxe⟩ := roundHalfEven_isHalfEven a hb
  generalize roundHalfEven a b = x at *
  have hneg : -a - -x * b = -(a - x * b) := by ring
  rw [IsHalfEven, hneg, Int.natAbs_neg]
  exact ⟨hx, fun h => by have := hxe h; omega⟩

end

/-! ### The exponent of a block (R287) -/

section
variable {m e : Nat} {v : List Int}

theorem mantsFit_iff : mantsFit m (mants v e) = true
    ↔ ∀ x ∈ v, mantLo m ≤ roundHalfEven x (2 ^ e) ∧ roundHalfEven x (2 ^ e) ≤ mantHi m := by
  simp [mantsFit, mants]

theorem mantRange_full : mantLo 16 = -32768 ∧ mantHi 16 = 32767 := ⟨rfl, rfl⟩

theorem mantRange_narrow (h : m ≠ 16) : mantLo m = -(2 ^ (m - 1) - 1) ∧ mantHi m = 2 ^ (m - 1) - 1 :=
  ⟨if_neg h, if_neg h⟩

/-- Up to 15 bits the mantissas fit where no value reaches (M + 1/2) · 2^e, which only grows with e. -/
theorem mantsFit_narrow_iff (h2 : 2 ≤ m) (h15 : m ≤ 15) : mantsFit m (mants v e) = true
    ↔ ∀ x ∈ v, 2 * (x.natAbs : Int) < (2 ^ m - 1) * 2 ^ e := by
  obtain ⟨hlo, hhi⟩ := mantRange_narrow (m := m) (by omega)
  obtain ⟨k, rfl⟩ := Nat.exists_eq_add_of_le' h2
  have hodd : ((2 : Int) ^ (k + 2 - 1) - 1) % 2 = 1 := by
    rw [show k + 2 - 1 = k + 1 from rfl, pow_succ]
    omega
  have hmid : 2 * ((2 : Int) ^ (k + 2 - 1) - 1) + 1 = 2 ^ (k + 2) - 1 := by
    rw [show k + 2 - 1 = k + 1 from rfl]
    ring
  have hpos : 0 < 2 ^ e := Nat.two_pow_pos e
  rw [mantsFit_iff, hlo, hhi]
  refine forall₂_congr fun x _ => ?_
  rw [neg_le, ← roundHalfEven_neg hpos, roundHalfEven_le_iff hpos hodd, roundHalfEven_le_iff hpos hodd, hmid]
  simp only [Nat.cast_pow, Nat.cast_ofNat]
  omega

/-- The exponents are tried from the lowest on: the first that fits ends the search. -/
theorem compressFrom_cases (m : Nat) (v : List Int) (n e : Nat) :
    (∃ j < n, mantsFit m (mants v (e + j)) = true ∧ (∀ k < j, mantsFit m (mants v (e + k)) = false)
      ∧ compressFrom m v n e = ⟨e + j, mants v (e + j), false⟩)
    ∨ (∀ k < n, mantsFit m (mants v (e + k)) = false)
      ∧ compressFrom m v n e = ⟨15, (mants v 15).map (fun x => max (mantLo m) (min (mantHi m) x)), true⟩ := by
  induction n generalizing e with
  | zero => exact .inr ⟨fun k hk => absurd hk (Nat.not_lt_zero k), rfl⟩
  | succ n ih =>
    unfold compressFrom
    by_cases hfit : mantsFit m (mants v e) = true
    · exact .inl ⟨0, Nat.succ_pos n, hfit, fun k hk => absurd hk (Nat.not_lt_zero k), if_pos hfit⟩
    · have hbefore : ∀ k, (∀ i < k, mantsFit m (mants v (e + 1 + i)) = false) →
          ∀ i < k + 1, mantsFit m (mants v (e + i)) = false := by
        intro k h i hi
        cases i with
        | zero => exact Bool.eq_false_iff.mpr hfit
        | succ i => rw [← Nat.succ_add_eq_add_succ]; exact h i (by omega)
      rw [if_neg hfit]
      rcases ih (e + 1) with ⟨j, hj, hfits, hnot, heq⟩ | ⟨hnot, heq⟩
      · rw [Nat.succ_add_eq_add_succ] at hfits heq
        exact .inl ⟨j + 1, by omega, hfits, hbefore j hnot, heq⟩
      · exact .inr ⟨hbefore n hnot, heq⟩

/-- A block has the lowest exponent up to 15 at which it fits, or saturates at 15. -/
theorem compress_cases (m : Nat) (v : List Int) :
    (∃ e ≤ 15, mantsFit m (mants v e) = true ∧ (∀ k < e, mantsFit m (mants v k) = false)
      ∧ compress m v = ⟨e, mants v e, false⟩)
    ∨ (∀ k ≤ 15, mantsFit m (mants v k) = false)
      ∧ compress m v = ⟨15, (mants v 15).map (fun x => max (mantLo m) (min (mantHi m) x)), true⟩ := by
  unfold compress
  simpa [Nat.lt_succ_iff] using compressFrom_cases m v 16 0

theorem compress_fits (he : e ≤ 15) (hfit : mantsFit m (mants v e) = true)
    (hnot : ∀ k < e, mantsFit m (mants v k) = false) : compress m v = ⟨e, mants v e, false⟩ := by
  rcases compress_cases m v with ⟨j, -, hj, hjnot, heq⟩ | ⟨hnone, -⟩
  · rcases lt_trichotomy e j with h | rfl | h
    · simp [hjnot e h] at hfit
    · exact heq
    · simp [hnot j h] at hj
  · simp [hnone e he] at hfit

theorem compress_saturates (h : ∀ k ≤ 15, mantsFit m (mants v k) = false) :
    (compress m v).sat = true ∧ (compress m v).e = 15 := by
  rcases compress_cases m v with ⟨e, he, hfit, -⟩ | ⟨-, heq⟩
  · simp [h e he] at hfit
  · simp [heq]

theorem compress_shape (m : Nat) (v : List Int) : (compress m v).e ≤ 15 ∧ (compress m v).q.length = v.length := by
  rcases compress_cases m v with ⟨e, he, -, -, heq⟩ | ⟨-, heq⟩
  · simp [heq, he, mants]
  · simp [heq, mants]

/-! ### Decompression (R287, R290) -/

theorem clamp16_inside {x : Int} (h : -32768 ≤ x ∧ x ≤ 32767) : clamp16 x = x := by
  unfold clamp16
  omega

theorem decompress_values (e : Nat) (q : List Int) : (decompress e q).1 = q.map (fun x => clamp16 (x * 2 ^ e)) := by
  simp [decompress, expand, Function.comp_def]

theorem decompress_inside {q : List Int} (h : ∀ x ∈ q, -32768 ≤ x * 2 ^ e ∧ x * 2 ^ e ≤ 32767) :
    decompress e q = (q.map (fun x => x * 2 ^ e), 0) := by
  refine Prod.ext ?_ ?_
  · rw [decompress_values]
    exact List.map_congr_left fun x hx => clamp16_inside (h x hx)
  · have hnone : ∀ x ∈ q.map (expand e), ¬ (clamp16 x != x) = true := by
      simp only [List.mem_map, forall_exists_index, and_imp, forall_apply_eq_imp_iff₂]
      exact fun x hx => by simp [expand, clamp16_inside (h x hx)]
    simp only [decompress, List.filter_eq_nil_iff.mpr hnone, List.length_nil]

/-! ### Blocks of 16-bit values (R288) -/

/-- A mantissa that its value gave is given again by its decompressed value: only 2^15 is clamped, to a value that
rounds to it. -/
theorem roundHalfEven_clamp16 {x : Int} (hx : -32768 ≤ x ∧ x ≤ 32767) (he : e ≤ 15) :
    roundHalfEven (clamp16 (roundHalfEven x (2 ^ e) * 2 ^ e)) (2 ^ e) = roundHalfEven x (2 ^ e) := by
  have hpos : 0 < 2 ^ e := Nat.two_pow_pos e
  obtain ⟨hnear, -⟩ := roundHalfEven_isHalfEven x hpos
  refine roundHalfEven_eq hpos ?_
  generalize roundHalfEven x (2 ^ e) = q at *
  unfold IsHalfEven clamp16
  push_cast at hnear ⊢
  interval_cases e <;> omega

/-- A value beyond the range of m bits at an exponent gives, at the next one, a mantissa whose decompressed value is
beyond that range too. -/
theorem clamp16_beyond {x : Int} (hx : -32768 ≤ x ∧ x ≤ 32767) (h2 : 2 ≤ m)
    (h : (2 ^ m - 1) * 2 ^ e ≤ 2 * (x.natAbs : Int)) :
    (2 ^ m - 1) * 2 ^ e ≤ 2 * ((clamp16 (roundHalfEven x (2 ^ (e + 1)) * 2 ^ (e + 1))).natAbs : Int) := by
  obtain ⟨hnear, -⟩ := roundHalfEven_isHalfEven x (Nat.two_pow_pos (e + 1))
  generalize roundHalfEven x (2 ^ (e + 1)) = q at *
  obtain ⟨k, rfl⟩ := Nat.exists_eq_add_of_le' h2
  have hp : (0 : Int) < 2 ^ e := by positivity
  have hm : ((2 : Int) ^ (k + 2) - 1) * 2 ^ e = 4 * (2 ^ k * 2 ^ e) - 2 ^ e := by ring
  have htwice : q * 2 ^ (e + 1) = 2 * (q * 2 ^ e) := by ring
  have hnear : 2 * ((x - 2 * (q * 2 ^ e)).natAbs : Int) ≤ 2 * 2 ^ e := by
    rw [← htwice, ← pow_succ']
    exact_mod_cast hnear
  rw [htwice, hm]
  rw [hm] at h
  have hone : 1 * 2 ^ e ≤ (2 : Int) ^ k * 2 ^ e := Int.mul_le_mul_of_nonneg_right (one_le_pow₀ (by decide)) hp.le
  have hq : 2 ^ k ≤ q ∨ q ≤ -2 ^ k := by
    by_contra hno
    push Not at hno
    obtain ⟨hhi, hlo⟩ := hno
    have hle : q * 2 ^ e ≤ (2 ^ k - 1) * 2 ^ e := Int.mul_le_mul_of_nonneg_right (by omega) hp.le
    have hge : (-2 ^ k + 1) * 2 ^ e ≤ q * 2 ^ e := Int.mul_le_mul_of_nonneg_right (by omega) hp.le
    have hup : ((2 : Int) ^ k - 1) * 2 ^ e = 2 ^ k * 2 ^ e - 2 ^ e := by ring
    have hdown : (-(2 : Int) ^ k + 1) * 2 ^ e = -(2 ^ k * 2 ^ e) + 2 ^ e := by ring
    omega
  unfold clamp16
  rcases hq with hq | hq
  · have hle : 2 ^ k * 2 ^ e ≤ q * 2 ^ e := Int.mul_le_mul_of_nonneg_right hq hp.le
    omega
  · have hle : q * 2 ^ e ≤ -2 ^ k * 2 ^ e := Int.mul_le_mul_of_nonneg_right hq hp.le
    rw [neg_mul] at hle
    omega

section
variable (hv : ∀ x ∈ v, -32768 ≤ x ∧ x ≤ 32767)
include hv

theorem compress_full : compress 16 v = ⟨0, v, false⟩ := by
  have hmants : mants v 0 = v := by simp [mants]
  have hfit : mantsFit 16 (mants v 0) = true := by
    rw [mantsFit_iff]
    simpa [mantRange_full] using hv
  rw [compress_fits (Nat.zero_le 15) hfit (fun k hk => absurd hk (Nat.not_lt_zero k)), hmants]

theorem decompress_full : decompress 0 v = (v, 0) := by
  rw [decompress_inside (by simpa using hv)]
  simp

/-- From 7 bits on, 2^15 is within the range at exponent 15. -/
theorem mantsFit_last (h7 : 7 ≤ m) (h15 : m ≤ 15) : mantsFit m (mants v 15) = true := by
  rw [mantsFit_narrow_iff (by omega) h15]
  intro x hx
  have hx := hv x hx
  have hpow : (2 : Int) ^ 7 ≤ 2 ^ m := pow_le_pow_right₀ (by decide) h7
  omega

theorem compress_narrow (h7 : 7 ≤ m) (h15 : m ≤ 15) : ∃ e ≤ 15, mantsFit m (mants v e) = true
    ∧ (∀ k < e, mantsFit m (mants v k) = false) ∧ compress m v = ⟨e, mants v e, false⟩ := by
  rcases compress_cases m v with h | ⟨hnone, -⟩
  · exact h
  · exact absurd (mantsFit_last hv h7 h15) (by simp [hnone 15 le_rfl])

theorem mants_decompress (he : e ≤ 15) : mants (decompress e (mants v e)).1 e = mants v e := by
  rw [decompress_values]
  unfold mants
  rw [List.map_map, List.map_map]
  exact List.map_congr_left fun x hx => roundHalfEven_clamp16 (hv x hx) he

/-- Below its exponent the decompressed block does not fit either. -/
theorem mantsFit_decompress_below (h7 : 7 ≤ m) (h15 : m ≤ 15) (hnot : ∀ k < e, mantsFit m (mants v k) = false) :
    ∀ k < e, mantsFit m (mants (decompress e (mants v e)).1 k) = false := by
  intro k hk
  obtain ⟨j, rfl⟩ : ∃ j, e = j + 1 := ⟨e - 1, by omega⟩
  have hj := hnot j (Nat.lt_succ_self j)
  rw [← Bool.not_eq_true, mantsFit_narrow_iff (by omega) h15] at hj ⊢
  push Not at hj ⊢
  obtain ⟨x, hx, hbeyond⟩ := hj
  refine ⟨clamp16 (roundHalfEven x (2 ^ (j + 1)) * 2 ^ (j + 1)), ?_, ?_⟩
  · rw [decompress_values]
    exact List.mem_map_of_mem (List.mem_map_of_mem hx)
  · have hpow : (2 : Int) ^ k ≤ 2 ^ j := pow_le_pow_right₀ (by decide) (by omega)
    have hm : (1 : Int) ≤ 2 ^ m := one_le_pow₀ (by decide)
    calc ((2 : Int) ^ m - 1) * 2 ^ k ≤ (2 ^ m - 1) * 2 ^ j := Int.mul_le_mul_of_nonneg_left hpow (by omega)
      _ ≤ _ := clamp16_beyond (hv x hx) (by omega) hbeyond

theorem compress_decompress (h7 : 7 ≤ m) (h15 : m ≤ 15) :
    compress m (decompress (compress m v).e (compress m v).q).1 = compress m v := by
  obtain ⟨e, he, hfit, hnot, heq⟩ := compress_narrow hv h7 h15
  have hmants := mants_decompress hv he
  have hfits : mantsFit m (mants (decompress e (mants v e)).1 e) = true := by rw [hmants, hfit]
  rw [heq]
  exact (compress_fits he hfits (mantsFit_decompress_below hv h7 h15 hnot)).trans (by rw [hmants])

end

theorem mants_getD {i : Nat} (hi : i < v.length) : (mants v e).getD i 0 = roundHalfEven (v.getD i 0) (2 ^ e) := by
  simp [mants, List.getD_eq_getElem?_getD, hi]

theorem mants_error (hi : i < v.length) :
    2 * (v.getD i 0 - (mants v e).getD i 0 * 2 ^ e).natAbs ≤ if e = 0 then 0 else 2 ^ e := by
  rw [mants_getD hi]
  split
  · next he => simp [he]
  · exact_mod_cast (roundHalfEven_isHalfEven (v.getD i 0) (Nat.two_pow_pos e)).1

end

/-- Settles O29: the rounding, the search for the exponent and the range of 16 bits stand above. -/
theorem bfpExact : Obligations.BfpExact := by
  unfold Obligations.BfpExact
  intro m v h7 h16
  refine ⟨fun x e => ?_, fun e => ?_, fun e he hfit hnot => compress_fits he hfit hnot, compress_saturates,
    (compress_shape m v).1, (compress_shape m v).2, fun e q h => decompress_inside h, fun hv => ⟨?_, fun h15 => ?_⟩⟩
  · exact_mod_cast roundHalfEven_isHalfEven x (Nat.two_pow_pos e)
  · rw [mantsFit_iff]
    refine forall₂_congr fun x _ => ?_
    split
    · next h => subst h; exact Iff.rfl
    · next h => rw [(mantRange_narrow h).1, (mantRange_narrow h).2]
  · rintro rfl
    exact ⟨compress_full hv, decompress_full hv⟩
  · obtain ⟨e, -, -, -, heq⟩ := compress_narrow hv h7 h15
    refine ⟨by rw [heq], fun i hi => ?_, compress_decompress hv h7 h15⟩
    rw [heq]
    exact mants_error hi

end Sys2Proof.Machine
end

section
/-! The fronthaul family (O31 to O34): the words and counters of flows, and what events and the Loft leave of the
fronthaul path. -/

namespace Sys2Proof.Machine

/-! ### Words of the tables (R271 to R273) -/

/-- A word that is 0 is not listed, and reads as 0. -/
theorem aget_putWord_same (l : List (Nat × Nat)) (k v : Nat) : (aget (putWord l k v) k).getD 0 = v % 2 ^ 32 := by
  unfold putWord
  split
  · next h => rw [aget_adel_same, h]; rfl
  · rw [aget_aset_same]; rfl

theorem aget_putWord_ne {l : List (Nat × Nat)} {k j v : Nat} (h : j ≠ k) : aget (putWord l k v) j = aget l j := by
  unfold putWord
  split
  · exact aget_adel_ne _ _ _ h
  · exact aget_aset_ne _ _ _ _ h

theorem bits_testBit (x lo n i : Nat) : (bits x lo n).testBit i = (decide (i < n) && x.testBit (lo + i)) := by
  simp [bits, Nat.testBit_mod_two_pow, Nat.testBit_shiftRight]

theorem bits_lt (x lo n : Nat) : bits x lo n < 2 ^ n := Nat.mod_lt _ (Nat.two_pow_pos n)

/-- A number with `n` bits from `lo` replaced, bit by bit. -/
theorem testBit_replace (o lo n v i : Nat) : (o - bits o lo n * 2 ^ lo + v % 2 ^ n * 2 ^ lo).testBit i
    = if lo ≤ i ∧ i < lo + n then v.testBit (i - lo) else o.testBit i := by
  have hlow : o % 2 ^ lo < 2 ^ lo := Nat.mod_lt _ (Nat.two_pow_pos lo)
  have hv : v % 2 ^ n < 2 ^ n := Nat.mod_lt _ (Nat.two_pow_pos n)
  have hsplit : o = 2 ^ lo * (2 ^ n * (o / 2 ^ lo / 2 ^ n) + bits o lo n) + o % 2 ^ lo := by
    rw [bits, Nat.shiftRight_eq_div_pow, Nat.div_add_mod, Nat.div_add_mod]
  have hnew : o - bits o lo n * 2 ^ lo + v % 2 ^ n * 2 ^ lo
      = 2 ^ lo * (2 ^ n * (o / 2 ^ lo / 2 ^ n) + v % 2 ^ n) + o % 2 ^ lo := by
    have hsum := hsplit
    rw [mul_add, mul_comm (2 ^ lo) (bits o lo n)] at hsum
    rw [mul_add, mul_comm (2 ^ lo) (v % 2 ^ n)]
    omega
  rw [hnew, Nat.testBit_two_pow_mul_add _ hlow]
  by_cases hi : i < lo
  · rw [if_pos hi, if_neg (by omega), Nat.testBit_mod_two_pow, decide_eq_true hi, Bool.true_and]
  · rw [if_neg hi, Nat.testBit_two_pow_mul_add _ hv]
    by_cases hn : i - lo < n
    · rw [if_pos hn, if_pos (by omega), Nat.testBit_mod_two_pow, decide_eq_true hn, Bool.true_and]
    · rw [if_neg hn, if_neg (by omega), ← Nat.shiftRight_eq_div_pow, ← Nat.shiftRight_eq_div_pow,
        Nat.testBit_shiftRight, Nat.testBit_shiftRight, show lo + (n + (i - lo - n)) = i by omega]

section
variable {s t : State} {f g w j lo n v a k i : Nat}

@[simp] theorem markDirty_fh (s : State) (a : Nat) : (markDirty s a).fh = s.fh := by
  unfold markDirty
  split <;> rfl

@[simp] theorem setFh_fh (s : State) (x : Fronthaul) : (setFh s x).fh = x := rfl

theorem setFlowW_fh (s : State) (f w v : Nat) :
    (setFlowW s f w v).fh = { s.fh with flow := putWord s.fh.flow (16 * f + w) v } := by
  unfold setFlowW
  dsimp only
  split
  · exact markDirty_fh _ _
  · rfl

theorem flowW_of_flow (h : t.fh.flow = s.fh.flow) (f w : Nat) : flowW t f w = flowW s f w := by
  simp [flowW, h]

theorem flowF_of_flow (h : t.fh.flow = s.fh.flow) (f w lo n : Nat) : flowF t f w lo n = flowF s f w lo n := by
  rw [flowF, flowW_of_flow h, flowF]

theorem flowW_setFlowW_same (s : State) (f w v : Nat) : flowW (setFlowW s f w v) f w = v % 2 ^ 32 := by
  rw [flowW, setFlowW_fh]
  exact aget_putWord_same _ _ _

theorem flowW_setFlowW_ne (h : 16 * g + j ≠ 16 * f + w) : flowW (setFlowW s f w v) g j = flowW s g j := by
  rw [flowW, setFlowW_fh]
  exact congrArg (fun x => Option.getD x 0) (aget_putWord_ne h)

theorem flowW_setFlowF_ne (h : 16 * g + j ≠ 16 * f + w) : flowW (setFlowF s f w lo n v) g j = flowW s g j :=
  flowW_setFlowW_ne h

theorem flowF_setFlowF_ne (h : 16 * g + j ≠ 16 * f + w) : flowF (setFlowF s f w lo n v) g j a k = flowF s g j a k := by
  rw [flowF, flowW_setFlowF_ne h, flowF]

theorem testBit_flowW_setFlowF (s : State) (f w : Nat) (hi : i < 32) : (flowW (setFlowF s f w lo n v) f w).testBit i
    = if lo ≤ i ∧ i < lo + n then v.testBit (i - lo) else (flowW s f w).testBit i := by
  rw [setFlowF, flowW_setFlowW_same, Nat.testBit_mod_two_pow, decide_eq_true hi, Bool.true_and, testBit_replace]

/-- A field of a flow word holds what was written. -/
theorem flowF_setFlowF_same (s : State) (f w v : Nat) (h : lo + n ≤ 32) :
    flowF (setFlowF s f w lo n v) f w lo n = v % 2 ^ n := by
  refine Nat.eq_of_testBit_eq fun i => ?_
  rw [flowF, bits_testBit, Nat.testBit_mod_two_pow]
  by_cases hi : i < n
  · rw [testBit_flowW_setFlowF _ _ _ (by omega), if_pos (by omega), Nat.add_sub_cancel_left]
  · simp [hi]

/-- Another field of the word keeps its value. -/
theorem flowF_setFlowF_apart (s : State) (f w v : Nat) (h : a + k ≤ lo ∨ lo + n ≤ a) (ha : a + k ≤ 32) :
    flowF (setFlowF s f w lo n v) f w a k = flowF s f w a k := by
  refine Nat.eq_of_testBit_eq fun i => ?_
  rw [flowF, bits_testBit, flowF, bits_testBit]
  by_cases hi : i < k
  · rw [testBit_flowW_setFlowF _ _ _ (by omega), if_neg (by omega)]
  · simp [hi]

/-! ### Counters of flows (R148, R299) -/

theorem flowCnt_of_cnt (h : t.fh.cnt = s.fh.cnt) (f i : Nat) : flowCnt t f i = flowCnt s f i := by
  simp [flowCnt, h]

theorem flowCount_fh (s : State) (f i n : Nat) :
    (flowCount s f i n).fh = { s.fh with cnt := putWord s.fh.cnt (16 * f + i) (min (flowCnt s f i + n) (2 ^ 32 - 1)) } :=
  rfl

theorem flowCnt_flowCount_same (s : State) (f i n : Nat) :
    flowCnt (flowCount s f i n) f i = min (flowCnt s f i + n) (2 ^ 32 - 1) := by
  rw [flowCnt, flowCount_fh, aget_putWord_same]
  exact Nat.mod_eq_of_lt (by omega)

theorem flowCnt_flowCount_ne (h : 16 * g + j ≠ 16 * f + i) : flowCnt (flowCount s f i n) g j = flowCnt s g j := by
  rw [flowCnt, flowCount_fh]
  exact congrArg (fun x => Option.getD x 0) (aget_putWord_ne h)

end

/-! ### What events and the Loft leave of the path (R308, R314 to R320, R476) -/

/-- A register of the fronthaul block. -/
structure Fld.Fronthaul (f : Fld) : Prop where
  above : 0x200000 * 32 ≤ f.key
  below : f.key < 0x210000 * 32

theorem Fld.Fronthaul.quiet {f : Fld} (h : f.Fronthaul) : f.quiet := by
  obtain ⟨habove, hbelow⟩ := h
  exact Fld.quiet_of_key (by omega) (by omega) (by omega)

/-- From `s` to `t` the tables and queues of the fronthaul path and the registers of its block stay. -/
structure KeepsFronthaul (s t : State) : Prop where
  fh : t.fh = s.fh
  regs : ∀ f : Fld, f.Fronthaul → t.get f = s.get f

namespace KeepsFronthaul

theorem refl (s : State) : KeepsFronthaul s s := ⟨rfl, fun _ _ => rfl⟩

variable {s t u : State}

theorem trans (h : KeepsFronthaul s t) (h' : KeepsFronthaul t u) : KeepsFronthaul s u :=
  ⟨h'.fh.trans h.fh, fun f hf => (h'.regs f hf).trans (h.regs f hf)⟩

/-- Of a choice of two continuations. -/
theorem ite {c : Prop} [Decidable c] {v : State} (h : KeepsFronthaul s u) (h' : KeepsFronthaul s v) :
    KeepsFronthaul s (if c then u else v) := by
  split
  · exact h
  · exact h'

theorem foldl {β : Type} (f : State → β → State) (l : List β) (s : State) (h : ∀ t x, KeepsFronthaul t (f t x)) :
    KeepsFronthaul s (l.foldl f s) := by
  induction l generalizing s with
  | nil => exact refl s
  | cons x l ih => exact (h s x).trans (ih _)

/-- A write of a register outside the block. -/
theorem set (f : Fld) (v : Nat) (hf : f.key < 0x200000 * 32 ∨ 0x210000 * 32 ≤ f.key) (h : KeepsFronthaul s t) :
    KeepsFronthaul s (t.set f v) :=
  h.trans ⟨rfl, fun g hg => t.get_set_ne f g v (by obtain ⟨ha, hb⟩ := hg; omega)⟩

theorem bump (f : Fld) (n : Nat) (hf : f.key < 0x200000 * 32 ∨ 0x210000 * 32 ≤ f.key) (h : KeepsFronthaul s t) :
    KeepsFronthaul s (t.bump f n) := h.set f _ hf

theorem raise (a b c d : Nat) (h : KeepsFronthaul s t) : KeepsFronthaul s (raise t a b c d) :=
  h.trans ⟨raise_fh _ _ _ _ _, fun _ hf => raise_get_quiet a b c d hf.quiet⟩

end KeepsFronthaul

open KeepsFronthaul

theorem markDirty_keepsFronthaul (s : State) (a : Nat) : KeepsFronthaul s (markDirty s a) :=
  ⟨markDirty_fh s a, fun f _ => markDirty_get s a f⟩

theorem setLoft_keepsFronthaul (s : State) (l : Loft) : KeepsFronthaul s (s.setLoft l) := ⟨rfl, fun _ _ => rfl⟩

theorem loftDirty_keepsFronthaul (s : State) (w : Nat) : KeepsFronthaul s (loftDirty s w) :=
  KeepsFronthaul.ite (markDirty_keepsFronthaul _ _) (refl s)

theorem flowOnce_keepsFronthaul (s : State) (f i a b c d : Nat) : KeepsFronthaul s (flowOnce s f i a b c d) :=
  KeepsFronthaul.ite (refl s) (KeepsFronthaul.raise a b c d ⟨rfl, fun _ _ => rfl⟩)

/-- The Loft's registers lie above the block. -/
theorem loft_above {a lo w r : Nat} (h : 0x300000 ≤ a) : (Fld.mk a lo w r).key < 0x200000 * 32
    ∨ 0x210000 * 32 ≤ (Fld.mk a lo w r).key := by
  simp only [Fld.key]
  omega

theorem judge_keepsFronthaul (s : State) (owner b : Nat) (wr : Bool) : KeepsFronthaul s (judge s owner b wr).2 := by
  unfold judge
  split
  · exact (refl s).bump _ _ (by decide)
  · split
    · exact refl s
    · split
      · have hbump := (refl s).bump (F.LFT_GRP_UE_CNT_denied (b / 32)) 1 (loft_above (by omega))
        exact KeepsFronthaul.ite hbump (KeepsFronthaul.raise _ _ _ _ (hbump.trans ⟨rfl, fun _ _ => rfl⟩))
      · exact refl s

theorem voteRepair_keepsFronthaul (s : State) (w : Nat) : KeepsFronthaul s (voteRepair s w) :=
  KeepsFronthaul.ite (refl s) (KeepsFronthaul.bump _ _ (loft_above (by omega)) ⟨rfl, fun _ _ => rfl⟩)

theorem countCorrected_keepsFronthaul (s : State) (w : Nat) : KeepsFronthaul s (countCorrected s w) := by
  have hcount : KeepsFronthaul s ((s.bump (F.LFT_BANK_CE_CNT_ce (wLBank w)) 1).bump (F.LFT_GRP_CE_CNT_ce (wGroup w)) 1) :=
    ((refl s).bump _ _ (loft_above (by omega))).bump _ _ (loft_above (by omega))
  exact KeepsFronthaul.ite (refl s) (hcount.trans
    (KeepsFronthaul.ite ⟨rfl, fun _ _ => rfl⟩ ⟨rfl, fun _ _ => rfl⟩))

theorem poisonRead_keepsFronthaul (s : State) (w who : Nat) : KeepsFronthaul s (poisonRead s w who) :=
  (((((refl s).bump _ _ (by decide)).set _ _ (by decide)).set _ _ (by decide))).raise _ _ _ _

theorem readWord_keepsFronthaul (s : State) (w who : Nat) : KeepsFronthaul s (readWord s w who).2 := by
  have hrepair := voteRepair_keepsFronthaul s w
  unfold readWord
  dsimp only
  split
  · exact hrepair
  · split
    · exact hrepair
    · exact hrepair.trans (countCorrected_keepsFronthaul _ w)
    · exact hrepair.trans (poisonRead_keepsFronthaul _ w who)
    · exact (hrepair.trans (setLoft_keepsFronthaul _ _)).trans (poisonRead_keepsFronthaul _ w who)

theorem readSlice_keepsFronthaul (owner : Nat) (ws : List Nat) (s : State) :
    KeepsFronthaul s (readSlice owner ws s).2 := by
  induction ws generalizing s with
  | nil => exact refl s
  | cons w ws ih =>
    have hjudge := judge_keepsFronthaul s owner (wLBank w) false
    unfold readSlice
    dsimp only
    refine KeepsFronthaul.trans ?_ (ih _)
    split
    · exact hjudge
    · split <;> exact hjudge.trans (readWord_keepsFronthaul _ w owner)

/-- A read of a slice answers every word of it. -/
theorem readSlice_length (owner : Nat) (ws : List Nat) (s : State) : (readSlice owner ws s).1.length = ws.length := by
  induction ws generalizing s with
  | nil => rfl
  | cons w ws ih =>
    unfold readSlice
    rw [List.length_cons, List.length_cons, ih]

theorem writeBeat_keepsFronthaul (s : State) (owner n data : Nat) : KeepsFronthaul s (writeBeat s owner n data).2 := by
  have hjudged : ∀ (ws : List Nat) (x : Bool × State), KeepsFronthaul x.2 (ws.foldl (fun (a : Bool × State) w =>
      if a.1 then judge a.2 owner (wLBank w) true else a) x).2 := by
    intro ws
    induction ws with
    | nil => exact fun x => refl x.2
    | cons w ws ih =>
      intro x
      refine KeepsFronthaul.trans ?_ (ih _)
      dsimp only
      split
      · exact judge_keepsFronthaul _ _ _ _
      · exact refl x.2
  unfold writeBeat
  generalize beatWords n = ws
  split
  · exact refl s
  · have hj := hjudged ws (true, s)
    dsimp only
    split
    · exact hj
    · have hrepair := hj.trans (foldl voteRepair ws _ voteRepair_keepsFronthaul)
      exact (hrepair.trans (setLoft_keepsFronthaul _ _)).trans (loftDirty_keepsFronthaul _ _)

/-- Beats written in turn, each under the owner of its moment. -/
theorem writeBeats_keepsFronthaul (owner : State → Nat) (base : Nat) (l : List (Nat × Nat)) (x : Bool × State) :
    KeepsFronthaul x.2 (l.foldl (fun (a : Bool × State) b =>
      (a.1 && (writeBeat a.2 (owner a.2) (base + b.2) b.1).1, (writeBeat a.2 (owner a.2) (base + b.2) b.1).2)) x).2 := by
  induction l generalizing x with
  | nil => exact refl x.2
  | cons b l ih =>
    have hb := writeBeat_keepsFronthaul x.2 (owner x.2) (base + b.2) b.1
    rw [List.foldl_cons]
    generalize writeBeat x.2 (owner x.2) (base + b.2) b.1 = y at hb ⊢
    exact hb.trans (ih (x.1 && y.1, y.2))

end Sys2Proof.Machine
end

section
/-! The fronthaul family (O34): reading and committing the tables. -/

namespace Sys2Proof.Machine

/-! ### Reads and commits (R298) -/

section
variable {s : State} {who : Requester} {f t : Nat} {d : List Nat}

theorem exec_flowRead_may (hm : mayAsk s who F.FH_FLOW_CMD_read.addr 2 = true) :
    exec (.flowRead who) s = .next (settle (flowRead s who)) := exec_next rfl rfl (asked_may hm)

theorem exec_flowCommit_may (hm : mayAsk s .regPort F.FH_FLOW_CMD_read.addr 2 = true) :
    exec .flowCommit s = .next (settle (flowCommit s)) := exec_next rfl rfl (asked_may hm)

theorem exec_flowCntRead_may (hm : mayAsk s .regPort F.FH_FLOW_CMD_read.addr 2 = true) :
    exec .flowCntRead s = .next (settle (flowCntRead s)) := exec_next rfl rfl (asked_may hm)

theorem exec_sectionRead_may (hm : mayAsk s who F.FH_SEC_CMD_read.addr 2 = true) :
    exec (.sectionRead who) s = .next (settle (sectionRead s who)) := exec_next rfl rfl (asked_may hm)

/-- A request without the right touches no table. -/
theorem asked_not_fh {a need : Nat} {g : State → State} (hm : mayAsk s who a need = false) :
    (asked s who a need g).fh = s.fh := by
  unfold asked
  rw [if_neg (by simp [hm])]
  split
  · exact State.bump_fh _ _ _
  · rfl

theorem flowRead_busy (h : s.flag (F.FH_FLOW_STATUS_busy.copy (reqNum who)) = true) : flowRead s who = s := if_pos h

theorem flowCommit_busy (h : s.flag (F.FH_FLOW_STATUS_busy.copy 1) = true) : flowCommit s = s := if_pos h

theorem flowCntRead_busy (h : s.flag (F.FH_FLOW_STATUS_busy.copy 1) = true) : flowCntRead s = s := if_pos h

theorem flowRead_free (h : s.flag (F.FH_FLOW_STATUS_busy.copy (reqNum who)) = false) :
    flowRead s who = s.setAll ((List.range 16).map (fun i =>
      ((F.FH_FLOW_DATA_data i).copy (reqNum who), flowW s (s.get (F.FH_FLOW_INDEX_index.copy (reqNum who))) i))) :=
  if_neg (by rw [mine, h]; decide)

section
variable (hb : s.flag (F.FH_FLOW_STATUS_busy.copy 1) = false) (hf : f = s.get (F.FH_FLOW_INDEX_index.copy 1))
include hb hf

theorem flowCommit_bad (hd : d = (List.range 16).map (fun i => s.get ((F.FH_FLOW_DATA_data i).copy 1)))
    (hbad : commitBad s f d = true) : flowCommit s =
      raise (s.set (F.FH_FLOW_STATUS_last_refused.copy 1) 1) 1017 0x17 3 (1 + f * 2 ^ 16) := by
  subst hf hd
  exact (if_neg (by rw [mine, reqNum, hb]; decide)).trans (if_pos hbad)

theorem flowCommit_good (hd : d = (List.range 16).map (fun i => s.get ((F.FH_FLOW_DATA_data i).copy 1)))
    (hgood : commitBad s f d = false) : flowCommit s = { s.setAll
      [(F.FH_FLOW_STATUS_last_refused.copy 1, 0), (F.FH_FLOW_STATUS_busy.copy 1, 1)] with
        fh := { s.fh with commit := some (f, d, s.now + 8) } } := by
  subst hf hd
  exact (if_neg (by rw [mine, reqNum, hb]; decide)).trans (if_neg (by simpa [mine, reqNum] using hgood))

end

/-- A bit outside those that may be rewritten changes: the commit is refused (R273). -/
theorem commitBad_fixed {i : Nat} (hi : i < 16) (h : ((d.getD i 0) ^^^ flowW s f i) &&& (2 ^ 32 - 1 - flowStar i) ≠ 0)
    (hd : d.getD i 0 < 2 ^ 32) (hw : flowW s f i < 2 ^ 32) : commitBad s f d = true := by
  have hstar : flowStar i < 2 ^ 32 := by
    unfold flowStar
    split_ifs <;> decide
  have hx : (d.getD i 0) ^^^ flowW s f i < 2 ^ 32 := Nat.xor_lt_two_pow hd hw
  have hfixed : ((d.getD i 0) ^^^ flowW s f i) ||| flowStar i ≠ flowStar i := by
    intro hor
    refine h (Nat.eq_of_testBit_eq fun j => ?_)
    have hbit := congrArg (fun n => n.testBit j) hor
    simp only [Nat.testBit_or] at hbit
    rw [Nat.testBit_and, show 2 ^ 32 - 1 - flowStar i = 2 ^ 32 - (flowStar i + 1) by omega,
      Nat.testBit_two_pow_sub_succ hstar, Nat.zero_testBit]
    cases hj : (d.getD i 0 ^^^ flowW s f i).testBit j
    · rfl
    · rw [hj, Bool.true_or] at hbit
      simp [← hbit]
  unfold commitBad
  simp only [Bool.or_eq_true]
  refine .inl (.inl (.inl (.inl (List.any_eq_true.mpr ⟨i, List.mem_range.mpr hi, ?_⟩))))
  simpa using hfixed

/-! ### The effect of a commit (R298, R320) -/

/-- The first `n` words of flow `f` take those of `d`. -/
def writeFlow (s : State) (f : Nat) (d : List Nat) (n : Nat) : State :=
  (List.range n).foldl (fun u i => setFlowW u f i (d.getD i 0)) s

theorem writeFlow_succ (s : State) (f : Nat) (d : List Nat) (n : Nat) :
    writeFlow s f d (n + 1) = setFlowW (writeFlow s f d n) f n (d.getD n 0) := by
  rw [writeFlow, List.range_succ, List.foldl_append]
  rfl

theorem writeFlow_flowW (s : State) (f : Nat) (d : List Nat) {n g i : Nat} (hn : n ≤ 16) (hi : i < 16) :
    flowW (writeFlow s f d n) g i = if g = f ∧ i < n then d.getD i 0 % 2 ^ 32 else flowW s g i := by
  induction n with
  | zero => exact (if_neg (by omega)).symm
  | succ n ih =>
    rw [writeFlow_succ]
    by_cases hsame : g = f ∧ i = n
    · obtain ⟨rfl, rfl⟩ := hsame
      rw [flowW_setFlowW_same, if_pos ⟨rfl, Nat.lt_succ_self _⟩]
    · rw [flowW_setFlowW_ne (by omega), ih (by omega)]
      exact if_congr (by omega) rfl rfl

/-- The end of a commit whose words have been written. -/
def flowCommitEnd (u : State) (f : Nat) : State :=
  (setFh u { u.fh with commit := none, poisoned := u.fh.poisoned.filter (fun w => w / 8 != f) }).set
    (F.FH_FLOW_STATUS_busy.copy 1) 0

theorem exec_flowCommitEffect (h : s.fh.commit = some (f, d, t)) :
    exec .flowCommitEffect s = .next (settle (flowCommitEnd (writeFlow (s.atNow t) f d 13) f)) := by
  refine exec_next rfl rfl ?_
  rw [h]
  unfold flowCommitEnd writeFlow mine
  rfl

theorem settle_flowCommitEnd_fh (u : State) (f : Nat) : (settle (flowCommitEnd u f)).fh
    = { u.fh with commit := none, poisoned := u.fh.poisoned.filter (fun w => w / 8 != f) } := by
  rw [settle_fh, flowCommitEnd, State.set_fh, setFh_fh]

/-! ### Reading the counters (R299) -/

/-- The state after a read of flow `f`'s counters. -/
def cntTaken (s : State) (f : Nat) : State :=
  let u := s.setAll ((List.range 16).map (fun i => ((F.FH_FLOW_CNT_count i).copy 1, flowCnt s f i)))
  let u := { u with reported := u.reported.filter (fun k => !(flowKey f 0 0 ≤ k && k < flowKey f 0 0 + 4096)) }
  setFh u { u.fh with cnt := u.fh.cnt.filter (fun p => p.1 / 16 != f) }

theorem flowCntRead_free (hb : s.flag (F.FH_FLOW_STATUS_busy.copy 1) = false)
    (hf : f = s.get (F.FH_FLOW_INDEX_index.copy 1)) : flowCntRead s = cntTaken s f := by
  subst hf
  exact if_neg (by rw [mine, reqNum, hb]; decide)

theorem cntTaken_flowCnt (s : State) (f : Nat) {i : Nat} (hi : i < 16) : flowCnt (cntTaken s f) f i = 0 := by
  rw [flowCnt, aget_none]
  · rfl
  · intro p hp
    have hkey := (List.mem_filter.mp hp).2
    simp only [bne_iff_ne, ne_eq] at hkey
    omega

theorem cntTaken_get (s : State) (f : Nat) (r : Fld) : (cntTaken s f).get r
    = (s.setAll ((List.range 16).map (fun i => ((F.FH_FLOW_CNT_count i).copy 1, flowCnt s f i)))).get r := by
  have hkept : ∀ (u : State) l x, (setFh { u with reported := l } x).get r = u.get r := fun _ _ _ => rfl
  exact hkept _ _ _

/-- A register written once among several holds what was written. -/
theorem State.get_setAll_range (s : State) (r : Nat → Fld) (v : Nat → Nat) {n i : Nat} (hi : i < n)
    (hr : ∀ j, j < n → j ≠ i → (r i).key ≠ (r j).key) :
    (s.setAll ((List.range n).map (fun j => (r j, v j)))).get (r i) = v i % 2 ^ (r i).width := by
  induction n with
  | zero => exact absurd hi (Nat.not_lt_zero i)
  | succ n ih =>
    rw [List.range_succ, List.map_append, State.setAll, List.foldl_append]
    by_cases h : i = n
    · subst h
      exact State.get_set_same _ _ _
    · exact (State.get_set_ne _ _ _ _ (hr n (Nat.lt_succ_self n) (Ne.symm h))).trans
        (ih (by omega) fun j hj => hr j (by omega))

/-- The register port's copies of the counters lie beyond the registers that have no copy. -/
theorem cntCopy_key_ne {r : Fld} {i : Nat} (hr : r.addr < 2 ^ 32 ∧ r.lo < 32) (hi : i < 16) :
    ((F.FH_FLOW_CNT_count i).copy 1).key ≠ r.key := by
  obtain ⟨haddr, hlo⟩ := hr
  simp only [Fld.key, Fld.copy, F.FH_FLOW_CNT_count]
  omega

end

/-- Settles O34: a request is what its command does where the requester may ask, and the effect of a commit and of a
counter read are read back word by word. -/
theorem fronthaulTables : Obligations.FronthaulTables := by
  unfold Obligations.FronthaulTables
  intro s
  refine ⟨fun who hm hb => ?_, fun f d hm hb hf hd => ⟨fun hbad => ?_, fun hgood => ?_⟩,
    fun f d i hi h hd hw => commitBad_fixed hi h hd hw, fun hb hm => ⟨?_, ?_, ?_⟩, fun who hm => ?_,
    fun hm => ⟨?_, ?_⟩, fun f d t hc => ?_, fun f hm hb hf => ?_, fun who hm => exec_sectionRead_may hm⟩
  · rw [exec_flowRead_may hm, flowRead_free hb]
  · rw [exec_flowCommit_may hm, flowCommit_bad hb hf hd hbad]
  · rw [exec_flowCommit_may hm, flowCommit_good hb hf hd hgood]
  · rw [exec_flowRead_may hm, flowRead_busy (who := .regPort) hb]
  · rw [exec_flowCommit_may hm, flowCommit_busy hb]
  · rw [exec_flowCntRead_may hm, flowCntRead_busy hb]
  · exact ⟨_, exec_next rfl rfl rfl, (settle_fh _).trans (asked_not_fh hm)⟩
  · exact ⟨_, exec_next rfl rfl rfl, (settle_fh _).trans (asked_not_fh hm)⟩
  · exact ⟨_, exec_next rfl rfl rfl, (settle_fh _).trans (asked_not_fh hm)⟩
  · have hword : ∀ g i, i < 16 → flowW (settle (flowCommitEnd (writeFlow (s.atNow t) f d 13) f)) g i
        = if g = f ∧ i < 13 then d.getD i 0 % 2 ^ 32 else flowW s g i := fun g i hi =>
      (flowW_of_flow (by rw [settle_flowCommitEnd_fh]) g i).trans
        (writeFlow_flowW (s.atNow t) f d (by decide) hi)
    refine ⟨_, exec_flowCommitEffect hc, fun i hi => ?_, fun g i hg hi => ?_, ?_, fun w hw => ?_, ?_⟩
    · rw [hword f i (by omega), if_pos ⟨rfl, hi⟩]
    · rw [hword g i hi, if_neg fun h => hg h.1]
    · rw [settle_flowCommitEnd_fh]
    · rw [settle_flowCommitEnd_fh] at hw
      simpa using (List.mem_filter.mp hw).2
    · rw [State.flag, settle_get _ _ (by decide) (by decide), flowCommitEnd, State.get_set_same]
      rfl
  · rw [exec_flowCntRead_may hm, flowCntRead_free hb hf]
    refine ⟨_, rfl, fun i hi => ?_, fun i hi => ?_⟩
    · rw [flowCnt_of_cnt (congrArg Fronthaul.cnt (settle_fh _)), cntTaken_flowCnt s f hi]
    · rw [settle_get _ _ (cntCopy_key_ne (by decide) hi) (cntCopy_key_ne (by decide) hi), cntTaken_get]
      refine s.get_setAll_range (fun i => (F.FH_FLOW_CNT_count i).copy 1) (flowCnt s f) hi fun j hj hne => ?_
      simp only [Fld.key, Fld.copy, F.FH_FLOW_CNT_count]
      omega

end Sys2Proof.Machine
end

section
/-! The fronthaul family (O31): the sequence check and quarantine. -/

namespace Sys2Proof.Machine

open KeepsFronthaul

/-! ### What the twin leaves of the path when a partner fault hands the role over (R388, R392, R393) -/

theorem twSend_fh (s : State) (b : TwinBody) : (twSend s b).fh = s.fh := by
  unfold twSend
  split <;> rfl

theorem spareOnClear_fh (s : State) (banks : List Nat) : (spareOnClear s banks).fh = s.fh := by
  refine foldl_view State.fh _ _ s fun t b _ => ?_
  dsimp only
  split
  · rfl
  · rw [raiseCrit_fh]
    rfl

theorem linesClear_fh (s : State) : (linesClear s).fh = s.fh :=
  (State.setAll_fh _ _).trans (spareOnClear_fh s _)

theorem setOwners_fh (s : State) (banks : List Nat) (o : Nat) : (setOwners s banks o).fh = s.fh :=
  foldl_view State.fh _ banks s fun _ _ _ => rfl

theorem ownTwin_fh (s : State) : (ownTwin s).fh = s.fh :=
  (foldl_view State.fh groupOwner _ _ fun _ _ _ => rfl).trans (setOwners_fh _ _ _)

theorem setMode_fh (s : State) (m : Nat) : (setMode s m).fh = s.fh := by
  unfold setMode
  split
  · rfl
  · exact raise_fh _ _ _ _ _

theorem becomeStandby_fh (s : State) : (becomeStandby s).fh = s.fh := by
  unfold becomeStandby
  rw [setMode_fh, State.set_fh, linesClear_fh, ownTwin_fh]
  exact State.setAll_fh _ _

theorem handoffTry_fh (s : State) : (handoffTry s).fh = s.fh := by
  have hpair : ∀ u k, (pairStep u k).fh = u.fh := fun _ _ => rfl
  have hset : ∀ u x, (setTw u x).fh = u.fh := fun _ _ => rfl
  unfold handoffTry
  split
  · rw [hpair, State.set_fh, becomeStandby_fh, hset, twSend_fh]
  · rfl

theorem reqDone_fh (s : State) (req reason : Nat) : (reqDone s req reason).fh = s.fh := by
  unfold reqDone
  split
  · exact State.setAll_fh _ _
  · exact (raise_fh _ _ _ _ _).trans (State.setAll_fh _ _)

theorem twinHandoff_fh (s : State) : (twinHandoff s).fh = s.fh := by
  unfold twinHandoff
  split
  · exact reqDone_fh _ _ _
  · split
    · exact reqDone_fh _ _ _
    · exact (handoffTry_fh _).trans (reqDone_fh _ _ _)

theorem twPartnerFault_fh (s : State) (g : Nat) : (twPartnerFault s g).fh = s.fh := by
  unfold twPartnerFault
  split
  · rfl
  · have hsend := twSend_fh s (.control (.partnerFault g))
    dsimp only
    split
    · exact (twinHandoff_fh _).trans ((raise_fh _ _ _ _ _).trans hsend)
    · exact hsend

/-- Violations of a group touch its record alone (R285). -/
theorem grpViolate_fh (s : State) (l k : Nat) : ∃ x, (grpViolate s l k).fh = { s.fh with grpViol := x } := by
  unfold grpViolate
  dsimp only
  split
  · exact ⟨_, (twPartnerFault_fh _ _).trans (raise_fh _ _ _ _ _)⟩
  · exact ⟨_, rfl⟩

/-! ### What the sequence check of a flow rests on (R280) -/

/-- From `s` to `t` the next ID of flow `f`, whether one has come, its last IDs and its count of gaps stay. -/
structure KeepsSeq (f : Nat) (s t : State) : Prop where
  next : flowF t f 13 0 8 = flowF s f 13 0 8
  init : flowF t f 13 8 1 = flowF s f 13 8 1
  ids : flowIds t f = flowIds s f
  gaps : flowCnt t f 5 = flowCnt s f 5

namespace KeepsSeq

variable {f g i n : Nat} {s t u : State}

theorem of_parts (hflow : t.fh.flow = s.fh.flow) (hids : t.fh.ids = s.fh.ids) (hcnt : t.fh.cnt = s.fh.cnt) :
    KeepsSeq f s t :=
  ⟨flowF_of_flow hflow _ _ _ _, flowF_of_flow hflow _ _ _ _, by simp [flowIds, hids], flowCnt_of_cnt hcnt _ _⟩

theorem of_fh (h : t.fh = s.fh) : KeepsSeq f s t := of_parts (by rw [h]) (by rw [h]) (by rw [h])

theorem refl (f : Nat) (s : State) : KeepsSeq f s s := of_fh rfl

theorem trans (h : KeepsSeq f s t) (h' : KeepsSeq f t u) : KeepsSeq f s u :=
  ⟨h'.next.trans h.next, h'.init.trans h.init, h'.ids.trans h.ids, h'.gaps.trans h.gaps⟩

theorem ite {c : Prop} [Decidable c] {v : State} (h : KeepsSeq f s u) (h' : KeepsSeq f s v) :
    KeepsSeq f s (if c then u else v) := by
  split
  · exact h
  · exact h'

theorem foldl {β : Type} (F : State → β → State) (l : List β) (s : State) (h : ∀ t x, KeepsSeq f t (F t x)) :
    KeepsSeq f s (l.foldl F s) := by
  induction l generalizing s with
  | nil => exact refl f s
  | cons x l ih => exact (h s x).trans (ih _)

/-- Of a count of any flow's counter but its gaps. -/
theorem count (s : State) (hi : 5 < i ∧ i < 16) : KeepsSeq f s (flowCount s g i n) :=
  ⟨rfl, rfl, rfl, flowCnt_flowCount_ne (by omega)⟩

end KeepsSeq

section
variable {s : State} {f : Nat}

/-- A field of the state word beside those of the sequence check is written. -/
theorem setFlowF_keepsSeq (s : State) (f v : Nat) {lo n : Nat} (h : 9 ≤ lo) : KeepsSeq f s (setFlowF s f 13 lo n v) :=
  ⟨flowF_setFlowF_apart _ _ _ _ (.inl (by omega)) (by decide), flowF_setFlowF_apart _ _ _ _ (.inl (by omega)) (by decide),
    by simp [flowIds, setFlowF, setFlowW_fh], flowCnt_of_cnt (by simp [setFlowF, setFlowW_fh]) _ _⟩

theorem putOpen_keepsSeq (s : State) (o : OpenSym) : KeepsSeq f s (putOpen s o) := .of_parts rfl rfl rfl

theorem setOpens_keepsSeq (s : State) (f : Nat) (l : List OpenSym) : KeepsSeq f s (setOpens s f l) :=
  KeepsSeq.trans (t := setFh s { s.fh with opens := l }) (.of_parts rfl rfl rfl) (setFlowF_keepsSeq _ f _ (by decide))

theorem landWrite_keepsSeq (s : State) (o : OpenSym) (w : SecWrite) (rest : List SecWrite) :
    KeepsSeq f s (landWrite s o w rest) := by
  unfold landWrite
  extract_lets g e u bs r
  have hr : KeepsSeq f s r.2 := .of_fh (writeBeats_keepsFronthaul (fun t => flowOwner t g) (2 * u) _ (true, s)).fh
  exact KeepsSeq.ite (hr.trans (putOpen_keepsSeq _ _)) ((hr.trans (putOpen_keepsSeq _ _)).trans (.count _ (by decide)))

theorem landAll_keepsSeq (s : State) (o : OpenSym) : KeepsSeq f s (landAll s o) := by
  refine KeepsSeq.foldl _ _ s fun t w => ?_
  split
  · exact .refl f t
  · exact landWrite_keepsSeq t _ _ _

theorem statusWrite_keepsSeq (s : State) (g n : Nat) (forced : Bool) : KeepsSeq f s (statusWrite s g n forced).2 := by
  unfold statusWrite
  split
  · exact .refl f s
  · extract_lets bs a b
    have hb : KeepsSeq f s b.2 := .of_fh ((writeBeat_keepsFronthaul _ _ _ _).trans (writeBeat_keepsFronthaul _ _ _ _)).fh
    split
    · exact hb
    · exact hb.trans (.count _ (by decide))

theorem symMissing_keepsSeq (s : State) (g n : Nat) : KeepsSeq f s (symMissing s g n) :=
  KeepsSeq.ite (.refl f s) (KeepsSeq.trans (t := setFh s { s.fh with missed := aset s.fh.missed g n })
    (.of_parts rfl rfl rfl) (.count _ (by decide)))

/-- The state of flow `f` in quarantine, before its event. -/
def quarantined (s : State) (f : Nat) : State :=
  let os := opensOf s f
  let t := os.foldl (fun t o => (statusWrite (landAll t o) o.flow o.n false).2) s
  let t := setOpens t f (t.fh.opens.filter (fun o => o.flow != f))
  let t := setFlowF (os.foldl (fun t o => symMissing t f o.n) t) f 13 9 1 1
  setFh t { t.fh with
    quarEnd := aset t.fh.quarEnd f (t.now + usToTk (1000 * max 1 (flowF t f 12 0 16))), viol := adel t.fh.viol f }

theorem quarantine_eq (s : State) (f : Nat) :
    quarantine s f = raise (quarantined s f) (laneSrc (flowPort (quarantined s f) f)) 0x07 5 f := rfl

theorem quarantine_fh (s : State) (f : Nat) : (quarantine s f).fh = (quarantined s f).fh := by
  rw [quarantine_eq, raise_fh]

theorem quarantine_keepsSeq (s : State) (f : Nat) : KeepsSeq f s (quarantine s f) := by
  refine KeepsSeq.trans ?_ (.of_fh (quarantine_fh s f))
  unfold quarantined
  extract_lets os t1 t2 t3
  have h1 : KeepsSeq f s t1 := KeepsSeq.foldl _ _ s fun t o =>
    (landAll_keepsSeq t o).trans (statusWrite_keepsSeq _ _ _ _)
  have h2 : KeepsSeq f s t2 := h1.trans (setOpens_keepsSeq _ _ _)
  have hmissing : KeepsSeq f t2 (os.foldl (fun t o => symMissing t f o.n) t2) :=
    KeepsSeq.foldl _ os t2 fun t o => symMissing_keepsSeq t f o.n
  have h3 : KeepsSeq f s t3 := (h2.trans hmissing).trans (setFlowF_keepsSeq _ f 1 (by decide))
  exact h3.trans (.of_parts rfl rfl rfl)

/-- The state of flow `f`'s violations once one of weight `k` is noted. -/
def violNoted (s : State) (f k : Nat) : State :=
  let t := grpViolate s (flowPort s f) k
  setFh t { t.fh with viol := aset t.fh.viol f (((aget t.fh.viol f).getD []).filter
    (fun v => t.now < v.1 + usToTk (max 1 (flowF t f 11 16 16))) ++ [(t.now, k)]) }

theorem violate_cases (s : State) (f k : Nat) : violate s f k = grpViolate s (flowPort s f) k
    ∨ violate s f k = violNoted s f k ∨ violate s f k = quarantine (violNoted s f k) f := by
  unfold violate violNoted
  dsimp only
  split
  · exact .inl rfl
  · split
    · exact .inr (.inr rfl)
    · exact .inr (.inl rfl)

theorem grpViolate_keepsSeq (s : State) (l k : Nat) : KeepsSeq f s (grpViolate s l k) := by
  obtain ⟨x, hx⟩ := grpViolate_fh s l k
  exact .of_parts (by rw [hx]) (by rw [hx]) (by rw [hx])

theorem violate_keepsSeq (s : State) (f k : Nat) : KeepsSeq f s (violate s f k) := by
  have hgrp : KeepsSeq f s (grpViolate s (flowPort s f) k) := grpViolate_keepsSeq s _ k
  have hnoted : KeepsSeq f s (violNoted s f k) := hgrp.trans (.of_parts rfl rfl rfl)
  rcases violate_cases s f k with h | h | h
  · rw [h]; exact hgrp
  · rw [h]; exact hnoted
  · rw [h]; exact hnoted.trans (quarantine_keepsSeq _ f)

end

/-! ### The check (R280) -/

section
variable {s t : State} {f q d : Nat}

/-- An accepted ID joins the last 64. -/
def seqPut (s : State) (f q : Nat) : State :=
  markDirty (setFh s { s.fh with
    ids := aset s.fh.ids f ((flowIds s f ++ [q]).drop ((flowIds s f ++ [q]).length - 64)) }) (flowLine f)

/-- The next ID expected is the one after `q`. -/
def seqAdvance (s : State) (f q : Nat) : State :=
  setFlowF (setFlowF s f 13 0 8 ((q + 1) % 256)) f 13 8 1 1

/-- Every open symbol of the flow notes a gap of `d`. -/
def gapNoted (t : State) (f d : Nat) : State :=
  setFh t { t.fh with opens := t.fh.opens.map (fun o => if o.flow = f then { o with gaps := o.gaps + d } else o) }

/-- A gap of `d` is counted. -/
def seqGap (s : State) (f d : Nat) : State :=
  gapNoted (flowOnce (flowCount s f 5 d) f 5 (laneSrc (flowPort s f)) 0x03 3 (f + d * 65536)) f d

theorem seqGap_cnt (s : State) (f d : Nat) : (seqGap s f d).fh.cnt = (flowCount s f 5 d).fh.cnt := by
  have hnoted : ∀ t, (gapNoted t f d).fh.cnt = t.fh.cnt := fun _ => rfl
  rw [seqGap, hnoted, (flowOnce_keepsFronthaul (flowCount s f 5 d) f 5 _ _ _ _).fh]

/-- The distance of an ID from the one expected. -/
def seqAhead (s : State) (f q : Nat) : Nat := (q + 256 - flowF s f 13 0 8) % 256

theorem seqCheck_expected (h : flowF s f 13 8 1 ≠ 1 ∨ seqAhead s f q = 0) :
    seqCheck s f q = (true, seqAdvance (seqPut s f q) f q) := by
  unfold seqCheck
  dsimp only
  by_cases hinit : flowF s f 13 8 1 = 1
  · exact (if_neg (by simp [hinit])).trans (if_pos (h.resolve_left (not_not_intro hinit)))
  · exact if_pos (by simp [hinit])

theorem seqCheck_gap (hinit : flowF s f 13 8 1 = 1) (h0 : seqAhead s f q ≠ 0) (h : seqAhead s f q < 128) : seqCheck s f q
    = (true, violate (seqAdvance (seqPut (seqGap s f (seqAhead s f q)) f q) f q) f (seqAhead s f q)) := by
  unfold seqCheck
  dsimp only
  exact (if_neg (by simp [hinit])).trans ((if_neg h0).trans (if_pos h))

theorem seqCheck_behind (hinit : flowF s f 13 8 1 = 1) (h : 128 ≤ seqAhead s f q) : seqCheck s f q
    = if 256 - seqAhead s f q ≤ 64 ∧ q ∉ flowIds s f then (true, seqPut (flowCount s f 6 1) f q)
      else (false, fhDup s f) := by
  unfold seqCheck
  dsimp only
  refine (if_neg (by simp [hinit])).trans ((if_neg ?_).trans ((if_neg ?_).trans (if_congr ?_ rfl rfl)))
  · exact fun h0 => absurd h (by rw [seqAhead, h0]; decide)
  · exact Nat.not_lt.mpr h
  · simp [seqAhead]

theorem mem_flowIds_seqPut (s : State) (f q : Nat) : q ∈ flowIds (seqPut s f q) f := by
  rw [flowIds, seqPut, markDirty_fh, setFh_fh, aget_aset_same, Option.getD_some, List.length_append,
    List.drop_append_of_le_length (by simp)]
  simp

theorem seqPut_flowF (s : State) (f q w lo n : Nat) : flowF (seqPut s f q) f w lo n = flowF s f w lo n :=
  flowF_of_flow (by rw [seqPut, markDirty_fh, setFh_fh]) _ _ _ _

theorem seqPut_flowCnt (s : State) (f q i : Nat) : flowCnt (seqPut s f q) f i = flowCnt s f i :=
  flowCnt_of_cnt (by rw [seqPut, markDirty_fh, setFh_fh]) _ _

/-- The state in which `q` has just been accepted at the head of flow `f`. -/
structure SeqAt (t : State) (f q : Nat) : Prop where
  next : flowF t f 13 0 8 = (q + 1) % 256
  init : flowF t f 13 8 1 = 1
  ids : q ∈ flowIds t f

theorem seqAdvance_at (s : State) (f q : Nat) : SeqAt (seqAdvance (seqPut s f q) f q) f q where
  next := by
    rw [seqAdvance, flowF_setFlowF_apart _ _ _ _ (.inl (by decide)) (by decide), flowF_setFlowF_same _ _ _ _ (by decide)]
    exact Nat.mod_mod _ _
  init := flowF_setFlowF_same _ _ _ _ (by decide)
  ids := by
    have hids : flowIds (seqAdvance (seqPut s f q) f q) f = flowIds (seqPut s f q) f := by
      simp [flowIds, seqAdvance, setFlowF, setFlowW_fh]
    rw [hids]
    exact mem_flowIds_seqPut s f q

theorem seqAdvance_flowCnt (s : State) (f q i : Nat) : flowCnt (seqAdvance s f q) f i = flowCnt s f i :=
  flowCnt_of_cnt (by simp [seqAdvance, setFlowF, setFlowW_fh]) _ _

theorem SeqAt.keeps (h : SeqAt s f q) (hk : KeepsSeq f s t) : SeqAt t f q :=
  ⟨hk.next.trans h.next, hk.init.trans h.init, by rw [hk.ids]; exact h.ids⟩

/-- A gap is counted, and the flow goes on from the ID that showed it. -/
theorem seqCheck_gap_at (hinit : flowF s f 13 8 1 = 1) (h0 : seqAhead s f q ≠ 0) (h : seqAhead s f q < 128) :
    (seqCheck s f q).1 = true ∧ SeqAt (seqCheck s f q).2 f q
      ∧ flowCnt (seqCheck s f q).2 f 5 = min (flowCnt s f 5 + seqAhead s f q) (2 ^ 32 - 1) := by
  rw [seqCheck_gap hinit h0 h]
  have hkeep := violate_keepsSeq (seqAdvance (seqPut (seqGap s f (seqAhead s f q)) f q) f q) f (seqAhead s f q)
  have hat := (seqAdvance_at (seqGap s f (seqAhead s f q)) f q).keeps hkeep
  dsimp only
  refine ⟨rfl, hat, ?_⟩
  rw [hkeep.gaps, seqAdvance_flowCnt, seqPut_flowCnt, ← flowCnt_flowCount_same]
  exact flowCnt_of_cnt (seqGap_cnt s f _) f 5

theorem seqCheck_expected_at (h : flowF s f 13 8 1 ≠ 1 ∨ seqAhead s f q = 0) :
    (seqCheck s f q).1 = true ∧ SeqAt (seqCheck s f q).2 f q := by
  rw [seqCheck_expected h]
  exact ⟨rfl, seqAdvance_at s f q⟩

/-- An ID among the last accepted that lies behind is a duplicate. -/
theorem seqCheck_dup (hinit : flowF s f 13 8 1 = 1) (hd : 128 ≤ seqAhead s f q) (hids : q ∈ flowIds s f) :
    (seqCheck s f q).1 = false := by
  rw [seqCheck_behind hinit hd, if_neg fun h => h.2 hids]

theorem SeqAt.dup (h : SeqAt t f q) (hq : q < 256) : (seqCheck t f q).1 = false := by
  refine seqCheck_dup h.init ?_ h.ids
  rw [seqAhead, h.next]
  omega

theorem seqCheck_twice (hq : q < 256) (h : (seqCheck s f q).1 = true) :
    (seqCheck (seqCheck s f q).2 f q).1 = false := by
  by_cases hexp : flowF s f 13 8 1 ≠ 1 ∨ seqAhead s f q = 0
  · exact (seqCheck_expected_at hexp).2.dup hq
  · push Not at hexp
    obtain ⟨hinit, h0⟩ := hexp
    by_cases hgap : seqAhead s f q < 128
    · exact (seqCheck_gap_at hinit h0 hgap).2.1.dup hq
    · rw [seqCheck_behind hinit (Nat.not_lt.mp hgap)] at h ⊢
      split at h
      · next hnew =>
        rw [if_pos hnew]
        refine seqCheck_dup ((seqPut_flowF _ f q _ _ _).trans hinit) ?_ (mem_flowIds_seqPut _ f q)
        rw [seqAhead, seqPut_flowF]
        exact Nat.not_lt.mp hgap
      · cases h

end

/-! ### Quarantine (R284) -/

section
variable {s : State} {f k : Nat}

theorem opensOf_of_opens {t : State} (h : t.fh.opens = s.fh.opens) (f : Nat) : opensOf t f = opensOf s f := by
  simp [opensOf, h]

theorem symMissing_opens (s : State) (f n : Nat) : (symMissing s f n).fh.opens = s.fh.opens := by
  unfold symMissing
  dsimp only
  split <;> rfl

theorem setFlowF_opens (s : State) (f w lo n v : Nat) : (setFlowF s f w lo n v).fh.opens = s.fh.opens := by
  rw [setFlowF, setFlowW_fh]

theorem setOpens_opens (s : State) (f : Nat) (l : List OpenSym) : (setOpens s f l).fh.opens = l := by
  rw [setOpens, setFlowF_opens, setFh_fh]

theorem quarantine_ends (s : State) (f : Nat) :
    flowF (quarantine s f) f 13 9 1 = 1 ∧ opensOf (quarantine s f) f = [] := by
  rw [flowF_of_flow (congrArg Fronthaul.flow (quarantine_fh s f)),
    opensOf_of_opens (congrArg Fronthaul.opens (quarantine_fh s f))]
  unfold quarantined
  extract_lets os t1 t2 t3
  have hopens : t3.fh.opens = t1.fh.opens.filter (fun o => o.flow != f) :=
    (setFlowF_opens _ _ _ _ _ _).trans ((foldl_view (fun t : State => t.fh.opens) _ os t2
      fun t o _ => symMissing_opens t f o.n).trans (setOpens_opens _ _ _))
  refine ⟨flowF_setFlowF_same _ f 13 1 (by decide), ?_⟩
  rw [opensOf, setFh_fh, hopens, List.filter_filter]
  simp

/-- A violation counts in the sum of its own tick. -/
theorem le_violSum (s : State) (l : List (Nat × Nat)) {w : Nat} (hw : 0 < w) : k ≤ violSum s (l ++ [(s.now, k)]) w := by
  rw [violSum, List.foldl_append]
  simp [hw]

theorem usToTk_pos {n : Nat} (h : 0 < n) : 0 < usToTk n := by
  unfold usToTk ceilDiv
  omega

theorem violate_beyond (hquar : flowF s f 13 9 1 = 0) (h0 : flowF s f 11 0 16 ≠ 0) (hk : flowF s f 11 0 16 < k) :
    violate s f k = quarantine (violNoted s f k) f := by
  obtain ⟨x, hx⟩ := grpViolate_fh s (flowPort s f) k
  have hkeep : ∀ w lo n, flowF (grpViolate s (flowPort s f) k) f w lo n = flowF s f w lo n :=
    flowF_of_flow (by rw [hx]) f
  unfold violate
  dsimp only
  rw [hkeep 11 0 16, hkeep 13 9 1, if_neg (by simp [h0, hquar])]
  refine if_pos (Nat.lt_of_lt_of_le hk (le_violSum (setFh _ _) _ ?_))
  exact usToTk_pos (by omega)

end

/-- Settles O31: what the check leaves after an accepted ID makes the same ID a duplicate, and a violation beyond the
threshold quarantines. -/
theorem fronthaulSequence : Obligations.FronthaulSequence := by
  unfold Obligations.FronthaulSequence
  intro s f q hf hq
  have hnext : flowF s f 13 0 8 < 256 := bits_lt _ _ _
  refine ⟨fun h => seqCheck_twice hq h, fun h => ?_, fun h => ?_, fun d hinit h0 h128 hd => ?_, fun k hquar h0 hk => ?_⟩
  · obtain ⟨hok, hat⟩ := seqCheck_expected_at (s := s) (f := f) (q := q) (.inl (by omega))
    exact ⟨hok, hat.next⟩
  · obtain ⟨hok, hat⟩ := seqCheck_expected_at (s := s) (f := f) (q := q) (.inr (by rw [seqAhead]; omega))
    exact ⟨hok, hat.next⟩
  · have hahead : seqAhead s f q = d := by rw [seqAhead]; omega
    obtain ⟨hok, hat, hcnt⟩ := seqCheck_gap_at (s := s) (f := f) (q := q) hinit (by omega) (by omega)
    exact ⟨hok, hat.next, hahead ▸ hcnt⟩
  · rw [violate_beyond hquar h0 hk]
    exact quarantine_ends _ f

end Sys2Proof.Machine
end

section
/-! The fronthaul family (O32): symbols open, are written, close and release their items. -/

namespace Sys2Proof.Machine

open KeepsFronthaul

/-! ### Symbols that never open (R281) -/

section
variable {s : State} {f n : Nat}

/-- A symbol later than every one counted as missing is counted. -/
theorem symMissing_counts (h : ∀ m, aget s.fh.missed f = some m → m < n) :
    symMissing s f n = flowCount (setFh s { s.fh with missed := aset s.fh.missed f n }) f 12 1 := by
  refine if_neg ?_
  cases hm : aget s.fh.missed f with
  | none => simp
  | some m => simpa using h m hm

theorem symMissing_again (h : aget s.fh.missed f = some n) : symMissing s f n = s := if_pos (by simp [h])

theorem symPassed_cases (s : State) (f n : Nat) : symPassed s f n = s ∨ symPassed s f n = symMissing s f n :=
  ite_eq_or_eq _ _ _

theorem symPassed_missing (hrun : ingressRuns s f = true) (hrel : flowF s f 0 22 1 ≠ 1) (hquar : flowF s f 13 9 1 ≠ 1)
    (hlast : lastValid s f = true → lastN s f < n)
    (hex : expectedMap s f (n % max 1 (numSym s (flowNum s f))) ≠ 0) : symPassed s f n = symMissing s f n :=
  if_neg (by simpa [hrun, hrel, hquar, hex] using hlast)

theorem symPassed_counts (hrun : ingressRuns s f = true) (hrel : flowF s f 0 22 1 ≠ 1) (hquar : flowF s f 13 9 1 ≠ 1)
    (hlast : lastValid s f = true → lastN s f < n)
    (hex : expectedMap s f (n % max 1 (numSym s (flowNum s f))) ≠ 0)
    (hnew : ∀ m, aget s.fh.missed f = some m → m < n) :
    flowCnt (symPassed s f n) f 12 = min (flowCnt s f 12 + 1) (2 ^ 32 - 1) ∧ aget (symPassed s f n).fh.missed f = some n := by
  rw [symPassed_missing hrun hrel hquar hlast hex, symMissing_counts hnew, flowCnt_flowCount_same]
  exact ⟨rfl, aget_aset_same _ _ _⟩

/-- A symbol that has been counted is not counted again. -/
theorem symPassed_once (h : aget s.fh.missed f = some n) : symPassed s f n = s := by
  rcases symPassed_cases s f n with h' | h'
  · exact h'
  · exact h'.trans (symMissing_again h)

end

/-! ### Open symbols close (R275, R281, R282) -/

/-- From `s` to `t` the closed symbols that wait stay, and of the flows' words all but the state word. -/
structure KeepsReleases (s t : State) : Prop where
  closed : t.fh.closed = s.fh.closed
  words : ∀ g w, w < 16 → w ≠ 13 → flowW t g w = flowW s g w

namespace KeepsReleases

variable {s t u : State}

theorem of_parts (hclosed : t.fh.closed = s.fh.closed) (hflow : t.fh.flow = s.fh.flow) : KeepsReleases s t :=
  ⟨hclosed, fun g w _ _ => flowW_of_flow hflow g w⟩

theorem trans (h : KeepsReleases s t) (h' : KeepsReleases t u) : KeepsReleases s u :=
  ⟨h'.closed.trans h.closed, fun g w hw hne => (h'.words g w hw hne).trans (h.words g w hw hne)⟩

theorem flowF (h : KeepsReleases s t) (g : Nat) {w lo n : Nat} (hw : w < 16) (hne : w ≠ 13) :
    flowF t g w lo n = flowF s g w lo n := by
  rw [Machine.flowF, h.words g w hw hne, Machine.flowF]

theorem lastN (h : KeepsReleases s t) (g : Nat) : lastN t g = lastN s g := by
  rw [Machine.lastN, h.words g 14 (by decide) (by decide), h.words g 15 (by decide) (by decide), Machine.lastN]

end KeepsReleases

theorem setOpens_keepsReleases (s : State) (f : Nat) (l : List OpenSym) : KeepsReleases s (setOpens s f l) := by
  refine ⟨?_, fun g w hw hne => ?_⟩
  · rw [setOpens, setFlowF, setFlowW_fh]
    rfl
  · rw [setOpens, flowW_setFlowF_ne (by omega)]
    rfl

theorem statusWrite_keepsReleases (s : State) (f n : Nat) (forced : Bool) :
    KeepsReleases s (statusWrite s f n forced).2 := by
  unfold statusWrite
  split
  · exact .of_parts rfl rfl
  · extract_lets bs a b
    have hb : b.2.fh = s.fh := ((writeBeat_keepsFronthaul _ _ _ _).trans (writeBeat_keepsFronthaul _ _ _ _)).fh
    split
    · exact .of_parts (by rw [hb]) (by rw [hb])
    · exact .of_parts (by rw [flowCount_fh, hb]) (by rw [flowCount_fh, hb])

theorem symMissing_keepsReleases (s : State) (f n : Nat) : KeepsReleases s (symMissing s f n) := by
  unfold symMissing
  dsimp only
  split
  · exact .of_parts rfl rfl
  · exact .of_parts rfl rfl

section
variable {s : State} {f n : Nat} {o : OpenSym} {forced : Bool}

/-- Symbol `o` with its status line written and no longer open. -/
def symShut (s : State) (o : OpenSym) (forced : Bool) : State :=
  let t := (statusWrite s o.flow o.n forced).2
  let t := setOpens t o.flow (t.fh.opens.filter (fun x => !(x.flow = o.flow && x.n = o.n)))
  if forced then flowCount t o.flow 13 1 else t

theorem symShut_keepsReleases (s : State) (o : OpenSym) (forced : Bool) : KeepsReleases s (symShut s o forced) := by
  unfold symShut
  extract_lets t u
  have hu : KeepsReleases s u := (statusWrite_keepsReleases s _ _ _).trans (setOpens_keepsReleases _ _ _)
  split
  · exact hu.trans (.of_parts rfl rfl)
  · exact hu

/-- The release of a shut symbol waits for its status line. -/
def symReleased (t : State) (o : OpenSym) (missing : Nat) : State :=
  let t := if missing = 0 then t
    else flowOnce (flowCount t o.flow 11 1) o.flow 11 (laneSrc (flowPort t o.flow)) 0x10 3
      (o.flow + secBits missing * 65536)
  let t := setLastN (flowCount t o.flow 10 1) o.flow o.n
  setFh t { t.fh with closed := t.fh.closed ++ [⟨laneEngine t (flowPort t o.flow), o.flow, releaseOf t o missing⟩] }

/-- A symbol with no write waiting closes. -/
theorem closeSym_written (hw : o.writes = []) (hfind : findOpen s o.flow o.n = some o) : ∃ m, closeSym s o forced
    = if o.accepted = 0 && !o.failed && flowF (symShut s o forced) o.flow 0 22 1 = 0
      then symMissing (symShut s o forced) o.flow o.n else symReleased (symShut s o forced) o m := by
  refine ⟨missingMap (statusWrite s o.flow o.n forced).2 o, ?_⟩
  have hland : landAll s o = s := by rw [landAll, hw]; rfl
  unfold closeSym
  dsimp only
  rw [hland, hfind]
  rfl

/-- The highest symbol is held in words of the flow alone. -/
theorem setLastN_fh (s : State) (f n : Nat) : { (setLastN s f n).fh with flow := s.fh.flow } = s.fh := by
  simp only [setLastN, setFlowF, setFlowW_fh]

theorem setLastN_closed (s : State) (f n : Nat) : (setLastN s f n).fh.closed = s.fh.closed :=
  (congrArg Fronthaul.closed (setLastN_fh s f n) :)

theorem setLastN_flowF (s : State) (f n g : Nat) {w lo k : Nat} (hw : w < 13) :
    flowF (setLastN s f n) g w lo k = flowF s g w lo k := by
  unfold setLastN
  dsimp only
  rw [flowF_setFlowF_ne (by omega), flowF, flowW_setFlowW_ne (by omega), flowW_setFlowW_ne (by omega), flowF]

theorem symReleased_closed (t : State) (o : OpenSym) (m : Nat) : ∃ c, (symReleased t o m).fh.closed
    = t.fh.closed ++ [c] ∧ c.flow = o.flow ∧ c.item.cls = flowClass t o.flow ∧ c.item.release = o.rel := by
  unfold symReleased
  extract_lets u v
  have hu : KeepsReleases t u := by
    by_cases hm : m = 0
    · exact .of_parts (by rw [show u = t from if_pos hm]) (by rw [show u = t from if_pos hm])
    · have hfh : u.fh = (flowCount t o.flow 11 1).fh := by
        rw [show u = _ from if_neg hm]
        exact (flowOnce_keepsFronthaul _ _ _ _ _ _ _).fh
      exact .of_parts (by rw [hfh]; rfl) (by rw [hfh]; rfl)
  refine ⟨⟨laneEngine v (flowPort v o.flow), o.flow, releaseOf v o m⟩, ?_, rfl, ?_, rfl⟩
  · rw [setFh_fh, setLastN_closed, ← hu.closed]
    rfl
  · exact (setLastN_flowF _ _ _ _ (by decide)).trans (hu.flowF o.flow (by decide) (by decide))

/-- A complete symbol closes, and so does one whose window has passed, when no write waits. -/
theorem symCheck_closes (hfind : findOpen s f n = some o) (hw : o.writes = [])
    (h : expectedMap s f o.sym ≠ 0 ∧ expectedMap s f o.sym &&& o.present = expectedMap s f o.sym
      ∨ fpAfter s.fp o.close = true) : symCheck s f n = closeSym s o false := by
  unfold symCheck
  rw [hfind]
  dsimp only
  rw [if_neg (by simp [hw])]
  by_cases hcomplete : expectedMap s f o.sym ≠ 0 ∧ expectedMap s f o.sym &&& o.present = expectedMap s f o.sym
  · exact if_pos (by simpa using hcomplete)
  · exact (if_neg (by simpa using hcomplete)).trans (if_pos (h.resolve_left hcomplete))

/-- A found symbol is the one that was asked for. -/
theorem findOpen_names (h : findOpen s f n = some o) : o.flow = f ∧ o.n = n := by
  have hp := List.find?_some h
  simpa using hp

/-! ### The commands (R279, R281, R282, R284, R285, R289) -/

variable (hf : f < 16384)
include hf

theorem exec_heldMessageRelease {h : HeldMsg} {hs : List HeldMsg}
    (hh : s.fh.held.filter (fun h => h.flow = f && h.n = n) = h :: hs) :
    exec (.heldMessageRelease f n) s = .next (settle ((h :: hs).foldl heldTake
      (engStatus { s.atFp (symWindow s f n h.frame h.sym).1 with fh := { s.fh with
        held := s.fh.held.filter (fun x => !(x.flow = f && x.n = n)) } }))) := by
  refine exec_next rfl (decide_eq_true hf) ?_
  dsimp only
  rw [hh]
  dsimp only
  rw [atFp_fh]
  rfl

theorem exec_symbolWindowOpen {k fr y : Nat} (hk : k = flowNum s f) (hfr : fr = n / max 1 (numSym s k))
    (hy : y = n % max 1 (numSym s k)) (hrun : ingressRuns s f = true) (hrel : flowF s f 0 22 1 = 1)
    (hquar : flowF s f 13 9 1 = 0) (hfind : findOpen s f n = none) (hlast : lastValid s f = true → lastN s f < n)
    (hex : expectedMap s f y ≠ 0) : exec (.symbolWindowOpen f n) s
      = .next (settle (openSym (s.atFp (fpShift (sfpOf s k fr y) (winOpen s f)))
        (newSym s f n fr y (fpShift (sfpOf s k fr y) (winOpen s f)) (fpShift (sfpOf s k fr y) (winClose s f))))) := by
  subst hk hfr hy
  exact exec_next rfl (decide_eq_true hf) (if_neg (by simpa [hrun, hrel, hquar, hfind, hex] using hlast))

theorem exec_sectionWriteAck {x : SecWrite} {rest : List SecWrite} (hfind : findOpen s f n = some o)
    (hw : o.writes = x :: rest) :
    exec (.sectionWriteAck f n) s = .next (settle (symCheck (landWrite s o x rest) f n)) := by
  refine exec_next rfl (decide_eq_true hf) ?_
  rw [hfind]
  dsimp only
  rw [hw]

theorem exec_symbolWindowClose (hv : flowValid s f = true) (he : flowEgress s f = false) :
    exec (.symbolWindowClose f n) s = .next (settle (if (findOpen s f n).isNone
      then symPassed (s.atFp (fpAdd (symZ s f n) 1)) f n else symCheck (s.atFp (fpAdd (symZ s f n) 1)) f n)) := by
  refine exec_next rfl (decide_eq_true hf) ((if_neg (by simp [hv, he])).trans ?_)
  have hfind : findOpen (s.atFp (fpAdd (symZ s f n) 1)) f n = findOpen s f n := by rw [findOpen, atFp_fh, findOpen]
  dsimp only
  rw [hfind]
  cases findOpen s f n <;> rfl

omit hf in
/-- Z of an open symbol is the end of its own window. -/
theorem symZ_open (h : findOpen s f n = some o) : symZ s f n = o.close := by
  rw [symZ, symWindow, h]

section
variable {c : Closed} (hc : s.fh.closed.find? (fun x => x.flow = f) = some c)
include hc

theorem exec_statusLineAck_queues (hroom : (s.fh.queue.filter (fun q => q.1 = c.engine)).length < 256) :
    exec (.statusLineAck f) s = .next (settle (engStatus { s with fh := { s.fh with
      closed := s.fh.closed.eraseP (fun x => x.flow = f), queue := s.fh.queue ++ [(c.engine, c.item)]
      relFree := if s.fh.queue.any (fun q => q.1 = c.engine) then s.fh.relFree
        else aset s.fh.relFree c.engine (max (s.now + 1) ((aget s.fh.relFree c.engine).getD 0)) } })) := by
  refine exec_next rfl (decide_eq_true hf) ?_
  rw [hc]
  exact if_neg (Nat.not_le.mpr hroom)

theorem exec_statusLineAck_full (hfull : 256 ≤ (s.fh.queue.filter (fun q => q.1 = c.engine)).length) :
    exec (.statusLineAck f) s = .next (settle (raise (State.bump { s with fh := { s.fh with
      closed := s.fh.closed.eraseP (fun x => x.flow = f) } } (F.FH_ENG_CNT0_rel_drop c.engine) 1) 1017 0x15 5
      (c.engine + c.item.cls * 256))) := by
  refine exec_next rfl (decide_eq_true hf) ?_
  rw [hc]
  exact if_pos hfull

end

omit hf in
theorem exec_fronthaulRelease {e : Nat} {r : FhRelease} {u : State} (he : e < 4)
    (hq : s.fh.queue.find? (fun q => q.1 = e) = some (e, r)) (hu : u = s.atNow ((aget s.fh.relFree e).getD 0)) :
    exec (.fronthaulRelease e) s = .next (settle (itemCreate (engStatus { u with fh := { s.fh with
      queue := s.fh.queue.eraseP (fun x => x.1 = e), relFree := aset s.fh.relFree e (u.now + 1) } })
      ⟨r.cls, 1, some r.seq, r.release, r.inLen, r.outLen, r.inAddr, r.outAddr, r.arg⟩).2) := by
  subst hu
  refine exec_next rfl (decide_eq_true he) ?_
  rw [hq]
  rfl

/-- The end of flow `f`'s quarantine, before its event. -/
def quarFreed (s : State) (f t : Nat) : State :=
  setFlowF (setFlowF (setFh (s.atNow t) { s.fh with quarEnd := adel s.fh.quarEnd f }) f 13 9 1 0) f 13 8 1 0

theorem exec_quarantineEnd {t : Nat} (ht : aget s.fh.quarEnd f = some t) : exec (.quarantineEnd f) s
    = .next (settle (raise (quarFreed s f t) (laneSrc (flowPort (quarFreed s f t) f)) 0x08 3 f)) := by
  refine exec_next rfl (decide_eq_true hf) ?_
  rw [ht]
  rfl

omit hf in
theorem quarFreed_free (s : State) (f t : Nat) : flowF (quarFreed s f t) f 13 9 1 = 0
    ∧ flowF (quarFreed s f t) f 13 8 1 = 0 ∧ aget (quarFreed s f t).fh.quarEnd f = none := by
  refine ⟨?_, flowF_setFlowF_same _ _ _ _ (by decide), ?_⟩
  · rw [quarFreed, flowF_setFlowF_apart _ _ _ _ (.inr (by decide)) (by decide)]
    exact flowF_setFlowF_same _ _ _ _ (by decide)
  · simp only [quarFreed, setFlowF, setFlowW_fh, setFh_fh]
    exact aget_adel_same _ _

omit hf in
theorem exec_partnerFaultClear {g : Nat} (hg : g < 16) (hfault : s.flag (F.FH_GRP_STATUS_faulty g) = true)
    (hquiet : grpQuiet s g = true) : exec (.partnerFaultClear g) s = .next (settle (raise (s.setAll
      [(F.FH_GRP_STATUS_violations g, min (grpSum s g) 65535), (F.FH_GRP_STATUS_faulty g, 0)]) (32 * g + 3) 0x0A 3 g)) :=
  exec_next rfl (decide_eq_true hg) (if_pos (by simp [hfault, hquiet]))

end

/-- Settles O32: each command's rule stands above; a symbol's release follows from what its close leaves of the flows'
words. -/
theorem fronthaulSymbols : Obligations.FronthaulSymbols := by
  unfold Obligations.FronthaulSymbols
  intro s f n hf
  refine ⟨fun h hs hh => exec_heldMessageRelease hf hh, fun k fr y hk hfr hy hrun hrel hquar hfind hlast hex =>
      exec_symbolWindowOpen hf hk hfr hy hrun hrel hquar hfind hlast hex,
    fun o x rest bs r hfind hw hbs hr => ?_, fun u hv he hu => ⟨fun o hfind => ?_, fun hfind => ?_⟩,
    fun hrun hrel hquar hlast hex hnew => ?_, fun o hfind hw h => symCheck_closes hfind hw h,
    fun o forced ho hw hfind hkeep => ?_, fun o forced ho hw hfind hacc hfail hrel => ?_,
    fun c hc hroom => exec_statusLineAck_queues hf hc hroom, fun c hc hfull => exec_statusLineAck_full hf hc hfull,
    fun e r u he hq hu => exec_fronthaulRelease he hq hu, fun t ht => ?_,
    fun g hg hfault hquiet => exec_partnerFaultClear hg hfault hquiet⟩
  · obtain ⟨rfl, rfl⟩ := findOpen_names hfind
    rw [exec_sectionWriteAck hf hfind hw, hr, hbs]
    rfl
  · rw [exec_symbolWindowClose hf hv he, hfind, hu]
    exact ⟨symZ_open hfind, rfl⟩
  · rw [exec_symbolWindowClose hf hv he, hfind, hu]
    rfl
  · obtain ⟨hcnt, hmissed⟩ := symPassed_counts hrun hrel hquar hlast hex hnew
    exact ⟨hcnt, hmissed, by rw [symPassed_once hmissed]⟩
  · subst ho
    obtain ⟨m, hclose⟩ := closeSym_written (forced := forced) hw hfind
    have hshut := symShut_keepsReleases s o forced
    have hopen : ¬ (o.accepted = 0 && !o.failed && flowF (symShut s o forced) o.flow 0 22 1 = 0) = true := by
      rw [hshut.flowF o.flow (by decide) (by decide)]
      rcases hkeep with h | h | h <;> simp [h]
    obtain ⟨c, hc, hflow, hcls, hrel⟩ := symReleased_closed (symShut s o forced) o m
    rw [hclose, if_neg hopen]
    exact ⟨c, hc.trans (by rw [hshut.closed]), hflow, hcls.trans (hshut.flowF o.flow (by decide) (by decide)), hrel⟩
  · subst ho
    obtain ⟨m, hclose⟩ := closeSym_written (forced := forced) hw hfind
    have hshut := symShut_keepsReleases s o forced
    have hzero : flowF s o.flow 0 22 1 = 0 := by
      have hbit : flowF s o.flow 0 22 1 < 2 := bits_lt _ _ _
      omega
    have hgone := hshut.trans (symMissing_keepsReleases _ o.flow o.n)
    rw [hclose, if_pos]
    · exact ⟨hgone.closed, hgone.lastN o.flow⟩
    · rw [hshut.flowF o.flow (by decide) (by decide)]
      simp [hacc, hfail, hzero]
  · obtain ⟨hquar, hinit, hend⟩ := quarFreed_free s f t
    have hfh : ∀ a b c d, (settle (raise (quarFreed s f t) a b c d)).fh = (quarFreed s f t).fh := fun a b c d =>
      (settle_fh _).trans (raise_fh _ _ _ _ _)
    exact ⟨_, exec_quarantineEnd hf ht, (flowF_of_flow (by rw [hfh]) _ _ _ _).trans hquar,
      (flowF_of_flow (by rw [hfh]) _ _ _ _).trans hinit, by rw [hfh, hend]⟩

end Sys2Proof.Machine
end

section
/-! The fronthaul family (O33): egress symbols and JESD204C spans. -/

namespace Sys2Proof.Machine

open KeepsFronthaul

/-! ### What reading and counting leave of the path (R293, R299) -/

/-- From `s` to `t` the path stays but for counters of flow `f` from the third on, and the block's registers stay. -/
structure KeepsPath (f : Nat) (s t : State) : Prop where
  fh : { t.fh with cnt := s.fh.cnt } = s.fh
  cnt : ∀ i < 3, flowCnt t f i = flowCnt s f i
  regs : ∀ r : Fld, r.Fronthaul → t.get r = s.get r

namespace KeepsPath

variable {f i n : Nat} {s t u : State}

theorem of_keepsFronthaul (h : KeepsFronthaul s t) : KeepsPath f s t :=
  ⟨by rw [h.fh], fun _ _ => flowCnt_of_cnt (by rw [h.fh]) _ _, h.regs⟩

theorem trans (h : KeepsPath f s t) (h' : KeepsPath f t u) : KeepsPath f s u :=
  ⟨(congrArg (fun x : Fronthaul => { x with cnt := s.fh.cnt }) h'.fh).trans h.fh,
    fun i hi => (h'.cnt i hi).trans (h.cnt i hi), fun r hr => (h'.regs r hr).trans (h.regs r hr)⟩

theorem ite {c : Prop} [Decidable c] {v : State} (h : KeepsPath f s u) (h' : KeepsPath f s v) :
    KeepsPath f s (if c then u else v) := by
  split
  · exact h
  · exact h'

theorem count (hi : 3 ≤ i) (n : Nat) (h : KeepsPath f s t) : KeepsPath f s (flowCount t f i n) :=
  h.trans ⟨rfl, fun _ hj => flowCnt_flowCount_ne (by omega), fun _ _ => rfl⟩

theorem once (i a b c d : Nat) (h : KeepsPath f s t) : KeepsPath f s (flowOnce t f i a b c d) :=
  h.trans (of_keepsFronthaul (flowOnce_keepsFronthaul t f i a b c d))

theorem flow (h : KeepsPath f s t) : t.fh.flow = s.fh.flow := (congrArg Fronthaul.flow h.fh :)
theorem sec (h : KeepsPath f s t) : t.fh.sec = s.fh.sec := (congrArg Fronthaul.sec h.fh :)
theorem num (h : KeepsPath f s t) : t.fh.num = s.fh.num := (congrArg Fronthaul.num h.fh :)
theorem arms (h : KeepsPath f s t) : t.fh.arms = s.fh.arms := (congrArg Fronthaul.arms h.fh :)
theorem txSeq (h : KeepsPath f s t) : t.fh.txSeq = s.fh.txSeq := (congrArg Fronthaul.txSeq h.fh :)
theorem lastTx (h : KeepsPath f s t) : t.fh.lastTx = s.fh.lastTx := (congrArg Fronthaul.lastTx h.fh :)
theorem lastJesd (h : KeepsPath f s t) : t.fh.lastJesd = s.fh.lastJesd := (congrArg Fronthaul.lastJesd h.fh :)

end KeepsPath

/-! ### The highest symbol sent (R273, R291) -/

section
variable {s t : State} {f n i : Nat}

theorem setLastN_cnt (s : State) (f n i : Nat) : flowCnt (setLastN s f n) f i = flowCnt s f i :=
  flowCnt_of_cnt (congrArg Fronthaul.cnt (setLastN_fh s f n) :) _ _

theorem setLastN_arms (s : State) (f n : Nat) : (setLastN s f n).fh.arms = s.fh.arms :=
  (congrArg Fronthaul.arms (setLastN_fh s f n) :)

theorem setLastN_lastTx (s : State) (f n : Nat) : (setLastN s f n).fh.lastTx = s.fh.lastTx :=
  (congrArg Fronthaul.lastTx (setLastN_fh s f n) :)

theorem setLastN_lastJesd (s : State) (f n : Nat) : (setLastN s f n).fh.lastJesd = s.fh.lastJesd :=
  (congrArg Fronthaul.lastJesd (setLastN_fh s f n) :)

/-- A symbol above the highest one becomes it. -/
theorem setLastN_above (hn : n < 2 ^ 64) (h : lastValid s f = true → lastN s f < n) :
    lastValid (setLastN s f n) f = true ∧ lastN (setLastN s f n) f = n := by
  have hmax : (if lastValid s f then max n (lastN s f) else n) = n := by
    split
    · next hv => exact max_eq_left (h hv).le
    · rfl
  unfold setLastN
  rw [hmax]
  refine ⟨decide_eq_true (flowF_setFlowF_same _ f 13 1 (by decide)), ?_⟩
  rw [lastN, flowW_setFlowF_ne (by omega), flowW_setFlowF_ne (by omega), flowW_setFlowW_same,
    flowW_setFlowW_ne (by omega), flowW_setFlowW_same]
  omega

theorem lastN_of_flow (h : t.fh.flow = s.fh.flow) (f : Nat) : lastN t f = lastN s f := by
  rw [lastN, flowW_of_flow h, flowW_of_flow h, lastN]

theorem lastValid_of_flow (h : t.fh.flow = s.fh.flow) (f : Nat) : lastValid t f = lastValid s f := by
  rw [lastValid, flowF_of_flow h, lastValid]

theorem egressDue_above (h : egressDue s f n = true) : lastValid s f = true → lastN s f < n := by
  intro hv
  simp only [egressDue, hv, Bool.and_eq_true, Bool.true_and, Bool.not_eq_true', decide_eq_false_iff_not] at h
  exact Nat.not_le.mp h.2

theorem egressDue_sent (hv : lastValid t f = true) (hn : lastN t f = n) : egressDue t f n = false := by
  simp [egressDue, hv, hn]

end

/-! ### The sections and the headers of a symbol (R272, R274, R293) -/

/-- The tables of flows, sections and numerologies of `t` are those of `s`. -/
structure SameTables (s t : State) : Prop where
  flow : t.fh.flow = s.fh.flow
  sec : t.fh.sec = s.fh.sec
  num : t.fh.num = s.fh.num

namespace SameTables

variable {s t u : State}

theorem of_fh (h : t.fh = s.fh) : SameTables s t := ⟨by rw [h], by rw [h], by rw [h]⟩

theorem trans (h : SameTables s t) (h' : SameTables t u) : SameTables s u :=
  ⟨h'.flow.trans h.flow, h'.sec.trans h.sec, h'.num.trans h.num⟩

variable (h : SameTables s t)
include h

theorem flowF : Machine.flowF t = Machine.flowF s := by
  funext f w lo n
  exact flowF_of_flow h.flow f w lo n

theorem secW : Machine.secW t = Machine.secW s := by
  funext e w
  rw [Machine.secW, h.sec, Machine.secW]

theorem numSym : Machine.numSym t = Machine.numSym s := by
  funext k
  rw [Machine.numSym, h.num, Machine.numSym]

theorem numPerSlot : Machine.numPerSlot t = Machine.numPerSlot s := by
  funext k
  rw [Machine.numPerSlot, h.num, Machine.numPerSlot]

theorem numSlots : Machine.numSlots t = Machine.numSlots s := by
  funext k
  rw [Machine.numSlots, h.num, Machine.numSlots]

theorem flowPort : Machine.flowPort t = Machine.flowPort s := by
  funext f
  rw [Machine.flowPort, h.flowF, Machine.flowPort]

theorem flowNum : Machine.flowNum t = Machine.flowNum s := by
  funext f
  rw [Machine.flowNum, h.flowF, Machine.flowNum]

theorem flowM : Machine.flowM t = Machine.flowM s := by
  funext f
  unfold Machine.flowM
  rw [h.flowF]

theorem secCount : Machine.secCount t = Machine.secCount s := by
  funext f
  rw [Machine.secCount, h.flowF, Machine.secCount]

theorem secEntry : Machine.secEntry t = Machine.secEntry s := by
  funext f i
  rw [Machine.secEntry, Machine.secFirst, h.flowF, Machine.secEntry, Machine.secFirst]

theorem secCovers : Machine.secCovers t = Machine.secCovers s := by
  funext f i y
  unfold Machine.secCovers
  rw [h.secEntry, h.secW]

end SameTables

theorem KeepsPath.tables {f : Nat} {s t : State} (h : KeepsPath f s t) : SameTables s t := ⟨h.flow, h.sec, h.num⟩

section
variable {s t : State} {f n i : Nat}

/-- The sections expected for symbol n of flow `f`. -/
def symSecs (s : State) (f n : Nat) : List Nat :=
  (List.range (secCount s f)).filter (fun i => secCovers s f i (n % max 1 (numSym s (flowNum s f))))

theorem symSecs_of_tables (h : SameTables s t) (f n : Nat) : symSecs t f n = symSecs s f n := by
  unfold symSecs
  rw [h.secCount, h.secCovers, h.numSym, h.flowNum]

theorem flowRing_of_flow (h : t.fh.flow = s.fh.flow) (f : Nat) : flowRing t f = flowRing s f := by
  rw [flowRing, flowF_of_flow h, flowRing]

/-- The address registers of a lane's port are of the fronthaul block. -/
theorem mac_fronthaul {a l lo w r : Nat} (hl : l < 128) (h : 0x201000 ≤ a ∧ a < 0x201020 ∧ lo < 32) :
    (Fld.mk (a + 32 * l) lo w r).Fronthaul := by
  obtain ⟨habove, hbelow, hlo⟩ := h
  constructor <;> simp only [Fld.key] <;> omega

theorem macs_of_regs (hregs : ∀ r : Fld, r.Fronthaul → t.get r = s.get r) {l : Nat} (hl : l < 128) :
    macSrc t l = macSrc s l ∧ macDst t l = macDst s l := by
  unfold macSrc macDst
  rw [hregs (F.FH_LANE_MAC_SRC_LO_mac l) (mac_fronthaul hl (by decide)),
    hregs (F.FH_LANE_MAC_SRC_HI_mac l) (mac_fronthaul hl (by decide)),
    hregs (F.FH_LANE_MAC_DST_LO_mac l) (mac_fronthaul hl (by decide)),
    hregs (F.FH_LANE_MAC_DST_HI_mac l) (mac_fronthaul hl (by decide))]
  exact ⟨rfl, rfl⟩

theorem txHead_of_tables (h : SameTables s t) (hregs : ∀ r : Fld, r.Fronthaul → t.get r = s.get r) (f n i : Nat) :
    txHead t f n i = txHead s f n i := by
  obtain ⟨hsrc, hdst⟩ := macs_of_regs hregs (l := flowPort s f) (bits_lt _ _ _)
  unfold txHead
  rw [h.flowPort, h.flowNum, h.numSym, h.numSlots, h.numPerSlot, h.secEntry, h.secW, h.flowM, h.flowF]
  dsimp only
  rw [hsrc, hdst]

/-! ### Messages of a symbol (R292, R293) -/

/-- The sequence ID of flow `f`'s next message. -/
def txNext (s : State) (f : Nat) : Nat := (aget s.fh.txSeq f).getD 0

/-- A section becomes one message, with the next sequence ID. -/
theorem sendSection_sends (f n : Nat) (s : State) (i : Nat) : ∃ t data poison, KeepsPath f s t ∧ sendSection f n s i
    = setFh t { t.fh with txSeq := aset t.fh.txSeq f ((txNext t f + 1) % 256)
                          lastTx := t.fh.lastTx ++ [⟨txHead t f n i, f, n, txNext t f, secEntry s f i, data, poison⟩] } := by
  unfold sendSection
  extract_lets e u cplane num cnt r s1 errs s2 prbs data sat bad src s3 s4 q
  have h1 : KeepsPath f s s1 := .of_keepsFronthaul (readSlice_keepsFronthaul _ _ s)
  have h2 : KeepsPath f s s2 := KeepsPath.ite h1 (h1.count (by decide) _)
  have h3 : KeepsPath f s s3 := KeepsPath.ite h2 ((h2.count (by decide) _).once _ _ _ _ _)
  have h4 : KeepsPath f s s4 := KeepsPath.ite h3 ((h3.count (by decide) _).once _ _ _ _ _)
  exact ⟨s4, _, _, h4, rfl⟩

/-- From `s` to `t` the sections `is` of symbol n of flow `f` have been sent, in order. -/
structure Sent (f n : Nat) (s : State) (is : List Nat) (t : State) : Prop where
  tables : SameTables s t
  regs : ∀ r : Fld, r.Fronthaul → t.get r = s.get r
  cnt : ∀ i < 3, flowCnt t f i = flowCnt s f i
  next : txNext t f = if is.length = 0 then txNext s f else (txNext s f + is.length) % 256
  heads : t.fh.lastTx.map (fun x => x.head) = s.fh.lastTx.map (fun x => x.head) ++ is.map (txHead s f n)
  seqs : t.fh.lastTx.map (fun x => x.seq) = s.fh.lastTx.map (fun x => x.seq)
    ++ (List.range is.length).map (fun i => if i = 0 then txNext s f else (txNext s f + i) % 256)

theorem Sent.more {is : List Nat} (h : Sent f n s is t) (i : Nat) : Sent f n s (is ++ [i]) (sendSection f n t i) := by
  obtain ⟨u, data, poison, hu, hsend⟩ := sendSection_sends f n t i
  have hnext : txNext u f = txNext t f := by rw [txNext, hu.txSeq, txNext]
  have hhead : txHead u f n i = txHead s f n i :=
    txHead_of_tables (h.tables.trans hu.tables) (fun r hr => (hu.regs r hr).trans (h.regs r hr)) f n i
  rw [hsend]
  refine ⟨(h.tables.trans hu.tables).trans ⟨rfl, rfl, rfl⟩, fun r hr => (hu.regs r hr).trans (h.regs r hr),
    fun i hi => (hu.cnt i hi).trans (h.cnt i hi), ?_, ?_, ?_⟩
  · rw [txNext, setFh_fh, aget_aset_same, Option.getD_some, hnext, h.next, List.length_append]
    simp only [List.length_singleton]
    rw [if_neg (Nat.succ_ne_zero is.length)]
    split <;> omega
  · rw [setFh_fh, List.map_append, hu.lastTx, h.heads, List.map_append, List.append_assoc]
    simp only [List.map_cons, List.map_nil, hhead]
  · rw [setFh_fh, List.map_append, hu.lastTx, h.seqs, List.length_append, List.length_singleton, List.range_succ,
      List.map_append, List.append_assoc]
    simp only [List.map_cons, List.map_nil, hnext, h.next]

theorem sent_foldl (f n : Nat) (s : State) (is : List Nat) : Sent f n s is (is.foldl (sendSection f n) s) := by
  induction is using List.reverseRecOn with
  | nil => exact ⟨.of_fh rfl, fun _ _ => rfl, fun _ _ => rfl, rfl, by simp, by simp⟩
  | append_singleton is i ih =>
    rw [List.foldl_append]
    exact ih.more i

/-! ### The check of an egress symbol (R291, R292) -/

/-- The buffer of symbol n of flow `f` among those that arm. -/
def armKey (s : State) (f n : Nat) : Nat := 256 * f + n % flowRing s f

theorem armKey_of_flow (h : t.fh.flow = s.fh.flow) (f n : Nat) : armKey t f n = armKey s f n := by
  rw [armKey, flowRing_of_flow h, armKey]

theorem not_mem_ndel (l : List Nat) (k : Nat) : k ∉ ndel l k := by simp [ndel]

/-- A symbol that is sent takes its buffer's arm. -/
def armTaken (s : State) (f n : Nat) : State :=
  setFh s { s.fh with
    arms := ndel s.fh.arms (armKey s f n), checked := nins (armKey s f n) s.fh.checked, lastTx := [] }

theorem armTaken_txSeq (s : State) (f n : Nat) : (armTaken s f n).fh.txSeq = s.fh.txSeq := rfl
theorem armTaken_cnt (s : State) (f n : Nat) : (armTaken s f n).fh.cnt = s.fh.cnt := rfl
theorem armTaken_lastTx (s : State) (f n : Nat) : (armTaken s f n).fh.lastTx = [] := rfl
theorem armTaken_tables (s : State) (f n : Nat) : SameTables s (armTaken s f n) := ⟨rfl, rfl, rfl⟩

/-- A missed symbol, counted. -/
theorem egressMiss_fh (s : State) (f k : Nat) : (egressMiss s f k false).fh = (flowCount s f 1 k).fh :=
  (flowOnce_keepsFronthaul (flowCount s f 1 k) f 1 _ _ _ _).fh

theorem egressMiss_flowCnt (s : State) (f k : Nat) :
    flowCnt (egressMiss s f k false) f 1 = min (flowCnt s f 1 + k) (2 ^ 32 - 1) :=
  (flowCnt_of_cnt (by rw [egressMiss_fh]) f 1).trans (flowCnt_flowCount_same s f 1 k)

variable (hf : f < 16384)
include hf

theorem exec_egressCheck_sent (hdue : egressDue s f n = true) (hj : flowF s f 0 29 1 = 0)
    (harm : armKey s f n ∈ s.fh.arms) : ∃ u, u.fh = s.fh ∧ (∀ r, u.get r = s.get r) ∧ exec (.egressCheck f n) s
      = .next (settle (setLastN (flowCount ((symSecs s f n).foldl (sendSection f n) (armTaken u f n)) f 0 1) f n)) := by
  have hfh := atFp_fh s (egressCheckAt s f n)
  have hget := atFp_get s (egressCheckAt s f n)
  refine ⟨s.atFp (egressCheckAt s f n), hfh, hget, exec_next rfl (decide_eq_true hf) ?_⟩
  rw [if_neg (by simp [hdue, hj])]
  generalize s.atFp (egressCheckAt s f n) = u at hfh hget ⊢
  have hkey : armKey u f n = armKey s f n := armKey_of_flow (by rw [hfh]) f n
  rw [← hkey, ← hfh] at harm
  have htables : SameTables s (armTaken u f n) := (SameTables.of_fh hfh).trans (armTaken_tables u f n)
  rw [← symSecs_of_tables htables]
  exact if_pos (List.contains_iff_mem.mpr harm)

theorem exec_egressCheck_missed (hdue : egressDue s f n = true) (hj : flowF s f 0 29 1 = 0)
    (harm : armKey s f n ∉ s.fh.arms) : ∃ u, u.fh = s.fh ∧ exec (.egressCheck f n) s
      = .next (settle (egressMiss (setFh u { u.fh with checked := nins (armKey u f n) u.fh.checked }) f 1 false)) := by
  have hfh := atFp_fh s (egressCheckAt s f n)
  refine ⟨s.atFp (egressCheckAt s f n), hfh, exec_next rfl (decide_eq_true hf) ?_⟩
  rw [if_neg (by simp [hdue, hj])]
  generalize s.atFp (egressCheckAt s f n) = u at hfh ⊢
  have hkey : armKey u f n = armKey s f n := armKey_of_flow (by rw [hfh]) f n
  rw [← hkey, ← hfh] at harm
  exact if_neg fun h => harm (List.contains_iff_mem.mp h)

theorem exec_egressCheck_idle (h : egressDue s f n = false ∨ flowF s f 0 29 1 = 1) : exec (.egressCheck f n) s
    = .next (settle (if flowValid s f = true ∧ flowEgress s f = true then flowFetch s f else s)) := by
  refine exec_next rfl (decide_eq_true hf) ((if_pos (by rcases h with h | h <;> simp [h])).trans ?_)
  exact if_congr (by simp) rfl rfl

theorem exec_egressArmExpiry (hv : flowValid s f = true) (he : flowEgress s f = true) : ∃ u, u.fh = s.fh
    ∧ u = s.atFp (egressX s f n) ∧ exec (.egressArmExpiry f n) s = .next (settle (setFh u { u.fh with
      arms := ndel u.fh.arms (armKey u f n), checked := ndel u.fh.checked (armKey u f n) })) :=
  ⟨_, atFp_fh _ _, rfl, exec_next rfl (decide_eq_true hf) (if_neg (by simp [hv, he]))⟩

omit hf

/-! ### JESD204C spans (R293, R295) -/

/-- The words of symbol n's sections in its buffer. -/
def jesdWords (s : State) (f n : Nat) : List Nat :=
  (symSecs s f n).flatMap (fun i =>
    let e := secEntry s f i
    (List.range (6 * bits (secW s e 1) 10 9)).map (fun j => 8 * (bufUnit s f n + bits (secW s e 2) 16 11) + j))

theorem jesdWords_length (s : State) (f n : Nat) : (jesdWords s f n).length
    = ((symSecs s f n).map (fun i => 6 * bits (secW s (secEntry s f i) 1) 10 9)).sum := by
  simp [jesdWords, List.length_flatMap]

/-- What a span reads: the first words of an armed buffer. -/
def jesdRead (s : State) (f n blocks : Nat) (armed : Bool) : List (Nat × Nat) × State :=
  if armed then readSlice (flowOwner s f) ((jesdWords s f n).take blocks) s else ([], s)

/-- The blocks of a span, zeros after the words read; the buffer's arm is taken. -/
def jesdSent (s : State) (r : List (Nat × Nat) × State) (f n blocks : Nat) : State :=
  setFh r.2 { r.2.fh with
    arms := ndel r.2.fh.arms (armKey s f n)
    lastJesd := (List.range blocks).map (fun i => ((r.1.map (jesdWord s f)).getD i 0)) }

/-- The words of a span that failed or are poisoned are counted. -/
def jesdCounted (ws : List (Nat × Nat)) (t : State) (f : Nat) : State :=
  let errs := (ws.filter (fun w => w.1 = 1)).length
  let bad := (ws.filter (fun w => w.1 != 0)).length
  let t := if errs = 0 then t else flowCount t f 5 1
  if bad = 0 then t else flowOnce (flowCount t f 4 bad) f 4 (laneSrc (flowPort t f)) 0x14 4 f

theorem jesdCounted_keepsPath (ws : List (Nat × Nat)) (t : State) (f : Nat) : KeepsPath f t (jesdCounted ws t f) := by
  unfold jesdCounted
  extract_lets errs bad t1
  have h0 : KeepsPath f t t := .of_keepsFronthaul (KeepsFronthaul.refl t)
  have h1 : KeepsPath f t t1 := KeepsPath.ite h0 (h0.count (by decide) _)
  exact KeepsPath.ite h1 ((h1.count (by decide) _).once _ _ _ _ _)

/-- The state of a span before its symbol is counted as sent or missed. -/
def jesdTaken (s : State) (f n blocks : Nat) (armed : Bool) : State :=
  jesdCounted (jesdRead s f n blocks armed).1 (jesdSent s (jesdRead s f n blocks armed) f n blocks) f

/-- The span's symbol is sent where its armed buffer fills the blocks, and missed where it does not. -/
def jesdEnded (s : State) (f n blocks : Nat) (armed : Bool) : State :=
  let t := if armed then setLastN (jesdTaken s f n blocks armed) f n else jesdTaken s f n blocks armed
  if armed && blocks ≤ (jesdWords s f n).length then flowCount t f 0 1 else egressMiss t f 1 false

theorem exec_jesdEgressSpan {blocks : Nat} (hf : f < 16384) (hblocks : blocks < 2 ^ 20) (hdue : egressDue s f n = true)
    (hj : flowF s f 0 29 1 = 1) : ∃ u, u.fh = s.fh ∧ exec (.jesdEgressSpan f n blocks) s
      = .next (settle (jesdEnded u f n blocks (u.fh.arms.contains (armKey u f n)))) := by
  refine ⟨s.atFp (egressX s f n), atFp_fh _ _, exec_next rfl (by simpa [Instr.wf, hf] using hblocks) ?_⟩
  rw [if_neg (by simp [hdue, hj])]
  generalize s.atFp (egressX s f n) = u
  unfold jesdEnded jesdTaken jesdCounted jesdSent jesdRead jesdWords symSecs armKey
  rfl

theorem exec_jesdEgressSpan_idle {blocks : Nat} (hf : f < 16384) (hblocks : blocks < 2 ^ 20)
    (h : egressDue s f n = false ∨ flowF s f 0 29 1 = 0) : exec (.jesdEgressSpan f n blocks) s
    = .next (settle (if flowValid s f = true ∧ flowEgress s f = true then flowFetch s f else s)) := by
  refine exec_next rfl (by simpa [Instr.wf, hf] using hblocks) ((if_pos (by rcases h with h | h <;> simp [h])).trans ?_)
  exact if_congr (by simp) rfl rfl

/-- A span reads no more words than its blocks take, nor than the buffer holds. -/
theorem jesdRead_length (s : State) (f n blocks : Nat) (armed : Bool) :
    (jesdRead s f n blocks armed).1.length ≤ (jesdWords s f n).length := by
  unfold jesdRead
  split
  · rw [readSlice_length]
    exact List.length_take_le' _ _
  · exact Nat.zero_le _

theorem jesdRead_fh (s : State) (f n blocks : Nat) (armed : Bool) : (jesdRead s f n blocks armed).2.fh = s.fh := by
  unfold jesdRead
  split
  · exact (readSlice_keepsFronthaul _ _ s).fh
  · rfl

theorem jesdTaken_keepsPath (s : State) (f n blocks : Nat) (armed : Bool) : KeepsPath f
    (jesdSent s (jesdRead s f n blocks armed) f n blocks) (jesdTaken s f n blocks armed) :=
  jesdCounted_keepsPath _ _ f

theorem jesdTaken_flow (s : State) (f n blocks : Nat) (armed : Bool) :
    (jesdTaken s f n blocks armed).fh.flow = s.fh.flow :=
  (jesdTaken_keepsPath s f n blocks armed).flow.trans (congrArg Fronthaul.flow (jesdRead_fh s f n blocks armed) :)

theorem jesdTaken_flowCnt (s : State) (f n blocks : Nat) (armed : Bool) (hi : i < 3) :
    flowCnt (jesdTaken s f n blocks armed) f i = flowCnt s f i :=
  ((jesdTaken_keepsPath s f n blocks armed).cnt i hi).trans
    (flowCnt_of_cnt (congrArg Fronthaul.cnt (jesdRead_fh s f n blocks armed)) f i)

/-- The count of the symbol leaves the arms and the blocks of its span. -/
theorem jesdEnded_span (s : State) (f n blocks : Nat) (armed : Bool) :
    (jesdEnded s f n blocks armed).fh.arms = ndel s.fh.arms (armKey s f n)
      ∧ (jesdEnded s f n blocks armed).fh.lastJesd
        = (List.range blocks).map (fun i => (((jesdRead s f n blocks armed).1.map (jesdWord s f)).getD i 0)) := by
  have hpath := jesdTaken_keepsPath s f n blocks armed
  have harms : (jesdTaken s f n blocks armed).fh.arms = ndel s.fh.arms (armKey s f n) := by
    rw [hpath.arms, jesdSent, setFh_fh, jesdRead_fh]
  have hjesd := hpath.lastJesd
  unfold jesdEnded
  extract_lets t
  have ht : t.fh.arms = (jesdTaken s f n blocks armed).fh.arms
      ∧ t.fh.lastJesd = (jesdTaken s f n blocks armed).fh.lastJesd := by
    cases armed
    · exact ⟨rfl, rfl⟩
    · exact ⟨setLastN_arms (jesdTaken s f n blocks true) f n, setLastN_lastJesd (jesdTaken s f n blocks true) f n⟩
  obtain ⟨htarms, htjesd⟩ := ht
  split
  · rw [flowCount_fh]
    exact ⟨htarms.trans harms, htjesd.trans hjesd⟩
  · rw [egressMiss_fh, flowCount_fh]
    exact ⟨htarms.trans harms, htjesd.trans hjesd⟩

/-- Beyond the words of the buffer a span carries zeros. -/
theorem jesdEnded_padding (s : State) (f n blocks : Nat) (armed : Bool) (hi : (jesdWords s f n).length ≤ i) :
    (jesdEnded s f n blocks armed).fh.lastJesd.getD i 0 = 0 := by
  have hlen := jesdRead_length s f n blocks armed
  rw [(jesdEnded_span s f n blocks armed).2]
  by_cases hb : i < blocks
  · rw [List.getD_eq_getElem _ _ (by simpa using hb), List.getElem_map, List.getElem_range]
    exact List.getD_eq_default _ _ (by rw [List.length_map]; omega)
  · exact List.getD_eq_default _ _ (by simpa using hb)

/-- An armed span takes its symbol as the flow's highest, and counts it as sent where the buffer fills the blocks. -/
theorem jesdEnded_armed {blocks : Nat} (hn : n < 2 ^ 64) (h : lastValid s f = true → lastN s f < n) :
    lastN (jesdEnded s f n blocks true) f = n
      ∧ (blocks ≤ (jesdWords s f n).length →
        flowCnt (jesdEnded s f n blocks true) f 0 = min (flowCnt s f 0 + 1) (2 ^ 32 - 1))
      ∧ ((jesdWords s f n).length < blocks →
        flowCnt (jesdEnded s f n blocks true) f 1 = min (flowCnt s f 1 + 1) (2 ^ 32 - 1)) := by
  have hflow := jesdTaken_flow s f n blocks true
  obtain ⟨-, hlast⟩ := setLastN_above (s := jesdTaken s f n blocks true) (f := f) hn
    (by rw [lastValid_of_flow hflow, lastN_of_flow hflow]; exact h)
  have hsent := setLastN_cnt (jesdTaken s f n blocks true) f n
  unfold jesdEnded
  rw [if_pos rfl]
  dsimp only
  generalize setLastN (jesdTaken s f n blocks true) f n = t at hlast hsent ⊢
  refine ⟨?_, fun hfull => ?_, fun hshort => ?_⟩
  · split
    · exact hlast
    · exact (lastN_of_flow (by rw [egressMiss_fh, flowCount_fh]) f).trans hlast
  · rw [if_pos (by simpa using hfull), flowCnt_flowCount_same, hsent, jesdTaken_flowCnt _ _ _ _ _ (by decide)]
  · rw [if_neg (by simpa using hshort), egressMiss_flowCnt, hsent, jesdTaken_flowCnt _ _ _ _ _ (by decide)]

/-- A span of a buffer that is not armed carries zeros and counts a miss. -/
theorem jesdEnded_unarmed (s : State) (f n blocks : Nat) : (jesdEnded s f n blocks false).fh.lastJesd
    = List.replicate blocks 0 ∧ flowCnt (jesdEnded s f n blocks false) f 1 = min (flowCnt s f 1 + 1) (2 ^ 32 - 1) := by
  refine ⟨?_, ?_⟩
  · rw [(jesdEnded_span s f n blocks false).2]
    exact List.map_const'.trans (by rw [List.length_range])
  · have hmiss : jesdEnded s f n blocks false = egressMiss (jesdTaken s f n blocks false) f 1 false := rfl
    rw [hmiss, egressMiss_flowCnt, jesdTaken_flowCnt s f n blocks false (by decide)]

/-! ### What a sent and a missed symbol leave -/

/-- A sent symbol: `u` is the state at the check. -/
theorem egressSent_leaves {u : State} (hfh : u.fh = s.fh) (hget : ∀ r, u.get r = s.get r) (hn : n < 2 ^ 64)
    (h : lastValid s f = true → lastN s f < n) {t : State}
    (ht : t = setLastN (flowCount ((symSecs s f n).foldl (sendSection f n) (armTaken u f n)) f 0 1) f n) :
    lastValid t f = true ∧ lastN t f = n ∧ flowCnt t f 0 = min (flowCnt s f 0 + 1) (2 ^ 32 - 1)
      ∧ t.fh.lastTx.map (fun x => x.head) = (symSecs s f n).map (txHead s f n)
      ∧ t.fh.lastTx.map (fun x => x.seq) = (List.range (symSecs s f n).length).map
        (fun i => if i = 0 then txNext s f else (txNext s f + i) % 256) := by
  have hstart : SameTables s (armTaken u f n) := (SameTables.of_fh hfh).trans (armTaken_tables u f n)
  have hnext : txNext (armTaken u f n) f = txNext s f := by
    rw [txNext, armTaken_txSeq, hfh, txNext]
  have hheads : txHead (armTaken u f n) f n = txHead s f n := funext (txHead_of_tables hstart (fun r _ => hget r) f n)
  have hcnt : flowCnt (armTaken u f n) f 0 = flowCnt s f 0 :=
    flowCnt_of_cnt (by rw [armTaken_cnt, hfh]) f 0
  have hsent := sent_foldl f n (armTaken u f n) (symSecs s f n)
  generalize (symSecs s f n).foldl (sendSection f n) (armTaken u f n) = v at ht hsent
  have hflow : (flowCount v f 0 1).fh.flow = s.fh.flow := hsent.tables.flow.trans hstart.flow
  obtain ⟨hvalid, hlast⟩ := setLastN_above (s := flowCount v f 0 1) (f := f) hn
    (by rw [lastValid_of_flow hflow, lastN_of_flow hflow]; exact h)
  have htx : t.fh.lastTx = v.fh.lastTx := by
    rw [ht, setLastN_lastTx, flowCount_fh]
  refine ⟨ht ▸ hvalid, ht ▸ hlast, ?_, ?_, ?_⟩
  · rw [ht, setLastN_cnt, flowCnt_flowCount_same, hsent.cnt 0 (by decide), hcnt]
  · rw [htx, hsent.heads, hheads, armTaken_lastTx, List.map_nil, List.nil_append]
  · rw [htx, hsent.seqs, hnext, armTaken_lastTx, List.map_nil, List.nil_append]

theorem egressMissed_leaves {u : State} (hfh : u.fh = s.fh) {t : State}
    (ht : t = egressMiss (setFh u { u.fh with checked := nins (armKey u f n) u.fh.checked }) f 1 false) :
    flowCnt t f 1 = min (flowCnt s f 1 + 1) (2 ^ 32 - 1) ∧ t.fh.lastTx = s.fh.lastTx ∧ t.fh.flow = s.fh.flow
      ∧ armKey s f n ∈ t.fh.checked := by
  have hkey : armKey u f n = armKey s f n := armKey_of_flow (by rw [hfh]) f n
  have hcnt : flowCnt (setFh u { u.fh with checked := nins (armKey u f n) u.fh.checked }) f 1 = flowCnt s f 1 :=
    flowCnt_of_cnt (by rw [← hfh]; rfl) f 1
  subst ht
  rw [egressMiss_flowCnt, egressMiss_fh, flowCount_fh, hcnt, setFh_fh, hkey, hfh]
  exact ⟨rfl, rfl, rfl, mem_nins.mpr (.inl rfl)⟩

end

/-- Settles O33: a due symbol is sent or missed as its buffer is armed; what either leaves stands above. -/
theorem fronthaulEgress : Obligations.FronthaulEgress := by
  unfold Obligations.FronthaulEgress
  intro s f n is hf hn his
  have hsecs : is = symSecs s f n := his
  have hkey : 256 * f + n % flowRing s f = armKey s f n := rfl
  rw [hkey, hsecs]
  refine ⟨fun hdue hj harm => ?_, fun hdue hj harm => ?_, fun h => exec_egressCheck_idle hf h, fun hv he => ?_,
    fun blocks hb hdue hj harm => ?_, fun blocks words hb hdue hj harm hwords => ?_,
    fun blocks hb h => exec_jesdEgressSpan_idle hf hb h⟩
  · obtain ⟨u, hfh, hget, hexec⟩ := exec_egressCheck_sent hf hdue hj harm
    obtain ⟨hvalid, hlast, hcnt, hheads, hseqs⟩ := egressSent_leaves hfh hget hn (egressDue_above hdue) rfl
    have hflow := congrArg Fronthaul.flow (settle_fh (setLastN (flowCount ((symSecs s f n).foldl (sendSection f n)
      (armTaken u f n)) f 0 1) f n))
    have hv := (lastValid_of_flow hflow f).trans hvalid
    have hl := (lastN_of_flow hflow f).trans hlast
    refine ⟨_, hexec, hv, hl, ?_, egressDue_sent hv hl, ?_, ?_⟩
    · exact (flowCnt_of_cnt (by rw [settle_fh]) f 0).trans hcnt
    · rw [settle_fh]
      exact hheads
    · rw [settle_fh]
      exact hseqs
  · obtain ⟨u, hfh, hexec⟩ := exec_egressCheck_missed hf hdue hj harm
    obtain ⟨hcnt, htx, hflow, hchecked⟩ := egressMissed_leaves (f := f) (n := n) hfh rfl
    refine ⟨_, hexec, (flowCnt_of_cnt (by rw [settle_fh]) f 1).trans hcnt, ?_, lastN_of_flow ?_ f,
      lastValid_of_flow ?_ f, ?_⟩
    · rw [settle_fh]
      exact htx
    · rw [settle_fh]
      exact hflow
    · rw [settle_fh]
      exact hflow
    · rw [settle_fh]
      exact hchecked
  · obtain ⟨u, hfh, hu, hexec⟩ := exec_egressArmExpiry (n := n) hf hv he
    rw [← armKey_of_flow (congrArg Fronthaul.flow hfh)]
    refine ⟨_, hexec, by rw [← hu]; rfl, ?_, ?_⟩
    · rw [settle_fh]
      exact not_mem_ndel _ _
    · rw [settle_fh]
      exact not_mem_ndel _ _
  · obtain ⟨u, hfh, hexec⟩ := exec_jesdEgressSpan hf hb hdue hj
    rw [← armKey_of_flow (congrArg Fronthaul.flow hfh), ← hfh] at harm
    have hunarmed : u.fh.arms.contains (armKey u f n) = false := by simpa using harm
    rw [hunarmed] at hexec
    obtain ⟨hzeros, hmiss⟩ := jesdEnded_unarmed u f n blocks
    refine ⟨_, hexec, (congrArg Fronthaul.lastJesd (settle_fh _)).trans hzeros, ?_⟩
    have hcnt : flowCnt u f 1 = flowCnt s f 1 := flowCnt_of_cnt (by rw [hfh]) f 1
    exact (flowCnt_of_cnt (by rw [settle_fh]) f 1).trans (hcnt ▸ hmiss)
  · obtain ⟨u, hfh, hexec⟩ := exec_jesdEgressSpan hf hb hdue hj
    have hwords' : words = (jesdWords u f n).length := by
      have htables := SameTables.of_fh hfh
      rw [jesdWords_length, symSecs_of_tables htables, htables.secW, htables.secEntry, hwords]
    have hk := armKey_of_flow (congrArg Fronthaul.flow hfh) f n
    rw [← hk, ← hfh] at harm
    rw [List.contains_iff_mem.mpr harm] at hexec
    obtain ⟨hlast, hfull, hshort⟩ := jesdEnded_armed (s := u) (f := f) (blocks := blocks) hn
      (by rw [lastValid_of_flow (congrArg Fronthaul.flow hfh), lastN_of_flow (congrArg Fronthaul.flow hfh)]
          exact egressDue_above hdue)
    obtain ⟨harms, hjesd⟩ := jesdEnded_span u f n blocks true
    have hcnt : ∀ i, flowCnt u f i = flowCnt s f i := flowCnt_of_cnt (by rw [hfh]) f
    have hcnts : ∀ v i, flowCnt (settle v) f i = flowCnt v f i := fun v => flowCnt_of_cnt (by rw [settle_fh]) f
    rw [hcnt] at hfull hshort
    refine ⟨_, hexec, ?_, (lastN_of_flow (congrArg Fronthaul.flow (settle_fh _)) f).trans hlast, ?_, fun i hi => ?_,
      fun h => (hcnts _ 0).trans (hfull (hwords' ▸ h)), fun h => (hcnts _ 1).trans (hshort (hwords' ▸ h))⟩
    · rw [settle_fh, hjesd, List.length_map, List.length_range]
    · rw [settle_fh, harms, hk]
      exact not_mem_ndel _ _
    · rw [settle_fh]
      exact jesdEnded_padding u f n blocks true (hwords' ▸ hi)

end Sys2Proof.Machine
end
